-- ==== Sys2Proof/Word.lean ====
section
/-! DEFINITION. The word types of the MZ7192 host address space (R7): 32-bit registers, bytes, and the 64-bit
messages and digests. Only the types: everything that computes stands under Machine/. -/
namespace Sys2Proof

/-- A register or memory word of the host address space, 32 bits (R7). -/
abbrev Word := BitVec 32
/-- A byte of memory, a byte of a link, a byte of a message. -/
abbrev Byte := BitVec 8
/-- A 64-bit quantity: the configuration digest (R63), a fault message (R415), a stamp (R176). -/
abbrev DWord := BitVec 64

end Sys2Proof
end

