-- ==== Sys2Proof/Agents.lean ====
section
/-! DEFINITION. Who makes an access in the host address space, and the closed sets of names that commands carry as
operands. -/
namespace Sys2Proof

/-- A master that makes accesses in the host address space (R477). The last two never send commands: the loader's writes
and the coherent broadcasts of the cascade are made inside other commands (R49, R487). -/
inductive Master where
  /-- The host SPI, master 0. -/
  | spi
  /-- The two-wire mailbox, master 1. -/
  | twoWire
  /-- Debug (JTAG), master 2. -/
  | debug
  /-- DMA channel c, master 3. -/
  | dma (c : Fin 32)
  /-- The remote crown, master 4. -/
  | cascade
  /-- Engine e, with the group HP_GRP gives it, masters 8 to 15. -/
  | engine (e : Fin 96)
  /-- The image loader: no hall pass, no image lock (R49). -/
  | loader
  /-- A coherent change broadcast applied on a brim: no hall pass (R487). -/
  | coherent
  deriving DecidableEq, Repr

/-- The host interface a request frame arrives on (R464, R471). -/
inductive HostItf where
  /-- The quad SPI target. -/
  | spi
  /-- The two-wire mailbox. -/
  | twoWire
  deriving DecidableEq, Repr

/-- What an Attach of a stage end says about the partner on CC (R86, R243): the code of its two bits is the stage end's (log
entry 20). -/
inductive PartnerCc where
  /-- A sink: Rd. -/
  | rd
  /-- A sink behind a cable that asks for VCONN: Rd and Ra. -/
  | rdRa
  /-- A source that presents default Rp. -/
  | rpDefault
  /-- A source that presents Rp 1.5 A. -/
  | rp1A5
  /-- A source that presents Rp 3.0 A. -/
  | rp3A0
  /-- An accessory: Ra and Ra, or Rd and Rd seen as a source. -/
  | accessory
  deriving DecidableEq, Repr

/-- A power-path guard of a PD port (R263). -/
inductive PdGuard where
  /-- Over-voltage. -/
  | ov
  /-- Over-current as source. -/
  | oc
  /-- Reverse current as source. -/
  | revSource
  /-- Reverse current as sink. -/
  | revSink
  deriving DecidableEq, Repr

/-- What a gauge has measured as a rest qualifies, in volts, binary32 (R286). -/
structure RestRead where
  /-- The mean of v_b over the last second. -/
  v : Word
  /-- The change of v_b over the last 60 s. -/
  dv : Word
  deriving DecidableEq, Repr

/-- What resets the two-wire block (R476). -/
inductive TwResetBy where
  /-- TW_RST_N has been low for 1 µs; held, it stays low until the next reset by the pin that is not held. -/
  | pin (held : Bool)
  /-- A master writes HOST_TW_CTRL.RESET = 1. -/
  | ctrl (m : Master)
  deriving DecidableEq, Repr

/-- Why the power path of a service port opens (R270). -/
inductive PathGuard where
  /-- VBUS below 3.8 V. -/
  | uv
  /-- VBUS above 6.0 V. -/
  | ov
  /-- In the current limit of 300 mA for 1 ms. -/
  | oc
  deriving DecidableEq, Repr

end Sys2Proof
end

