-- ==== Sys2Proof/Syntax.lean ====
section
/-! DEFINITION. The commands of the block: one constructor for each row of spec/opcode_table.json, with the operands the
row's rule gives it. A command is one whole step of the part: a register access by a master, an operation of a bus or a
link, an event at a pin, a sample, or a moment that a unit's own clock reaches. -/
namespace Sys2Proof

/-- A command: one constructor for each row of spec/opcode_table.json. -/
inductive Instr where
  -- Achal instructions, issued by engine e at its PC (10_achal_isa.md)
  /-- `ADD`: rd ← ra + rb (R316). -/
  | add (e : Fin 96) (rd ra rb : BitVec 5)
  /-- `SUB`: rd ← ra − rb (R316). -/
  | sub (e : Fin 96) (rd ra rb : BitVec 5)
  /-- `AND`: rd ← ra AND rb (R316). -/
  | and (e : Fin 96) (rd ra rb : BitVec 5)
  /-- `OR`: rd ← ra OR rb (R316). -/
  | or (e : Fin 96) (rd ra rb : BitVec 5)
  /-- `XOR`: rd ← ra XOR rb (R316). -/
  | xor (e : Fin 96) (rd ra rb : BitVec 5)
  /-- `ANDN`: rd ← ra AND NOT rb (R316). -/
  | andn (e : Fin 96) (rd ra rb : BitVec 5)
  /-- `SLL`: rd ← ra shifted left by rb[4:0] (R316). -/
  | sll (e : Fin 96) (rd ra rb : BitVec 5)
  /-- `SRL`: rd ← ra shifted right logically by rb[4:0] (R316). -/
  | srl (e : Fin 96) (rd ra rb : BitVec 5)
  /-- `SRA`: rd ← ra shifted right arithmetically by rb[4:0] (R316). -/
  | sra (e : Fin 96) (rd ra rb : BitVec 5)
  /-- `ROR`: rd ← ra rotated right by rb[4:0] (R316). -/
  | ror (e : Fin 96) (rd ra rb : BitVec 5)
  /-- `SLT`: rd ← ra less than rb, signed (R316). -/
  | slt (e : Fin 96) (rd ra rb : BitVec 5)
  /-- `SLTU`: rd ← ra less than rb, unsigned (R316). -/
  | sltu (e : Fin 96) (rd ra rb : BitVec 5)
  /-- `MIN`: rd ← signed minimum (R316). -/
  | min (e : Fin 96) (rd ra rb : BitVec 5)
  /-- `MAX`: rd ← signed maximum (R316). -/
  | max (e : Fin 96) (rd ra rb : BitVec 5)
  /-- `MINU`: rd ← unsigned minimum (R316). -/
  | minu (e : Fin 96) (rd ra rb : BitVec 5)
  /-- `MAXU`: rd ← unsigned maximum (R316). -/
  | maxu (e : Fin 96) (rd ra rb : BitVec 5)
  /-- `CLZ`: rd ← leading zero bits of ra (R316). -/
  | clz (e : Fin 96) (rd ra : BitVec 5)
  /-- `ADDI`: rd ← ra + sx(imm16) (R317). -/
  | addi (e : Fin 96) (rd ra : BitVec 5) (imm : BitVec 16)
  /-- `ANDI`: rd ← ra AND zx(imm16) (R317). -/
  | andi (e : Fin 96) (rd ra : BitVec 5) (imm : BitVec 16)
  /-- `ORI`: rd ← ra OR zx(imm16) (R317). -/
  | ori (e : Fin 96) (rd ra : BitVec 5) (imm : BitVec 16)
  /-- `XORI`: rd ← ra XOR zx(imm16) (R317). -/
  | xori (e : Fin 96) (rd ra : BitVec 5) (imm : BitVec 16)
  /-- `LUI`: rd ← imm16 << 16 (R317). -/
  | lui (e : Fin 96) (rd : BitVec 5) (imm : BitVec 16)
  /-- `SLLI`: rd ← ra shifted left by sh (R317). -/
  | slli (e : Fin 96) (rd ra sh : BitVec 5)
  /-- `SRLI`: rd ← ra shifted right logically by sh (R317). -/
  | srli (e : Fin 96) (rd ra sh : BitVec 5)
  /-- `SRAI`: rd ← ra shifted right arithmetically by sh (R317). -/
  | srai (e : Fin 96) (rd ra sh : BitVec 5)
  /-- `RORI`: rd ← ra rotated right by sh (R317). -/
  | rori (e : Fin 96) (rd ra sh : BitVec 5)
  /-- `BFXU`: rd ← the field of ra at pos, w = wm1 + 1 bits, zero-extended (R317). -/
  | bfxu (e : Fin 96) (rd ra pos wm1 : BitVec 5)
  /-- `BFXS`: rd ← that field sign-extended (R317). -/
  | bfxs (e : Fin 96) (rd ra pos wm1 : BitVec 5)
  /-- `BFI`: the field of rd ← the low bits of ra (R317). -/
  | bfi (e : Fin 96) (rd ra pos wm1 : BitVec 5)
  /-- `PERM`: rd ← the bytes of ra that sel names (R317). -/
  | perm (e : Fin 96) (rd ra : BitVec 5) (sel : BitVec 8)
  /-- `SLTI`: rd ← ra less than sx(imm16), signed (R317). -/
  | slti (e : Fin 96) (rd ra : BitVec 5) (imm : BitVec 16)
  /-- `SLTIU`: rd ← ra less than sx(imm16), unsigned (R317). -/
  | sltiu (e : Fin 96) (rd ra : BitVec 5) (imm : BitVec 16)
  /-- `LDW`: rd ← mem32[a], a = ra + sx(imm16) (R318). -/
  | ldw (e : Fin 96) (rd ra : BitVec 5) (imm : BitVec 16)
  /-- `LDH`: rd ← sx of mem16[a], a = ra + sx(imm16) (R318). -/
  | ldh (e : Fin 96) (rd ra : BitVec 5) (imm : BitVec 16)
  /-- `LDHU`: rd ← zx of mem16[a], a = ra + sx(imm16) (R318). -/
  | ldhu (e : Fin 96) (rd ra : BitVec 5) (imm : BitVec 16)
  /-- `LDB`: rd ← sx of mem8[a], a = ra + sx(imm16) (R318). -/
  | ldb (e : Fin 96) (rd ra : BitVec 5) (imm : BitVec 16)
  /-- `LDBU`: rd ← zx of mem8[a], a = ra + sx(imm16) (R318). -/
  | ldbu (e : Fin 96) (rd ra : BitVec 5) (imm : BitVec 16)
  /-- `STW`: mem32[a] ← rs, a = ra + sx(imm16) (R318). -/
  | stw (e : Fin 96) (rs ra : BitVec 5) (imm : BitVec 16)
  /-- `STH`: mem16[a] ← the low half of rs, a = ra + sx(imm16) (R318). -/
  | sth (e : Fin 96) (rs ra : BitVec 5) (imm : BitVec 16)
  /-- `STB`: mem8[a] ← the low byte of rs, a = ra + sx(imm16) (R318). -/
  | stb (e : Fin 96) (rs ra : BitVec 5) (imm : BitVec 16)
  /-- `XCHG`: rs and mem32[a] are exchanged, a = ra + sx(imm16) (R318). -/
  | xchg (e : Fin 96) (rs ra : BitVec 5) (imm : BitVec 16)
  /-- `LDC`: rd ← imem[(ra + sx(imm16)) mod 4096] (R319). -/
  | ldc (e : Fin 96) (rd ra : BitVec 5) (imm : BitVec 16)
  /-- `STC`: imem[(ra + sx(imm16)) mod 4096] ← rs (R319). -/
  | stc (e : Fin 96) (rs ra : BitVec 5) (imm : BitVec 16)
  /-- `IN`: rd ← io[(ra + imm16) mod 65,536] (R319). -/
  | ioIn (e : Fin 96) (rd ra : BitVec 5) (imm : BitVec 16)
  /-- `OUT`: io[(ra + imm16) mod 65,536] ← rs (R319). -/
  | ioOut (e : Fin 96) (rs ra : BitVec 5) (imm : BitVec 16)
  /-- `BTST`: rd ← bit[b], b = (ra + zx(imm12)) mod 4096 (R319). -/
  | btst (e : Fin 96) (ra rd : BitVec 5) (imm : BitVec 12)
  /-- `BWR`: bit[b] ← rd[0], b = (ra + zx(imm12)) mod 4096 (R319). -/
  | bwr (e : Fin 96) (ra rd : BitVec 5) (imm : BitVec 12)
  /-- `BSET`: bit[b] ← 1, b = (ra + zx(imm12)) mod 4096 (R319). -/
  | bset (e : Fin 96) (ra : BitVec 5) (imm : BitVec 12)
  /-- `BCLR`: bit[b] ← 0, b = (ra + zx(imm12)) mod 4096 (R319). -/
  | bclr (e : Fin 96) (ra : BitVec 5) (imm : BitVec 12)
  /-- `BTGL`: bit[b] ← NOT bit[b], b = (ra + zx(imm12)) mod 4096 (R319). -/
  | btgl (e : Fin 96) (ra : BitVec 5) (imm : BitVec 12)
  /-- `BR`: Branches by off13 where ra and rb meet cond (R320). -/
  | br (e : Fin 96) (ra rb : BitVec 5) (cond : BitVec 3) (off : BitVec 13)
  /-- `BRI`: As BR against sx(imm5) (R320). -/
  | bri (e : Fin 96) (ra : BitVec 5) (cond : BitVec 3) (imm : BitVec 5) (off : BitVec 13)
  /-- `FBR`: Branches where the binary32 values meet cond (R320). -/
  | fbr (e : Fin 96) (ra rb : BitVec 5) (cond : BitVec 3) (off : BitVec 13)
  /-- `BB`: Branches where bit[badr] = sense (R320). -/
  | bb (e : Fin 96) (badr : BitVec 12) (sense : Bool) (off : BitVec 13)
  /-- `BRB`: Branches where ra[k] = sense (R320). -/
  | brb (e : Fin 96) (ra k : BitVec 5) (sense : Bool) (off : BitVec 13)
  /-- `J`: PC ← tgt (R321). -/
  | j (e : Fin 96) (tgt : BitVec 12)
  /-- `JR`: PC ← ra[11:0] (R321). -/
  | jr (e : Fin 96) (ra : BitVec 5)
  /-- `CALL`: Pushes a frame and jumps to tgt (R324). -/
  | call (e : Fin 96) (mask : BitVec 14) (tgt : BitVec 12)
  /-- `CALLR`: Pushes a frame and jumps to ra[11:0] (R324). -/
  | callr (e : Fin 96) (mask : BitVec 14) (ra : BitVec 5)
  /-- `RET`: Pops a frame and returns (R325). -/
  | ret (e : Fin 96) (mask : BitVec 14)
  /-- `NOP`: Nothing (R322). -/
  | nop (e : Fin 96)
  /-- `HALT`: Halts the engine on purpose (R322). -/
  | halt (e : Fin 96)
  /-- `WAIT`: Suspends the running task until its trigger (R343). -/
  | wait (e : Fin 96)
  /-- `FENCE`: Waits until earlier stores are visible and earlier products complete (R322). -/
  | fence (e : Fin 96)
  /-- `TRAP`: Raises TRAP with imm16 (R322). -/
  | trap (e : Fin 96) (imm : BitVec 16)
  /-- `RETI`: Returns from a task or from the fault context (R343, R347). -/
  | reti (e : Fin 96)
  /-- `MFS`: g ← special register sr (R306). -/
  | mfs (e : Fin 96) (g : BitVec 5) (sr : BitVec 5)
  /-- `MTS`: Special register sr ← g (R306, R329). -/
  | mts (e : Fin 96) (g : BitVec 5) (sr : BitVec 5)
  /-- `MUL`: Starts PH:PL ← ra × rb, signed (R327). -/
  | mul (e : Fin 96) (ra rb : BitVec 5)
  /-- `MULU`: Starts PH:PL ← ra × rb, unsigned (R327). -/
  | mulu (e : Fin 96) (ra rb : BitVec 5)
  /-- `MAC`: Starts PH:PL ← PH:PL + ra × rb, signed (R327). -/
  | mac (e : Fin 96) (ra rb : BitVec 5)
  /-- `MACU`: Starts PH:PL ← PH:PL + ra × rb, unsigned (R327). -/
  | macu (e : Fin 96) (ra rb : BitVec 5)
  /-- `FMUL`: Starts PL ← ra × rb, binary32 (R327). -/
  | fmul (e : Fin 96) (ra rb : BitVec 5)
  /-- `FMAC`: Starts PL ← ra × rb + PL, binary32, one rounding (R327). -/
  | fmac (e : Fin 96) (ra rb : BitVec 5)
  /-- `PRODUCT_COMPLETE`: The oldest product in flight of engine e becomes visible (R327, R328). -/
  | productComplete (e : Fin 96)
  /-- `FADD`: rd ← ra + rb, binary32 (R333). -/
  | fadd (e : Fin 96) (rd ra rb : BitVec 5)
  /-- `FSUB`: rd ← ra − rb, binary32 (R333). -/
  | fsub (e : Fin 96) (rd ra rb : BitVec 5)
  /-- `FMIN`: rd ← minimumNumber, binary32 (R333). -/
  | fmin (e : Fin 96) (rd ra rb : BitVec 5)
  /-- `FMAX`: rd ← maximumNumber, binary32 (R333). -/
  | fmax (e : Fin 96) (rd ra rb : BitVec 5)
  /-- `FABS`: rd ← ra with bit 31 cleared (R333, R334). -/
  | fabs (e : Fin 96) (rd ra : BitVec 5)
  /-- `FNEG`: rd ← ra with bit 31 inverted (R333, R334). -/
  | fneg (e : Fin 96) (rd ra : BitVec 5)
  /-- `FRCP`: rd ← 1 / ra, binary32 (R333, R334). -/
  | frcp (e : Fin 96) (rd ra : BitVec 5)
  /-- `I2F`: rd ← ra, signed, as binary32 (R333, R334). -/
  | i2f (e : Fin 96) (rd ra : BitVec 5)
  /-- `U2F`: rd ← ra, unsigned, as binary32 (R333, R334). -/
  | u2f (e : Fin 96) (rd ra : BitVec 5)
  /-- `F2I`: rd ← ra to a signed integer, nearest even (R333, R334). -/
  | f2i (e : Fin 96) (rd ra : BitVec 5)
  /-- `F2I_Z`: rd ← ra to a signed integer, toward zero (R333, R334). -/
  | f2iZ (e : Fin 96) (rd ra : BitVec 5)
  /-- `F2U`: rd ← ra to an unsigned integer, nearest even (R333, R334). -/
  | f2u (e : Fin 96) (rd ra : BitVec 5)
  /-- `F2U_Z`: rd ← ra to an unsigned integer, toward zero (R333, R334). -/
  | f2uZ (e : Fin 96) (rd ra : BitVec 5)
  /-- `ILLEGAL`: The word w, a reserved encoding, is issued (R313). -/
  | illegal (e : Fin 96) (w : Word)
  -- Registers and image loading (00_scope.md, 02_fabric_image.md)
  /-- `REGISTER_WRITE`: A master writes v to the register or memory word at host address a (R8). -/
  | registerWrite (m : Master) (a : Word) (v : Word)
  /-- `LOAD`: A master writes SYS_IMG_CTRL with LOAD = 1 and SRC = src (R56). -/
  | load (m : Master) (src : Fin 8)
  /-- `IMAGE_LOCK`: A master writes SYS_IMG_CTRL.LOCK = 1 (R60). -/
  | imageLock (m : Master)
  /-- `BOOT_IMAGE_SELECT`: The boot scan has ended; the loader chooses its first flash slot (R53). -/
  | bootImageSelect
  /-- `IMAGE_PASS1_END`: The running pass 1 completes (R54). -/
  | imagePass1End
  /-- `IMAGE_PASS2_END`: The running pass 2 completes (R54). -/
  | imagePass2End
  /-- `DIGEST_RECOMPUTE_END`: The digest recomputation of a live reload completes (R65). -/
  | digestRecomputeEnd
  /-- `REFELT_GO`: A master writes SYS_REFELT_CTRL with GO = 1, DEVICE = dev, FELT = felt (R61). -/
  | refeltGo (m : Master) (dev : Fin 16) (felt : Fin 128)
  /-- `DIGEST_BUSY_TIMEOUT`: A roll call has waited 2 ms for a settled digest (R66). -/
  | digestBusyTimeout
  -- Timers and the event matrix (12_timers_events.md)
  /-- `TIMER_COUNT_TICK`: A tick of timer n's prescaler source (R375). -/
  | timerCountTick (n : Fin 64)
  /-- `TIMER_OVERFLOW`: Timer n makes the count tick that passes RELOAD (R373). -/
  | timerOverflow (n : Fin 64)
  /-- `COMPARE_FIRE`: Timer n judges its armed compare in a core cycle (R380). -/
  | compareFire (n : Fin 64)
  /-- `TMR_EN`: A write of TMR_CTRL with ABORT = 0 (R377, R378). -/
  | tmrEn (m : Master) (n : Fin 64) (en : Bool) (waitStart : Bool)
  /-- `TMR_ABORT`: A write of TMR_CTRL.ABORT = 1 (R378). -/
  | tmrAbort (m : Master) (n : Fin 64)
  /-- `TMR_RELOAD_WRITE`: A write of TMR_RELOAD (R376). -/
  | tmrReloadWrite (m : Master) (n : Fin 64) (v : Word)
  /-- `TMR_COUNT_WRITE`: A write of TMR_COUNT (R376). -/
  | tmrCountWrite (m : Master) (n : Fin 64) (v : Word)
  /-- `TMR_CMP_WRITE`: A write of TMR_CMP (R380, R381). -/
  | tmrCmpWrite (m : Master) (n : Fin 64) (v : Word)
  /-- `EVT_TSTART`: A write to EVT_TSTART_LO or, with high, EVT_TSTART_HI (R377). -/
  | evtTstart (m : Master) (high : Bool) (mask : Word)
  /-- `EVT_TSTOP`: A write to EVT_TSTOP_LO or, with high, EVT_TSTOP_HI (R377). -/
  | evtTstop (m : Master) (high : Bool) (mask : Word)
  /-- `TIO_EDGE`: An edge at pin TIO(pin) (R383, R385). -/
  | tioEdge (pin : Fin 8) (rising : Bool)
  -- Fault collection and reaction (14_fault_handling.md)
  /-- `FAULT_REPORT`: The oldest unit report on its way reaches the collector (R418). -/
  | faultReport
  /-- `REACTION_START`: The collector decides the oldest report that has arrived (R425, R426). -/
  | reactionStart
  /-- `REACTION_END`: The running reaction finishes (R425). -/
  | reactionEnd
  /-- `RESET_SCOPE_TIMEOUT`: 20 ms have passed since a reset-scope decision (R423). -/
  | resetScopeTimeout
  /-- `RECESS_END`: FC_RECESS.MS quiet milliseconds have passed (R429). -/
  | recessEnd
  /-- `RECOVERY_WINDOW_CLOSE`: FC_RECOV.WINDOW seconds have passed since the window opened (R431). -/
  | recoveryWindowClose
  /-- `FC_CLEAR`: A write of FC_CTRL.CLEAR = 1 (R431). -/
  | fcClear (m : Master)
  /-- `QUEUE_POP`: A write of FC_Q_POP = 1 (R422). -/
  | queuePop (m : Master)
  /-- `QUEUE_HEAD_READ`: A read of FC_Q_MSG_LO (R422). -/
  | queueHeadRead (m : Master)
  /-- `FAULT_INJECT`: A write of kind to FC_INJ_HI (R437). -/
  | faultInject (m : Master) (kind : BitVec 8)
  /-- `FAULT_PACKET`: The spread fault at the head of the received cascade packets is taken (R427). -/
  | faultPacket
  -- Stage lanes (03_stage_link.md)
  /-- `UPLINK_FRAME`: An uplink frame time ends: the 280 bits as received, b0 most significant (none: no signal), and M in ticks from L_k (R77, R97). -/
  | uplinkFrame (l : Fin 12) (frame : Option (BitVec 280)) (mm : BitVec 16)
  /-- `DOWNLINK_FRAME_BUILD`: The lane builds and sends its next downlink frame (R80). -/
  | downlinkFrameBuild (l : Fin 12)
  /-- `SL_LOSS`: The lane reports the SL_LOSS that is due (R104). -/
  | slLoss (l : Fin 12)
  /-- `LATENCY_TRACK_STEP`: A millisecond of latency tracking (R98). -/
  | latencyTrackStep (l : Fin 12)
  /-- `TIME_PACKET_SEND`: A TIME packet is due (R95). -/
  | timePacketSend (l : Fin 12)
  /-- `SIDE_RETX_TIMEOUT`: 128 frames have passed since the last word of the oldest unacknowledged packet (R91). -/
  | sideRetxTimeout (l : Fin 12)
  /-- `RESYNC`: The RESYNC packet at the head of the received packets is taken (R92). -/
  | resync (l : Fin 12)
  /-- `RETRAIN_REQ`: The RETRAIN_REQ packet at the head is taken (R89). -/
  | retrainReq (l : Fin 12)
  /-- `STATUS_PAGE`: The STATUS packet at the head is taken (R88). -/
  | statusPage (l : Fin 12)
  /-- `REG_RSP`: The REG_RSP packet at the head is taken (R84). -/
  | regRsp (l : Fin 12)
  /-- `RESERVED_PACKET`: The reserved-class packet at the head is taken (R84). -/
  | reservedPacket (l : Fin 12)
  /-- `SIDE_IDLE`: The last uplink IDLE packet is taken (R84). -/
  | sideIdle (l : Fin 12)
  /-- `PD_MSG`: The PD_MSG segment at the head is taken (R85). -/
  | pdMsg (l : Fin 12)
  /-- `HUB_ACCESS_GO`: A write of SL_HUB_CMD with GO = 1, WRITE and COUNT (R84). -/
  | hubAccessGo (m : Master) (l : Fin 12) (write : Bool) (count : Fin 8)
  /-- `TRAIN_IDLE_END`: The 10 µs of IDLE have passed on stage lane l, or from 12 on on cascade lane l − 12 (R99, R480). -/
  | trainIdleEnd (l : Fin 16)
  /-- `TRAIN_TIMEOUT`: The timer of the running training state expires on stage lane l, or from 12 on on cascade lane l − 12 (R99, R480). -/
  | trainTimeout (l : Fin 16)
  /-- `BACKOFF_END`: The 100 ms of BACKOFF have passed on stage lane l, or from 12 on on cascade lane l − 12 (R99, R480). -/
  | backoffEnd (l : Fin 16)
  /-- `SL_EN`: A write of SL_CTRL that sets EN to en and keeps the other fields (R106). -/
  | slEn (m : Master) (l : Fin 12) (en : Bool)
  /-- `SL_RETRAIN`: A write of SL_CTRL with RETRAIN = 1 that keeps the other fields (R106). -/
  | slRetrain (m : Master) (l : Fin 12)
  /-- `SL_ABORT`: A write of SL_CTRL with ABORT = 1 that keeps the other fields (R106). -/
  | slAbort (m : Master) (l : Fin 12)
  /-- `LATCH_STATE`: The LATCH_STATE packet at the head is taken (R89, R518). -/
  | latchState (l : Fin 12)
  /-- `TRIP`: The TRIP packet at the head is taken (R134). -/
  | trip (l : Fin 12)
  -- Phases (04_phase_control.md)
  /-- `CURRENT_LOOP_UPDATE`: The current samples of a current frame have arrived from every lane of felt f (R113, R114). -/
  | currentLoopUpdate (f : Fin 96)
  /-- `SURGE_END`: The SURGE_ON windows of felt f's surge have passed (R130). -/
  | surgeEnd (f : Fin 96)
  /-- `SURGE_HOLDOFF_END`: The HOLDOFF cycles have passed (R130). -/
  | surgeHoldoffEnd (f : Fin 96)
  /-- `SYNC_IN_EDGE`: A rising edge at SYNC_IN, t ticks after the previous one (R120). -/
  | syncInEdge (t : BitVec 40)
  /-- `SYNC_IN_TIMEOUT`: 1.5 times the expected interval has passed without an edge (R121). -/
  | syncInTimeout
  /-- `PERIOD_GLIDE_END`: The 64 cycles of felt f's glide have passed (R123). -/
  | periodGlideEnd (f : Fin 96)
  /-- `PHS_LF_REARM`: A write of 1 to PHS_LF_INFO.VALID (R136). -/
  | phsLfRearm (m : Master) (p : Fin 192)
  -- Felts (05_felt_regulation.md)
  /-- `FELT_LOOP_UPDATE`: The DEC voltage frames of an update of felt f have passed (R139, R140). -/
  | feltLoopUpdate (f : Fin 96)
  /-- `SETPOINT_SET_WRITE`: A write of v to word 0 of the host or engine set (R144). -/
  | setpointSetWrite (m : Master) (f : Fin 96) (engine : Bool) (v : Word)
  /-- `FELT_SRC_WRITE`: A write of v to FELT_SRC (R145, R154). -/
  | feltSrcWrite (m : Master) (f : Fin 96) (v : Word)
  /-- `BLK_STROBE`: A strobe of BLK_STB: BLK[3:0] at its 10th and 20th sample; early: within 100 ns of the last accepted one (R153). -/
  | blkStrobe (at10 : BitVec 4) (at20 : BitVec 4) (early : Bool)
  /-- `IN_REG_SET`: The conditions of IN_REG have held for FELT_PG.TIME (R152). -/
  | inRegSet (f : Fin 96)
  /-- `OUT_REG`: The main quantity has been out of band for FELT_PG.TIME (R152). -/
  | outReg (f : Fin 96)
  /-- `BATT_DONE`: A battery end condition has held for its time, or the gauge has raised a final level (R151). -/
  | battDone (f : Fin 96)
  /-- `TRACK_LOST`: The follower f judges its leader lost (R157). -/
  | trackLost (f : Fin 96)
  /-- `FELT_START`: A write of FELT_CTRL with EN = 1, TEST and AT_BELL (R158). -/
  | feltStart (m : Master) (f : Fin 96) (test : Bool) (atBell : Bool)
  /-- `START_WAIT_CLEAR`: Nothing blocks the waiting start of felt f any longer (R159). -/
  | startWaitClear (f : Fin 96)
  /-- `START_RAMP_END`: The start ramp of felt f reaches its target (R159). -/
  | startRampEnd (f : Fin 96)
  /-- `FELT_STOP`: A write of FELT_CTRL with EN = 0 that keeps the other fields (R161). -/
  | feltStop (m : Master) (f : Fin 96)
  /-- `STOP_PROFILE_END`: The stop profile of felt f reaches its end (R161). -/
  | stopProfileEnd (f : Fin 96)
  /-- `STOP_TMO`: FELT_STOP.TMO has passed in the stop profile (R161). -/
  | stopTmo (f : Fin 96)
  /-- `FELT_ABORT`: A write of FELT_CTRL with ABORT = 1 (R162). -/
  | feltAbort (m : Master) (f : Fin 96)
  /-- `FELT_TEST_WRITE`: A write of FELT_CTRL that sets TEST and keeps the other fields (R163). -/
  | feltTestWrite (m : Master) (f : Fin 96) (test : Bool)
  /-- `BREAKER_TICK`: A microsecond of felt f's breaker ends (R164). -/
  | breakerTick (f : Fin 96)
  /-- `BREAKER_RETRY`: The retry wait T_RETRY has passed (R166). -/
  | breakerRetry (f : Fin 96)
  /-- `BREAKER_COUNT_CLEAR`: IN_REG has held for FELT_BRK2.CLR seconds (R166). -/
  | breakerCountClear (f : Fin 96)
  /-- `BRK_CLEAR`: A write of 1 to FELT_CTRL.BRK_CLEAR that keeps the other fields (R166). -/
  | brkClear (m : Master) (f : Fin 96)
  /-- `OV_CLEAR`: A write of 1 to FELT_CTRL.OV_CLEAR that keeps the other fields (R167). -/
  | ovClear (m : Master) (f : Fin 96)
  /-- `OV_CLEAR_TIMEOUT`: 1 ms has passed without every lane's confirmation (R167). -/
  | ovClearTimeout (f : Fin 96)
  /-- `LEAD_RESISTANCE_LEARNED`: The first qualifying millisecond ends: the means of v_force − v_sense and of i_avg over it (R169). -/
  | leadResistanceLearned (f : Fin 96) (dv : Word) (iMean : Word)
  /-- `SENSE_OPEN`: The sense drop has been too small for 10 ms (R170, R171). -/
  | senseOpen (f : Fin 96)
  -- Cabinet time, bell and waveform lists (06_time_and_waveforms.md)
  /-- `TIME_NS_READ`: A read of TIME_NS (R178). -/
  | timeNsRead (m : Master)
  /-- `TIME_APPLY_NOW`: A write of TIME_APPLY with GO = 1 and MODE 0 (R179). -/
  | timeApplyNow (m : Master)
  /-- `TIME_APPLY_AT_BELL`: A write of TIME_APPLY with GO = 1 and MODE 1 (R179). -/
  | timeApplyAtBell (m : Master)
  /-- `RESIDUE_SLEW_END`: The residue slew ends (R180). -/
  | residueSlewEnd
  /-- `TIME_PLL_LOCK`: The time PLL first locks to the reference of PLL A: REF_IN, else the crystal (R184). -/
  | timePllLock (refIn : Bool)
  /-- `REF_QUALIFY`: Reference r (0 cascade, 1 REF_IN, 2 crystal) has met the conditions for 100 ms (R185). -/
  | refQualify (r : Fin 3)
  /-- `TIME_REF`: Qualified reference r is lost (R185). -/
  | timeRef (r : Fin 3)
  /-- `TIME_GLIDE_END`: The reference glide ends at a frequency of ppb parts per 10^9 against the crystal (R186). -/
  | timeGlideEnd (ppb : BitVec 32)
  /-- `TIME_HOLDOVER`: HOLD_S reaches TIME_HOLD.LIMIT (R187). -/
  | timeHoldover
  /-- `PROBE_SEND`: 1 ms has passed: the crown sends its time probes (R189). -/
  | probeSend
  /-- `BELL_ARM`: A write of TIME_BELL_CTRL.ARM = 1 (R193). -/
  | bellArm (m : Master)
  /-- `BELL_CANCEL`: A write of TIME_BELL_CTRL.CANCEL = 1 (R193). -/
  | bellCancel (m : Master)
  /-- `BELL_RING`: Cabinet time is at or after the bell time (R194). -/
  | bellRing
  /-- `LIST_START`: A write of v, START set, to FELT_WF_CTRL (R199). -/
  | listStart (m : Master) (f : Fin 96) (v : Word)
  /-- `LIST_ORIGIN`: The origin of felt f's armed list arrives (R199). -/
  | listOrigin (f : Fin 96)
  /-- `LIST_POINT_END`: The timeline reaches the end of the point in use (R198). -/
  | listPointEnd (f : Fin 96)
  /-- `LIST_POINT_ARRIVE`: Point n of the list arrives from shared memory (R202). -/
  | listPointArrive (f : Fin 96) (n : Fin 4096)
  /-- `LIST_STOP`: A write of FELT_WF_CTRL.STOP = 1 that keeps the other fields (R204). -/
  | listStop (m : Master) (f : Fin 96)
  /-- `LIST_ABORT`: A write of FELT_WF_CTRL.ABORT = 1 that keeps the other fields (R204). -/
  | listAbort (m : Master) (f : Fin 96)
  /-- `PROBE_ANSWER`: The probe answer at the head of the received cascade packets is taken by the crown, which has measured a round trip of mc ticks (R189). -/
  | probeAnswer (mc : BitVec 32)
  /-- `PROBE_ERROR`: The probe error at the head is taken by the brim (R189). -/
  | probeError
  /-- `BELL_PACKET_ARM`: The bell at the head is taken by the brim (R193). -/
  | bellPacketArm
  /-- `BELL_PACKET_CANCEL`: The bell cancel at the head is taken by the brim (R193). -/
  | bellPacketCancel
  /-- `BELL_ACK`: The bell acknowledgement at the head is taken by the crown (R193). -/
  | bellAck
  -- House channels, the bus and admission (07_bus_energy.md)
  /-- `HOUSE_PERIOD`: A period of channel h ends with v volts at its voltage ball and cur millivolts at its current ball, binary32 (R208, R209). -/
  | housePeriod (h : Fin 8) (v cur : Word)
  /-- `HSE_OC_TRIP`: The OC comparator of channel h trips (R210). -/
  | hseOcTrip (h : Fin 8)
  /-- `HSE_OV_TRIP`: The OV comparator of channel h trips (R210). -/
  | hseOvTrip (h : Fin 8)
  /-- `HSE_EN`: A write of HSE_CTRL that sets EN to en and keeps the other fields (R212). -/
  | hseEn (m : Master) (h : Fin 8) (en : Bool)
  /-- `HSE_ABORT`: A write of HSE_CTRL with ABORT = 1 that keeps the other fields (R212). -/
  | hseAbort (m : Master) (h : Fin 8)
  /-- `HSE_SAMPLED`: A write of HSE_CTRL that sets SAMPLED to on and keeps the other fields (R213). -/
  | hseSampled (m : Master) (h : Fin 8) (on : Bool)
  /-- `SAMPLED_TICK`: 120 kHz sampled operation looks at channel h with v volts at its voltage ball (R213). -/
  | sampledTick (h : Fin 8) (v : Word)
  /-- `BUS_SENSE`: The two bus readings are compared: volts at the voltage balls of BUSIN and DUMP (R215). -/
  | busSense (vIn vDump : Word)
  /-- `BUS_OV`: The bus is judged against BUS_V_OV (R217). -/
  | busOv (vIn vDump : Word)
  /-- `BUS_OV_CLEAR`: A write of BUS_CTRL with OV_CLEAR = 1 that keeps the other fields (R217). -/
  | busOvClear (m : Master)
  /-- `BUS_UV`: The bus is judged against BUS_V_UV (R218). -/
  | busUv (vIn vDump : Word)
  /-- `BUS_EN`: A write of BUS_CTRL that sets EN to en and keeps the other fields (R219). -/
  | busEn (m : Master) (en : Bool)
  /-- `BUS_START_DONE`: v_bus has stayed in band for 1 ms (R219). -/
  | busStartDone
  /-- `BUS_POWERDOWN_END`: Every bus channel is off in mode 4 (R219). -/
  | busPowerdownEnd
  /-- `BALANCER_CYCLE`: A balancer cycle with the bus readings at the balls of BUSIN and DUMP, in volts (R220). -/
  | balancerCycle (vIn vDump : Word)
  /-- `HOTSWAP_SAMPLE`: A hot-swap sample: volts at HS_VIN and HS_SRC, millivolts at the shunt (R232). -/
  | hotswapSample (vin src shunt : Word)
  /-- `BUS_HOLDUP`: The end of hold-up is judged (R227). -/
  | busHoldup
  /-- `ADMISSION_REQUEST`: The oldest request that a unit has made enters the queue (R229). -/
  | admissionRequest
  /-- `ADMISSION_STEP`: A 10 µs step of the budget: refill and admission (R229). -/
  | admissionStep
  /-- `ADMIT_TIMEOUT`: The requests whose maximum wait has run out are removed (R230). -/
  | admitTimeout
  /-- `HS_EN`: A write of BUS_HS_CTRL that sets EN to en and keeps the other fields (R233). -/
  | hsEn (m : Master) (en : Bool)
  /-- `HS_INSERTION_DELAY_END`: The insertion delay has passed (R233). -/
  | hsInsertionDelayEnd
  /-- `HS_POWER_GOOD`: Power-good has held for 1 ms (R233). -/
  | hsPowerGood
  /-- `HS_FAULT_TIMER`: The current limit has acted for FLT_MS in a row (R234). -/
  | hsFaultTimer
  /-- `HS_FAST_LIMIT`: The fast comparator trips (R234). -/
  | hsFastLimit
  /-- `HS_PG_TIMEOUT`: No power-good within PG_TMO of RAMP (R234). -/
  | hsPgTimeout
  /-- `HS_COOL_END`: The cool-down has passed (R234). -/
  | hsCoolEnd
  /-- `HS_CLEAR`: A write of BUS_HS_CTRL with CLEAR = 1 that keeps the other fields (R234). -/
  | hsClear (m : Master)
  /-- `HS_RETRY_CLEAR`: 60 s of ON have passed (R234). -/
  | hsRetryClear
  /-- `ADMIT_REQUEST_PACKET`: The admission request at the head of the received cascade packets is taken by the crown (R231). -/
  | admitRequestPacket
  /-- `ADMIT_RETURN_PACKET`: The returned charge at the head is taken by the crown (R231). -/
  | admitReturnPacket
  -- Slate, record array and report cards (15_nonvolatile.md)
  /-- `STORE`: A write of NV_CTRL.STORE = 1 (R443). -/
  | store (m : Master)
  /-- `STORE_COMPLETE`: The running store reaches its read-back, which agrees with the CRC or not (R444, R446). -/
  | storeComplete (readback : Bool)
  /-- `CARD`: A write of NV_CTRL.CARD = 1 (R458). -/
  | card (m : Master)
  /-- `CARD_WRITE_COMPLETE`: The oldest waiting card has been written (R458, R460). -/
  | cardWriteComplete
  /-- `CARD_CLEAR`: A write of NV_CTRL.CARD_CLEAR = 1 (R452). -/
  | cardClear (m : Master)
  /-- `NV_ERASE`: A write of NV_ERASE with GO = 1 and SECT = sect (R452). -/
  | nvErase (m : Master) (sect : Fin 32)
  /-- `ERASE_COMPLETE`: The running sector erase completes (R452). -/
  | eraseComplete
  /-- `REC_WRITE`: A write of NV_REC_CTRL with GO = 1 and TAG = tag (R451). -/
  | recWrite (m : Master) (tag : BitVec 16)
  /-- `REC_WRITE_COMPLETE`: The running record write ends; bad is the record word that reads back wrong, if any (R451). -/
  | recWriteComplete (bad : Option (Fin 4096))
  /-- `NV_RAW_WRITE`: A master writes 4 (bytes = 2), 2 (1) or 1 (0) bytes of v at a byte offset of the record array (R450). -/
  | nvRawWrite (m : Master) (off : Fin 131072) (bytes : Fin 3) (v : Word)
  /-- `NV_CNT_INC`: A write to NV_CNT_INC (R457). -/
  | nvCntInc (m : Master) (mask : BitVec 12)
  /-- `NV_CNT_CLR`: A write to NV_CNT_CLR (R457); bits 12 to 15 name the counters it refuses. -/
  | nvCntClr (m : Master) (mask : BitVec 16)
  /-- `BOOT_SCAN`: The boot scan runs (R456). -/
  | bootScan
  /-- `BOOT_SCAN_END`: The boot scan has ended (R456). -/
  | bootScanEnd
  -- Cable ports (08_cable_ports.md)
  /-- `ATTACH`: The Attach packet at the head is taken; cc is what the stage end says of the partner (R243). -/
  | attach (l : Fin 12) (cc : PartnerCc)
  /-- `DETACH`: The Detach packet at the head is taken (R246). -/
  | detach (l : Fin 12)
  /-- `HARD_RESET_RECEIVED`: The Hard Reset packet at the head is taken (R265). -/
  | hardResetReceived (l : Fin 12)
  /-- `CABLE_RESET_RECEIVED`: The Cable Reset packet at the head is taken (R257). -/
  | cableResetReceived (l : Fin 12)
  /-- `TRANSMIT_RESULT`: The transmit result packet at the head is taken (R86). -/
  | transmitResult (l : Fin 12)
  /-- `VBUS_STATE`: The VBUS packet at the head is taken (R245). -/
  | vbusState (l : Fin 12)
  /-- `VCONN_FAULT`: The VCONN fault packet at the head is taken (R261). -/
  | vconnFault (l : Fin 12)
  /-- `ERROR_RECOVERY_END`: tErrorRecovery has passed at port n (R247). -/
  | errorRecoveryEnd (n : Fin 48)
  /-- `PD_MESSAGE`: The oldest whole message of port n is taken (R249). -/
  | pdMessage (n : Fin 48)
  /-- `PD_REQUEST`: The Request or EPR_Request at the head of port n's messages is taken (R253). -/
  | pdRequest (n : Fin 48)
  /-- `DR_SWAP`: The DR_Swap at the head is taken (R260). -/
  | drSwap (n : Fin 48)
  /-- `VCONN_SWAP`: The VCONN_Swap at the head is taken (R261). -/
  | vconnSwap (n : Fin 48)
  /-- `SOFT_RESET`: The Soft_Reset at the head is taken (R266). -/
  | softReset (n : Fin 48)
  /-- `GET_REVISION`: The Get_Revision at the head is taken (R248). -/
  | getRevision (n : Fin 48)
  /-- `EPR_KEEPALIVE`: The EPR_KeepAlive at the head is taken (R256). -/
  | eprKeepalive (n : Fin 48)
  /-- `PD_TX_GO`: A write of PD_TX_CTRL with GO = 1, SOP and LEN (R253). -/
  | pdTxGo (m : Master) (n : Fin 48) (sop : BitVec 2) (len : BitVec 9)
  /-- `PD_ADM_REQ`: A write of PD_ADM_REQ with GO = 1 and P_NEW = watts (R253). -/
  | pdAdmReq (m : Master) (n : Fin 48) (watts : BitVec 12)
  /-- `PD_RX_RELEASE`: A write of 1 to PD_RX_STAT.FULL (R249). -/
  | pdRxRelease (m : Master) (n : Fin 48)
  /-- `PD_EN`: A write of PD_CTRL that sets EN to en and keeps the other fields (R267). -/
  | pdEn (m : Master) (n : Fin 48) (en : Bool)
  /-- `PD_ABORT`: A write of PD_CTRL with ABORT = 1 that keeps the other fields (R267). -/
  | pdAbort (m : Master) (n : Fin 48)
  /-- `PD_HARD_RESET`: A write of PD_CTRL with HARD_RESET = 1 that keeps the other fields (R265). -/
  | pdHardReset (m : Master) (n : Fin 48)
  /-- `POLICY_TMO`: POLICY_TMO has passed without the policy's answer (R253). -/
  | policyTmo (n : Fin 48)
  /-- `SRC_TRANSITION_END`: tSrcTransition after Accept has passed (R253). -/
  | srcTransitionEnd (n : Fin 48)
  /-- `PD_TRANSITION`: The source transition limit has passed without PS_RDY (R254). -/
  | pdTransition (n : Fin 48)
  /-- `PS_TRANSITION_TIMEOUT`: tPSTransition has passed without PS_RDY at a sink (R255). -/
  | psTransitionTimeout (n : Fin 48)
  /-- `SINK_REQUEST_RESEND`: tSinkRequest has passed since a Wait (R255). -/
  | sinkRequestResend (n : Fin 48)
  /-- `PPS_REQUEST_RESEND`: 8 s have passed since a sink's last PPS Request (R256). -/
  | ppsRequestResend (n : Fin 48)
  /-- `PPS_TIMEOUT`: tPPSTimeout has passed without a Request at a source (R256). -/
  | ppsTimeout (n : Fin 48)
  /-- `EPR_KEEPALIVE_SEND`: tSinkEPRKeepAlive has passed (R256). -/
  | eprKeepaliveSend (n : Fin 48)
  /-- `EPR_KEEPALIVE_TIMEOUT`: tSourceEPRKeepAlive has passed without EPR_KeepAlive (R256). -/
  | eprKeepaliveTimeout (n : Fin 48)
  /-- `CABLE_DISCOVERY_START`: tVCONNStable has passed since VCONN came on (R257). -/
  | cableDiscoveryStart (n : Fin 48)
  /-- `DISCOVER_IDENTITY_RETRY`: tDiscoverIdentity has passed without ACK (R257). -/
  | discoverIdentityRetry (n : Fin 48)
  /-- `SENDER_RESPONSE_TIMEOUT`: tSenderResponse has passed (R266). -/
  | senderResponseTimeout (n : Fin 48)
  /-- `PS_HARD_RESET_END`: tPSHardReset has passed (R265). -/
  | psHardResetEnd (n : Fin 48)
  /-- `SRC_RECOVER_END`: tSrcRecover has passed (R265). -/
  | srcRecoverEnd (n : Fin 48)
  /-- `SINK_VBUS_RETURN_TIMEOUT`: VBUS has not returned to a sink in time after Hard Reset (R265). -/
  | sinkVbusReturnTimeout (n : Fin 48)
  /-- `SWAP_TIMEOUT`: The timer of a PR_Swap step expires (R259). -/
  | swapTimeout (n : Fin 48)
  /-- `SWAP_SOURCE_START`: tSwapSourceStart has passed (R259). -/
  | swapSourceStart (n : Fin 48)
  /-- `PD_GUARD`: A power-path guard of port n trips (R263, R264). -/
  | pdGuard (n : Fin 48) (g : PdGuard)
  /-- `SVC_ATTACH`: A source attaches to service port p (R269). -/
  | svcAttach (p : Fin 2)
  /-- `SVC_DETACH`: Service port p detaches (R275). -/
  | svcDetach (p : Fin 2)
  /-- `SVC_PATH_CLOSE`: The VBUS of service port p has held at or above 4.2 V for 10 ms (R270). -/
  | svcPathClose (p : Fin 2)
  /-- `SVC_PATH_OPEN`: A guard opens the path of service port p (R270). -/
  | svcPathOpen (p : Fin 2) (cause : PathGuard)
  /-- `SVC_PATH_RETRY`: 100 ms have passed since the path of port p opened on current (R270). -/
  | svcPathRetry (p : Fin 2)
  /-- `GET_ID`: The pending maintenance request GET_ID is executed (R274). -/
  | getId
  /-- `GET_STATUS`: The pending maintenance request GET_STATUS is executed (R274). -/
  | getStatus
  /-- `READ_SLATE`: The pending maintenance request READ_SLATE is executed (R274). -/
  | readSlate
  /-- `READ_CARD`: The pending maintenance request READ_CARD is executed (R274). -/
  | readCard
  /-- `UPD_BEGIN`: The pending maintenance request UPD_BEGIN is executed (R275). -/
  | updBegin
  /-- `UPD_ERASE_END`: The erase of the update slot completes (R275). -/
  | updEraseEnd
  /-- `UPD_DATA`: The pending maintenance request UPD_DATA is executed (R275). -/
  | updData
  /-- `UPD_END`: The pending maintenance request UPD_END is executed (R275). -/
  | updEnd
  /-- `UPD_ABORT`: The pending maintenance request UPD_ABORT is executed (R275). -/
  | updAbort
  /-- `SVC_PD_MESSAGE`: A USB PD message, from its header on, arrives on SOP at service port p (R269, R273). -/
  | svcPdMessage (p : Fin 2) (bytes : List Byte)
  /-- `TYPEC_SEND_SOURCE_CAP`: tTypeCSendSourceCap has passed at a source (R250). -/
  | typecSendSourceCap (n : Fin 48)
  /-- `CHUNK_SENDER_TIMEOUT`: The timer of a chunked transfer expires (R250). -/
  | chunkSenderTimeout (n : Fin 48)
  /-- `ENTER_EPR_TIMEOUT`: tEnterEPR has passed (R250). -/
  | enterEprTimeout (n : Fin 48)
  -- Battery gauges (09_gauge.md)
  /-- `GAUGE_STEP`: A microsecond of gauge g ends (R277 to R282). -/
  | gaugeStep (g : Fin 100)
  /-- `GAUGE_LOW_ENTRY`: |i_b| has stayed within GAU_LOW_I for 1 s (R281). -/
  | gaugeLowEntry (g : Fin 100)
  /-- `GAU_BLIND`: Gauge g has had no valid sample for 1 ms (R279). -/
  | gauBlind (g : Fin 100)
  /-- `REST`: A rest of gauge g qualifies with the mean and the change of v_b that r holds (R286). -/
  | rest (g : Fin 100) (r : RestRead)
  /-- `GAUGE_INIT`: Gauge g takes its initial point, v its mean v_b in volts (R288). -/
  | gaugeInit (g : Fin 100) (v : Word)
  /-- `LEVEL_JUDGE`: Gauge g judges its levels (R293). -/
  | levelJudge (g : Fin 100)
  /-- `GAU_EN`: A write of GAU_CTRL that sets EN to en and keeps the other fields (R296). -/
  | gauEn (m : Master) (g : Fin 100) (en : Bool)
  /-- `SWAP`: A write of GAU_CTRL with SWAP = 1 that keeps the other fields (R297). -/
  | swap (m : Master) (g : Fin 100)
  /-- `RELOAD`: A write of GAU_CTRL with RELOAD = 1 that keeps the other fields (R284). -/
  | reload (m : Master) (g : Fin 100)
  /-- `LEARN_RESET`: A write of GAU_CTRL with LEARN_RESET = 1 that keeps the other fields (R296). -/
  | learnReset (m : Master) (g : Fin 100)
  /-- `TAP_OPEN_CLEAR`: A write of mask to GAU_TAP_STAT (R301). -/
  | tapOpenClear (m : Master) (g : Fin 100) (mask : BitVec 17)
  -- Engines at run time, DMA and capture (11_engine_runtime.md)
  /-- `TASK_SWITCH`: At an instruction boundary engine e dispatches its highest-priority ready context (R342, R344). -/
  | taskSwitch (e : Fin 96)
  /-- `FAULT_CONTEXT_START`: After a task fault the fault context starts, or the engine halts by fault (R345). -/
  | faultContextStart (e : Fin 96)
  /-- `ENG_START`: A write of ENG_CTRL.START = 1 (R341). -/
  | engStart (m : Master) (e : Fin 96)
  /-- `ENG_HALT`: A write of ENG_CTRL.HALT = 1 (R349). -/
  | engHalt (m : Master) (e : Fin 96)
  /-- `ENG_RESUME`: A write of ENG_CTRL.RESUME = 1 (R349). -/
  | engResume (m : Master) (e : Fin 96)
  /-- `ENG_ABORT`: A write of ENG_CTRL.ABORT = 1 (R349). -/
  | engAbort (m : Master) (e : Fin 96)
  /-- `MAILBOX_PUSH`: A write of v to ENG_MBXk_IN (R353). -/
  | mailboxPush (m : Master) (e : Fin 96) (k : Fin 4) (v : Word)
  /-- `MAILBOX_POP`: A read of ENG_MBXk_OUT (R353). -/
  | mailboxPop (m : Master) (e : Fin 96) (k : Fin 4)
  /-- `SOFTWARE_TRIGGER`: A write of mask to ENG_SWTRIG (R352). -/
  | softwareTrigger (m : Master) (e : Fin 96) (mask : BitVec 8)
  /-- `MPU_LOCK`: A write of ENG_MPU_CTRL with LOCK = 1 that keeps EN (R357). -/
  | mpuLock (m : Master) (e : Fin 96)
  /-- `DMA_EN`: A write of DMA_CTRL that sets EN to en and keeps PRI (R361, R363). -/
  | dmaEn (m : Master) (c : Fin 32) (en : Bool)
  /-- `DMA_ABORT`: A write of DMA_CTRL with ABORT = 1 that keeps the other fields (R363). -/
  | dmaAbort (m : Master) (c : Fin 32)
  /-- `DMA_TRIGGER`: A trigger that has reached channel c is taken (R361, R388). -/
  | dmaTrigger (c : Fin 32)
  /-- `DMA_DESCRIPTOR_FETCH`: Channel c fetches and checks its next descriptor (R359). -/
  | dmaDescriptorFetch (c : Fin 32)
  /-- `DMA_ELEMENT`: The unit moves one element of the channel whose turn it is (R360). -/
  | dmaElement
  /-- `CAP_EN`: A write of CAP_CTRL that sets EN to en and keeps the other fields (R365, R369). -/
  | capEn (m : Master) (u : Fin 8) (en : Bool)
  /-- `CAP_RECORD_CLOSE`: The oldest closed record of unit u is written whole or dropped (R367). -/
  | capRecordClose (u : Fin 8)
  /-- `CAP_RD_WRITE`: A write of v to CAP_RD (R368). -/
  | capRdWrite (m : Master) (u : Fin 8) (v : Word)
  /-- `CAP_ABORT`: A write of CAP_CTRL with ABORT = 1 that keeps the other fields (R369). -/
  | capAbort (m : Master) (u : Fin 8)
  -- The supervisor (13_supervision.md)
  /-- `MON_CONVERSION`: A scan slot ends with v volts, binary32, at the converter; for INT0 v is the temperature in °C (R394, R397). -/
  | monConversion (v : Word)
  /-- `MON_RESULT_READ`: A read of SUP_MONk, or from 32 on of SUP_INT(k − 32) (R397). -/
  | monResultRead (m : Master) (k : Fin 40)
  /-- `TIMETABLE_UP`: A write of SUP_TT_CTRL.UP = 1 (R402). -/
  | timetableUp (m : Master)
  /-- `TIMETABLE_DOWN`: A write of SUP_TT_CTRL.DOWN = 1 (R403). -/
  | timetableDown (m : Master)
  /-- `TT_ENTRY_ACTION`: UP_DLY or DN_DLY of entry r has passed since its step start (R402, R403). -/
  | ttEntryAction (r : Fin 32)
  /-- `TT_PG_TIMEOUT`: PG_TMO of entry r has passed since its action (R402). -/
  | ttPgTimeout (r : Fin 32)
  /-- `RAIL_OFF_TMO`: OFF_TMO of entry r has passed since its action (R403). -/
  | railOffTmo (r : Fin 32)
  /-- `UNNAMED_TIMEOUT`: UNNAMED_TMO has passed since the power-down began (R403). -/
  | unnamedTimeout
  /-- `RAIL_RETRY_DELAY_END`: RETRY_DLY of entry r has passed (R404). -/
  | railRetryDelayEnd (r : Fin 32)
  /-- `RAIL_RETRY_CLEAR`: The rail of entry r has been good for 60 s (R404). -/
  | railRetryClear (r : Fin 32)
  /-- `SEQ_IN_QUALIFIED`: SEQ_IN has read high for 1 ms and SEQ_FLT_N reads high (R402). -/
  | seqInQualified
  /-- `SEQ_FLT_DETECT`: SEQ_FLT_N has read low for 100 µs (R406). -/
  | seqFltDetect
  /-- `CHAIN_DOWN_DELAY_END`: CHAIN_DN_DLY has passed (R406). -/
  | chainDownDelayEnd
  /-- `INTERLOCK_SAMPLE`: The inputs of the interlocks are sampled; bit n of a and b is the level at ILKn_A and ILKn_B (R407). -/
  | interlockSample (a b : BitVec 4)
  /-- `INTERLOCK_ACK`: A write of mask to SUP_ILK_CTRL.ACK (R407). -/
  | interlockAck (m : Master) (mask : BitVec 4)
  /-- `PB_PRESS_BEGIN`: PB_N has been low for 983 samples (R409). -/
  | pbPressBegin
  /-- `PB_ON`: A press has been held for ON_MS (R409). -/
  | pbOn
  /-- `PB_SHORT`: A press has been released before the long-press time (R409). -/
  | pbShort
  /-- `PB_FORCE_OFF`: A press has been held for LONG_S (R410). -/
  | pbForceOff
  /-- `FORCE_OFF_END`: The card after a force-off has been written, or 20 ms have passed (R410). -/
  | forceOffEnd
  /-- `MANUAL_RESET`: MR_N has been low for 33 samples (R411). -/
  | manualReset
  /-- `VAON_RISE`: VAON first rises (R412). -/
  | vaonRise
  /-- `PB_PRESS_END`: PB_N has been high for 983 samples; the press lasted ms milliseconds (R409). -/
  | pbPressEnd (ms : BitVec 32)
  -- Host interfaces and the cascade (16_host_cascade.md)
  /-- `READ`: A READ frame (R466); check is the CRC-16, on the two-wire interface the PEC, as received (R465, R471). -/
  | read (h : HostItf) (addr : Word) (len : BitVec 16) (check : BitVec 16)
  /-- `READ_FIX`: A READ_FIX frame (R466); check is the CRC-16, on the two-wire interface the PEC, as received (R465, R471). -/
  | readFix (h : HostItf) (addr : Word) (len : BitVec 16) (check : BitVec 16)
  /-- `WRITE`: A WRITE frame whose LEN is the number of its data words (R466); check is the CRC-16, on the two-wire interface the PEC, as received (R465, R471). -/
  | write (h : HostItf) (addr : Word) (data : List Word) (check : BitVec 16)
  /-- `WRITE_FIX`: A WRITE_FIX frame whose LEN is the number of its data words (R466); check is the CRC-16, on the two-wire interface the PEC, as received (R465, R471). -/
  | writeFix (h : HostItf) (addr : Word) (data : List Word) (check : BitVec 16)
  /-- `ID`: An ID frame (R466); check is the CRC-16, on the two-wire interface the PEC, as received (R465, R471). -/
  | id (h : HostItf) (addr : Word) (len : BitVec 16) (check : BitVec 16)
  /-- `SPI_ABORT`: SPI_CS_N rises early: in the request (none), or in the data of a READ, or with true a READ_FIX, from an address after that many whole words (R469). -/
  | spiAbort (done : Option (Bool × Word × BitVec 16))
  /-- `TW_READ`: A two-wire read of the head response, with its PEC clocked out or cut short before it (R473). -/
  | twRead (whole : Bool)
  /-- `TW_NOTICE`: The device sends the pending notice; the host acknowledges it, or the ninth try fails (R475). -/
  | twNotice (ack : Bool)
  /-- `TW_SCL_TIMEOUT`: SCL has been low for 25 ms (R476). -/
  | twSclTimeout
  /-- `TW_STUCK`: SCL, or with sda SDA, is still low after the recovery (R476). -/
  | twStuck (sda : Bool)
  /-- `TW_SDA_RECOVERY`: SDA has been low for 35 ms: nine clocks and a STOP, after which SDA is high or not (R476). -/
  | twSdaRecovery (high : Bool)
  /-- `TW_RESET`: The two-wire block is reset, by the pin TW_RST_N or by a write of HOST_TW_CTRL.RESET = 1 (R476). -/
  | twReset (r : TwResetBy)
  /-- `CAS_LOSS`: LOSS_LIMIT consecutive bad frames have arrived on cascade lane l (R480). -/
  | casLoss (l : Fin 4)
  /-- `CROWN`: A write of CAS_CTRL.CROWN = 1 (R483). -/
  | crown (m : Master)
  /-- `ENUMERATE`: A write of CAS_CTRL.ENUM = 1 (R483). -/
  | enumerate (m : Master)
  /-- `ENUM`: The ENUM packet at the head of the received cascade packets is taken (R483). -/
  | enum
  /-- `ROLL_NOW`: A write of CAS_CTRL.ROLL_NOW = 1 (R488). -/
  | rollNow (m : Master)
  /-- `PROBE`: The probe at the head is taken by the brim, whose turnaround is turn ticks (R189, R485). -/
  | probe (turn : BitVec 32)
  /-- `ADMIT_GRANT_PACKET`: The grant at the head is taken by the brim (R486). -/
  | admitGrantPacket
  /-- `ADMIT_WITHDRAW_PACKET`: The withdraw at the head is taken by the crown (R486). -/
  | admitWithdrawPacket
  /-- `COHERENT`: The coherent change at the head is taken by the brim (R487). -/
  | coherent
  /-- `COHERENT_ACK`: The coherent acknowledgement at the head is taken by the crown (R487). -/
  | coherentAck
  /-- `ROLL_CALL`: ROLL_MS has passed: the crown judges the missing answers and calls (R488). -/
  | rollCall
  /-- `ROLL_CALL_RECEIVE`: The roll call at the head is taken by the brim (R488). -/
  | rollCallReceive
  /-- `ROLL_ANSWER`: The roll-call answer at the head is taken by the crown (R488). -/
  | rollAnswer
  /-- `ROLL_RESULT`: The roll-call result at the head is taken by the brim (R488, R489). -/
  | rollResult
  /-- `ROLLCALL_MISS`: A brim has received no roll call for 3 × ROLL_MS (R488). -/
  | rollcallMiss
  /-- `REMOTE_ACCESS`: A write of CAS_RMT_POS with GO = 1 (R490). -/
  | remoteAccess (m : Master) (write : Bool) (pos : Fin 16)
  /-- `REG_READ_PACKET`: The REG read at the head is taken by the brim (R490). -/
  | regReadPacket
  /-- `REG_WRITE_PACKET`: The REG write at the head is taken by the brim (R490). -/
  | regWritePacket
  /-- `REG_RESPONSE_PACKET`: The REG response at the head is taken by the crown (R490). -/
  | regResponsePacket
  /-- `REMOTE_ACCESS_TIMEOUT`: No answer has come within 1 ms (R490). -/
  | remoteAccessTimeout
  /-- `SEQ_POWER_UP_PACKET`: The power-up command at the head is taken by the brim (R482). -/
  | seqPowerUpPacket
  /-- `SEQ_POWER_DOWN_PACKET`: The power-down command at the head is taken by the brim (R486). -/
  | seqPowerDownPacket
  /-- `IMAGE_READ_PACKET`: The IMAGE read at the head is taken by the crown (R491). -/
  | imageReadPacket
  /-- `IMAGE_DATA_PACKET`: The IMAGE data at the head is taken by the brim (R491). -/
  | imageDataPacket
  /-- `IMAGE_LOAD_PACKET`: The IMAGE load command at the head is taken by the brim (R491). -/
  | imageLoadPacket
  /-- `CASCADE_LINK_PACKET`: The LINK packet at the head is taken (R482). -/
  | cascadeLinkPacket
  /-- `CASCADE_FRAME`: A frame time ends on cascade lane l: the 280 bits as received, b0 most significant (none: no signal) (R480). -/
  | cascadeFrame (l : Fin 4) (frame : Option (BitVec 280))
  /-- `HOST_UNKNOWN_COMMAND`: A frame with a CMD that R466 does not name (R466); check is the CRC-16, on the two-wire interface the PEC, as received (R465, R471). -/
  | hostUnknownCommand (h : HostItf) (cmd : BitVec 8) (len : BitVec 16) (check : BitVec 16)
  -- Supplies, resets and sleep (17_electrical_package.md)
  /-- `CORE_PLL`: PLL A loses lock (R30). -/
  | corePll
  /-- `MAIN_SUPPLY_RISE`: The last main supply enters its range (R506). -/
  | mainSupplyRise
  /-- `PLLA_LOCK`: PLL A locks, to the crystal or to REF_IN (R503). -/
  | pllaLock (crystal : Bool)
  /-- `CORE_RESET_RELEASE`: The core-domain reset ends (R506, R507). -/
  | coreResetRelease
  /-- `SUPPLY_OUT_OF_RANGE`: A main supply leaves its range (R507). -/
  | supplyOutOfRange
  /-- `SOFTWARE_RESET`: A write of 0x7192 with GO = 1 to SYS_RST_CTRL (R507). -/
  | softwareReset (m : Master)
  /-- `SLEEP`: A write of SYS_PWR.SLEEP = 1 (R508). -/
  | sleep (m : Master)
  /-- `WAKE`: A wake event (R508). -/
  | wake
  deriving DecidableEq, Repr

end Sys2Proof
end

