-- ==== Sys2Proof/Decode.lean ====
section
/-! DEFINITION. The command that a word of the opcode table spells. The table gives no row any bits: a command is made
outside, so no word spells one. The encodings that the spec gives its engines' instructions are in Machine/Achal.lean. -/
namespace Sys2Proof

/-- The command that a word of nbits bits spells by the opcode table's bits: none, as no row has bits. -/
def decodeTableWord (nbits w : Nat) : Option Instr :=
  match nbits, w with
  | _, _ => none

end Sys2Proof
end

