-- ==== Sys2Proof/Machine/Achal.lean ====
section
/-! DEFINITION. The encoding of Achal instructions (R312 to R314, R316 to R334): the word of an instruction, and the
instruction a word spells. -/
namespace Sys2Proof.Machine

/-- Format A (R312). -/
def fmtA (op : BitVec 6) (rd ra rb : BitVec 5) (fn : BitVec 11) : Word := op ++ rd ++ ra ++ rb ++ fn
/-- Format I (R312). -/
def fmtI (op : BitVec 6) (rd ra : BitVec 5) (imm : BitVec 16) : Word := op ++ rd ++ ra ++ imm
/-- Format F (R312). -/
def fmtF (op : BitVec 6) (rd ra pos wm1 : BitVec 5) (fn : BitVec 6) : Word := op ++ rd ++ ra ++ pos ++ wm1 ++ fn
/-- Format X (R312). -/
def fmtX (op : BitVec 6) (ra rd : BitVec 5) (fn : BitVec 4) (imm : BitVec 12) : Word := op ++ ra ++ rd ++ fn ++ imm
/-- Format B (R312). -/
def fmtB (op : BitVec 6) (ra rb : BitVec 5) (cond : BitVec 3) (off : BitVec 13) : Word := op ++ ra ++ rb ++ cond ++ off
/-- Format BI (R312). -/
def fmtBI (op : BitVec 6) (ra : BitVec 5) (cond : BitVec 3) (imm : BitVec 5) (off : BitVec 13) : Word :=
  op ++ ra ++ cond ++ imm ++ off
/-- Format BB (R312). -/
def fmtBB (op : BitVec 6) (badr : BitVec 12) (sense : Bool) (off : BitVec 13) : Word :=
  op ++ badr ++ BitVec.ofBool sense ++ off
/-- Format BT (R312). -/
def fmtBT (op : BitVec 6) (ra k : BitVec 5) (sense : Bool) (off : BitVec 13) : Word :=
  op ++ ra ++ k ++ BitVec.ofBool sense ++ 0#2 ++ off
/-- Format C (R312). -/
def fmtC (op : BitVec 6) (mask : BitVec 14) (tgt : BitVec 12) : Word := op ++ mask ++ tgt
/-- Format CI (R312). -/
def fmtCI (op : BitVec 6) (mask : BitVec 14) (ra : BitVec 5) : Word := op ++ mask ++ ra ++ 0#7
/-- Format S (R312, R322). -/
def fmtS (sub g : BitVec 5) (imm : BitVec 16) : Word := 0x30#6 ++ sub ++ g ++ imm

/-- The word that encodes an Achal instruction, with its engine (R312, R314); no other command has one. -/
def achalEncode : Instr → Option (Fin 96 × Word)
  | .add e rd ra rb => some (e, fmtA 0x01#6 rd ra rb 0#11)
  | .sub e rd ra rb => some (e, fmtA 0x01#6 rd ra rb 1#11)
  | .and e rd ra rb => some (e, fmtA 0x01#6 rd ra rb 2#11)
  | .or e rd ra rb => some (e, fmtA 0x01#6 rd ra rb 3#11)
  | .xor e rd ra rb => some (e, fmtA 0x01#6 rd ra rb 4#11)
  | .andn e rd ra rb => some (e, fmtA 0x01#6 rd ra rb 5#11)
  | .sll e rd ra rb => some (e, fmtA 0x01#6 rd ra rb 6#11)
  | .srl e rd ra rb => some (e, fmtA 0x01#6 rd ra rb 7#11)
  | .sra e rd ra rb => some (e, fmtA 0x01#6 rd ra rb 8#11)
  | .ror e rd ra rb => some (e, fmtA 0x01#6 rd ra rb 9#11)
  | .slt e rd ra rb => some (e, fmtA 0x01#6 rd ra rb 10#11)
  | .sltu e rd ra rb => some (e, fmtA 0x01#6 rd ra rb 11#11)
  | .min e rd ra rb => some (e, fmtA 0x01#6 rd ra rb 12#11)
  | .max e rd ra rb => some (e, fmtA 0x01#6 rd ra rb 13#11)
  | .minu e rd ra rb => some (e, fmtA 0x01#6 rd ra rb 14#11)
  | .maxu e rd ra rb => some (e, fmtA 0x01#6 rd ra rb 15#11)
  | .clz e rd ra => some (e, fmtA 0x01#6 rd ra 0#5 16#11)
  | .addi e rd ra imm => some (e, fmtI 0x02#6 rd ra imm)
  | .andi e rd ra imm => some (e, fmtI 0x03#6 rd ra imm)
  | .ori e rd ra imm => some (e, fmtI 0x04#6 rd ra imm)
  | .xori e rd ra imm => some (e, fmtI 0x05#6 rd ra imm)
  | .lui e rd imm => some (e, fmtI 0x06#6 rd 0#5 imm)
  | .slli e rd ra sh => some (e, fmtA 0x07#6 rd ra sh 0#11)
  | .srli e rd ra sh => some (e, fmtA 0x07#6 rd ra sh 1#11)
  | .srai e rd ra sh => some (e, fmtA 0x07#6 rd ra sh 2#11)
  | .rori e rd ra sh => some (e, fmtA 0x07#6 rd ra sh 3#11)
  | .bfxu e rd ra pos wm1 => some (e, fmtF 0x08#6 rd ra pos wm1 0#6)
  | .bfxs e rd ra pos wm1 => some (e, fmtF 0x08#6 rd ra pos wm1 1#6)
  | .bfi e rd ra pos wm1 => some (e, fmtF 0x08#6 rd ra pos wm1 2#6)
  | .perm e rd ra sel => some (e, fmtI 0x09#6 rd ra (0#8 ++ sel))
  | .slti e rd ra imm => some (e, fmtI 0x0A#6 rd ra imm)
  | .sltiu e rd ra imm => some (e, fmtI 0x0B#6 rd ra imm)
  | .mul e ra rb => some (e, fmtA 0x0C#6 0#5 ra rb 0#11)
  | .mulu e ra rb => some (e, fmtA 0x0C#6 0#5 ra rb 1#11)
  | .mac e ra rb => some (e, fmtA 0x0C#6 0#5 ra rb 2#11)
  | .macu e ra rb => some (e, fmtA 0x0C#6 0#5 ra rb 3#11)
  | .fmul e ra rb => some (e, fmtA 0x0D#6 0#5 ra rb 0#11)
  | .fmac e ra rb => some (e, fmtA 0x0D#6 0#5 ra rb 1#11)
  | .fadd e rd ra rb => some (e, fmtA 0x0E#6 rd ra rb 0#11)
  | .fsub e rd ra rb => some (e, fmtA 0x0E#6 rd ra rb 1#11)
  | .fmin e rd ra rb => some (e, fmtA 0x0E#6 rd ra rb 2#11)
  | .fmax e rd ra rb => some (e, fmtA 0x0E#6 rd ra rb 3#11)
  | .fabs e rd ra => some (e, fmtA 0x0E#6 rd ra 0#5 4#11)
  | .fneg e rd ra => some (e, fmtA 0x0E#6 rd ra 0#5 5#11)
  | .frcp e rd ra => some (e, fmtA 0x0E#6 rd ra 0#5 6#11)
  | .i2f e rd ra => some (e, fmtA 0x0E#6 rd ra 0#5 7#11)
  | .u2f e rd ra => some (e, fmtA 0x0E#6 rd ra 0#5 8#11)
  | .f2i e rd ra => some (e, fmtA 0x0E#6 rd ra 0#5 9#11)
  | .f2iZ e rd ra => some (e, fmtA 0x0E#6 rd ra 0#5 10#11)
  | .f2u e rd ra => some (e, fmtA 0x0E#6 rd ra 0#5 11#11)
  | .f2uZ e rd ra => some (e, fmtA 0x0E#6 rd ra 0#5 12#11)
  | .ldw e rd ra imm => some (e, fmtI 0x10#6 rd ra imm)
  | .ldh e rd ra imm => some (e, fmtI 0x11#6 rd ra imm)
  | .ldhu e rd ra imm => some (e, fmtI 0x12#6 rd ra imm)
  | .ldb e rd ra imm => some (e, fmtI 0x13#6 rd ra imm)
  | .ldbu e rd ra imm => some (e, fmtI 0x14#6 rd ra imm)
  | .stw e rs ra imm => some (e, fmtI 0x15#6 rs ra imm)
  | .sth e rs ra imm => some (e, fmtI 0x16#6 rs ra imm)
  | .stb e rs ra imm => some (e, fmtI 0x17#6 rs ra imm)
  | .xchg e rs ra imm => some (e, fmtI 0x18#6 rs ra imm)
  | .ldc e rd ra imm => some (e, fmtI 0x19#6 rd ra imm)
  | .stc e rs ra imm => some (e, fmtI 0x1A#6 rs ra imm)
  | .ioIn e rd ra imm => some (e, fmtI 0x1B#6 rd ra imm)
  | .ioOut e rs ra imm => some (e, fmtI 0x1C#6 rs ra imm)
  | .btst e ra rd imm => some (e, fmtX 0x1D#6 ra rd 0#4 imm)
  | .bset e ra imm => some (e, fmtX 0x1D#6 ra 0#5 1#4 imm)
  | .bclr e ra imm => some (e, fmtX 0x1D#6 ra 0#5 2#4 imm)
  | .btgl e ra imm => some (e, fmtX 0x1D#6 ra 0#5 3#4 imm)
  | .bwr e ra rd imm => some (e, fmtX 0x1D#6 ra rd 4#4 imm)
  | .br e ra rb cond off => some (e, fmtB 0x20#6 ra rb cond off)
  | .bri e ra cond imm off => some (e, fmtBI 0x21#6 ra cond imm off)
  | .fbr e ra rb cond off => some (e, fmtB 0x22#6 ra rb cond off)
  | .bb e badr sense off => some (e, fmtBB 0x23#6 badr sense off)
  | .brb e ra k sense off => some (e, fmtBT 0x24#6 ra k sense off)
  | .j e tgt => some (e, fmtC 0x28#6 0#14 tgt)
  | .jr e ra => some (e, fmtCI 0x29#6 0#14 ra)
  | .call e mask tgt => some (e, fmtC 0x2A#6 mask tgt)
  | .callr e mask ra => some (e, fmtCI 0x2B#6 mask ra)
  | .ret e mask => some (e, fmtC 0x2C#6 mask 0#12)
  | .nop e => some (e, fmtS 0#5 0#5 0#16)
  | .halt e => some (e, fmtS 1#5 0#5 0#16)
  | .wait e => some (e, fmtS 2#5 0#5 0#16)
  | .fence e => some (e, fmtS 3#5 0#5 0#16)
  | .trap e imm => some (e, fmtS 4#5 0#5 imm)
  | .reti e => some (e, fmtS 5#5 0#5 0#16)
  | .mfs e g sr => some (e, fmtS 8#5 g (0#11 ++ sr))
  | .mts e g sr => some (e, fmtS 9#5 g (0#11 ++ sr))
  | _ => none

/-- The major opcode, bits [31:26]. -/
def opOf (w : Word) : Nat := (w.extractLsb' 26 6).toNat
/-- Bits [25:21]. -/
def f25 (w : Word) : BitVec 5 := w.extractLsb' 21 5
/-- Bits [20:16]. -/
def f20 (w : Word) : BitVec 5 := w.extractLsb' 16 5
/-- Bits [15:11]. -/
def f15 (w : Word) : BitVec 5 := w.extractLsb' 11 5
/-- Bits [15:0]. -/
def imm16 (w : Word) : BitVec 16 := w.extractLsb' 0 16
/-- Bits [12:0]. -/
def off13 (w : Word) : BitVec 13 := w.extractLsb' 0 13
/-- Bits [11:0]. -/
def low12 (w : Word) : BitVec 12 := w.extractLsb' 0 12
/-- Bits [10:0], the fn field of format A. -/
def fnA (w : Word) : Nat := (w.extractLsb' 0 11).toNat
/-- Bits [25:12], the mask of formats C and CI. -/
def maskC (w : Word) : BitVec 14 := w.extractLsb' 12 14

/-- An answer only where a field that must be zero is zero (R313). -/
def ifZero (b : Bool) (i : Instr) : Option Instr := if b then some i else none

/-- Opcode 0x01 (R316). -/
def decAlu (e : Fin 96) (w : Word) : Option Instr :=
  match fnA w with
  | 0 => some (.add e (f25 w) (f20 w) (f15 w))
  | 1 => some (.sub e (f25 w) (f20 w) (f15 w))
  | 2 => some (.and e (f25 w) (f20 w) (f15 w))
  | 3 => some (.or e (f25 w) (f20 w) (f15 w))
  | 4 => some (.xor e (f25 w) (f20 w) (f15 w))
  | 5 => some (.andn e (f25 w) (f20 w) (f15 w))
  | 6 => some (.sll e (f25 w) (f20 w) (f15 w))
  | 7 => some (.srl e (f25 w) (f20 w) (f15 w))
  | 8 => some (.sra e (f25 w) (f20 w) (f15 w))
  | 9 => some (.ror e (f25 w) (f20 w) (f15 w))
  | 10 => some (.slt e (f25 w) (f20 w) (f15 w))
  | 11 => some (.sltu e (f25 w) (f20 w) (f15 w))
  | 12 => some (.min e (f25 w) (f20 w) (f15 w))
  | 13 => some (.max e (f25 w) (f20 w) (f15 w))
  | 14 => some (.minu e (f25 w) (f20 w) (f15 w))
  | 15 => some (.maxu e (f25 w) (f20 w) (f15 w))
  | 16 => ifZero (f15 w == 0#5) (.clz e (f25 w) (f20 w))
  | _ => none

/-- Opcode 0x07 (R317). -/
def decShift (e : Fin 96) (w : Word) : Option Instr :=
  match fnA w with
  | 0 => some (.slli e (f25 w) (f20 w) (f15 w))
  | 1 => some (.srli e (f25 w) (f20 w) (f15 w))
  | 2 => some (.srai e (f25 w) (f20 w) (f15 w))
  | 3 => some (.rori e (f25 w) (f20 w) (f15 w))
  | _ => none

/-- Opcode 0x08 (R317): the field must lie in the word (R313). -/
def decField (e : Fin 96) (w : Word) : Option Instr :=
  let wm1 : BitVec 5 := w.extractLsb' 6 5
  if (f15 w).toNat + wm1.toNat + 1 ≤ 32 then
    match (w.extractLsb' 0 6).toNat with
    | 0 => some (.bfxu e (f25 w) (f20 w) (f15 w) wm1)
    | 1 => some (.bfxs e (f25 w) (f20 w) (f15 w) wm1)
    | 2 => some (.bfi e (f25 w) (f20 w) (f15 w) wm1)
    | _ => none
  else none

/-- Opcodes 0x0C and 0x0D (R327). -/
def decProduct (e : Fin 96) (w : Word) (fp : Bool) : Option Instr :=
  if f25 w = 0#5 then
    match fp, fnA w with
    | false, 0 => some (.mul e (f20 w) (f15 w))
    | false, 1 => some (.mulu e (f20 w) (f15 w))
    | false, 2 => some (.mac e (f20 w) (f15 w))
    | false, 3 => some (.macu e (f20 w) (f15 w))
    | true, 0 => some (.fmul e (f20 w) (f15 w))
    | true, 1 => some (.fmac e (f20 w) (f15 w))
    | _, _ => none
  else none

/-- Opcode 0x0E (R333). -/
def decFloat (e : Fin 96) (w : Word) : Option Instr :=
  let z := f15 w == 0#5
  match fnA w with
  | 0 => some (.fadd e (f25 w) (f20 w) (f15 w))
  | 1 => some (.fsub e (f25 w) (f20 w) (f15 w))
  | 2 => some (.fmin e (f25 w) (f20 w) (f15 w))
  | 3 => some (.fmax e (f25 w) (f20 w) (f15 w))
  | 4 => ifZero z (.fabs e (f25 w) (f20 w))
  | 5 => ifZero z (.fneg e (f25 w) (f20 w))
  | 6 => ifZero z (.frcp e (f25 w) (f20 w))
  | 7 => ifZero z (.i2f e (f25 w) (f20 w))
  | 8 => ifZero z (.u2f e (f25 w) (f20 w))
  | 9 => ifZero z (.f2i e (f25 w) (f20 w))
  | 10 => ifZero z (.f2iZ e (f25 w) (f20 w))
  | 11 => ifZero z (.f2u e (f25 w) (f20 w))
  | 12 => ifZero z (.f2uZ e (f25 w) (f20 w))
  | _ => none

/-- Opcode 0x1D (R319): BSET, BCLR and BTGL use no rd. -/
def decBit (e : Fin 96) (w : Word) : Option Instr :=
  let z := f20 w == 0#5
  match (w.extractLsb' 12 4).toNat with
  | 0 => some (.btst e (f25 w) (f20 w) (low12 w))
  | 1 => ifZero z (.bset e (f25 w) (low12 w))
  | 2 => ifZero z (.bclr e (f25 w) (low12 w))
  | 3 => ifZero z (.btgl e (f25 w) (low12 w))
  | 4 => some (.bwr e (f25 w) (f20 w) (low12 w))
  | _ => none

/-- Opcodes 0x20 to 0x24 (R320). -/
def decBranch (e : Fin 96) (w : Word) : Option Instr :=
  let cb : BitVec 3 := w.extractLsb' 13 3
  let ci : BitVec 3 := w.extractLsb' 18 3
  match opOf w with
  | 0x20 => if cb.toNat < 6 then some (.br e (f25 w) (f20 w) cb (off13 w)) else none
  | 0x21 => if ci.toNat < 6 then some (.bri e (f25 w) ci (w.extractLsb' 13 5) (off13 w)) else none
  | 0x22 => if cb.toNat < 5 then some (.fbr e (f25 w) (f20 w) cb (off13 w)) else none
  | 0x23 => some (.bb e (w.extractLsb' 14 12) (w.getLsbD 13) (off13 w))
  | 0x24 => ifZero (w.extractLsb' 13 2 == 0#2) (.brb e (f25 w) (f20 w) (w.getLsbD 15) (off13 w))
  | _ => none

/-- Opcodes 0x28 to 0x2C (R321). -/
def decJump (e : Fin 96) (w : Word) : Option Instr :=
  let z := w.extractLsb' 0 7 == 0#7
  match opOf w with
  | 0x28 => ifZero (maskC w == 0#14) (.j e (low12 w))
  | 0x29 => ifZero (maskC w == 0#14 && z) (.jr e (w.extractLsb' 7 5))
  | 0x2A => some (.call e (maskC w) (low12 w))
  | 0x2B => ifZero z (.callr e (maskC w) (w.extractLsb' 7 5))
  | 0x2C => ifZero (low12 w == 0#12) (.ret e (maskC w))
  | _ => none

/-- Opcode 0x30 (R322). -/
def decSystem (e : Fin 96) (w : Word) : Option Instr :=
  let g0 := f20 w == 0#5
  let i0 := imm16 w == 0#16
  let hi0 := w.extractLsb' 5 11 == 0#11
  match (f25 w).toNat with
  | 0 => ifZero (g0 && i0) (.nop e)
  | 1 => ifZero (g0 && i0) (.halt e)
  | 2 => ifZero (g0 && i0) (.wait e)
  | 3 => ifZero (g0 && i0) (.fence e)
  | 4 => ifZero g0 (.trap e (imm16 w))
  | 5 => ifZero (g0 && i0) (.reti e)
  | 8 => ifZero hi0 (.mfs e (f20 w) (w.extractLsb' 0 5))
  | 9 => ifZero hi0 (.mts e (f20 w) (w.extractLsb' 0 5))
  | _ => none

/-- Opcodes 0x02 to 0x06 and 0x09 to 0x0B (R317). -/
def decImm (e : Fin 96) (w : Word) : Option Instr :=
  match opOf w with
  | 0x02 => some (.addi e (f25 w) (f20 w) (imm16 w))
  | 0x03 => some (.andi e (f25 w) (f20 w) (imm16 w))
  | 0x04 => some (.ori e (f25 w) (f20 w) (imm16 w))
  | 0x05 => some (.xori e (f25 w) (f20 w) (imm16 w))
  | 0x06 => ifZero (f20 w == 0#5) (.lui e (f25 w) (imm16 w))
  | 0x09 => ifZero (w.extractLsb' 8 8 == 0#8) (.perm e (f25 w) (f20 w) (w.extractLsb' 0 8))
  | 0x0A => some (.slti e (f25 w) (f20 w) (imm16 w))
  | 0x0B => some (.sltiu e (f25 w) (f20 w) (imm16 w))
  | _ => none

/-- Opcodes 0x10 to 0x1C (R318, R319). -/
def decMem (e : Fin 96) (w : Word) : Option Instr :=
  match opOf w with
  | 0x10 => some (.ldw e (f25 w) (f20 w) (imm16 w))
  | 0x11 => some (.ldh e (f25 w) (f20 w) (imm16 w))
  | 0x12 => some (.ldhu e (f25 w) (f20 w) (imm16 w))
  | 0x13 => some (.ldb e (f25 w) (f20 w) (imm16 w))
  | 0x14 => some (.ldbu e (f25 w) (f20 w) (imm16 w))
  | 0x15 => some (.stw e (f25 w) (f20 w) (imm16 w))
  | 0x16 => some (.sth e (f25 w) (f20 w) (imm16 w))
  | 0x17 => some (.stb e (f25 w) (f20 w) (imm16 w))
  | 0x18 => some (.xchg e (f25 w) (f20 w) (imm16 w))
  | 0x19 => some (.ldc e (f25 w) (f20 w) (imm16 w))
  | 0x1A => some (.stc e (f25 w) (f20 w) (imm16 w))
  | 0x1B => some (.ioIn e (f25 w) (f20 w) (imm16 w))
  | 0x1C => some (.ioOut e (f25 w) (f20 w) (imm16 w))
  | _ => none

/-- The instruction that a word spells at engine e; none where the encoding is reserved (R313, R338). -/
def achalDecode (e : Fin 96) (w : Word) : Option Instr :=
  let op := opOf w
  if op = 0x01 then decAlu e w
  else if op = 0x07 then decShift e w
  else if op = 0x08 then decField e w
  else if op = 0x0C then decProduct e w false
  else if op = 0x0D then decProduct e w true
  else if op = 0x0E then decFloat e w
  else if op = 0x1D then decBit e w
  else if op < 0x0C then decImm e w
  else if op < 0x20 then decMem e w
  else if op < 0x28 then decBranch e w
  else if op < 0x30 then decJump e w
  else if op = 0x30 then decSystem e w
  else none

end Sys2Proof.Machine
end

