-- ==== Sys2Proof/Config.lean ====
section
/-! DEFINITION. What an implementation fixes and the spec leaves open: free values. An opaque constant has no body, so no
proof can use what it is, and a claim about it holds for every value. -/
namespace Sys2Proof.Config

/-- The value that the spec does not state at the n-th place where a run meets one (log entry 1). -/
opaque freeWord : Nat → Word

/-- The levels of the balls TW_ADDR2 to TW_ADDR0, which the board fixes (R470, log entry 22). -/
opaque twAddr : BitVec 3

end Sys2Proof.Config
end

