-- ==== Sys2Proof/Machine/Bits.lean ====
section
/-! DEFINITION. Bit fields of registers ("[msb:lsb], bit 0 least significant", 00_scope Notation), little-endian
words (R7), saturating counts, and the sparse tables that hold registers and memory in one canonical form. -/
namespace Sys2Proof.Machine

/-- A field of a register: the register's offset from its unit base and the bits [hi:lo]. -/
structure Fld where
  off : Nat
  hi : Nat
  lo : Nat
  deriving DecidableEq, Repr

/-- Bits [hi:lo] of a number. -/
def bits (w hi lo : Nat) : Nat := (w >>> lo) % 2 ^ (hi - lo + 1)

/-- The number w with its bits [hi:lo] replaced by the low bits of v. -/
def setBits (w hi lo v : Nat) : Nat :=
  w % 2 ^ lo + (v % 2 ^ (hi - lo + 1)) * 2 ^ lo + (w / 2 ^ (hi + 1)) * 2 ^ (hi + 1)

/-- A field of a word. -/
def fget (w : Word) (F : Fld) : Nat := bits w.toNat F.hi F.lo

/-- A word with one field replaced. -/
def fset (w : Word) (F : Fld) (v : Nat) : Word := BitVec.ofNat 32 (setBits w.toNat F.hi F.lo v)

/-- Bit k of a number. -/
def bit (w k : Nat) : Bool := w.testBit k

/-- 1 for true, 0 for false: a status bit written by the hardware. -/
def b2n (b : Bool) : Nat := if b then 1 else 0

/-- A count that saturates at its maximum ("saturating" in the register tables). -/
def satAdd (max a b : Nat) : Nat := min max (a + b)

/-- The signed value of the low w bits of a number (two's complement). -/
def sint (w x : Nat) : Int :=
  if (x % 2 ^ w) < 2 ^ (w - 1) then (x % 2 ^ w : Nat) else ((x % 2 ^ w : Nat) : Int) - (2 ^ w : Nat)

/-- The low w bits of a signed value, as a number. -/
def unint (w : Nat) (x : Int) : Nat := (x % ((2 ^ w : Nat) : Int)).toNat

/-- Four bytes, least significant first (R7), as a word. -/
def leWord (b0 b1 b2 b3 : Byte) : Word := b3 ++ b2 ++ b1 ++ b0

/-- Byte k (0 least significant) of a word. -/
def byteOf (w : Word) (k : Nat) : Byte := BitVec.ofNat 8 (w.toNat >>> (8 * k))

/-- The bytes of a word, least significant first (R7). -/
def wordBytes (w : Word) : List Byte := [byteOf w 0, byteOf w 1, byteOf w 2, byteOf w 3]

/-- The number that a list of bytes spells, least significant byte first. -/
def leNat : List Byte → Nat
  | [] => 0
  | b :: t => b.toNat + 256 * leNat t

/-- The n bytes of a number, least significant byte first. -/
def natLE : Nat → Nat → List Byte
  | 0, _ => []
  | n + 1, x => BitVec.ofNat 8 x :: natLE n (x / 256)

/-- Read one key of a sparse table; an unlisted key reads as the default d. -/
def sparseGet {α : Type} (d : Nat → α) : List (Nat × α) → Nat → α
  | [], k => d k
  | (a, v) :: t, k => if a = k then v else sparseGet d t k

/-- Put one key into a sparse table, in rising order of keys. -/
def sparseIns {α : Type} : List (Nat × α) → Nat → α → List (Nat × α)
  | [], k, v => [(k, v)]
  | (a, w) :: t, k, v =>
    if k < a then (k, v) :: (a, w) :: t else if a = k then (k, v) :: t else (a, w) :: sparseIns t k v

/-- Take one key out of a sparse table. -/
def sparseDel {α : Type} : List (Nat × α) → Nat → List (Nat × α)
  | [], _ => []
  | (a, w) :: t, k => if a = k then sparseDel t k else (a, w) :: sparseDel t k

/-- Write one key of a sparse table: writing what an unlisted key reads as removes the entry. -/
def sparseSet {α : Type} [DecidableEq α] (d : Nat → α) (l : List (Nat × α)) (k : Nat) (v : α) : List (Nat × α) :=
  if v = d k then sparseDel l k else sparseIns l k v

/-- The keys of a table rise strictly and none is at or below the bound. -/
def sparseRising {α : Type} : Option Nat → List (Nat × α) → Bool
  | _, [] => true
  | none, (a, _) :: t => sparseRising (some a) t
  | some b, (a, _) :: t => decide (b < a) && sparseRising (some a) t

/-- The canonical form of a sparse table: keys strictly rising, no entry equal to the default. -/
def sparseWf {α : Type} [DecidableEq α] (d : Nat → α) (l : List (Nat × α)) : Bool :=
  sparseRising none l && l.all (fun e => decide (e.2 ≠ d e.1))

/-- The members of a small set held as a list without repeats: add one. -/
def setAdd (l : List Nat) (x : Nat) : List Nat := if l.contains x then l else l ++ [x]

/-- The members of a small set held as a list without repeats: drop one. -/
def setDel (l : List Nat) (x : Nat) : List Nat := l.filter (fun y => y != x)

/-- Union of two such sets. -/
def setUnion (a b : List Nat) : List Nat := b.foldl setAdd a

/-- The first n natural numbers that satisfy p, in ascending order. -/
def natsWhere (n : Nat) (p : Nat → Bool) : List Nat := (List.range n).filter p

end Sys2Proof.Machine
end

