-- ==== Sys2Proof/Machine/RegMap.lean ====
section
/-! DEFINITION. The register map: every register of every unit chapter of spec/ (R24 for the unit ranges), with the
masks of its fields by access code (R8), its reset value, the mask of its "img" fields (R12) and whether it is coherent
(R63). RSV bits stand in no mask: they read zero and take no write (R8). Below it, the name of every field. -/
namespace Sys2Proof.Machine

/-- One row of the register map: cnt registers at off, off + stride, ..., of one instance of a unit. -/
structure RegRow where
  off : Nat
  cnt : Nat
  stride : Nat
  rw : Nat
  ro : Nat
  wo : Nat
  w1c : Nat
  w1s : Nat
  rc : Nat
  rwl : Nat
  reset : Nat
  img : Nat
  coh : Bool
  deriving DecidableEq, Repr

/-- One unit: its range of the host address space, the stride of its instances and its rows. -/
structure UnitMap where
  base : Nat
  size : Nat
  stride : Nat
  rows : List RegRow
  deriving Repr

/-- Registers of SYS at 0x0, part 0: SYS_ID, SYS_LOT_LO, SYS_LOT_HI, SYS_DIE, SYS_SERIAL_LO, SYS_SERIAL_HI, SYS_FSIG_LO, SYS_FSIG_HI, SYS_FUSE, SYS_KEYHASH, SYS_RST_CAUSE, SYS_RST_CTRL. -/
def rowsSys0 : List RegRow := [
  ⟨0, 1, 4, 0, 0xffffff, 0, 0, 0, 0, 0, 0x27192, 0, false⟩,
  ⟨4, 1, 4, 0, 0xffffffff, 0, 0, 0, 0, 0, 0, 0, false⟩,
  ⟨8, 1, 4, 0, 0xffff, 0, 0, 0, 0, 0, 0, 0, false⟩,
  ⟨0xc, 1, 4, 0, 0xffff1f, 0, 0, 0, 0, 0, 0, 0, false⟩,
  ⟨0x10, 1, 4, 0, 0xffffffff, 0, 0, 0, 0, 0, 0, 0, false⟩,
  ⟨0x14, 1, 4, 0, 0xffffffff, 0, 0, 0, 0, 0, 0, 0, false⟩,
  ⟨0x18, 1, 4, 0, 0xffffffff, 0, 0, 0, 0, 0, 0x74ad5c74, 0, false⟩,
  ⟨0x1c, 1, 4, 0, 0xffffffff, 0, 0, 0, 0, 0, 0xaf9a0cc2, 0, false⟩,
  ⟨0x20, 1, 4, 0, 0x1ff, 0, 0, 0, 0, 0, 0, 0, false⟩,
  ⟨0x40, 32, 4, 0, 0xffffffff, 0, 0, 0, 0, 0, 0xffffffff, 0, false⟩,
  ⟨0xc0, 1, 4, 0, 0, 0, 0xf, 0, 0, 0, 1, 0, false⟩,
  ⟨0xc4, 1, 4, 0, 0, 0xffff0001, 0, 0, 0, 0, 0, 0, false⟩]

/-- Registers of SYS at 0x0, part 1: SYS_PWR, SYS_CLK_STAT, SYS_IMG_CTRL, SYS_IMG_STATUS, SYS_IMG_ID, SYS_IMG_SERIAL, SYS_IMG_VER, SYS_LIVE_ID, SYS_LIVE_SERIAL, SYS_DIGEST_LO, SYS_DIGEST_HI, SYS_DIGEST_STAT. -/
def rowsSys1 : List RegRow := [
  ⟨0xc8, 1, 4, 0, 2, 0, 0, 1, 0, 0, 2, 0, false⟩,
  ⟨0xcc, 1, 4, 0, 7, 0, 0, 0, 0, 0, 0, 0, false⟩,
  ⟨0x200, 1, 4, 0xe, 0, 1, 0, 0x100, 0, 0, 0, 0, false⟩,
  ⟨0x204, 1, 4, 0, 0xffff037f, 0, 0x400, 0, 0, 0, 0, 0, false⟩,
  ⟨0x208, 1, 4, 0, 0xffffffff, 0, 0, 0, 0, 0, 0, 0xffffffff, false⟩,
  ⟨0x20c, 1, 4, 0, 0xffffffff, 0, 0, 0, 0, 0, 0, 0xffffffff, false⟩,
  ⟨0x210, 1, 4, 0, 0xffffffff, 0, 0, 0, 0, 0, 0, 0xfffffff, false⟩,
  ⟨0x214, 1, 4, 0, 0xffffffff, 0, 0, 0, 0, 0, 0, 0, false⟩,
  ⟨0x218, 1, 4, 0, 0xffffffff, 0, 0, 0, 0, 0, 0, 0, false⟩,
  ⟨0x220, 1, 4, 0, 0xffffffff, 0, 0, 0, 0, 0, 0, 0, false⟩,
  ⟨0x224, 1, 4, 0, 0xffffffff, 0, 0, 0, 0, 0, 0, 0, false⟩,
  ⟨0x228, 1, 4, 0, 1, 0, 0, 0, 0, 0, 0, 0, false⟩]

/-- Registers of SYS at 0x0, part 2: SYS_EPOCH, SYS_REFELT_CTRL, SYS_REFELT_MASK, SYS_REFELT_STATUS, SYS_CST_W0, SYS_CST_W1, SYS_CST_W2, SYS_CST_W3, SYS_CST_W4, SYS_CST_W5, SYS_CST_W6, SYS_CST_W7. -/
def rowsSys2 : List RegRow := [
  ⟨0x22c, 1, 4, 0, 0xffffffff, 0, 0, 0, 0, 0, 0, 0, false⟩,
  ⟨0x240, 1, 4, 0xf007f, 0, 0x100, 0, 0, 0, 0, 0, 0, false⟩,
  ⟨0x250, 6, 4, 0xffffffff, 0, 0, 0, 0, 0, 0, 0, 0, false⟩,
  ⟨0x268, 1, 4, 0, 0xf1, 0, 0, 0, 0, 0, 0, 0, false⟩,
  ⟨0x4000, 1536, 0x20, 0, 0xffffffff, 0, 0, 0, 0, 0, 0, 0xffffffff, true⟩,
  ⟨0x4004, 1536, 0x20, 0, 0xffffffff, 0, 0, 0, 0, 0, 0, 0xffffffff, true⟩,
  ⟨0x4008, 1536, 0x20, 0, 0xffffffff, 0, 0, 0, 0, 0, 0, 0xffffffff, true⟩,
  ⟨0x400c, 1536, 0x20, 0, 0xffffffff, 0, 0, 0, 0, 0, 0, 0xffffffff, true⟩,
  ⟨0x4010, 1536, 0x20, 0, 0xffffffff, 0, 0, 0, 0, 0, 0, 0xffffffff, true⟩,
  ⟨0x4014, 1536, 0x20, 0, 0xffffffff, 0, 0, 0, 0, 0, 0, 0xffffffff, true⟩,
  ⟨0x4018, 1536, 0x20, 0, 0x17f, 0, 0, 0, 0, 0, 0, 0x17f, true⟩,
  ⟨0x401c, 1536, 0x20, 0, 0, 0, 0, 0, 0, 0, 0, 0, true⟩]

/-- Registers of FC at 0x10000, part 0: FC_CTRL, FC_STATUS, FC_INT_STATUS, FC_INT_EN, FC_Q_MSG_LO, FC_Q_MSG_HI, FC_Q_TS_LO, FC_Q_TS_HI, FC_Q_POP, FC_CNT, FC_RECOV_STAT, FC_INJ_LO. -/
def rowsFc0 : List RegRow := [
  ⟨0, 1, 4, 0, 0, 1, 0, 0, 0, 0, 0, 0, false⟩,
  ⟨4, 1, 4, 0, 0xfffffff3, 0, 0, 0, 0, 0, 0, 0, false⟩,
  ⟨8, 1, 4, 0, 0, 0, 0x3f, 0, 0, 0, 0, 0, false⟩,
  ⟨0xc, 1, 4, 0x3f, 0, 0, 0, 0, 0, 0, 0, 0, false⟩,
  ⟨0x10, 1, 4, 0, 0xffffffff, 0, 0, 0, 0, 0, 0, 0, false⟩,
  ⟨0x14, 1, 4, 0, 0xffffffff, 0, 0, 0, 0, 0, 0, 0, false⟩,
  ⟨0x18, 1, 4, 0, 0xffffffff, 0, 0, 0, 0, 0, 0, 0, false⟩,
  ⟨0x1c, 1, 4, 0, 0xffffffff, 0, 0, 0, 0, 0, 0, 0, false⟩,
  ⟨0x20, 1, 4, 0, 0, 1, 0, 0, 0, 0, 0, 0, false⟩,
  ⟨0x24, 1, 4, 0, 0, 0, 0, 0, 0xffffffff, 0, 0, 0, false⟩,
  ⟨0x28, 1, 4, 0, 0xffffffff, 0, 0, 0, 0, 0, 0, 0, false⟩,
  ⟨0x30, 1, 4, 0xffffffff, 0, 0, 0, 0, 0, 0, 0, 0, false⟩]

/-- Registers of FC at 0x10000, part 1: FC_INJ_HI, FC_CFG, FC_RECESS, FC_RECOV, FC_FGRP, FC_REACT. -/
def rowsFc1 : List RegRow := [
  ⟨0x34, 1, 4, 0, 0, 0xff, 0, 0, 0, 0, 0, 0, false⟩,
  ⟨0x100, 1, 4, 0xff, 0, 0, 0, 0, 0, 0, 0xa8, 0, true⟩,
  ⟨0x104, 1, 4, 0xffff, 0, 0, 0, 0, 0, 0, 0x3e8, 0, true⟩,
  ⟨0x108, 1, 4, 0xffff00ff, 0, 0, 0, 0, 0, 0, 0x3c0003, 0, true⟩,
  ⟨0x110, 12, 4, 0xffffffff, 0, 0, 0, 0, 0, 0, 0, 0, true⟩,
  ⟨0x400, 256, 4, 0xffff1f, 0xf7000000, 0, 0, 0, 0, 0, 0, 0, true⟩]

/-- Registers of HP at 0x20000, part 0: HP_PASS0, HP_PASS1, HP_PASS2, HP_PASS3, HP_PASS4, HP_PASS5, HP_PASS6, HP_PASS7, HP_PASS8, HP_PASS9, HP_PASS10, HP_PASS11. -/
def rowsHp0 : List RegRow := [
  ⟨0, 27, 4, 0, 0, 0, 0, 0, 0, 0xffffffff, 0xaaaaaaaa, 0xffffffff, true⟩,
  ⟨0x80, 27, 4, 0, 0, 0, 0, 0, 0, 0xffffffff, 0xaaaaaaaa, 0xffffffff, true⟩,
  ⟨0x100, 27, 4, 0, 0, 0, 0, 0, 0, 0xffffffff, 0xaaaaaaaa, 0xffffffff, true⟩,
  ⟨0x180, 27, 4, 0, 0, 0, 0, 0, 0, 0xffffffff, 0, 0xffffffff, true⟩,
  ⟨0x200, 27, 4, 0, 0, 0, 0, 0, 0, 0xffffffff, 0, 0xffffffff, true⟩,
  ⟨0x280, 27, 4, 0, 0, 0, 0, 0, 0, 0xffffffff, 0, 0xffffffff, true⟩,
  ⟨0x300, 27, 4, 0, 0, 0, 0, 0, 0, 0xffffffff, 0, 0xffffffff, true⟩,
  ⟨0x380, 27, 4, 0, 0, 0, 0, 0, 0, 0xffffffff, 0, 0xffffffff, true⟩,
  ⟨0x400, 27, 4, 0, 0, 0, 0, 0, 0, 0xffffffff, 0, 0xffffffff, true⟩,
  ⟨0x480, 27, 4, 0, 0, 0, 0, 0, 0, 0xffffffff, 0, 0xffffffff, true⟩,
  ⟨0x500, 27, 4, 0, 0, 0, 0, 0, 0, 0xffffffff, 0, 0xffffffff, true⟩,
  ⟨0x580, 27, 4, 0, 0, 0, 0, 0, 0, 0xffffffff, 0, 0xffffffff, true⟩]

/-- Registers of HP at 0x20000, part 1: HP_PASS12, HP_PASS13, HP_PASS14, HP_PASS15, HP_GRP, HP_NOTIFY. -/
def rowsHp1 : List RegRow := [
  ⟨0x600, 27, 4, 0, 0, 0, 0, 0, 0, 0xffffffff, 0, 0xffffffff, true⟩,
  ⟨0x680, 27, 4, 0, 0, 0, 0, 0, 0, 0xffffffff, 0, 0xffffffff, true⟩,
  ⟨0x700, 27, 4, 0, 0, 0, 0, 0, 0, 0xffffffff, 0, 0xffffffff, true⟩,
  ⟨0x780, 27, 4, 0, 0, 0, 0, 0, 0, 0xffffffff, 0, 0xffffffff, true⟩,
  ⟨0x800, 12, 4, 0, 0, 0, 0, 0, 0, 0x77777777, 0, 0x77777777, true⟩,
  ⟨0x840, 1, 4, 0, 0, 0, 0, 0, 0, 0x3ff, 0, 0x3ff, true⟩]

/-- Registers of EVT at 0x30000, part 0: EVT_TIN_SEL, EVT_TIN_SEL2, EVT_TIN_CFG, EVT_TIN_CNT, EVT_GATE, EVT_TSTART_LO, EVT_TSTART_HI, EVT_TSTOP_LO, EVT_TSTOP_HI. -/
def rowsEvt0 : List RegRow := [
  ⟨0, 256, 0x10, 0x3ff03ff, 0, 0, 0, 0, 0, 0, 0, 0x3ff03ff, true⟩,
  ⟨4, 256, 0x10, 0x3ff03ff, 0, 0, 0, 0, 0, 0, 0, 0x3ff03ff, true⟩,
  ⟨8, 256, 0x10, 0x13f1d, 0, 0, 0, 0, 0, 0, 0, 0x13f1d, true⟩,
  ⟨0xc, 256, 0x10, 0xffff, 0, 0, 0, 0, 0xffff0000, 0, 0, 0, false⟩,
  ⟨0x1000, 8, 4, 0xffffffff, 0, 0, 0, 0, 0, 0, 0, 0, false⟩,
  ⟨0x1100, 1, 4, 0, 0, 0xffffffff, 0, 0, 0, 0, 0, 0, false⟩,
  ⟨0x1104, 1, 4, 0, 0, 0xffffffff, 0, 0, 0, 0, 0, 0, false⟩,
  ⟨0x1108, 1, 4, 0, 0, 0xffffffff, 0, 0, 0, 0, 0, 0, false⟩,
  ⟨0x110c, 1, 4, 0, 0, 0xffffffff, 0, 0, 0, 0, 0, 0, false⟩]

/-- Registers of TMR at 0x40000, part 0: TMR_CTRL, TMR_STATUS, TMR_CFG, TMR_DIV, TMR_RELOAD, TMR_COUNT, TMR_CMP, TMR_INTERVAL, TMR_CAP_R, TMR_CAP_F, TMR_WIDTH, TMR_CNT. -/
def rowsTmr0 : List RegRow := [
  ⟨0, 1, 4, 5, 0, 8, 0, 0, 0, 0, 0, 0, false⟩,
  ⟨4, 1, 4, 0, 7, 0, 0x78, 0, 0, 0, 0, 0, false⟩,
  ⟨8, 1, 4, 0x3733777, 0, 0, 0, 0, 0, 0, 0, 0, false⟩,
  ⟨0xc, 1, 4, 0xffffffff, 0, 0, 0, 0, 0, 0, 0x10000, 0, false⟩,
  ⟨0x10, 1, 4, 0xffffffff, 0, 0, 0, 0, 0, 0, 0xffffffff, 0, false⟩,
  ⟨0x14, 1, 4, 0xffffffff, 0, 0, 0, 0, 0, 0, 0, 0, false⟩,
  ⟨0x18, 1, 4, 0xffffffff, 0, 0, 0, 0, 0, 0, 0, 0, false⟩,
  ⟨0x1c, 1, 4, 0xffffffff, 0, 0, 0, 0, 0, 0, 0, 0, false⟩,
  ⟨0x20, 1, 4, 0, 0xffffffff, 0, 0, 0, 0, 0, 0, 0, false⟩,
  ⟨0x24, 1, 4, 0, 0xffffffff, 0, 0, 0, 0, 0, 0, 0, false⟩,
  ⟨0x28, 1, 4, 0, 0xffffffff, 0, 0, 0, 0, 0, 0, 0, false⟩,
  ⟨0x2c, 1, 4, 0, 0, 0, 0, 0, 0xffffffff, 0, 0, 0, false⟩]

/-- Registers of TMR at 0x40000, part 1: TMR_EVT_EN. -/
def rowsTmr1 : List RegRow := [
  ⟨0x30, 1, 4, 3, 0, 0, 0, 0, 0, 0, 0, 0, false⟩]

/-- Registers of TIME at 0x50000, part 0: TIME_NS, TIME_SNAP_SEC, TIME_WR_SEC, TIME_WR_NS, TIME_APPLY, TIME_STATUS, TIME_REF_CFG, TIME_HOLD, TIME_FREQ, TIME_BELL_SEC, TIME_BELL_NS, TIME_BELL_CTRL. -/
def rowsTime0 : List RegRow := [
  ⟨0, 1, 4, 0, 0xffffffff, 0, 0, 0, 0, 0, 0, 0, false⟩,
  ⟨4, 1, 4, 0, 0xffffffff, 0, 0, 0, 0, 0, 0, 0, false⟩,
  ⟨0x10, 1, 4, 0xffffffff, 0, 0, 0, 0, 0, 0, 0, 0, false⟩,
  ⟨0x14, 1, 4, 0xffffffff, 0, 0, 0, 0, 0, 0, 0, 0, false⟩,
  ⟨0x18, 1, 4, 0, 0, 7, 0, 0, 0, 0, 0, 0, false⟩,
  ⟨0x1c, 1, 4, 0, 0xffffbf3e, 0, 0x4000, 0, 0, 0, 0, 0, false⟩,
  ⟨0x20, 1, 4, 0x107, 0, 0, 0, 0, 0, 0, 7, 0, false⟩,
  ⟨0x24, 1, 4, 0xfff, 0, 0, 0, 0, 0, 0, 0x3c, 0, true⟩,
  ⟨0x28, 1, 4, 0, 0xffffffff, 0, 0, 0, 0, 0, 0, 0, false⟩,
  ⟨0x30, 1, 4, 0xffffffff, 0, 0, 0, 0, 0, 0, 0, 0, false⟩,
  ⟨0x34, 1, 4, 0xffffffff, 0, 0, 0, 0, 0, 0, 0, 0, false⟩,
  ⟨0x38, 1, 4, 0, 0xffff0018, 3, 0x1e0, 0, 0, 0, 0, 0, false⟩]

/-- Registers of TIME at 0x50000, part 1: TIME_BELL_LEAD, TIME_BELL_TMR_LO, TIME_BELL_TMR_HI, TIME_SYNC_OUT, TIME_ALIGN_ERR, TIME_CAS_ASYM. -/
def rowsTime1 : List RegRow := [
  ⟨0x3c, 1, 4, 0, 0xffffffff, 0, 0, 0, 0, 0, 0x3e8, 0, false⟩,
  ⟨0x40, 1, 4, 0xffffffff, 0, 0, 0, 0, 0, 0, 0, 0, false⟩,
  ⟨0x44, 1, 4, 0xffffffff, 0, 0, 0, 0, 0, 0, 0, 0, false⟩,
  ⟨0x50, 1, 4, 0x3fffff, 0, 0, 0, 0, 0, 0, 0, 0, false⟩,
  ⟨0x60, 1, 4, 0, 0xffffffff, 0, 0, 0, 0, 0, 0, 0, false⟩,
  ⟨0x64, 1, 4, 0xffff, 0, 0, 0, 0, 0, 0, 0, 0, false⟩]

/-- Registers of SUP at 0x60000, part 0: SUP_STATUS, SUP_EVT, SUP_SCAN_STAT, SUP_DIE_T, SUP_DIE_LIM, SUP_MON, SUP_INT, SUP_WIN_CNT, SUP_WIN_STAT, SUP_WIN_ERR, SUP_WIN, SUP_WIN2. -/
def rowsSup0 : List RegRow := [
  ⟨0, 1, 4, 0, 0xfff, 0, 0, 0, 0, 0, 0, 0, false⟩,
  ⟨4, 1, 4, 0, 0, 0, 0xff, 0, 0, 0, 0, 0, false⟩,
  ⟨0x10, 1, 4, 0, 0xffffffff, 0, 0, 0, 0, 0, 0, 0, false⟩,
  ⟨0x14, 1, 4, 0, 0xffffffff, 0, 0, 0, 0, 0, 0, 0, false⟩,
  ⟨0x18, 1, 4, 0xffffffff, 0, 0, 0, 0, 0, 0, 0x42dc0000, 0, false⟩,
  ⟨0x100, 32, 4, 0, 0xff0bffff, 0, 0, 0, 0x40000, 0, 0, 0, false⟩,
  ⟨0x180, 8, 4, 0, 0xff0bffff, 0, 0, 0, 0x40000, 0, 0, 0, false⟩,
  ⟨0x2a0, 4, 4, 0xffffffff, 0, 0, 0, 0, 0, 0, 0, 0xffffffff, true⟩,
  ⟨0x2f0, 1, 4, 0, 0xffffffff, 0, 0, 0, 0, 0, 0, 0, false⟩,
  ⟨0x2f4, 1, 4, 0, 0xffffffff, 0, 0, 0, 0, 0, 0, 0, false⟩,
  ⟨0x300, 32, 8, 0xffffffff, 0, 0, 0, 0, 0, 0, 0, 0xffffffff, true⟩,
  ⟨0x304, 32, 8, 0xffffffff, 0, 0, 0, 0, 0, 0, 0, 0xffffffff, true⟩]

/-- Registers of SUP at 0x60000, part 1: SUP_ILK_CFG, SUP_ILK_FELT0, SUP_ILK_FELT1, SUP_ILK_FELT2, SUP_ILK_STAT, SUP_ILK_CTRL, SUP_PB_CFG, SUP_PB_STAT, SUP_TT_CFG, SUP_TT_CTRL, SUP_TT_STAT, SUP_TTE_A. -/
def rowsSup1 : List RegRow := [
  ⟨0x400, 4, 0x20, 0xff1ffe00, 0, 0, 0, 0, 0, 0, 0, 0xff1ffe00, true⟩,
  ⟨0x404, 4, 0x20, 0xffffffff, 0, 0, 0, 0, 0, 0, 0, 0xffffffff, true⟩,
  ⟨0x408, 4, 0x20, 0xffffffff, 0, 0, 0, 0, 0, 0, 0, 0xffffffff, true⟩,
  ⟨0x40c, 4, 0x20, 0xffffffff, 0, 0, 0, 0, 0, 0, 0, 0xffffffff, true⟩,
  ⟨0x480, 1, 4, 0, 0xffffffff, 0, 0, 0, 0, 0, 0, 0, false⟩,
  ⟨0x484, 1, 4, 0, 0, 0xf, 0, 0, 0, 0, 0, 0, false⟩,
  ⟨0x500, 1, 4, 0x39f07ff, 0, 0, 0, 0, 0, 0, 0x801f4, 0x1800000, true⟩,
  ⟨0x504, 1, 4, 0, 0xffff0003, 0, 0, 0, 0, 0, 0, 0, false⟩,
  ⟨0x600, 1, 4, 0xffffff3d, 0, 0, 0, 0, 0, 0, 0, 0xffffff3d, false⟩,
  ⟨0x604, 1, 4, 0, 0, 3, 0, 0, 0, 0, 0, 0, false⟩,
  ⟨0x608, 1, 4, 0, 0xffff001f, 0, 0x100, 0, 0, 0, 0, 0, false⟩,
  ⟨0x800, 32, 0x10, 0x9ff7fffc, 0, 0, 0, 0, 0, 0, 0, 0x9ff7fffc, true⟩]

/-- Registers of SUP at 0x60000, part 2: SUP_TTE_B, SUP_TTE_C, SUP_TTE_D. -/
def rowsSup2 : List RegRow := [
  ⟨0x804, 32, 0x10, 0xffffffff, 0, 0, 0, 0, 0, 0, 0, 0xffffffff, true⟩,
  ⟨0x808, 32, 0x10, 0xffffffff, 0, 0, 0, 0, 0, 0, 0, 0xffffffff, true⟩,
  ⟨0x80c, 32, 0x10, 0xffffffff, 0, 0, 0, 0, 0, 0, 0, 0xffffffff, true⟩]

/-- Registers of HSE at 0x70000, part 0: HSE_CTRL, HSE_STATUS, HSE_MEAS_V, HSE_MEAS_I, HSE_CNT, HSE_PWM, HSE_DEAD, HSE_THR, HSE_RAMP, HSE_SAMP, HSE_SCALE_V, HSE_SCALE_I. -/
def rowsHse0 : List RegRow := [
  ⟨0, 1, 4, 5, 0, 2, 0, 0, 0, 0, 0, 0, false⟩,
  ⟨4, 1, 4, 0, 0xffff, 0, 0, 0, 0, 0, 6, 0xf0, false⟩,
  ⟨8, 1, 4, 0, 0xffffffff, 0, 0, 0, 0, 0, 0, 0, false⟩,
  ⟨0xc, 1, 4, 0, 0xffffffff, 0, 0, 0, 0, 0, 0, 0, false⟩,
  ⟨0x10, 1, 4, 0, 0, 0, 0, 0, 0xffffffff, 0, 0, 0, false⟩,
  ⟨0x40, 1, 4, 0xffffffff, 0, 0, 0, 0, 0, 0, 0, 0xffffffff, false⟩,
  ⟨0x44, 1, 4, 0xffffff, 0, 0, 0, 0, 0, 0, 0, 0xffffff, false⟩,
  ⟨0x48, 1, 4, 0x3fffffff, 0, 0, 0, 0, 0, 0, 0, 0x3fffffff, false⟩,
  ⟨0x4c, 1, 4, 0xff, 0, 0, 0, 0, 0, 0, 0, 0xff, false⟩,
  ⟨0x50, 1, 4, 0x3ff07ff, 0, 0, 0, 0, 0, 0, 0, 0x3ff07ff, false⟩,
  ⟨0x54, 1, 4, 0xffffffff, 0, 0, 0, 0, 0, 0, 0, 0xffffffff, false⟩,
  ⟨0x58, 1, 4, 0xffffffff, 0, 0, 0, 0, 0, 0, 0, 0xffffffff, false⟩]

/-- Registers of HSE at 0x70000, part 1: HSE_VSET, HSE_KP, HSE_KI, HSE_SS, HSE_PROT, HSE_ADMIT, HSE_ADMIT_WAIT. -/
def rowsHse1 : List RegRow := [
  ⟨0x5c, 1, 4, 0xffffffff, 0, 0, 0, 0, 0, 0, 0, 0xffffffff, false⟩,
  ⟨0x60, 1, 4, 0xffffffff, 0, 0, 0, 0, 0, 0, 0, 0xffffffff, false⟩,
  ⟨0x64, 1, 4, 0xffffffff, 0, 0, 0, 0, 0, 0, 0, 0xffffffff, false⟩,
  ⟨0x68, 1, 4, 0xffffffff, 0, 0, 0, 0, 0, 0, 0, 0xffffffff, false⟩,
  ⟨0x6c, 1, 4, 0xff, 0, 0, 0, 0, 0, 0, 0, 0xff, false⟩,
  ⟨0x70, 1, 4, 0xffffff, 0, 0, 0, 0, 0, 0, 0, 0xffffff, false⟩,
  ⟨0x74, 1, 4, 0x3fff, 0, 0, 0, 0, 0, 0, 0, 0x3fff, false⟩]

/-- Registers of HSED at 0x70800, part 0: HSE_DAC_RB, HSE_DAC_TOL. -/
def rowsHsed0 : List RegRow := [
  ⟨0, 1, 4, 0xfc, 0, 0, 0x100, 0, 0, 0, 0x80, 0, false⟩,
  ⟨4, 1, 4, 0xff, 0, 0, 0, 0, 0, 0, 8, 0, false⟩]

/-- Registers of BUS at 0x80000, part 0: BUS_CTRL, BUS_STATUS, BUS_MEAS_V, BUS_P_REQ, BUS_P_IN, BUS_P_SHELF, BUS_P_DUMP, BUS_P_INPUT, BUS_ROOM_SNK, BUS_ROOM_SRC, BUS_CFG, BUS_V_SET. -/
def rowsBus0 : List RegRow := [
  ⟨0, 1, 4, 1, 0, 2, 0, 0, 0, 0, 0, 0, false⟩,
  ⟨4, 1, 4, 0, 0xf0000ff7, 0, 0, 0, 0, 0, 0, 0, false⟩,
  ⟨8, 1, 4, 0, 0xffffffff, 0, 0, 0, 0, 0, 0, 0, false⟩,
  ⟨0xc, 1, 4, 0, 0xffffffff, 0, 0, 0, 0, 0, 0, 0, false⟩,
  ⟨0x10, 1, 4, 0, 0xffffffff, 0, 0, 0, 0, 0, 0, 0, false⟩,
  ⟨0x14, 1, 4, 0, 0xffffffff, 0, 0, 0, 0, 0, 0, 0, false⟩,
  ⟨0x18, 1, 4, 0, 0xffffffff, 0, 0, 0, 0, 0, 0, 0, false⟩,
  ⟨0x1c, 1, 4, 0, 0xffffffff, 0, 0, 0, 0, 0, 0, 0, false⟩,
  ⟨0x20, 1, 4, 0, 0xffffffff, 0, 0, 0, 0, 0, 0, 0, false⟩,
  ⟨0x24, 1, 4, 0, 0xffffffff, 0, 0, 0, 0, 0, 0, 0, false⟩,
  ⟨0x100, 1, 4, 0x1ff3, 0, 0, 0, 0, 0, 0, 0, 0x1ff3, true⟩,
  ⟨0x104, 1, 4, 0xffffffff, 0, 0, 0, 0, 0, 0, 0, 0xffffffff, true⟩]

/-- Registers of BUS at 0x80000, part 1: BUS_V_HI, BUS_V_LO, BUS_V_OV, BUS_V_SHED, BUS_V_HOLD_END, BUS_V_UV, BUS_SENSE_TOL, BUS_K, BUS_IN_SLEW, BUS_P_PREF, BUS_SOC_TGT, BUS_CAP_P. -/
def rowsBus1 : List RegRow := [
  ⟨0x108, 1, 4, 0xffffffff, 0, 0, 0, 0, 0, 0, 0, 0xffffffff, true⟩,
  ⟨0x10c, 1, 4, 0xffffffff, 0, 0, 0, 0, 0, 0, 0, 0xffffffff, true⟩,
  ⟨0x110, 1, 4, 0xffffffff, 0, 0, 0, 0, 0, 0, 0, 0xffffffff, true⟩,
  ⟨0x114, 1, 4, 0xffffffff, 0, 0, 0, 0, 0, 0, 0, 0xffffffff, true⟩,
  ⟨0x118, 1, 4, 0xffffffff, 0, 0, 0, 0, 0, 0, 0, 0xffffffff, true⟩,
  ⟨0x11c, 1, 4, 0xffffffff, 0, 0, 0, 0, 0, 0, 0, 0xffffffff, true⟩,
  ⟨0x124, 1, 4, 0xffffffff, 0, 0, 0, 0, 0, 0, 0, 0xffffffff, true⟩,
  ⟨0x128, 1, 4, 0xffffffff, 0, 0, 0, 0, 0, 0, 0, 0xffffffff, true⟩,
  ⟨0x12c, 1, 4, 0xffffffff, 0, 0, 0, 0, 0, 0, 0, 0xffffffff, true⟩,
  ⟨0x130, 1, 4, 0xffffffff, 0, 0, 0, 0, 0, 0, 0, 0xffffffff, true⟩,
  ⟨0x134, 1, 4, 0xffffffff, 0, 0, 0, 0, 0, 0, 0, 0xffffffff, true⟩,
  ⟨0x138, 1, 4, 0xffffffff, 0, 0, 0, 0, 0, 0, 0, 0xffffffff, true⟩]

/-- Registers of BUS at 0x80000, part 2: BUS_CAP_I, BUS_IN_PMAX, BUS_SHELF_CHG, BUS_SHELF_DIS, BUS_DUMP_PMAX, BUS_R_DUMP, BUS_DUMP_E, BUS_DUMP_PAVG, BUS_SHED, BUS_SHED_PRIO, BUS_ADM_CAP, BUS_ADM_RATE. -/
def rowsBus2 : List RegRow := [
  ⟨0x13c, 1, 4, 0xffffffff, 0, 0, 0, 0, 0, 0, 0, 0xffffffff, true⟩,
  ⟨0x140, 1, 4, 0xffffffff, 0, 0, 0, 0, 0, 0, 0, 0xffffffff, true⟩,
  ⟨0x144, 1, 4, 0xffffffff, 0, 0, 0, 0, 0, 0, 0, 0xffffffff, true⟩,
  ⟨0x148, 1, 4, 0xffffffff, 0, 0, 0, 0, 0, 0, 0, 0xffffffff, true⟩,
  ⟨0x14c, 1, 4, 0xffffffff, 0, 0, 0, 0, 0, 0, 0, 0xffffffff, true⟩,
  ⟨0x150, 1, 4, 0xffffffff, 0, 0, 0, 0, 0, 0, 0, 0xffffffff, true⟩,
  ⟨0x154, 1, 4, 0xffffffff, 0, 0, 0, 0, 0, 0, 0, 0xffffffff, true⟩,
  ⟨0x158, 1, 4, 0xffffffff, 0, 0, 0, 0, 0, 0, 0, 0xffffffff, true⟩,
  ⟨0x15c, 1, 4, 0x3ff, 0, 0, 0, 0, 0, 0, 0, 0x3ff, true⟩,
  ⟨0x160, 12, 4, 0xffffffff, 0, 0, 0, 0, 0, 0, 0, 0xffffffff, true⟩,
  ⟨0x190, 1, 4, 0xffffffff, 0, 0, 0, 0, 0, 0, 0, 0xffffffff, true⟩,
  ⟨0x194, 1, 4, 0xffffffff, 0, 0, 0, 0, 0, 0, 0, 0xffffffff, true⟩]

/-- Registers of BUS at 0x80000, part 3: BUS_START_SLEW, BUS_HS_UV_RISE, BUS_HS_UV_FALL, BUS_HS_OV_RISE, BUS_HS_OV_FALL, BUS_HS_PG_DROP, BUS_HS_SCALE, BUS_HS_TIME, BUS_HS_LIM, BUS_HS_FLT, BUS_HS_ADMIT, BUS_HS_WAIT. -/
def rowsBus3 : List RegRow := [
  ⟨0x198, 1, 4, 0xffffffff, 0, 0, 0, 0, 0, 0, 0, 0xffffffff, true⟩,
  ⟨0x1a0, 1, 4, 0xffffffff, 0, 0, 0, 0, 0, 0, 0, 0xffffffff, true⟩,
  ⟨0x1a4, 1, 4, 0xffffffff, 0, 0, 0, 0, 0, 0, 0, 0xffffffff, true⟩,
  ⟨0x1a8, 1, 4, 0xffffffff, 0, 0, 0, 0, 0, 0, 0, 0xffffffff, true⟩,
  ⟨0x1ac, 1, 4, 0xffffffff, 0, 0, 0, 0, 0, 0, 0, 0xffffffff, true⟩,
  ⟨0x1b0, 1, 4, 0xffffffff, 0, 0, 0, 0, 0, 0, 0, 0xffffffff, true⟩,
  ⟨0x1b4, 1, 4, 0xffffffff, 0, 0, 0, 0, 0, 0, 0, 0xffffffff, true⟩,
  ⟨0x1b8, 1, 4, 0x3ff03ff, 0, 0, 0, 0, 0, 0, 0, 0x3ff03ff, true⟩,
  ⟨0x1bc, 1, 4, 0xffcfffff, 0, 0, 0, 0, 0, 0, 0, 0xffcfffff, true⟩,
  ⟨0x1c0, 1, 4, 0xffffc3ff, 0, 0, 0, 0, 0, 0, 0, 0xffffc3ff, true⟩,
  ⟨0x1c4, 1, 4, 0xffffff, 0, 0, 0, 0, 0, 0, 0, 0xffffff, true⟩,
  ⟨0x1c8, 1, 4, 0x3fff, 0, 0, 0, 0, 0, 0, 0, 0x3fff, true⟩]

/-- Registers of BUS at 0x80000, part 4: BUS_HS_RSNS, BUS_ADM_LEVEL, BUS_ADM_STAT, BUS_HS_CTRL, BUS_HS_STATUS, BUS_HS_MEAS_VIN, BUS_HS_MEAS_I. -/
def rowsBus4 : List RegRow := [
  ⟨0x1cc, 1, 4, 0xffffffff, 0, 0, 0, 0, 0, 0, 0, 0xffffffff, true⟩,
  ⟨0x200, 1, 4, 0, 0xffffffff, 0, 0, 0, 0, 0, 0, 0, false⟩,
  ⟨0x204, 1, 4, 0, 0xe0ff, 0, 0, 0, 0xff000000, 0, 0x2000, 0, false⟩,
  ⟨0x300, 1, 4, 1, 0, 2, 0, 0, 0, 0, 0, 0, false⟩,
  ⟨0x304, 1, 4, 0, 0xfef, 0, 0, 0, 0, 0, 0, 0, false⟩,
  ⟨0x308, 1, 4, 0, 0xffffffff, 0, 0, 0, 0, 0, 0, 0, false⟩,
  ⟨0x30c, 1, 4, 0, 0xffffffff, 0, 0, 0, 0, 0, 0, 0, false⟩]

/-- Registers of GAU at 0x90000, part 0: GAU_CTRL, GAU_STATUS, GAU_SOC_REP, GAU_SOC_EST, GAU_SOC_REST, GAU_I, GAU_V, GAU_T, GAU_Q_MAX, GAU_Q_PASS_LO, GAU_Q_PASS_HI, GAU_CYCLES. -/
def rowsGau0 : List RegRow := [
  ⟨0, 1, 4, 1, 0, 0xe, 0, 0, 0, 0, 0, 0, false⟩,
  ⟨4, 1, 4, 0, 0xfff, 0, 0, 0, 0, 0, 0xf0, 0, false⟩,
  ⟨8, 1, 4, 0, 0xffffffff, 0, 0, 0, 0, 0, 0, 0, false⟩,
  ⟨0xc, 1, 4, 0, 0xffffffff, 0, 0, 0, 0, 0, 0, 0, false⟩,
  ⟨0x10, 1, 4, 0, 0xffffffff, 0, 0, 0, 0, 0, 0, 0, false⟩,
  ⟨0x14, 1, 4, 0, 0xffffffff, 0, 0, 0, 0, 0, 0, 0, false⟩,
  ⟨0x18, 1, 4, 0, 0xffffffff, 0, 0, 0, 0, 0, 0, 0, false⟩,
  ⟨0x1c, 1, 4, 0, 0xffffffff, 0, 0, 0, 0, 0, 0, 0, false⟩,
  ⟨0x20, 1, 4, 0xffffffff, 0, 0, 0, 0, 0, 0, 0, 0xffffffff, false⟩,
  ⟨0x24, 1, 4, 0, 0xffffffff, 0, 0, 0, 0, 0, 0, 0, false⟩,
  ⟨0x28, 1, 4, 0, 0xffffffff, 0, 0, 0, 0, 0, 0, 0, false⟩,
  ⟨0x2c, 1, 4, 0, 0xffffffff, 0, 0, 0, 0, 0, 0, 0, false⟩]

/-- Registers of GAU at 0x90000, part 1: GAU_LEARN_INFO, GAU_CNT, GAU_EVT, GAU_EVT_EN, GAU_CELL, GAU_TAP_STAT, GAU_T_EXT, GAU_CFG, GAU_OCV_BASE, GAU_Q_DESIGN, GAU_REST, GAU_REST_I. -/
def rowsGau1 : List RegRow := [
  ⟨0x30, 1, 4, 0, 0xffff1fff, 0, 0, 0, 0, 0, 0, 0, false⟩,
  ⟨0x34, 1, 4, 0, 0, 0, 0, 0, 0xffffffff, 0, 0, 0, false⟩,
  ⟨0x38, 1, 4, 0, 0, 0, 0x7ff, 0, 0, 0, 0, 0, false⟩,
  ⟨0x3c, 1, 4, 0x7ff, 0, 0, 0, 0, 0, 0, 0, 0, false⟩,
  ⟨0x40, 8, 4, 0, 0xffffffff, 0, 0, 0, 0, 0, 0, 0, false⟩,
  ⟨0x60, 1, 4, 0, 0xfffe0000, 0, 0x1fffe, 0, 0, 0, 0, 0, false⟩,
  ⟨0x64, 1, 4, 0xffffffff, 0, 0, 0, 0, 0, 0, 0x41c80000, 0, false⟩,
  ⟨0x80, 1, 4, 0xff9f013f, 0, 0, 0, 0, 0, 0, 0, 0xff9f013f, true⟩,
  ⟨0x84, 1, 4, 0xffffffff, 0, 0, 0, 0, 0, 0, 0, 0xffffffff, true⟩,
  ⟨0x88, 1, 4, 0xffffffff, 0, 0, 0, 0, 0, 0, 0, 0xffffffff, true⟩,
  ⟨0x8c, 1, 4, 0xffffff, 0, 0, 0, 0, 0, 0, 0, 0xffffff, true⟩,
  ⟨0x90, 1, 4, 0xffffffff, 0, 0, 0, 0, 0, 0, 0, 0xffffffff, true⟩]

/-- Registers of GAU at 0x90000, part 2: GAU_LOW, GAU_LOW_I, GAU_DEADBAND, GAU_LEARN, GAU_FALLBACK_I, GAU_WARN_PCT, GAU_WARN_T, GAU_EDV_W, GAU_EDV_F, GAU_ECV_W, GAU_ECV_F, GAU_TEMP. -/
def rowsGau2 : List RegRow := [
  ⟨0x94, 1, 4, 0x3ff, 0, 0, 0, 0, 0, 0, 0, 0x3ff, true⟩,
  ⟨0x98, 1, 4, 0xffffffff, 0, 0, 0, 0, 0, 0, 0, 0xffffffff, true⟩,
  ⟨0x9c, 1, 4, 0xffffffff, 0, 0, 0, 0, 0, 0, 0, 0xffffffff, true⟩,
  ⟨0xa0, 1, 4, 0xffffffff, 0, 0, 0, 0, 0, 0, 0, 0xffffffff, true⟩,
  ⟨0xa4, 1, 4, 0xffffffff, 0, 0, 0, 0, 0, 0, 0, 0xffffffff, true⟩,
  ⟨0xa8, 1, 4, 0xffffffff, 0, 0, 0, 0, 0, 0, 0, 0xffffffff, true⟩,
  ⟨0xac, 1, 4, 0xffffffff, 0, 0, 0, 0, 0, 0, 0, 0xffffffff, true⟩,
  ⟨0xb0, 1, 4, 0xffffffff, 0, 0, 0, 0, 0, 0, 0, 0xffffffff, true⟩,
  ⟨0xb4, 1, 4, 0xffffffff, 0, 0, 0, 0, 0, 0, 0, 0xffffffff, true⟩,
  ⟨0xb8, 1, 4, 0xffffffff, 0, 0, 0, 0, 0, 0, 0, 0xffffffff, true⟩,
  ⟨0xbc, 1, 4, 0xffffffff, 0, 0, 0, 0, 0, 0, 0, 0xffffffff, true⟩,
  ⟨0xc0, 1, 4, 0x1f03, 0, 0, 0, 0, 0, 0, 0, 0x1f03, true⟩]

/-- Registers of GAU at 0x90000, part 3: GAU_LEARN2, GAU_T_A, GAU_T_B, GAU_I_A, GAU_I_B, GAU_TAP_CFG, GAU_CELL_LIM, GAU_TAP_SCALE. -/
def rowsGau3 : List RegRow := [
  ⟨0xc4, 1, 4, 0xffff, 0, 0, 0, 0, 0, 0, 0, 0xffff, true⟩,
  ⟨0xc8, 1, 4, 0xffffffff, 0, 0, 0, 0, 0, 0, 0, 0xffffffff, true⟩,
  ⟨0xcc, 1, 4, 0xffffffff, 0, 0, 0, 0, 0, 0, 0, 0xffffffff, true⟩,
  ⟨0xd0, 1, 4, 0xffffffff, 0, 0, 0, 0, 0, 0, 0, 0xffffffff, true⟩,
  ⟨0xd4, 1, 4, 0xffffffff, 0, 0, 0, 0, 0, 0, 0, 0xffffffff, true⟩,
  ⟨0xd8, 1, 4, 0xffff9f1f, 0, 0, 0, 0, 0, 0, 0, 0xffff9f1f, true⟩,
  ⟨0xdc, 1, 4, 0xffffffff, 0, 0, 0, 0, 0, 0, 0, 0xffffffff, true⟩,
  ⟨0xe0, 8, 4, 0xffffffff, 0, 0, 0, 0, 0, 0, 0, 0xffffffff, true⟩]

/-- Registers of NV at 0xa0000, part 0: NV_CTRL, NV_STATUS, NV_SLATE_SEQ, NV_CFG, NV_ERASE, NV_REC_ADDR, NV_REC_SRC, NV_REC_LEN, NV_REC_CTRL, NV_CARD_SEQ, NV_CARD_STAT, NV_CARD_RD. -/
def rowsNv0 : List RegRow := [
  ⟨0, 1, 4, 0, 0, 7, 0, 0, 0, 0, 0, 0, false⟩,
  ⟨4, 1, 4, 0, 0xff0000ff, 0, 0x300, 0, 0, 0, 0, 0, false⟩,
  ⟨8, 1, 4, 0, 0xffffffff, 0, 0, 0, 0, 0, 0, 0, false⟩,
  ⟨0xc, 1, 4, 0xfff, 0, 0, 0, 0, 0, 0, 0xbea, 0, false⟩,
  ⟨0x10, 1, 4, 0x1f, 0, 0x100, 0, 0, 0, 0, 0, 0, false⟩,
  ⟨0x20, 1, 4, 0x1ffff, 0, 0, 0, 0, 0, 0, 0, 0, false⟩,
  ⟨0x24, 1, 4, 0xffffffff, 0, 0, 0, 0, 0, 0, 0, 0, false⟩,
  ⟨0x28, 1, 4, 0xfff, 0, 0, 0, 0, 0, 0, 0, 0, false⟩,
  ⟨0x2c, 1, 4, 0xffff0000, 0xf0, 1, 0, 0, 0, 0, 0, 0, false⟩,
  ⟨0x30, 1, 4, 0, 0xffffffff, 0, 0, 0, 0, 0, 0, 0, false⟩,
  ⟨0x34, 1, 4, 0, 0xfff, 0, 0, 0, 0xff000000, 0, 0, 0, false⟩,
  ⟨0x38, 1, 4, 0xff, 0xffff0000, 0, 0, 0, 0, 0, 0, 0, false⟩]

/-- Registers of NV at 0xa0000, part 1: NV_CARD_USER, NV_SECHDR, NV_CNT, NV_CNT_INC, NV_CNT_CLR, NV_PROT, NV_MAP. -/
def rowsNv1 : List RegRow := [
  ⟨0x40, 7, 4, 0xffffffff, 0, 0, 0, 0, 0, 0, 0, 0, false⟩,
  ⟨0x100, 32, 4, 0, 0xffffffff, 0, 0, 0, 0, 0, 0, 0, false⟩,
  ⟨0x200, 16, 4, 0, 0xffffffff, 0, 0, 0, 0, 0, 0, 0, false⟩,
  ⟨0x240, 1, 4, 0, 0, 0xfff, 0, 0, 0, 0, 0, 0, false⟩,
  ⟨0x244, 1, 4, 0, 0, 0, 0, 0, 0, 0xfff, 0, 0, false⟩,
  ⟨0x300, 1, 4, 0, 0, 0, 0, 0, 0, 0x3ff, 0, 0x3ff, true⟩,
  ⟨0x304, 1, 4, 0x1f1f, 0, 0, 0, 0, 0, 0, 0x1000, 0x1f1f, true⟩]

/-- Registers of HOST at 0xb0000, part 0: HOST_SPI_STAT, HOST_TW_STAT, HOST_TW_CTRL. -/
def rowsHost0 : List RegRow := [
  ⟨0, 1, 4, 0, 0, 0, 0, 0, 0xffffffff, 0, 0, 0, false⟩,
  ⟨0x10, 1, 4, 0, 0x1ff, 0, 0, 0, 0xffff0000, 0, 0, 0, false⟩,
  ⟨0x14, 1, 4, 0, 0, 1, 0, 0, 0, 0, 0, 0, false⟩]

/-- Registers of SL at 0xc0000, part 0: SL_CTRL, SL_STATUS, SL_HUB_ID, SL_HUB_CAPS, SL_LAT_MEAS, SL_LAT_RT, SL_LAT_CAL, SL_LAT_TRACK, SL_CNT_CRC, SL_CNT_SEQ, SL_CNT_SAMPLE, SL_CNT_RETX. -/
def rowsSl0 : List RegRow := [
  ⟨0, 1, 4, 0x1ff0303, 0, 0xc, 0, 0, 0, 0, 0xc80203, 0, false⟩,
  ⟨4, 1, 4, 0, 0xfff301ef, 0, 0, 0, 0, 0, 0, 0, false⟩,
  ⟨8, 1, 4, 0, 0xffffffff, 0, 0, 0, 0, 0, 0, 0, false⟩,
  ⟨0xc, 1, 4, 0, 0x7ffff, 0, 0, 0, 0, 0, 0, 0, false⟩,
  ⟨0x10, 1, 4, 0, 0xffffffff, 0, 0, 0, 0, 0, 0, 0, false⟩,
  ⟨0x14, 1, 4, 0, 0xffffff, 0, 0, 0, 0, 0, 0, 0, false⟩,
  ⟨0x18, 1, 4, 0xffff, 0xffff0000, 0, 0, 0, 0, 0, 0, 0, false⟩,
  ⟨0x1c, 1, 4, 0xff0000, 0xffff, 0, 0, 0, 0, 0, 0x400000, 0, false⟩,
  ⟨0x20, 1, 4, 0, 0, 0, 0, 0, 0xffffffff, 0, 0, 0, false⟩,
  ⟨0x24, 1, 4, 0, 0, 0, 0, 0, 0xffffffff, 0, 0, 0, false⟩,
  ⟨0x28, 1, 4, 0, 0, 0, 0, 0, 0xffffffff, 0, 0, 0, false⟩,
  ⟨0x2c, 1, 4, 0, 0, 0, 0, 0, 0xffffffff, 0, 0, 0, false⟩]

/-- Registers of SL at 0xc0000, part 1: SL_CNT_EVENTS, SL_MAX_BAD, SL_CNT_DN, SL_HUB_ADDR, SL_HUB_CMD, SL_HUB_STAT, SL_HUB_DATA, SL_TX_EQ. -/
def rowsSl1 : List RegRow := [
  ⟨0x30, 1, 4, 0, 0, 0, 0, 0, 0xffffffff, 0, 0, 0, false⟩,
  ⟨0x34, 1, 4, 0, 0, 0, 0, 0, 0xffff, 0, 0, 0, false⟩,
  ⟨0x38, 1, 4, 0, 0xffffffff, 0, 0, 0, 0, 0, 0, 0, false⟩,
  ⟨0x40, 1, 4, 0xffff, 0, 0, 0, 0, 0, 0, 0, 0, false⟩,
  ⟨0x44, 1, 4, 0x72, 0, 1, 0, 0, 0, 0, 0, 0, false⟩,
  ⟨0x48, 1, 4, 0, 0xf1, 0, 0, 0, 0, 0, 0, 0, false⟩,
  ⟨0x60, 8, 4, 0xffffffff, 0, 0, 0, 0, 0, 0, 0, 0, false⟩,
  ⟨0x80, 1, 4, 0x3f3f3f, 0, 0, 0, 0, 0, 0, 0x63702, 0, false⟩]

/-- Registers of CAS at 0xd0000, part 0: CAS_CTRL, CAS_STATUS, CAS_LANE01, CAS_LANE23, CAS_CNT, CAS_CFG, CAS_CROWN_LO, CAS_CROWN_HI, CAS_RMT_POS, CAS_RMT_ADDR, CAS_RMT_DATA, CAS_RMT_STAT. -/
def rowsCas0 : List RegRow := [
  ⟨0, 1, 4, 0, 0, 6, 0, 1, 0, 0, 0, 0, false⟩,
  ⟨4, 1, 4, 0, 0xffff00f3, 0, 0, 0, 0, 0, 0, 0, false⟩,
  ⟨0x10, 2, 4, 0xff8001, 0x7806, 0, 0, 0, 0, 0, 0x640003, 0, false⟩,
  ⟨0x18, 2, 4, 0xff8007, 0x7800, 0, 0, 0, 0, 0, 0x640003, 0, false⟩,
  ⟨0x20, 4, 4, 0, 0, 0, 0, 0, 0xffffffff, 0, 0, 0, false⟩,
  ⟨0x100, 1, 4, 0xf03ff, 0, 0, 0, 0, 0, 0, 0x3000a, 0, true⟩,
  ⟨0x104, 1, 4, 0xffffffff, 0, 0, 0, 0, 0, 0, 0, 0xffffffff, true⟩,
  ⟨0x108, 1, 4, 0xffffffff, 0, 0, 0, 0, 0, 0, 0, 0xffffffff, true⟩,
  ⟨0x200, 1, 4, 0x1f, 0, 0x100, 0, 0, 0, 0, 0, 0, false⟩,
  ⟨0x204, 1, 4, 0xffffffff, 0, 0, 0, 0, 0, 0, 0, 0, false⟩,
  ⟨0x208, 1, 4, 0xffffffff, 0, 0, 0, 0, 0, 0, 0, 0, false⟩,
  ⟨0x20c, 1, 4, 0, 0x1f, 0, 0, 0, 0, 0, 0, 0, false⟩]

/-- Registers of CAS at 0xd0000, part 1: CAS_ROLL_STAT, CAS_EXP_STAT. -/
def rowsCas1 : List RegRow := [
  ⟨0x300, 1, 4, 0, 0xffffffff, 0, 0, 0, 0, 0, 0, 0, false⟩,
  ⟨0x400, 1, 4, 0, 0, 0, 0, 0, 0xffffffff, 0, 0, 0, false⟩]

/-- Registers of DMA at 0xe0000, part 0: DMA_CTRL, DMA_STATUS, DMA_DESC, DMA_CUR, DMA_REMAIN, DMA_FADDR, DMA_TRIG, DMA_TAG. -/
def rowsDma0 : List RegRow := [
  ⟨0, 1, 4, 0x31, 0, 2, 0, 0, 0, 0, 0, 0, false⟩,
  ⟨4, 1, 4, 0, 0xff00ff, 0, 0, 0, 0xff000000, 0, 0, 0, false⟩,
  ⟨8, 1, 4, 0xffffffff, 0, 0, 0, 0, 0, 0, 0, 0, false⟩,
  ⟨0xc, 1, 4, 0, 0xffffffff, 0, 0, 0, 0, 0, 0, 0, false⟩,
  ⟨0x10, 1, 4, 0, 0x1ffff, 0, 0, 0, 0, 0, 0, 0, false⟩,
  ⟨0x14, 1, 4, 0, 0xffffffff, 0, 0, 0, 0, 0, 0, 0, false⟩,
  ⟨0x18, 1, 4, 0x1ff, 0, 0, 0, 0, 0, 0, 0, 0, false⟩,
  ⟨0x1c, 1, 4, 0, 0xffffffff, 0, 0, 0, 0, 0, 0, 0, false⟩]

/-- Registers of CAP at 0xe8000, part 0: CAP_CTRL, CAP_SRC, CAP_DEC, CAP_REC, CAP_RING_BASE, CAP_RING_SIZE, CAP_WR, CAP_RD, CAP_WM, CAP_SEQ, CAP_DROP, CAP_STATUS. -/
def rowsCap0 : List RegRow := [
  ⟨0, 1, 4, 0xff3d, 0, 2, 0, 0, 0, 0, 0, 0, false⟩,
  ⟨4, 1, 4, 0x3fffff, 0, 0, 0, 0, 0, 0, 0, 0, false⟩,
  ⟨8, 1, 4, 0xffff, 0, 0, 0, 0, 0, 0, 0, 0, false⟩,
  ⟨0xc, 1, 4, 0x3ff, 0, 0, 0, 0, 0, 0, 0, 0, false⟩,
  ⟨0x10, 1, 4, 0xffffffff, 0, 0, 0, 0, 0, 0, 0, 0, false⟩,
  ⟨0x14, 1, 4, 0xf, 0, 0, 0, 0, 0, 0, 0, 0, false⟩,
  ⟨0x18, 1, 4, 0, 0x7fffff, 0, 0, 0, 0, 0, 0, 0, false⟩,
  ⟨0x1c, 1, 4, 0x7fffff, 0, 0, 0, 0, 0, 0, 0, 0, false⟩,
  ⟨0x20, 1, 4, 0x7fffff, 0, 0, 0, 0, 0, 0, 0, 0, false⟩,
  ⟨0x24, 1, 4, 0, 0xffffffff, 0, 0, 0, 0, 0, 0, 0, false⟩,
  ⟨0x28, 1, 4, 0, 0, 0, 0, 0, 0xffffffff, 0, 0, 0, false⟩,
  ⟨0x2c, 1, 4, 0, 0xff, 0, 0, 0, 0, 0, 0, 0, false⟩]

/-- Registers of SVC at 0xf0000, part 0: SVC_STATUS, SVC_VDM, SVC_LAST. -/
def rowsSvc0 : List RegRow := [
  ⟨0, 1, 4, 0, 0x3ff7, 0, 0xc000, 0, 0, 0, 0, 0, false⟩,
  ⟨0x10, 1, 4, 0xffff000f, 0, 0, 0, 0, 0, 0, 0, 0xffff000f, true⟩,
  ⟨0x14, 1, 4, 0, 0x83ff, 0, 0, 0, 0xffff0000, 0, 0, 0, false⟩]

/-- Registers of PHS at 0x100000, part 0: PHS_STATUS, PHS_MEAS_I, PHS_MEAS_V, PHS_ON, PHS_TRIM, PHS_CNT_LIMIT, PHS_CNT_MISS, PHS_CNT_TRIP, PHS_CNT_SURGE, PHS_SYNC_STAT, PHS_PWM, PHS_PWM2. -/
def rowsPhs0 : List RegRow := [
  ⟨0, 1, 4, 0, 0x1f7f0fef, 0, 0, 0, 0, 0, 0x7f0000, 0, false⟩,
  ⟨4, 1, 4, 0, 0xffffffff, 0, 0, 0, 0, 0, 0, 0, false⟩,
  ⟨8, 1, 4, 0, 0xffffffff, 0, 0, 0, 0, 0, 0, 0, false⟩,
  ⟨0xc, 1, 4, 0, 0xfffff, 0, 0, 0, 0, 0, 0, 0, false⟩,
  ⟨0x10, 1, 4, 0, 0xffffffff, 0, 0, 0, 0, 0, 0, 0, false⟩,
  ⟨0x14, 1, 4, 0, 0, 0, 0, 0, 0xffffffff, 0, 0, 0, false⟩,
  ⟨0x18, 1, 4, 0, 0, 0, 0, 0, 0xffffffff, 0, 0, 0, false⟩,
  ⟨0x1c, 1, 4, 0, 0, 0, 0, 0, 0xffffffff, 0, 0, 0, false⟩,
  ⟨0x20, 1, 4, 0, 0, 0, 0, 0, 0xffffffff, 0, 0, 0, false⟩,
  ⟨0x24, 1, 4, 0, 0xfffff007, 0, 0, 0, 0, 0, 0, 0, false⟩,
  ⟨0x100, 1, 4, 0xff3fffff, 0, 0, 0, 0, 0, 0, 0, 0xff3fffff, true⟩,
  ⟨0x104, 1, 4, 0xffffffff, 0, 0, 0, 0, 0, 0, 0, 0xffffffff, true⟩]

/-- Registers of PHS at 0x100000, part 1: PHS_SYNC, PHS_DUTY_LIM, PHS_KP, PHS_KI, PHS_XMAX, PHS_I_RATED, PHS_I_PK, PHS_I_NEG, PHS_V_OV, PHS_PROT, PHS_FULL, PHS_TRIM_MAX. -/
def rowsPhs1 : List RegRow := [
  ⟨0x108, 1, 4, 0xfffff, 0, 0, 0, 0, 0, 0, 0, 0xfffff, true⟩,
  ⟨0x10c, 1, 4, 0xffffffff, 0, 0, 0, 0, 0, 0, 0, 0xffffffff, true⟩,
  ⟨0x110, 1, 4, 0xffffffff, 0, 0, 0, 0, 0, 0, 0, 0xffffffff, true⟩,
  ⟨0x114, 1, 4, 0xffffffff, 0, 0, 0, 0, 0, 0, 0, 0xffffffff, true⟩,
  ⟨0x118, 1, 4, 0xffffffff, 0, 0, 0, 0, 0, 0, 0, 0xffffffff, true⟩,
  ⟨0x11c, 1, 4, 0xffffffff, 0, 0, 0, 0, 0, 0, 0, 0xffffffff, true⟩,
  ⟨0x120, 1, 4, 0xffffffff, 0, 0, 0, 0, 0, 0, 0, 0xffffffff, true⟩,
  ⟨0x124, 1, 4, 0xffffffff, 0, 0, 0, 0, 0, 0, 0, 0xffffffff, true⟩,
  ⟨0x128, 1, 4, 0xffffffff, 0, 0, 0, 0, 0, 0, 0, 0xffffffff, true⟩,
  ⟨0x12c, 1, 4, 0xff07ff, 0, 0, 0, 0, 0, 0, 0, 0xff07ff, true⟩,
  ⟨0x130, 1, 4, 0xffffffff, 0, 0, 0, 0, 0, 0, 0, 0xffffffff, true⟩,
  ⟨0x134, 1, 4, 0xffffffff, 0, 0, 0, 0, 0, 0, 0, 0xffffffff, true⟩]

/-- Registers of PHS at 0x100000, part 2: PHS_LL, PHS_BURST, PHS_SURGE_SLOPE, PHS_SURGE, PHS_SURGE_MIN, PHS_VBUS_FIX, PHS_ORDER, PHS_LF_INFO, PHS_LF_SEC, PHS_LF_NS, PHS_LF_IREF, PHS_LF_X. -/
def rowsPhs2 : List RegRow := [
  ⟨0x138, 1, 4, 0xffffffff, 0, 0, 0, 0, 0, 0, 0, 0xffffffff, true⟩,
  ⟨0x13c, 1, 4, 0xffff01ff, 0, 0, 0, 0, 0, 0, 0, 0xffff01ff, true⟩,
  ⟨0x140, 1, 4, 0xffffffff, 0, 0, 0, 0, 0, 0, 0, 0xffffffff, true⟩,
  ⟨0x144, 1, 4, 0xffff07, 0, 0, 0, 0, 0, 0, 0, 0xffff07, true⟩,
  ⟨0x148, 1, 4, 0xffffffff, 0, 0, 0, 0, 0, 0, 0, 0xffffffff, true⟩,
  ⟨0x14c, 1, 4, 0xffffffff, 0, 0, 0, 0, 0, 0, 0, 0xffffffff, true⟩,
  ⟨0x150, 1, 4, 0x1f, 0, 0, 0, 0, 0, 0, 0, 0x1f, true⟩,
  ⟨0x200, 1, 4, 0, 0xfffffff, 0, 0x80000000, 0, 0, 0, 0, 0, false⟩,
  ⟨0x204, 1, 4, 0, 0xffffffff, 0, 0, 0, 0, 0, 0, 0, false⟩,
  ⟨0x208, 1, 4, 0, 0xffffffff, 0, 0, 0, 0, 0, 0, 0, false⟩,
  ⟨0x20c, 1, 4, 0, 0xffffffff, 0, 0, 0, 0, 0, 0, 0, false⟩,
  ⟨0x210, 1, 4, 0, 0xffffffff, 0, 0, 0, 0, 0, 0, 0, false⟩]

/-- Registers of PHS at 0x100000, part 3: PHS_LF_TRIM, PHS_LF_I, PHS_LF_V. -/
def rowsPhs3 : List RegRow := [
  ⟨0x214, 1, 4, 0, 0xffffffff, 0, 0, 0, 0, 0, 0, 0, false⟩,
  ⟨0x218, 4, 4, 0, 0x3fff3fff, 0, 0, 0, 0, 0, 0, 0, false⟩,
  ⟨0x228, 4, 4, 0, 0x3fff3fff, 0, 0, 0, 0, 0, 0, 0, false⟩]

/-- Registers of FELT at 0x180000, part 0: FELT_CTRL, FELT_STATUS, FELT_SRC, FELT_SP_HOST, FELT_SP_ENG, FELT_MEAS_VFB, FELT_MEAS_VFORCE, FELT_MEAS_I, FELT_MEAS_P, FELT_IREF, FELT_VREF, FELT_ALLOW_SRC. -/
def rowsFelt0 : List RegRow := [
  ⟨0, 1, 4, 0x19, 0, 0x184, 0, 0, 0, 0, 0, 0, false⟩,
  ⟨4, 1, 4, 0, 0xffffff0f, 0, 0, 0, 0, 0, 0, 0, false⟩,
  ⟨8, 1, 4, 0x4f7, 0, 0, 0x800, 0, 0, 0, 0, 0, false⟩,
  ⟨0x20, 8, 4, 0xffffffff, 0, 0, 0, 0, 0, 0, 0, 0, false⟩,
  ⟨0x40, 8, 4, 0xffffffff, 0, 0, 0, 0, 0, 0, 0, 0, false⟩,
  ⟨0x60, 1, 4, 0, 0xffffffff, 0, 0, 0, 0, 0, 0, 0, false⟩,
  ⟨0x64, 1, 4, 0, 0xffffffff, 0, 0, 0, 0, 0, 0, 0, false⟩,
  ⟨0x68, 1, 4, 0, 0xffffffff, 0, 0, 0, 0, 0, 0, 0, false⟩,
  ⟨0x6c, 1, 4, 0, 0xffffffff, 0, 0, 0, 0, 0, 0, 0, false⟩,
  ⟨0x70, 1, 4, 0, 0xffffffff, 0, 0, 0, 0, 0, 0, 0, false⟩,
  ⟨0x74, 1, 4, 0, 0xffffffff, 0, 0, 0, 0, 0, 0, 0, false⟩,
  ⟨0x78, 1, 4, 0, 0xffffffff, 0, 0, 0, 0, 0, 0x7f800000, 0, false⟩]

/-- Registers of FELT at 0x180000, part 1: FELT_ALLOW_SNK, FELT_EVT, FELT_EVT_EN, FELT_RESULT, FELT_R_LEAD, FELT_TEST_I, FELT_BANK, FELT_LOOP, FELT_I_RANGE, FELT_V_MAX, FELT_I_SRC_MAX, FELT_I_SNK_MAX. -/
def rowsFelt1 : List RegRow := [
  ⟨0x7c, 1, 4, 0, 0xffffffff, 0, 0, 0, 0, 0, 0x7f800000, 0, false⟩,
  ⟨0x80, 1, 4, 0, 0, 0, 0x3fff, 0, 0, 0, 0, 0, false⟩,
  ⟨0x84, 1, 4, 0x3fff, 0, 0, 0, 0, 0, 0, 0, 0, false⟩,
  ⟨0x88, 1, 4, 0, 0xf, 0, 0, 0, 0, 0, 0, 0, false⟩,
  ⟨0x8c, 1, 4, 0, 0xffffffff, 0, 0, 0, 0, 0, 0, 0, false⟩,
  ⟨0x90, 1, 4, 0xffffffff, 0, 0, 0, 0, 0, 0, 0, 0, false⟩,
  ⟨0x100, 7, 4, 0xffffffff, 0, 0, 0, 0, 0, 0, 0, 0xffffffff, true⟩,
  ⟨0x120, 7, 4, 0xffffffff, 0, 0, 0, 0, 0, 0, 0, 0xffffffff, true⟩,
  ⟨0x140, 7, 4, 0xffffffff, 0, 0, 0, 0, 0, 0, 0, 0xffffffff, true⟩,
  ⟨0x160, 7, 4, 0xffffffff, 0, 0, 0, 0, 0, 0, 0, 0xffffffff, true⟩,
  ⟨0x11c, 4, 0x20, 0, 0, 0, 0, 0, 0, 0, 0, 0, true⟩,
  ⟨0x180, 1, 4, 0x1ffff, 0, 0, 0, 0, 0, 0, 0, 0x1ffff, true⟩,
  ⟨0x184, 1, 4, 0xffffffff, 0, 0, 0, 0, 0, 0, 0, 0xffffffff, true⟩,
  ⟨0x188, 1, 4, 0xffffffff, 0, 0, 0, 0, 0, 0, 0, 0xffffffff, true⟩,
  ⟨0x18c, 1, 4, 0xffffffff, 0, 0, 0, 0, 0, 0, 0, 0xffffffff, true⟩,
  ⟨0x190, 1, 4, 0xffffffff, 0, 0, 0, 0, 0, 0, 0, 0xffffffff, true⟩]

/-- Registers of FELT at 0x180000, part 2: FELT_P_SRC_MAX, FELT_P_SNK_MAX, FELT_CP_VMIN, FELT_PG, FELT_START_SLEW, FELT_STOP_SLEW, FELT_V_OFF, FELT_STOP, FELT_ADMIT, FELT_ADMIT_WAIT, FELT_I_BRK, FELT_I_BRK_FAST. -/
def rowsFelt2 : List RegRow := [
  ⟨0x194, 1, 4, 0xffffffff, 0, 0, 0, 0, 0, 0, 0, 0xffffffff, true⟩,
  ⟨0x198, 1, 4, 0xffffffff, 0, 0, 0, 0, 0, 0, 0, 0xffffffff, true⟩,
  ⟨0x19c, 1, 4, 0xffffffff, 0, 0, 0, 0, 0, 0, 0, 0xffffffff, true⟩,
  ⟨0x1a0, 1, 4, 0xffffffff, 0, 0, 0, 0, 0, 0, 0, 0xffffffff, true⟩,
  ⟨0x1a4, 1, 4, 0xffffffff, 0, 0, 0, 0, 0, 0, 0, 0xffffffff, true⟩,
  ⟨0x1a8, 1, 4, 0xffffffff, 0, 0, 0, 0, 0, 0, 0, 0xffffffff, true⟩,
  ⟨0x1ac, 1, 4, 0xffffffff, 0, 0, 0, 0, 0, 0, 0, 0xffffffff, true⟩,
  ⟨0x1b0, 1, 4, 0x3fff0003, 0, 0, 0, 0, 0, 0, 0, 0x3fff0003, true⟩,
  ⟨0x1b4, 1, 4, 0xffffff, 0, 0, 0, 0, 0, 0, 0, 0xffffff, true⟩,
  ⟨0x1b8, 1, 4, 0x3fff, 0, 0, 0, 0, 0, 0, 0, 0x3fff, true⟩,
  ⟨0x1bc, 1, 4, 0xffffffff, 0, 0, 0, 0, 0, 0, 0, 0xffffffff, true⟩,
  ⟨0x1c0, 1, 4, 0xffffffff, 0, 0, 0, 0, 0, 0, 0, 0xffffffff, true⟩]

/-- Registers of FELT at 0x180000, part 3: FELT_BRK, FELT_BRK2, FELT_SENSE, FELT_R_MIN, FELT_TRACK, FELT_TRACK_K, FELT_TRACK_OFS, FELT_TRACK_MS, FELT_BATT, FELT_I_TERM, FELT_WF_BASE, FELT_WF_LEN. -/
def rowsFelt3 : List RegRow := [
  ⟨0x1c4, 1, 4, 0x1ffff, 0, 0, 0, 0, 0, 0, 0, 0x1ffff, true⟩,
  ⟨0x1c8, 1, 4, 0xff0f3fff, 0, 0, 0, 0, 0, 0, 0, 0xff0f3fff, true⟩,
  ⟨0x1cc, 1, 4, 0xff01, 0, 0, 0, 0, 0, 0, 0, 0xff01, true⟩,
  ⟨0x1d0, 1, 4, 0xffffffff, 0, 0, 0, 0, 0, 0, 0, 0xffffffff, true⟩,
  ⟨0x1d4, 1, 4, 0xf7f07, 0, 0, 0, 0, 0, 0, 0, 0xf7f07, true⟩,
  ⟨0x1d8, 1, 4, 0xffffffff, 0, 0, 0, 0, 0, 0, 0, 0xffffffff, true⟩,
  ⟨0x1dc, 1, 4, 0xffffffff, 0, 0, 0, 0, 0, 0, 0, 0xffffffff, true⟩,
  ⟨0x1e0, 1, 4, 0xffffffff, 0, 0, 0, 0, 0, 0, 0, 0xffffffff, true⟩,
  ⟨0x1e4, 1, 4, 0xffffffff, 0, 0, 0, 0, 0, 0, 0, 0xffffffff, true⟩,
  ⟨0x1e8, 1, 4, 0xffffffff, 0, 0, 0, 0, 0, 0, 0, 0xffffffff, true⟩,
  ⟨0x200, 1, 4, 0xffffffff, 0, 0, 0, 0, 0, 0, 0, 0, false⟩,
  ⟨0x204, 1, 4, 0x1fff1fff, 0, 0, 0, 0, 0, 0, 0, 0, false⟩]

/-- Registers of FELT at 0x180000, part 4: FELT_WF_CTRL, FELT_WF_ADV, FELT_WF_CFF, FELT_WF_STAT, FELT_WF_LOOP, FELT_WF_CNT, FELT_WF_ORG_SEC, FELT_WF_ORG_NS, FELT_WF_EVT, FELT_WF_EVT_EN, FELT_BLK. -/
def rowsFelt4 : List RegRow := [
  ⟨0x208, 1, 4, 0xffff0310, 0, 7, 0, 0, 0, 0, 0, 0, false⟩,
  ⟨0x20c, 1, 4, 0x1ff, 0, 0, 0, 0, 0, 0, 0x100, 0, false⟩,
  ⟨0x210, 1, 4, 0xffffffff, 0, 0, 0, 0, 0, 0, 0, 0, false⟩,
  ⟨0x214, 1, 4, 0, 0xff000fff, 0, 0, 0, 0, 0, 0, 0, false⟩,
  ⟨0x218, 1, 4, 0, 0xffff, 0, 0, 0, 0, 0, 0, 0, false⟩,
  ⟨0x21c, 1, 4, 0, 0, 0, 0, 0, 0xffffffff, 0, 0, 0, false⟩,
  ⟨0x220, 1, 4, 0, 0xffffffff, 0, 0, 0, 0, 0, 0, 0, false⟩,
  ⟨0x224, 1, 4, 0, 0xffffffff, 0, 0, 0, 0, 0, 0, 0, false⟩,
  ⟨0x228, 1, 4, 0, 0, 0, 0x3f, 0, 0, 0, 0, 0, false⟩,
  ⟨0x22c, 1, 4, 0x3f, 0, 0, 0, 0, 0, 0, 0, 0, false⟩,
  ⟨0x400, 128, 4, 0xffffffff, 0, 0, 0, 0, 0, 0, 0, 0xffffffff, true⟩]

/-- Registers of PD at 0x1c0000, part 0: PD_CTRL, PD_STATUS, PD_CONTRACT, PD_CABLE, PD_EVT, PD_EVT_EN, PD_ADM_REQ, PD_ADM_STAT, PD_TX_CTRL, PD_TX_STAT, PD_RX_STAT, PD_CNT. -/
def rowsPd0 : List RegRow := [
  ⟨0, 1, 4, 1, 0, 6, 0, 0, 0, 0, 0, 0, false⟩,
  ⟨4, 1, 4, 0, 0xff3fffff, 0, 0, 0, 0, 0, 0x10000, 0, false⟩,
  ⟨8, 1, 4, 0, 0xffffffff, 0, 0, 0, 0, 0, 0, 0, false⟩,
  ⟨0xc, 1, 4, 0, 0x1f37, 0, 0, 0, 0, 0, 0, 0, false⟩,
  ⟨0x10, 1, 4, 0, 0, 0, 0x7fff, 0, 0, 0, 0, 0, false⟩,
  ⟨0x14, 1, 4, 0x7fff, 0, 0, 0, 0, 0, 0, 0, 0, false⟩,
  ⟨0x18, 1, 4, 0xfff, 0, 0x80000000, 0, 0, 0, 0, 0, 0, false⟩,
  ⟨0x1c, 1, 4, 0, 0xfff00003, 0, 0, 0, 0, 0, 0, 0, false⟩,
  ⟨0x20, 1, 4, 0x31ff, 0, 0x80000000, 0, 0, 0, 0, 0, 0, false⟩,
  ⟨0x24, 1, 4, 0, 0x8000000f, 0, 0, 0, 0, 0, 0, 0, false⟩,
  ⟨0x28, 1, 4, 0, 0xf1ff, 0, 0xc0000000, 0, 0, 0, 0, 0, false⟩,
  ⟨0x2c, 1, 4, 0, 0, 0, 0, 0, 0xffffffff, 0, 0, 0, false⟩]

/-- Registers of PD at 0x1c0000, part 1: PD_CFG, PD_LIM, PD_GUARD, PD_GUARD2, PD_ADMIT, PD_ADMIT_WAIT, PD_SINK, PD_TIM, PD_TX_BUF, PD_RX_BUF. -/
def rowsPd1 : List RegRow := [
  ⟨0x40, 1, 4, 0x3ff, 0, 0, 0, 0, 0, 0, 0, 0x3ff, true⟩,
  ⟨0x44, 1, 4, 0xffffffff, 0, 0, 0, 0, 0, 0, 0, 0xffffffff, true⟩,
  ⟨0x48, 1, 4, 0xffff07ff, 0, 0, 0, 0, 0, 0, 0, 0xffff07ff, true⟩,
  ⟨0x4c, 1, 4, 0xffffff, 0, 0, 0, 0, 0, 0, 0, 0xffffff, true⟩,
  ⟨0x50, 1, 4, 0xffffff, 0, 0, 0, 0, 0, 0, 0, 0xffffff, true⟩,
  ⟨0x54, 1, 4, 0x3fff, 0, 0, 0, 0, 0, 0, 0, 0x3fff, true⟩,
  ⟨0x58, 1, 4, 0xff, 0, 0, 0, 0, 0, 0, 0, 0xff, true⟩,
  ⟨0x5c, 1, 4, 0xffff, 0, 0, 0, 0, 0, 0, 0, 0xffff, true⟩,
  ⟨0x100, 66, 4, 0xffffffff, 0, 0, 0, 0, 0, 0, 0, 0, false⟩,
  ⟨0x300, 66, 4, 0, 0xffffffff, 0, 0, 0, 0, 0, 0, 0, false⟩]

/-- Registers of ENG at 0x200000, part 0: ENG_CTRL, ENG_STATUS, ENG_ENTRY, ENG_CFG, ENG_FSTAT, ENG_APER, ENG_SWTRIG, ENG_TASK0_CFG, ENG_TASK_SP, ENG_TASK_SL, ENG_TASK_STAT, ENG_TASK_CFG. -/
def rowsEng0 : List RegRow := [
  ⟨0, 1, 4, 0, 0, 0xf, 0, 0, 0, 0, 0, 0, false⟩,
  ⟨4, 1, 4, 0, 0xfff, 0, 0, 0, 0xffff0000, 0, 0, 0, false⟩,
  ⟨8, 1, 4, 0xfff, 0, 0, 0, 0, 0, 0, 0, 0xfff, false⟩,
  ⟨0xc, 1, 4, 0x1fff, 0x70000, 0, 0, 0, 0, 0, 0, 0, false⟩,
  ⟨0x10, 1, 4, 3, 0xf00, 0, 0, 0, 0, 0, 0, 0, false⟩,
  ⟨0x14, 1, 4, 0x7fffff, 0, 0, 0, 0, 0, 0, 0, 0, false⟩,
  ⟨0x18, 1, 4, 0, 0, 0, 0, 0xff, 0, 0, 0, 0, false⟩,
  ⟨0x40, 1, 0x10, 0x1fffffff, 0, 0, 0, 0, 0, 0, 0x8000, 0, false⟩,
  ⟨0x44, 8, 0x10, 0xffffffff, 0, 0, 0, 0, 0, 0, 0x4000, 0, false⟩,
  ⟨0x48, 8, 0x10, 0xfffffff8, 0, 0, 0, 0, 0, 0, 0, 0, false⟩,
  ⟨0x4c, 8, 0x10, 0, 7, 0, 0, 0, 0, 0, 0, 0, false⟩,
  ⟨0x50, 7, 0x10, 0x1fffffff, 0, 0, 0, 0, 0, 0, 0, 0, false⟩]

/-- Registers of ENG at 0x200000, part 1: ENG_MPU_BASE, ENG_MPU_LIM, ENG_MPU_ATTR, ENG_MPU_CTRL, ENG_MBX_IN, ENG_MBX_OUT, ENG_MBX_STAT. -/
def rowsEng1 : List RegRow := [
  ⟨0x100, 8, 0x10, 0xffffffe0, 0, 0, 0, 0, 0, 0, 0, 0, false⟩,
  ⟨0x104, 8, 0x10, 0xffffffe0, 0, 0, 0, 0, 0, 0, 0, 0, false⟩,
  ⟨0x108, 8, 0x10, 0x1ff0f, 0, 0, 0, 0, 0, 0, 0, 0, false⟩,
  ⟨0x180, 1, 4, 1, 0, 0, 0, 2, 0, 0, 0, 0, false⟩,
  ⟨0x1c0, 4, 8, 0, 0, 0xffffffff, 0, 0, 0, 0, 0, 0, false⟩,
  ⟨0x1c4, 4, 8, 0, 0xffffffff, 0, 0, 0, 0, 0, 0, 0, false⟩,
  ⟨0x1e0, 1, 4, 0, 0xfffff, 0, 0xff000000, 0, 0, 0, 0, 0, false⟩]

/-- The units that hold registers, in the order of R24. -/
def unitMaps : List UnitMap := [
  ⟨0x0, 0x10000, 0x10000, rowsSys0 ++ rowsSys1 ++ rowsSys2⟩,
  ⟨0x10000, 0x10000, 0x10000, rowsFc0 ++ rowsFc1⟩,
  ⟨0x20000, 0x10000, 0x10000, rowsHp0 ++ rowsHp1⟩,
  ⟨0x30000, 0x10000, 0x10000, rowsEvt0⟩,
  ⟨0x40000, 0x4000, 0x100, rowsTmr0 ++ rowsTmr1⟩,
  ⟨0x50000, 0x10000, 0x10000, rowsTime0 ++ rowsTime1⟩,
  ⟨0x60000, 0x10000, 0x10000, rowsSup0 ++ rowsSup1 ++ rowsSup2⟩,
  ⟨0x70000, 0x800, 0x100, rowsHse0 ++ rowsHse1⟩,
  ⟨0x70800, 0x8, 0x8, rowsHsed0⟩,
  ⟨0x80000, 0x10000, 0x10000, rowsBus0 ++ rowsBus1 ++ rowsBus2 ++ rowsBus3 ++ rowsBus4⟩,
  ⟨0x90000, 0x6400, 0x100, rowsGau0 ++ rowsGau1 ++ rowsGau2 ++ rowsGau3⟩,
  ⟨0xa0000, 0x10000, 0x10000, rowsNv0 ++ rowsNv1⟩,
  ⟨0xb0000, 0x10000, 0x10000, rowsHost0⟩,
  ⟨0xc0000, 0xc000, 0x1000, rowsSl0 ++ rowsSl1⟩,
  ⟨0xd0000, 0x10000, 0x10000, rowsCas0 ++ rowsCas1⟩,
  ⟨0xe0000, 0x800, 0x40, rowsDma0⟩,
  ⟨0xe8000, 0x800, 0x100, rowsCap0⟩,
  ⟨0xf0000, 0x10000, 0x10000, rowsSvc0⟩,
  ⟨0x100000, 0x60000, 0x800, rowsPhs0 ++ rowsPhs1 ++ rowsPhs2 ++ rowsPhs3⟩,
  ⟨0x180000, 0x30000, 0x800, rowsFelt0 ++ rowsFelt1 ++ rowsFelt2 ++ rowsFelt3 ++ rowsFelt4⟩,
  ⟨0x1c0000, 0x18000, 0x800, rowsPd0 ++ rowsPd1⟩,
  ⟨0x200000, 0xc000, 0x200, rowsEng0 ++ rowsEng1⟩]

/-- Whether a row holds the register at an offset of its unit. -/
def RegRow.covers (r : RegRow) (o : Nat) : Bool :=
  decide (r.off ≤ o) && decide ((o - r.off) % r.stride = 0) && decide ((o - r.off) / r.stride < r.cnt)

/-- The row that holds the register at a host address; none where the spec gives no register (R25). -/
def regRow (a : Nat) : Option RegRow :=
  match unitMaps.find? (fun u => decide (u.base ≤ a) && decide (a < u.base + u.size)) with
  | none => none
  | some u => u.rows.find? (fun r => r.covers ((a - u.base) % u.stride))

/-- The fault kinds (R417): code, severity, default scope, floor scope, HOLD at reset. OVERFLOW has no entry: FC_REACT1
reads 0 and takes no writes, as the entries of reserved kinds do. -/
def kindRows0 : List (Nat × Nat × Nat × Nat × Bool) := [
  (0x02, 8, 1, 0, false),
  (0x03, 14, 4, 4, false),
  (0x04, 8, 2, 0, false),
  (0x10, 12, 3, 3, false),
  (0x11, 6, 0, 0, false),
  (0x12, 8, 1, 0, false),
  (0x13, 6, 0, 0, false),
  (0x14, 8, 1, 0, false),
  (0x15, 10, 2, 1, false),
  (0x20, 10, 2, 1, false),
  (0x21, 12, 2, 1, false),
  (0x22, 8, 2, 0, false),
  (0x23, 2, 0, 0, false),
  (0x24, 6, 1, 0, false),
  (0x30, 8, 1, 0, false),
  (0x31, 10, 1, 0, false),
  (0x32, 8, 1, 0, false),
  (0x38, 6, 0, 0, false),
  (0x39, 14, 4, 4, false),
  (0x3A, 8, 1, 0, false)]

/-- The fault kinds, part 1 (R417). -/
def kindRows1 : List (Nat × Nat × Nat × Nat × Bool) := [
  (0x3B, 6, 1, 0, false),
  (0x3C, 8, 1, 0, false),
  (0x40, 8, 1, 0, false),
  (0x41, 10, 1, 0, false),
  (0x42, 8, 1, 0, false),
  (0x48, 14, 4, 4, false),
  (0x49, 12, 4, 3, false),
  (0x4A, 8, 1, 0, false),
  (0x4B, 6, 0, 0, false),
  (0x4C, 12, 1, 0, false),
  (0x4D, 6, 1, 0, false),
  (0x4E, 10, 1, 0, false),
  (0x4F, 12, 1, 0, false),
  (0x58, 10, 2, 1, false),
  (0x59, 8, 1, 0, false),
  (0x5A, 6, 1, 0, false),
  (0x60, 6, 1, 0, false),
  (0x61, 8, 1, 0, false),
  (0x62, 10, 1, 0, false),
  (0x63, 12, 1, 0, false)]

/-- The fault kinds, part 2 (R417). -/
def kindRows2 : List (Nat × Nat × Nat × Nat × Bool) := [
  (0x68, 10, 2, 0, false),
  (0x69, 10, 2, 0, false),
  (0x6A, 10, 2, 0, false),
  (0x6B, 4, 2, 0, false),
  (0x6C, 14, 2, 2, false),
  (0x70, 8, 1, 0, false),
  (0x71, 8, 1, 0, false),
  (0x78, 12, 1, 0, false),
  (0x79, 10, 1, 0, false),
  (0x7A, 6, 0, 0, false),
  (0x7B, 8, 1, 0, false),
  (0x7C, 10, 1, 0, false),
  (0x7D, 12, 5, 5, false),
  (0x7E, 8, 1, 0, false),
  (0x7F, 6, 0, 0, false),
  (0x80, 12, 3, 3, false),
  (0x81, 2, 0, 0, false),
  (0x82, 12, 1, 0, false),
  (0x88, 10, 1, 0, false),
  (0x89, 8, 1, 0, false)]

/-- The fault kinds, part 3 (R417). -/
def kindRows3 : List (Nat × Nat × Nat × Nat × Bool) := [
  (0x8A, 6, 0, 0, false),
  (0x90, 6, 1, 0, false),
  (0x91, 4, 0, 0, false),
  (0x98, 12, 1, 0, false),
  (0x99, 8, 1, 0, false),
  (0x9A, 8, 1, 0, false),
  (0x9B, 8, 1, 0, true)]

/-- All fault kinds that a unit reports (R417). -/
def kindRows : List (Nat × Nat × Nat × Nat × Bool) := kindRows0 ++ kindRows1 ++ kindRows2 ++ kindRows3

/-- The severity, default scope, floor and HOLD of a kind; none for a reserved code and for OVERFLOW (R417). -/
def kindRow (k : Nat) : Option (Nat × Nat × Nat × Bool) :=
  match kindRows.find? (fun r => r.1 == k) with
  | none => none
  | some r => some r.2

/-- The reset value of FC_REACTk: SEV, FLOOR and SCOPE from R417, HOLD set for COHERENCE. -/
def reactReset (k : Nat) : Nat :=
  match kindRow k with
  | none => 0
  | some (sev, d, f, h) => sev * 2 ^ 28 + f * 2 ^ 24 + b2n h * 8 + d

/-- The reset value of the register at a host address: the Reset column, with "img" fields at their value before load
(R12). -/
def regReset (a : Nat) : Word :=
  if 0x10400 ≤ a ∧ a < 0x10800 ∧ a % 4 = 0 then BitVec.ofNat 32 (reactReset ((a - 0x10400) / 4))
  else
    match regRow a with
    | none => 0#32
    | some r => BitVec.ofNat 32 r.reset

/-- Whether a register is coherent (R63): its unit chapter marks it so. -/
def regCoherent (a : Nat) : Bool :=
  match regRow a with
  | none => false
  | some r => r.coh

namespace K
/-- Kind code of R417. -/
abbrev IMAGE_REJECT : Nat := 0x02
/-- Kind code of R417. -/
abbrev CORE_PLL : Nat := 0x03
/-- Kind code of R417. -/
abbrev ACCESS : Nat := 0x04
/-- Kind code of R417. -/
abbrev SL_LOSS : Nat := 0x10
/-- Kind code of R417. -/
abbrev SL_TRAIN_FAIL : Nat := 0x11
/-- Kind code of R417. -/
abbrev SL_VERSION : Nat := 0x12
/-- Kind code of R417. -/
abbrev SL_LAT_DRIFT : Nat := 0x13
/-- Kind code of R417. -/
abbrev SL_SIDE_FAIL : Nat := 0x14
/-- Kind code of R417. -/
abbrev HUB_TRIP : Nat := 0x15
/-- Kind code of R417. -/
abbrev PHS_OC : Nat := 0x20
/-- Kind code of R417. -/
abbrev PHS_OV : Nat := 0x21
/-- Kind code of R417. -/
abbrev PHS_SAMPLE : Nat := 0x22
/-- Kind code of R417. -/
abbrev PHS_SURGE : Nat := 0x23
/-- Kind code of R417. -/
abbrev SYNC_LOST : Nat := 0x24
/-- Kind code of R417. -/
abbrev FELT_BREAKER : Nat := 0x30
/-- Kind code of R417. -/
abbrev FELT_BRK_LATCH : Nat := 0x31
/-- Kind code of R417. -/
abbrev FELT_SENSE : Nat := 0x32
/-- Kind code of R417. -/
abbrev TIME_REF : Nat := 0x38
/-- Kind code of R417. -/
abbrev TIME_HOLDOVER : Nat := 0x39
/-- Kind code of R417. -/
abbrev TIME_ALIGN : Nat := 0x3A
/-- Kind code of R417. -/
abbrev BELL_LATE : Nat := 0x3B
/-- Kind code of R417. -/
abbrev BELL_MISS : Nat := 0x3C
/-- Kind code of R417. -/
abbrev HSE_OC : Nat := 0x40
/-- Kind code of R417. -/
abbrev HSE_OV : Nat := 0x41
/-- Kind code of R417. -/
abbrev HSE_DAC : Nat := 0x42
/-- Kind code of R417. -/
abbrev BUS_OV : Nat := 0x48
/-- Kind code of R417. -/
abbrev BUS_UV : Nat := 0x49
/-- Kind code of R417. -/
abbrev BUS_SENSE : Nat := 0x4A
/-- Kind code of R417. -/
abbrev BUS_SHED : Nat := 0x4B
/-- Kind code of R417. -/
abbrev BUS_HOLDUP : Nat := 0x4C
/-- Kind code of R417. -/
abbrev ADMIT_TIMEOUT : Nat := 0x4D
/-- Kind code of R417. -/
abbrev HS_FAULT : Nat := 0x4E
/-- Kind code of R417. -/
abbrev HS_LATCH : Nat := 0x4F
/-- Kind code of R417. -/
abbrev PD_GUARD : Nat := 0x58
/-- Kind code of R417. -/
abbrev PD_TRANSITION : Nat := 0x59
/-- Kind code of R417. -/
abbrev PD_POLICY_TMO : Nat := 0x5A
/-- Kind code of R417. -/
abbrev GAU_BLIND : Nat := 0x60
/-- Kind code of R417. -/
abbrev GAU_TABLE : Nat := 0x61
/-- Kind code of R417. -/
abbrev GAU_TAP : Nat := 0x62
/-- Kind code of R417. -/
abbrev GAU_CELL : Nat := 0x63
/-- Kind code of R417. -/
abbrev ILLEGAL : Nat := 0x68
/-- Kind code of R417. -/
abbrev ALIGN : Nat := 0x69
/-- Kind code of R417. -/
abbrev STACK : Nat := 0x6A
/-- Kind code of R417. -/
abbrev TRAP : Nat := 0x6B
/-- Kind code of R417. -/
abbrev ENGINE_DOUBLE : Nat := 0x6C
/-- Kind code of R417. -/
abbrev DMA_ACCESS : Nat := 0x70
/-- Kind code of R417. -/
abbrev DMA_DESC : Nat := 0x71
/-- Kind code of R417. -/
abbrev SUP_REF : Nat := 0x78
/-- Kind code of R417. -/
abbrev SUP_HOT : Nat := 0x79
/-- Kind code of R417. -/
abbrev RAIL_LOG : Nat := 0x7A
/-- Kind code of R417. -/
abbrev RAIL_RETRY : Nat := 0x7B
/-- Kind code of R417. -/
abbrev RAIL_GROUP : Nat := 0x7C
/-- Kind code of R417. -/
abbrev RAIL_RESET : Nat := 0x7D
/-- Kind code of R417. -/
abbrev RAIL_OFF_TMO : Nat := 0x7E
/-- Kind code of R417. -/
abbrev ILK_STOP : Nat := 0x7F
/-- Kind code of R417. -/
abbrev ILK_DISCREPANCY : Nat := 0x80
/-- Kind code of R417. -/
abbrev PB_SHORT : Nat := 0x81
/-- Kind code of R417. -/
abbrev PB_FORCE_OFF : Nat := 0x82
/-- Kind code of R417. -/
abbrev NV_STORE_FAIL : Nat := 0x88
/-- Kind code of R417. -/
abbrev NV_WRITE_FAIL : Nat := 0x89
/-- Kind code of R417. -/
abbrev NV_HALF_ERASED : Nat := 0x8A
/-- Kind code of R417. -/
abbrev TW_STUCK : Nat := 0x90
/-- Kind code of R417. -/
abbrev HOST_CRC : Nat := 0x91
/-- Kind code of R417. -/
abbrev CAS_LOSS : Nat := 0x98
/-- Kind code of R417. -/
abbrev CAS_VERSION : Nat := 0x99
/-- Kind code of R417. -/
abbrev ROLLCALL_MISS : Nat := 0x9A
/-- Kind code of R417. -/
abbrev COHERENCE : Nat := 0x9B
/-- Kind code of R417. -/
abbrev OVERFLOW : Nat := 0x01
end K

namespace R
/-- Offset of SYS_IMG_CTRL in its unit window. -/
abbrev SYS_IMG_CTRL : Nat := 0x200
/-- Offset of SYS_IMG_STATUS in its unit window. -/
abbrev SYS_IMG_STATUS : Nat := 0x204
/-- Offset of SYS_IMG_ID in its unit window. -/
abbrev SYS_IMG_ID : Nat := 0x208
/-- Offset of SYS_IMG_SERIAL in its unit window. -/
abbrev SYS_IMG_SERIAL : Nat := 0x20c
/-- Offset of SYS_IMG_VER in its unit window. -/
abbrev SYS_IMG_VER : Nat := 0x210
/-- Offset of SYS_LIVE_ID in its unit window. -/
abbrev SYS_LIVE_ID : Nat := 0x214
/-- Offset of SYS_LIVE_SERIAL in its unit window. -/
abbrev SYS_LIVE_SERIAL : Nat := 0x218
/-- Offset of SYS_DIGEST_LO in its unit window. -/
abbrev SYS_DIGEST_LO : Nat := 0x220
/-- Offset of SYS_DIGEST_HI in its unit window. -/
abbrev SYS_DIGEST_HI : Nat := 0x224
/-- Offset of SYS_DIGEST_STAT in its unit window. -/
abbrev SYS_DIGEST_STAT : Nat := 0x228
/-- Offset of SYS_EPOCH in its unit window. -/
abbrev SYS_EPOCH : Nat := 0x22c
/-- Offset of SYS_REFELT_CTRL in its unit window. -/
abbrev SYS_REFELT_CTRL : Nat := 0x240
/-- Offset of SYS_REFELT_MASK in its unit window. -/
abbrev SYS_REFELT_MASK : Nat := 0x250
/-- Offset of SYS_REFELT_STATUS in its unit window. -/
abbrev SYS_REFELT_STATUS : Nat := 0x268
/-- Offset of SL_CTRL in its unit window. -/
abbrev SL_CTRL : Nat := 0x0
/-- Offset of SL_STATUS in its unit window. -/
abbrev SL_STATUS : Nat := 0x4
/-- Offset of SL_HUB_ID in its unit window. -/
abbrev SL_HUB_ID : Nat := 0x8
/-- Offset of SL_HUB_CAPS in its unit window. -/
abbrev SL_HUB_CAPS : Nat := 0xc
/-- Offset of SL_LAT_MEAS in its unit window. -/
abbrev SL_LAT_MEAS : Nat := 0x10
/-- Offset of SL_LAT_RT in its unit window. -/
abbrev SL_LAT_RT : Nat := 0x14
/-- Offset of SL_LAT_CAL in its unit window. -/
abbrev SL_LAT_CAL : Nat := 0x18
/-- Offset of SL_LAT_TRACK in its unit window. -/
abbrev SL_LAT_TRACK : Nat := 0x1c
/-- Offset of SL_CNT_CRC in its unit window. -/
abbrev SL_CNT_CRC : Nat := 0x20
/-- Offset of SL_CNT_SEQ in its unit window. -/
abbrev SL_CNT_SEQ : Nat := 0x24
/-- Offset of SL_CNT_SAMPLE in its unit window. -/
abbrev SL_CNT_SAMPLE : Nat := 0x28
/-- Offset of SL_CNT_RETX in its unit window. -/
abbrev SL_CNT_RETX : Nat := 0x2c
/-- Offset of SL_CNT_EVENTS in its unit window. -/
abbrev SL_CNT_EVENTS : Nat := 0x30
/-- Offset of SL_MAX_BAD in its unit window. -/
abbrev SL_MAX_BAD : Nat := 0x34
/-- Offset of SL_CNT_DN in its unit window. -/
abbrev SL_CNT_DN : Nat := 0x38
/-- Offset of SL_HUB_ADDR in its unit window. -/
abbrev SL_HUB_ADDR : Nat := 0x40
/-- Offset of SL_HUB_CMD in its unit window. -/
abbrev SL_HUB_CMD : Nat := 0x44
/-- Offset of SL_HUB_STAT in its unit window. -/
abbrev SL_HUB_STAT : Nat := 0x48
/-- Offset of SL_HUB_DATA in its unit window. -/
abbrev SL_HUB_DATA : Nat := 0x60
/-- Offset of SL_TX_EQ in its unit window. -/
abbrev SL_TX_EQ : Nat := 0x80
/-- Offset of PHS_STATUS in its unit window. -/
abbrev PHS_STATUS : Nat := 0x0
/-- Offset of PHS_MEAS_I in its unit window. -/
abbrev PHS_MEAS_I : Nat := 0x4
/-- Offset of PHS_MEAS_V in its unit window. -/
abbrev PHS_MEAS_V : Nat := 0x8
/-- Offset of PHS_ON in its unit window. -/
abbrev PHS_ON : Nat := 0xc
/-- Offset of PHS_TRIM in its unit window. -/
abbrev PHS_TRIM : Nat := 0x10
/-- Offset of PHS_CNT_LIMIT in its unit window. -/
abbrev PHS_CNT_LIMIT : Nat := 0x14
/-- Offset of PHS_CNT_MISS in its unit window. -/
abbrev PHS_CNT_MISS : Nat := 0x18
/-- Offset of PHS_CNT_TRIP in its unit window. -/
abbrev PHS_CNT_TRIP : Nat := 0x1c
/-- Offset of PHS_CNT_SURGE in its unit window. -/
abbrev PHS_CNT_SURGE : Nat := 0x20
/-- Offset of PHS_SYNC_STAT in its unit window. -/
abbrev PHS_SYNC_STAT : Nat := 0x24
/-- Offset of PHS_PWM in its unit window. -/
abbrev PHS_PWM : Nat := 0x100
/-- Offset of PHS_PWM2 in its unit window. -/
abbrev PHS_PWM2 : Nat := 0x104
/-- Offset of PHS_SYNC in its unit window. -/
abbrev PHS_SYNC : Nat := 0x108
/-- Offset of PHS_DUTY_LIM in its unit window. -/
abbrev PHS_DUTY_LIM : Nat := 0x10c
/-- Offset of PHS_KP in its unit window. -/
abbrev PHS_KP : Nat := 0x110
/-- Offset of PHS_KI in its unit window. -/
abbrev PHS_KI : Nat := 0x114
/-- Offset of PHS_XMAX in its unit window. -/
abbrev PHS_XMAX : Nat := 0x118
/-- Offset of PHS_I_RATED in its unit window. -/
abbrev PHS_I_RATED : Nat := 0x11c
/-- Offset of PHS_I_PK in its unit window. -/
abbrev PHS_I_PK : Nat := 0x120
/-- Offset of PHS_I_NEG in its unit window. -/
abbrev PHS_I_NEG : Nat := 0x124
/-- Offset of PHS_V_OV in its unit window. -/
abbrev PHS_V_OV : Nat := 0x128
/-- Offset of PHS_PROT in its unit window. -/
abbrev PHS_PROT : Nat := 0x12c
/-- Offset of PHS_FULL in its unit window. -/
abbrev PHS_FULL : Nat := 0x130
/-- Offset of PHS_TRIM_MAX in its unit window. -/
abbrev PHS_TRIM_MAX : Nat := 0x134
/-- Offset of PHS_LL in its unit window. -/
abbrev PHS_LL : Nat := 0x138
/-- Offset of PHS_BURST in its unit window. -/
abbrev PHS_BURST : Nat := 0x13c
/-- Offset of PHS_SURGE_SLOPE in its unit window. -/
abbrev PHS_SURGE_SLOPE : Nat := 0x140
/-- Offset of PHS_SURGE_MIN in its unit window. -/
abbrev PHS_SURGE_MIN : Nat := 0x148
/-- Offset of PHS_VBUS_FIX in its unit window. -/
abbrev PHS_VBUS_FIX : Nat := 0x14c
/-- Offset of PHS_SURGE in its unit window. -/
abbrev PHS_SURGE : Nat := 0x144
/-- Offset of PHS_ORDER in its unit window. -/
abbrev PHS_ORDER : Nat := 0x150
/-- Offset of PHS_LF_INFO in its unit window. -/
abbrev PHS_LF_INFO : Nat := 0x200
/-- Offset of PHS_LF_SEC in its unit window. -/
abbrev PHS_LF_SEC : Nat := 0x204
/-- Offset of PHS_LF_NS in its unit window. -/
abbrev PHS_LF_NS : Nat := 0x208
/-- Offset of PHS_LF_IREF in its unit window. -/
abbrev PHS_LF_IREF : Nat := 0x20c
/-- Offset of PHS_LF_X in its unit window. -/
abbrev PHS_LF_X : Nat := 0x210
/-- Offset of PHS_LF_TRIM in its unit window. -/
abbrev PHS_LF_TRIM : Nat := 0x214
/-- Offset of PHS_LF_I in its unit window. -/
abbrev PHS_LF_I : Nat := 0x218
/-- Offset of PHS_LF_V in its unit window. -/
abbrev PHS_LF_V : Nat := 0x228
/-- Offset of FELT_CTRL in its unit window. -/
abbrev FELT_CTRL : Nat := 0x0
/-- Offset of FELT_STATUS in its unit window. -/
abbrev FELT_STATUS : Nat := 0x4
/-- Offset of FELT_SRC in its unit window. -/
abbrev FELT_SRC : Nat := 0x8
/-- Offset of FELT_SP_HOST in its unit window. -/
abbrev FELT_SP_HOST : Nat := 0x20
/-- Offset of FELT_SP_ENG in its unit window. -/
abbrev FELT_SP_ENG : Nat := 0x40
/-- Offset of FELT_MEAS_VFB in its unit window. -/
abbrev FELT_MEAS_VFB : Nat := 0x60
/-- Offset of FELT_MEAS_VFORCE in its unit window. -/
abbrev FELT_MEAS_VFORCE : Nat := 0x64
/-- Offset of FELT_MEAS_I in its unit window. -/
abbrev FELT_MEAS_I : Nat := 0x68
/-- Offset of FELT_MEAS_P in its unit window. -/
abbrev FELT_MEAS_P : Nat := 0x6c
/-- Offset of FELT_IREF in its unit window. -/
abbrev FELT_IREF : Nat := 0x70
/-- Offset of FELT_VREF in its unit window. -/
abbrev FELT_VREF : Nat := 0x74
/-- Offset of FELT_ALLOW_SRC in its unit window. -/
abbrev FELT_ALLOW_SRC : Nat := 0x78
/-- Offset of FELT_ALLOW_SNK in its unit window. -/
abbrev FELT_ALLOW_SNK : Nat := 0x7c
/-- Offset of FELT_EVT in its unit window. -/
abbrev FELT_EVT : Nat := 0x80
/-- Offset of FELT_EVT_EN in its unit window. -/
abbrev FELT_EVT_EN : Nat := 0x84
/-- Offset of FELT_RESULT in its unit window. -/
abbrev FELT_RESULT : Nat := 0x88
/-- Offset of FELT_R_LEAD in its unit window. -/
abbrev FELT_R_LEAD : Nat := 0x8c
/-- Offset of FELT_TEST_I in its unit window. -/
abbrev FELT_TEST_I : Nat := 0x90
/-- Offset of FELT_BANK in its unit window. -/
abbrev FELT_BANK : Nat := 0x100
/-- Offset of FELT_LOOP in its unit window. -/
abbrev FELT_LOOP : Nat := 0x180
/-- Offset of FELT_I_RANGE in its unit window. -/
abbrev FELT_I_RANGE : Nat := 0x184
/-- Offset of FELT_V_MAX in its unit window. -/
abbrev FELT_V_MAX : Nat := 0x188
/-- Offset of FELT_I_SRC_MAX in its unit window. -/
abbrev FELT_I_SRC_MAX : Nat := 0x18c
/-- Offset of FELT_I_SNK_MAX in its unit window. -/
abbrev FELT_I_SNK_MAX : Nat := 0x190
/-- Offset of FELT_P_SRC_MAX in its unit window. -/
abbrev FELT_P_SRC_MAX : Nat := 0x194
/-- Offset of FELT_P_SNK_MAX in its unit window. -/
abbrev FELT_P_SNK_MAX : Nat := 0x198
/-- Offset of FELT_CP_VMIN in its unit window. -/
abbrev FELT_CP_VMIN : Nat := 0x19c
/-- Offset of FELT_PG in its unit window. -/
abbrev FELT_PG : Nat := 0x1a0
/-- Offset of FELT_START_SLEW in its unit window. -/
abbrev FELT_START_SLEW : Nat := 0x1a4
/-- Offset of FELT_STOP_SLEW in its unit window. -/
abbrev FELT_STOP_SLEW : Nat := 0x1a8
/-- Offset of FELT_V_OFF in its unit window. -/
abbrev FELT_V_OFF : Nat := 0x1ac
/-- Offset of FELT_STOP in its unit window. -/
abbrev FELT_STOP : Nat := 0x1b0
/-- Offset of FELT_ADMIT in its unit window. -/
abbrev FELT_ADMIT : Nat := 0x1b4
/-- Offset of FELT_ADMIT_WAIT in its unit window. -/
abbrev FELT_ADMIT_WAIT : Nat := 0x1b8
/-- Offset of FELT_I_BRK in its unit window. -/
abbrev FELT_I_BRK : Nat := 0x1bc
/-- Offset of FELT_I_BRK_FAST in its unit window. -/
abbrev FELT_I_BRK_FAST : Nat := 0x1c0
/-- Offset of FELT_BRK in its unit window. -/
abbrev FELT_BRK : Nat := 0x1c4
/-- Offset of FELT_BRK2 in its unit window. -/
abbrev FELT_BRK2 : Nat := 0x1c8
/-- Offset of FELT_SENSE in its unit window. -/
abbrev FELT_SENSE : Nat := 0x1cc
/-- Offset of FELT_R_MIN in its unit window. -/
abbrev FELT_R_MIN : Nat := 0x1d0
/-- Offset of FELT_TRACK in its unit window. -/
abbrev FELT_TRACK : Nat := 0x1d4
/-- Offset of FELT_TRACK_K in its unit window. -/
abbrev FELT_TRACK_K : Nat := 0x1d8
/-- Offset of FELT_TRACK_OFS in its unit window. -/
abbrev FELT_TRACK_OFS : Nat := 0x1dc
/-- Offset of FELT_TRACK_MS in its unit window. -/
abbrev FELT_TRACK_MS : Nat := 0x1e0
/-- Offset of FELT_BATT in its unit window. -/
abbrev FELT_BATT : Nat := 0x1e4
/-- Offset of FELT_I_TERM in its unit window. -/
abbrev FELT_I_TERM : Nat := 0x1e8
/-- Offset of FELT_BLK in its unit window. -/
abbrev FELT_BLK : Nat := 0x400
/-- Offset of TIME_NS in its unit window. -/
abbrev TIME_NS : Nat := 0x0
/-- Offset of TIME_SNAP_SEC in its unit window. -/
abbrev TIME_SNAP_SEC : Nat := 0x4
/-- Offset of TIME_WR_SEC in its unit window. -/
abbrev TIME_WR_SEC : Nat := 0x10
/-- Offset of TIME_WR_NS in its unit window. -/
abbrev TIME_WR_NS : Nat := 0x14
/-- Offset of TIME_APPLY in its unit window. -/
abbrev TIME_APPLY : Nat := 0x18
/-- Offset of TIME_STATUS in its unit window. -/
abbrev TIME_STATUS : Nat := 0x1c
/-- Offset of TIME_REF_CFG in its unit window. -/
abbrev TIME_REF_CFG : Nat := 0x20
/-- Offset of TIME_HOLD in its unit window. -/
abbrev TIME_HOLD : Nat := 0x24
/-- Offset of TIME_FREQ in its unit window. -/
abbrev TIME_FREQ : Nat := 0x28
/-- Offset of TIME_BELL_SEC in its unit window. -/
abbrev TIME_BELL_SEC : Nat := 0x30
/-- Offset of TIME_BELL_NS in its unit window. -/
abbrev TIME_BELL_NS : Nat := 0x34
/-- Offset of TIME_BELL_CTRL in its unit window. -/
abbrev TIME_BELL_CTRL : Nat := 0x38
/-- Offset of TIME_BELL_LEAD in its unit window. -/
abbrev TIME_BELL_LEAD : Nat := 0x3c
/-- Offset of TIME_BELL_TMR_LO in its unit window. -/
abbrev TIME_BELL_TMR_LO : Nat := 0x40
/-- Offset of TIME_BELL_TMR_HI in its unit window. -/
abbrev TIME_BELL_TMR_HI : Nat := 0x44
/-- Offset of TIME_SYNC_OUT in its unit window. -/
abbrev TIME_SYNC_OUT : Nat := 0x50
/-- Offset of TIME_ALIGN_ERR in its unit window. -/
abbrev TIME_ALIGN_ERR : Nat := 0x60
/-- Offset of TIME_CAS_ASYM in its unit window. -/
abbrev TIME_CAS_ASYM : Nat := 0x64
/-- Offset of FELT_WF_BASE in its unit window. -/
abbrev FELT_WF_BASE : Nat := 0x200
/-- Offset of FELT_WF_LEN in its unit window. -/
abbrev FELT_WF_LEN : Nat := 0x204
/-- Offset of FELT_WF_CTRL in its unit window. -/
abbrev FELT_WF_CTRL : Nat := 0x208
/-- Offset of FELT_WF_ADV in its unit window. -/
abbrev FELT_WF_ADV : Nat := 0x20c
/-- Offset of FELT_WF_CFF in its unit window. -/
abbrev FELT_WF_CFF : Nat := 0x210
/-- Offset of FELT_WF_STAT in its unit window. -/
abbrev FELT_WF_STAT : Nat := 0x214
/-- Offset of FELT_WF_LOOP in its unit window. -/
abbrev FELT_WF_LOOP : Nat := 0x218
/-- Offset of FELT_WF_CNT in its unit window. -/
abbrev FELT_WF_CNT : Nat := 0x21c
/-- Offset of FELT_WF_ORG_SEC in its unit window. -/
abbrev FELT_WF_ORG_SEC : Nat := 0x220
/-- Offset of FELT_WF_ORG_NS in its unit window. -/
abbrev FELT_WF_ORG_NS : Nat := 0x224
/-- Offset of FELT_WF_EVT in its unit window. -/
abbrev FELT_WF_EVT : Nat := 0x228
/-- Offset of FELT_WF_EVT_EN in its unit window. -/
abbrev FELT_WF_EVT_EN : Nat := 0x22c
/-- Offset of HSE_CTRL in its unit window. -/
abbrev HSE_CTRL : Nat := 0x0
/-- Offset of HSE_STATUS in its unit window. -/
abbrev HSE_STATUS : Nat := 0x4
/-- Offset of HSE_MEAS_V in its unit window. -/
abbrev HSE_MEAS_V : Nat := 0x8
/-- Offset of HSE_MEAS_I in its unit window. -/
abbrev HSE_MEAS_I : Nat := 0xc
/-- Offset of HSE_CNT in its unit window. -/
abbrev HSE_CNT : Nat := 0x10
/-- Offset of HSE_PWM in its unit window. -/
abbrev HSE_PWM : Nat := 0x40
/-- Offset of HSE_DEAD in its unit window. -/
abbrev HSE_DEAD : Nat := 0x44
/-- Offset of HSE_THR in its unit window. -/
abbrev HSE_THR : Nat := 0x48
/-- Offset of HSE_RAMP in its unit window. -/
abbrev HSE_RAMP : Nat := 0x4c
/-- Offset of HSE_SAMP in its unit window. -/
abbrev HSE_SAMP : Nat := 0x50
/-- Offset of HSE_SCALE_V in its unit window. -/
abbrev HSE_SCALE_V : Nat := 0x54
/-- Offset of HSE_SCALE_I in its unit window. -/
abbrev HSE_SCALE_I : Nat := 0x58
/-- Offset of HSE_VSET in its unit window. -/
abbrev HSE_VSET : Nat := 0x5c
/-- Offset of HSE_KP in its unit window. -/
abbrev HSE_KP : Nat := 0x60
/-- Offset of HSE_KI in its unit window. -/
abbrev HSE_KI : Nat := 0x64
/-- Offset of HSE_SS in its unit window. -/
abbrev HSE_SS : Nat := 0x68
/-- Offset of HSE_PROT in its unit window. -/
abbrev HSE_PROT : Nat := 0x6c
/-- Offset of HSE_ADMIT in its unit window. -/
abbrev HSE_ADMIT : Nat := 0x70
/-- Offset of HSE_ADMIT_WAIT in its unit window. -/
abbrev HSE_ADMIT_WAIT : Nat := 0x74
/-- Offset of HSE_DAC_RB in its unit window. -/
abbrev HSE_DAC_RB : Nat := 0x800
/-- Offset of HSE_DAC_TOL in its unit window. -/
abbrev HSE_DAC_TOL : Nat := 0x804
/-- Offset of BUS_CTRL in its unit window. -/
abbrev BUS_CTRL : Nat := 0x0
/-- Offset of BUS_STATUS in its unit window. -/
abbrev BUS_STATUS : Nat := 0x4
/-- Offset of BUS_MEAS_V in its unit window. -/
abbrev BUS_MEAS_V : Nat := 0x8
/-- Offset of BUS_P_REQ in its unit window. -/
abbrev BUS_P_REQ : Nat := 0xc
/-- Offset of BUS_P_IN in its unit window. -/
abbrev BUS_P_IN : Nat := 0x10
/-- Offset of BUS_P_SHELF in its unit window. -/
abbrev BUS_P_SHELF : Nat := 0x14
/-- Offset of BUS_P_DUMP in its unit window. -/
abbrev BUS_P_DUMP : Nat := 0x18
/-- Offset of BUS_P_INPUT in its unit window. -/
abbrev BUS_P_INPUT : Nat := 0x1c
/-- Offset of BUS_ROOM_SNK in its unit window. -/
abbrev BUS_ROOM_SNK : Nat := 0x20
/-- Offset of BUS_ROOM_SRC in its unit window. -/
abbrev BUS_ROOM_SRC : Nat := 0x24
/-- Offset of BUS_CFG in its unit window. -/
abbrev BUS_CFG : Nat := 0x100
/-- Offset of BUS_V_SET in its unit window. -/
abbrev BUS_V_SET : Nat := 0x104
/-- Offset of BUS_V_HI in its unit window. -/
abbrev BUS_V_HI : Nat := 0x108
/-- Offset of BUS_V_LO in its unit window. -/
abbrev BUS_V_LO : Nat := 0x10c
/-- Offset of BUS_V_OV in its unit window. -/
abbrev BUS_V_OV : Nat := 0x110
/-- Offset of BUS_V_SHED in its unit window. -/
abbrev BUS_V_SHED : Nat := 0x114
/-- Offset of BUS_V_HOLD_END in its unit window. -/
abbrev BUS_V_HOLD_END : Nat := 0x118
/-- Offset of BUS_V_UV in its unit window. -/
abbrev BUS_V_UV : Nat := 0x11c
/-- Offset of BUS_SENSE_TOL in its unit window. -/
abbrev BUS_SENSE_TOL : Nat := 0x124
/-- Offset of BUS_SHED in its unit window. -/
abbrev BUS_SHED : Nat := 0x15c
/-- Offset of BUS_SHED_PRIO in its unit window. -/
abbrev BUS_SHED_PRIO : Nat := 0x160
/-- Offset of BUS_ADM_CAP in its unit window. -/
abbrev BUS_ADM_CAP : Nat := 0x190
/-- Offset of BUS_ADM_RATE in its unit window. -/
abbrev BUS_ADM_RATE : Nat := 0x194
/-- Offset of BUS_HS_UV_RISE in its unit window. -/
abbrev BUS_HS_UV_RISE : Nat := 0x1a0
/-- Offset of BUS_HS_UV_FALL in its unit window. -/
abbrev BUS_HS_UV_FALL : Nat := 0x1a4
/-- Offset of BUS_HS_OV_RISE in its unit window. -/
abbrev BUS_HS_OV_RISE : Nat := 0x1a8
/-- Offset of BUS_HS_OV_FALL in its unit window. -/
abbrev BUS_HS_OV_FALL : Nat := 0x1ac
/-- Offset of BUS_HS_PG_DROP in its unit window. -/
abbrev BUS_HS_PG_DROP : Nat := 0x1b0
/-- Offset of BUS_HS_SCALE in its unit window. -/
abbrev BUS_HS_SCALE : Nat := 0x1b4
/-- Offset of BUS_HS_TIME in its unit window. -/
abbrev BUS_HS_TIME : Nat := 0x1b8
/-- Offset of BUS_HS_LIM in its unit window. -/
abbrev BUS_HS_LIM : Nat := 0x1bc
/-- Offset of BUS_HS_FLT in its unit window. -/
abbrev BUS_HS_FLT : Nat := 0x1c0
/-- Offset of BUS_HS_ADMIT in its unit window. -/
abbrev BUS_HS_ADMIT : Nat := 0x1c4
/-- Offset of BUS_HS_WAIT in its unit window. -/
abbrev BUS_HS_WAIT : Nat := 0x1c8
/-- Offset of BUS_HS_RSNS in its unit window. -/
abbrev BUS_HS_RSNS : Nat := 0x1cc
/-- Offset of BUS_ADM_LEVEL in its unit window. -/
abbrev BUS_ADM_LEVEL : Nat := 0x200
/-- Offset of BUS_ADM_STAT in its unit window. -/
abbrev BUS_ADM_STAT : Nat := 0x204
/-- Offset of BUS_HS_CTRL in its unit window. -/
abbrev BUS_HS_CTRL : Nat := 0x300
/-- Offset of BUS_HS_STATUS in its unit window. -/
abbrev BUS_HS_STATUS : Nat := 0x304
/-- Offset of BUS_HS_MEAS_VIN in its unit window. -/
abbrev BUS_HS_MEAS_VIN : Nat := 0x308
/-- Offset of BUS_HS_MEAS_I in its unit window. -/
abbrev BUS_HS_MEAS_I : Nat := 0x30c
/-- Offset of PD_CTRL in its unit window. -/
abbrev PD_CTRL : Nat := 0x0
/-- Offset of PD_STATUS in its unit window. -/
abbrev PD_STATUS : Nat := 0x4
/-- Offset of PD_CONTRACT in its unit window. -/
abbrev PD_CONTRACT : Nat := 0x8
/-- Offset of PD_CABLE in its unit window. -/
abbrev PD_CABLE : Nat := 0xc
/-- Offset of PD_EVT in its unit window. -/
abbrev PD_EVT : Nat := 0x10
/-- Offset of PD_EVT_EN in its unit window. -/
abbrev PD_EVT_EN : Nat := 0x14
/-- Offset of PD_ADM_REQ in its unit window. -/
abbrev PD_ADM_REQ : Nat := 0x18
/-- Offset of PD_ADM_STAT in its unit window. -/
abbrev PD_ADM_STAT : Nat := 0x1c
/-- Offset of PD_TX_CTRL in its unit window. -/
abbrev PD_TX_CTRL : Nat := 0x20
/-- Offset of PD_TX_STAT in its unit window. -/
abbrev PD_TX_STAT : Nat := 0x24
/-- Offset of PD_RX_STAT in its unit window. -/
abbrev PD_RX_STAT : Nat := 0x28
/-- Offset of PD_CNT in its unit window. -/
abbrev PD_CNT : Nat := 0x2c
/-- Offset of PD_CFG in its unit window. -/
abbrev PD_CFG : Nat := 0x40
/-- Offset of PD_LIM in its unit window. -/
abbrev PD_LIM : Nat := 0x44
/-- Offset of PD_GUARD in its unit window. -/
abbrev PD_GUARD : Nat := 0x48
/-- Offset of PD_GUARD2 in its unit window. -/
abbrev PD_GUARD2 : Nat := 0x4c
/-- Offset of PD_ADMIT in its unit window. -/
abbrev PD_ADMIT : Nat := 0x50
/-- Offset of PD_ADMIT_WAIT in its unit window. -/
abbrev PD_ADMIT_WAIT : Nat := 0x54
/-- Offset of PD_SINK in its unit window. -/
abbrev PD_SINK : Nat := 0x58
/-- Offset of PD_TIM in its unit window. -/
abbrev PD_TIM : Nat := 0x5c
/-- Offset of PD_TX_BUF in its unit window. -/
abbrev PD_TX_BUF : Nat := 0x100
/-- Offset of PD_RX_BUF in its unit window. -/
abbrev PD_RX_BUF : Nat := 0x300
/-- Offset of SVC_STATUS in its unit window. -/
abbrev SVC_STATUS : Nat := 0x0
/-- Offset of SVC_VDM in its unit window. -/
abbrev SVC_VDM : Nat := 0x10
/-- Offset of SVC_LAST in its unit window. -/
abbrev SVC_LAST : Nat := 0x14
/-- Offset of GAU_CTRL in its unit window. -/
abbrev GAU_CTRL : Nat := 0x0
/-- Offset of GAU_STATUS in its unit window. -/
abbrev GAU_STATUS : Nat := 0x4
/-- Offset of GAU_SOC_REP in its unit window. -/
abbrev GAU_SOC_REP : Nat := 0x8
/-- Offset of GAU_SOC_EST in its unit window. -/
abbrev GAU_SOC_EST : Nat := 0xc
/-- Offset of GAU_SOC_REST in its unit window. -/
abbrev GAU_SOC_REST : Nat := 0x10
/-- Offset of GAU_I in its unit window. -/
abbrev GAU_I : Nat := 0x14
/-- Offset of GAU_V in its unit window. -/
abbrev GAU_V : Nat := 0x18
/-- Offset of GAU_T in its unit window. -/
abbrev GAU_T : Nat := 0x1c
/-- Offset of GAU_Q_MAX in its unit window. -/
abbrev GAU_Q_MAX : Nat := 0x20
/-- Offset of GAU_Q_PASS_LO in its unit window. -/
abbrev GAU_Q_PASS_LO : Nat := 0x24
/-- Offset of GAU_Q_PASS_HI in its unit window. -/
abbrev GAU_Q_PASS_HI : Nat := 0x28
/-- Offset of GAU_CYCLES in its unit window. -/
abbrev GAU_CYCLES : Nat := 0x2c
/-- Offset of GAU_LEARN_INFO in its unit window. -/
abbrev GAU_LEARN_INFO : Nat := 0x30
/-- Offset of GAU_CNT in its unit window. -/
abbrev GAU_CNT : Nat := 0x34
/-- Offset of GAU_EVT in its unit window. -/
abbrev GAU_EVT : Nat := 0x38
/-- Offset of GAU_EVT_EN in its unit window. -/
abbrev GAU_EVT_EN : Nat := 0x3c
/-- Offset of GAU_CELL in its unit window. -/
abbrev GAU_CELL : Nat := 0x40
/-- Offset of GAU_TAP_STAT in its unit window. -/
abbrev GAU_TAP_STAT : Nat := 0x60
/-- Offset of GAU_T_EXT in its unit window. -/
abbrev GAU_T_EXT : Nat := 0x64
/-- Offset of GAU_CFG in its unit window. -/
abbrev GAU_CFG : Nat := 0x80
/-- Offset of GAU_OCV_BASE in its unit window. -/
abbrev GAU_OCV_BASE : Nat := 0x84
/-- Offset of GAU_Q_DESIGN in its unit window. -/
abbrev GAU_Q_DESIGN : Nat := 0x88
/-- Offset of GAU_REST_I in its unit window. -/
abbrev GAU_REST_I : Nat := 0x90
/-- Offset of GAU_LOW_I in its unit window. -/
abbrev GAU_LOW_I : Nat := 0x98
/-- Offset of GAU_DEADBAND in its unit window. -/
abbrev GAU_DEADBAND : Nat := 0x9c
/-- Offset of GAU_FALLBACK_I in its unit window. -/
abbrev GAU_FALLBACK_I : Nat := 0xa4
/-- Offset of GAU_REST in its unit window. -/
abbrev GAU_REST : Nat := 0x8c
/-- Offset of GAU_LOW in its unit window. -/
abbrev GAU_LOW : Nat := 0x94
/-- Offset of GAU_LEARN in its unit window. -/
abbrev GAU_LEARN : Nat := 0xa0
/-- Offset of GAU_LEARN2 in its unit window. -/
abbrev GAU_LEARN2 : Nat := 0xc4
/-- Offset of GAU_WARN_PCT in its unit window. -/
abbrev GAU_WARN_PCT : Nat := 0xa8
/-- Offset of GAU_WARN_T in its unit window. -/
abbrev GAU_WARN_T : Nat := 0xac
/-- Offset of GAU_EDV_W in its unit window. -/
abbrev GAU_EDV_W : Nat := 0xb0
/-- Offset of GAU_EDV_F in its unit window. -/
abbrev GAU_EDV_F : Nat := 0xb4
/-- Offset of GAU_ECV_W in its unit window. -/
abbrev GAU_ECV_W : Nat := 0xb8
/-- Offset of GAU_ECV_F in its unit window. -/
abbrev GAU_ECV_F : Nat := 0xbc
/-- Offset of GAU_T_A in its unit window. -/
abbrev GAU_T_A : Nat := 0xc8
/-- Offset of GAU_T_B in its unit window. -/
abbrev GAU_T_B : Nat := 0xcc
/-- Offset of GAU_I_A in its unit window. -/
abbrev GAU_I_A : Nat := 0xd0
/-- Offset of GAU_I_B in its unit window. -/
abbrev GAU_I_B : Nat := 0xd4
/-- Offset of GAU_TEMP in its unit window. -/
abbrev GAU_TEMP : Nat := 0xc0
/-- Offset of GAU_TAP_CFG in its unit window. -/
abbrev GAU_TAP_CFG : Nat := 0xd8
/-- Offset of GAU_CELL_LIM in its unit window. -/
abbrev GAU_CELL_LIM : Nat := 0xdc
/-- Offset of GAU_TAP_SCALE in its unit window. -/
abbrev GAU_TAP_SCALE : Nat := 0xe0
/-- Offset of ENG_CTRL in its unit window. -/
abbrev ENG_CTRL : Nat := 0x0
/-- Offset of ENG_STATUS in its unit window. -/
abbrev ENG_STATUS : Nat := 0x4
/-- Offset of ENG_ENTRY in its unit window. -/
abbrev ENG_ENTRY : Nat := 0x8
/-- Offset of ENG_CFG in its unit window. -/
abbrev ENG_CFG : Nat := 0xc
/-- Offset of ENG_FSTAT in its unit window. -/
abbrev ENG_FSTAT : Nat := 0x10
/-- Offset of ENG_APER in its unit window. -/
abbrev ENG_APER : Nat := 0x14
/-- Offset of ENG_SWTRIG in its unit window. -/
abbrev ENG_SWTRIG : Nat := 0x18
/-- Offset of ENG_TASK0_CFG in its unit window. -/
abbrev ENG_TASK0_CFG : Nat := 0x40
/-- Offset of ENG_TASK_CFG in its unit window. -/
abbrev ENG_TASK_CFG : Nat := 0x50
/-- Offset of ENG_TASK_SP in its unit window. -/
abbrev ENG_TASK_SP : Nat := 0x44
/-- Offset of ENG_TASK_SL in its unit window. -/
abbrev ENG_TASK_SL : Nat := 0x48
/-- Offset of ENG_TASK_STAT in its unit window. -/
abbrev ENG_TASK_STAT : Nat := 0x4c
/-- Offset of ENG_MPU_BASE in its unit window. -/
abbrev ENG_MPU_BASE : Nat := 0x100
/-- Offset of ENG_MPU_LIM in its unit window. -/
abbrev ENG_MPU_LIM : Nat := 0x104
/-- Offset of ENG_MPU_ATTR in its unit window. -/
abbrev ENG_MPU_ATTR : Nat := 0x108
/-- Offset of ENG_MPU_CTRL in its unit window. -/
abbrev ENG_MPU_CTRL : Nat := 0x180
/-- Offset of ENG_MBX_IN in its unit window. -/
abbrev ENG_MBX_IN : Nat := 0x1c0
/-- Offset of ENG_MBX_OUT in its unit window. -/
abbrev ENG_MBX_OUT : Nat := 0x1c4
/-- Offset of ENG_MBX_STAT in its unit window. -/
abbrev ENG_MBX_STAT : Nat := 0x1e0
/-- Offset of DMA_CTRL in its unit window. -/
abbrev DMA_CTRL : Nat := 0x0
/-- Offset of DMA_STATUS in its unit window. -/
abbrev DMA_STATUS : Nat := 0x4
/-- Offset of DMA_DESC in its unit window. -/
abbrev DMA_DESC : Nat := 0x8
/-- Offset of DMA_CUR in its unit window. -/
abbrev DMA_CUR : Nat := 0xc
/-- Offset of DMA_REMAIN in its unit window. -/
abbrev DMA_REMAIN : Nat := 0x10
/-- Offset of DMA_FADDR in its unit window. -/
abbrev DMA_FADDR : Nat := 0x14
/-- Offset of DMA_TRIG in its unit window. -/
abbrev DMA_TRIG : Nat := 0x18
/-- Offset of DMA_TAG in its unit window. -/
abbrev DMA_TAG : Nat := 0x1c
/-- Offset of CAP_CTRL in its unit window. -/
abbrev CAP_CTRL : Nat := 0x0
/-- Offset of CAP_SRC in its unit window. -/
abbrev CAP_SRC : Nat := 0x4
/-- Offset of CAP_DEC in its unit window. -/
abbrev CAP_DEC : Nat := 0x8
/-- Offset of CAP_REC in its unit window. -/
abbrev CAP_REC : Nat := 0xc
/-- Offset of CAP_RING_BASE in its unit window. -/
abbrev CAP_RING_BASE : Nat := 0x10
/-- Offset of CAP_RING_SIZE in its unit window. -/
abbrev CAP_RING_SIZE : Nat := 0x14
/-- Offset of CAP_WR in its unit window. -/
abbrev CAP_WR : Nat := 0x18
/-- Offset of CAP_RD in its unit window. -/
abbrev CAP_RD : Nat := 0x1c
/-- Offset of CAP_WM in its unit window. -/
abbrev CAP_WM : Nat := 0x20
/-- Offset of CAP_SEQ in its unit window. -/
abbrev CAP_SEQ : Nat := 0x24
/-- Offset of CAP_DROP in its unit window. -/
abbrev CAP_DROP : Nat := 0x28
/-- Offset of CAP_STATUS in its unit window. -/
abbrev CAP_STATUS : Nat := 0x2c
/-- Offset of TMR_CTRL in its unit window. -/
abbrev TMR_CTRL : Nat := 0x0
/-- Offset of TMR_STATUS in its unit window. -/
abbrev TMR_STATUS : Nat := 0x4
/-- Offset of TMR_CFG in its unit window. -/
abbrev TMR_CFG : Nat := 0x8
/-- Offset of TMR_DIV in its unit window. -/
abbrev TMR_DIV : Nat := 0xc
/-- Offset of TMR_RELOAD in its unit window. -/
abbrev TMR_RELOAD : Nat := 0x10
/-- Offset of TMR_COUNT in its unit window. -/
abbrev TMR_COUNT : Nat := 0x14
/-- Offset of TMR_CMP in its unit window. -/
abbrev TMR_CMP : Nat := 0x18
/-- Offset of TMR_INTERVAL in its unit window. -/
abbrev TMR_INTERVAL : Nat := 0x1c
/-- Offset of TMR_CAP_R in its unit window. -/
abbrev TMR_CAP_R : Nat := 0x20
/-- Offset of TMR_CAP_F in its unit window. -/
abbrev TMR_CAP_F : Nat := 0x24
/-- Offset of TMR_WIDTH in its unit window. -/
abbrev TMR_WIDTH : Nat := 0x28
/-- Offset of TMR_CNT in its unit window. -/
abbrev TMR_CNT : Nat := 0x2c
/-- Offset of TMR_EVT_EN in its unit window. -/
abbrev TMR_EVT_EN : Nat := 0x30
/-- Offset of EVT_TIN_SEL in its unit window. -/
abbrev EVT_TIN_SEL : Nat := 0x0
/-- Offset of EVT_TIN_SEL2 in its unit window. -/
abbrev EVT_TIN_SEL2 : Nat := 0x4
/-- Offset of EVT_TIN_CFG in its unit window. -/
abbrev EVT_TIN_CFG : Nat := 0x8
/-- Offset of EVT_TIN_CNT in its unit window. -/
abbrev EVT_TIN_CNT : Nat := 0xc
/-- Offset of EVT_GATE in its unit window. -/
abbrev EVT_GATE : Nat := 0x1000
/-- Offset of EVT_TSTART_LO in its unit window. -/
abbrev EVT_TSTART_LO : Nat := 0x1100
/-- Offset of EVT_TSTART_HI in its unit window. -/
abbrev EVT_TSTART_HI : Nat := 0x1104
/-- Offset of EVT_TSTOP_LO in its unit window. -/
abbrev EVT_TSTOP_LO : Nat := 0x1108
/-- Offset of EVT_TSTOP_HI in its unit window. -/
abbrev EVT_TSTOP_HI : Nat := 0x110c
/-- Offset of SUP_STATUS in its unit window. -/
abbrev SUP_STATUS : Nat := 0x0
/-- Offset of SUP_EVT in its unit window. -/
abbrev SUP_EVT : Nat := 0x4
/-- Offset of SUP_SCAN_STAT in its unit window. -/
abbrev SUP_SCAN_STAT : Nat := 0x10
/-- Offset of SUP_DIE_T in its unit window. -/
abbrev SUP_DIE_T : Nat := 0x14
/-- Offset of SUP_DIE_LIM in its unit window. -/
abbrev SUP_DIE_LIM : Nat := 0x18
/-- Offset of SUP_MON in its unit window. -/
abbrev SUP_MON : Nat := 0x100
/-- Offset of SUP_INT in its unit window. -/
abbrev SUP_INT : Nat := 0x180
/-- Offset of SUP_WIN in its unit window. -/
abbrev SUP_WIN : Nat := 0x300
/-- Offset of SUP_WIN2 in its unit window. -/
abbrev SUP_WIN2 : Nat := 0x304
/-- Offset of SUP_WIN_STAT in its unit window. -/
abbrev SUP_WIN_STAT : Nat := 0x2f0
/-- Offset of SUP_WIN_ERR in its unit window. -/
abbrev SUP_WIN_ERR : Nat := 0x2f4
/-- Offset of SUP_WIN_CNT in its unit window. -/
abbrev SUP_WIN_CNT : Nat := 0x2a0
/-- Offset of SUP_ILK_CFG in its unit window. -/
abbrev SUP_ILK_CFG : Nat := 0x400
/-- Offset of SUP_ILK_FELT0 in its unit window. -/
abbrev SUP_ILK_FELT0 : Nat := 0x404
/-- Offset of SUP_ILK_FELT1 in its unit window. -/
abbrev SUP_ILK_FELT1 : Nat := 0x408
/-- Offset of SUP_ILK_FELT2 in its unit window. -/
abbrev SUP_ILK_FELT2 : Nat := 0x40c
/-- Offset of SUP_ILK_STAT in its unit window. -/
abbrev SUP_ILK_STAT : Nat := 0x480
/-- Offset of SUP_ILK_CTRL in its unit window. -/
abbrev SUP_ILK_CTRL : Nat := 0x484
/-- Offset of SUP_PB_CFG in its unit window. -/
abbrev SUP_PB_CFG : Nat := 0x500
/-- Offset of SUP_PB_STAT in its unit window. -/
abbrev SUP_PB_STAT : Nat := 0x504
/-- Offset of SUP_TT_CFG in its unit window. -/
abbrev SUP_TT_CFG : Nat := 0x600
/-- Offset of SUP_TT_CTRL in its unit window. -/
abbrev SUP_TT_CTRL : Nat := 0x604
/-- Offset of SUP_TT_STAT in its unit window. -/
abbrev SUP_TT_STAT : Nat := 0x608
/-- Offset of SUP_TTE_A in its unit window. -/
abbrev SUP_TTE_A : Nat := 0x800
/-- Offset of SUP_TTE_B in its unit window. -/
abbrev SUP_TTE_B : Nat := 0x804
/-- Offset of SUP_TTE_C in its unit window. -/
abbrev SUP_TTE_C : Nat := 0x808
/-- Offset of SUP_TTE_D in its unit window. -/
abbrev SUP_TTE_D : Nat := 0x80c
/-- Offset of FC_CTRL in its unit window. -/
abbrev FC_CTRL : Nat := 0x0
/-- Offset of FC_STATUS in its unit window. -/
abbrev FC_STATUS : Nat := 0x4
/-- Offset of FC_INT_STATUS in its unit window. -/
abbrev FC_INT_STATUS : Nat := 0x8
/-- Offset of FC_INT_EN in its unit window. -/
abbrev FC_INT_EN : Nat := 0xc
/-- Offset of FC_Q_MSG_LO in its unit window. -/
abbrev FC_Q_MSG_LO : Nat := 0x10
/-- Offset of FC_Q_MSG_HI in its unit window. -/
abbrev FC_Q_MSG_HI : Nat := 0x14
/-- Offset of FC_Q_TS_LO in its unit window. -/
abbrev FC_Q_TS_LO : Nat := 0x18
/-- Offset of FC_Q_TS_HI in its unit window. -/
abbrev FC_Q_TS_HI : Nat := 0x1c
/-- Offset of FC_Q_POP in its unit window. -/
abbrev FC_Q_POP : Nat := 0x20
/-- Offset of FC_CNT in its unit window. -/
abbrev FC_CNT : Nat := 0x24
/-- Offset of FC_RECOV_STAT in its unit window. -/
abbrev FC_RECOV_STAT : Nat := 0x28
/-- Offset of FC_INJ_LO in its unit window. -/
abbrev FC_INJ_LO : Nat := 0x30
/-- Offset of FC_INJ_HI in its unit window. -/
abbrev FC_INJ_HI : Nat := 0x34
/-- Offset of FC_CFG in its unit window. -/
abbrev FC_CFG : Nat := 0x100
/-- Offset of FC_RECESS in its unit window. -/
abbrev FC_RECESS : Nat := 0x104
/-- Offset of FC_RECOV in its unit window. -/
abbrev FC_RECOV : Nat := 0x108
/-- Offset of FC_FGRP in its unit window. -/
abbrev FC_FGRP : Nat := 0x110
/-- Offset of FC_REACT in its unit window. -/
abbrev FC_REACT : Nat := 0x400
/-- Offset of NV_CTRL in its unit window. -/
abbrev NV_CTRL : Nat := 0x0
/-- Offset of NV_STATUS in its unit window. -/
abbrev NV_STATUS : Nat := 0x4
/-- Offset of NV_SLATE_SEQ in its unit window. -/
abbrev NV_SLATE_SEQ : Nat := 0x8
/-- Offset of NV_CFG in its unit window. -/
abbrev NV_CFG : Nat := 0xc
/-- Offset of NV_ERASE in its unit window. -/
abbrev NV_ERASE : Nat := 0x10
/-- Offset of NV_REC_ADDR in its unit window. -/
abbrev NV_REC_ADDR : Nat := 0x20
/-- Offset of NV_REC_SRC in its unit window. -/
abbrev NV_REC_SRC : Nat := 0x24
/-- Offset of NV_REC_LEN in its unit window. -/
abbrev NV_REC_LEN : Nat := 0x28
/-- Offset of NV_REC_CTRL in its unit window. -/
abbrev NV_REC_CTRL : Nat := 0x2c
/-- Offset of NV_CARD_SEQ in its unit window. -/
abbrev NV_CARD_SEQ : Nat := 0x30
/-- Offset of NV_CARD_STAT in its unit window. -/
abbrev NV_CARD_STAT : Nat := 0x34
/-- Offset of NV_CARD_RD in its unit window. -/
abbrev NV_CARD_RD : Nat := 0x38
/-- Offset of NV_CARD_USER in its unit window. -/
abbrev NV_CARD_USER : Nat := 0x40
/-- Offset of NV_SECHDR in its unit window. -/
abbrev NV_SECHDR : Nat := 0x100
/-- Offset of NV_CNT in its unit window. -/
abbrev NV_CNT : Nat := 0x200
/-- Offset of NV_CNT_INC in its unit window. -/
abbrev NV_CNT_INC : Nat := 0x240
/-- Offset of NV_CNT_CLR in its unit window. -/
abbrev NV_CNT_CLR : Nat := 0x244
/-- Offset of NV_PROT in its unit window. -/
abbrev NV_PROT : Nat := 0x300
/-- Offset of NV_MAP in its unit window. -/
abbrev NV_MAP : Nat := 0x304
/-- Offset of HP_PASS0 in its unit window. -/
abbrev HP_PASS0 : Nat := 0x0
/-- Offset of HP_PASS1 in its unit window. -/
abbrev HP_PASS1 : Nat := 0x80
/-- Offset of HP_PASS2 in its unit window. -/
abbrev HP_PASS2 : Nat := 0x100
/-- Offset of HP_PASS3 in its unit window. -/
abbrev HP_PASS3 : Nat := 0x180
/-- Offset of HP_PASS4 in its unit window. -/
abbrev HP_PASS4 : Nat := 0x200
/-- Offset of HP_PASS5 in its unit window. -/
abbrev HP_PASS5 : Nat := 0x280
/-- Offset of HP_PASS6 in its unit window. -/
abbrev HP_PASS6 : Nat := 0x300
/-- Offset of HP_PASS7 in its unit window. -/
abbrev HP_PASS7 : Nat := 0x380
/-- Offset of HP_PASS8 in its unit window. -/
abbrev HP_PASS8 : Nat := 0x400
/-- Offset of HP_PASS9 in its unit window. -/
abbrev HP_PASS9 : Nat := 0x480
/-- Offset of HP_PASS10 in its unit window. -/
abbrev HP_PASS10 : Nat := 0x500
/-- Offset of HP_PASS11 in its unit window. -/
abbrev HP_PASS11 : Nat := 0x580
/-- Offset of HP_PASS12 in its unit window. -/
abbrev HP_PASS12 : Nat := 0x600
/-- Offset of HP_PASS13 in its unit window. -/
abbrev HP_PASS13 : Nat := 0x680
/-- Offset of HP_PASS14 in its unit window. -/
abbrev HP_PASS14 : Nat := 0x700
/-- Offset of HP_PASS15 in its unit window. -/
abbrev HP_PASS15 : Nat := 0x780
/-- Offset of HP_GRP in its unit window. -/
abbrev HP_GRP : Nat := 0x800
/-- Offset of HP_NOTIFY in its unit window. -/
abbrev HP_NOTIFY : Nat := 0x840
/-- Offset of HOST_SPI_STAT in its unit window. -/
abbrev HOST_SPI_STAT : Nat := 0x0
/-- Offset of HOST_TW_STAT in its unit window. -/
abbrev HOST_TW_STAT : Nat := 0x10
/-- Offset of HOST_TW_CTRL in its unit window. -/
abbrev HOST_TW_CTRL : Nat := 0x14
/-- Offset of CAS_CTRL in its unit window. -/
abbrev CAS_CTRL : Nat := 0x0
/-- Offset of CAS_STATUS in its unit window. -/
abbrev CAS_STATUS : Nat := 0x4
/-- Offset of CAS_LANE01 in its unit window. -/
abbrev CAS_LANE01 : Nat := 0x10
/-- Offset of CAS_LANE23 in its unit window. -/
abbrev CAS_LANE23 : Nat := 0x18
/-- Offset of CAS_CNT in its unit window. -/
abbrev CAS_CNT : Nat := 0x20
/-- Offset of CAS_CFG in its unit window. -/
abbrev CAS_CFG : Nat := 0x100
/-- Offset of CAS_CROWN_LO in its unit window. -/
abbrev CAS_CROWN_LO : Nat := 0x104
/-- Offset of CAS_CROWN_HI in its unit window. -/
abbrev CAS_CROWN_HI : Nat := 0x108
/-- Offset of CAS_RMT_POS in its unit window. -/
abbrev CAS_RMT_POS : Nat := 0x200
/-- Offset of CAS_RMT_ADDR in its unit window. -/
abbrev CAS_RMT_ADDR : Nat := 0x204
/-- Offset of CAS_RMT_DATA in its unit window. -/
abbrev CAS_RMT_DATA : Nat := 0x208
/-- Offset of CAS_RMT_STAT in its unit window. -/
abbrev CAS_RMT_STAT : Nat := 0x20c
/-- Offset of CAS_ROLL_STAT in its unit window. -/
abbrev CAS_ROLL_STAT : Nat := 0x300
/-- Offset of CAS_EXP_STAT in its unit window. -/
abbrev CAS_EXP_STAT : Nat := 0x400
/-- Offset of SYS_ID in its unit window. -/
abbrev SYS_ID : Nat := 0x0
/-- Offset of SYS_LOT_LO in its unit window. -/
abbrev SYS_LOT_LO : Nat := 0x4
/-- Offset of SYS_LOT_HI in its unit window. -/
abbrev SYS_LOT_HI : Nat := 0x8
/-- Offset of SYS_DIE in its unit window. -/
abbrev SYS_DIE : Nat := 0xc
/-- Offset of SYS_SERIAL_LO in its unit window. -/
abbrev SYS_SERIAL_LO : Nat := 0x10
/-- Offset of SYS_SERIAL_HI in its unit window. -/
abbrev SYS_SERIAL_HI : Nat := 0x14
/-- Offset of SYS_FSIG_LO in its unit window. -/
abbrev SYS_FSIG_LO : Nat := 0x18
/-- Offset of SYS_FSIG_HI in its unit window. -/
abbrev SYS_FSIG_HI : Nat := 0x1c
/-- Offset of SYS_FUSE in its unit window. -/
abbrev SYS_FUSE : Nat := 0x20
/-- Offset of SYS_KEYHASH in its unit window. -/
abbrev SYS_KEYHASH : Nat := 0x40
/-- Offset of SYS_RST_CAUSE in its unit window. -/
abbrev SYS_RST_CAUSE : Nat := 0xc0
/-- Offset of SYS_RST_CTRL in its unit window. -/
abbrev SYS_RST_CTRL : Nat := 0xc4
/-- Offset of SYS_PWR in its unit window. -/
abbrev SYS_PWR : Nat := 0xc8
/-- Offset of SYS_CLK_STAT in its unit window. -/
abbrev SYS_CLK_STAT : Nat := 0xcc
/-- Offset of BUS_K in its unit window. -/
abbrev BUS_K : Nat := 0x128
/-- Offset of BUS_IN_SLEW in its unit window. -/
abbrev BUS_IN_SLEW : Nat := 0x12c
/-- Offset of BUS_P_PREF in its unit window. -/
abbrev BUS_P_PREF : Nat := 0x130
/-- Offset of BUS_SOC_TGT in its unit window. -/
abbrev BUS_SOC_TGT : Nat := 0x134
/-- Offset of BUS_CAP_P in its unit window. -/
abbrev BUS_CAP_P : Nat := 0x138
/-- Offset of BUS_CAP_I in its unit window. -/
abbrev BUS_CAP_I : Nat := 0x13c
/-- Offset of BUS_IN_PMAX in its unit window. -/
abbrev BUS_IN_PMAX : Nat := 0x140
/-- Offset of BUS_SHELF_CHG in its unit window. -/
abbrev BUS_SHELF_CHG : Nat := 0x144
/-- Offset of BUS_SHELF_DIS in its unit window. -/
abbrev BUS_SHELF_DIS : Nat := 0x148
/-- Offset of BUS_DUMP_PMAX in its unit window. -/
abbrev BUS_DUMP_PMAX : Nat := 0x14c
/-- Offset of BUS_R_DUMP in its unit window. -/
abbrev BUS_R_DUMP : Nat := 0x150
/-- Offset of BUS_DUMP_E in its unit window. -/
abbrev BUS_DUMP_E : Nat := 0x154
/-- Offset of BUS_DUMP_PAVG in its unit window. -/
abbrev BUS_DUMP_PAVG : Nat := 0x158
/-- Offset of BUS_START_SLEW in its unit window. -/
abbrev BUS_START_SLEW : Nat := 0x198
/-- Offset of SYS_CST_W0 in its unit window. -/
abbrev SYS_CST_W0 : Nat := 0x4000
/-- Offset of SYS_CST_W1 in its unit window. -/
abbrev SYS_CST_W1 : Nat := 0x4004
/-- Offset of SYS_CST_W2 in its unit window. -/
abbrev SYS_CST_W2 : Nat := 0x4008
/-- Offset of SYS_CST_W3 in its unit window. -/
abbrev SYS_CST_W3 : Nat := 0x400c
/-- Offset of SYS_CST_W4 in its unit window. -/
abbrev SYS_CST_W4 : Nat := 0x4010
/-- Offset of SYS_CST_W5 in its unit window. -/
abbrev SYS_CST_W5 : Nat := 0x4014
/-- Offset of SYS_CST_W6 in its unit window. -/
abbrev SYS_CST_W6 : Nat := 0x4018
/-- Offset of SYS_CST_W7 in its unit window. -/
abbrev SYS_CST_W7 : Nat := 0x401c
end R

namespace F
/-- SYS_IMG_CTRL.LOCK, W1S. -/
abbrev SYS_IMG_CTRL_LOCK : Fld := ⟨0x200, 8, 8⟩
/-- SYS_IMG_CTRL.SRC, RW. -/
abbrev SYS_IMG_CTRL_SRC : Fld := ⟨0x200, 3, 1⟩
/-- SYS_IMG_CTRL.LOAD, WO. -/
abbrev SYS_IMG_CTRL_LOAD : Fld := ⟨0x200, 0, 0⟩
/-- SYS_IMG_STATUS.LOADS, RO. -/
abbrev SYS_IMG_STATUS_LOADS : Fld := ⟨0x204, 31, 24⟩
/-- SYS_IMG_STATUS.ERR, RO. -/
abbrev SYS_IMG_STATUS_ERR : Fld := ⟨0x204, 23, 16⟩
/-- SYS_IMG_STATUS.CMD_DROP, W1C. -/
abbrev SYS_IMG_STATUS_CMD_DROP : Fld := ⟨0x204, 10, 10⟩
/-- SYS_IMG_STATUS.LIVE, RO. -/
abbrev SYS_IMG_STATUS_LIVE : Fld := ⟨0x204, 9, 9⟩
/-- SYS_IMG_STATUS.LOCKED, RO. -/
abbrev SYS_IMG_STATUS_LOCKED : Fld := ⟨0x204, 8, 8⟩
/-- SYS_IMG_STATUS.SRC_USED, RO. -/
abbrev SYS_IMG_STATUS_SRC_USED : Fld := ⟨0x204, 6, 4⟩
/-- SYS_IMG_STATUS.STATE, RO. -/
abbrev SYS_IMG_STATUS_STATE : Fld := ⟨0x204, 3, 0⟩
/-- SYS_IMG_ID.IMAGE_ID, RO. -/
abbrev SYS_IMG_ID_IMAGE_ID : Fld := ⟨0x208, 31, 0⟩
/-- SYS_IMG_SERIAL.IMAGE_SERIAL, RO. -/
abbrev SYS_IMG_SERIAL_IMAGE_SERIAL : Fld := ⟨0x20c, 31, 0⟩
/-- SYS_IMG_VER.POSITION, RO. -/
abbrev SYS_IMG_VER_POSITION : Fld := ⟨0x210, 31, 28⟩
/-- SYS_IMG_VER.CABINET_SIZE, RO. -/
abbrev SYS_IMG_VER_CABINET_SIZE : Fld := ⟨0x210, 27, 20⟩
/-- SYS_IMG_VER.ISA_LEVEL, RO. -/
abbrev SYS_IMG_VER_ISA_LEVEL : Fld := ⟨0x210, 19, 16⟩
/-- SYS_IMG_VER.FORMAT_MAJOR, RO. -/
abbrev SYS_IMG_VER_FORMAT_MAJOR : Fld := ⟨0x210, 15, 8⟩
/-- SYS_IMG_VER.FORMAT_MINOR, RO. -/
abbrev SYS_IMG_VER_FORMAT_MINOR : Fld := ⟨0x210, 7, 0⟩
/-- SYS_LIVE_ID.LIVE_ID, RO. -/
abbrev SYS_LIVE_ID_LIVE_ID : Fld := ⟨0x214, 31, 0⟩
/-- SYS_LIVE_SERIAL.LIVE_SERIAL, RO. -/
abbrev SYS_LIVE_SERIAL_LIVE_SERIAL : Fld := ⟨0x218, 31, 0⟩
/-- SYS_DIGEST_LO.DIGEST_LO, RO. -/
abbrev SYS_DIGEST_LO_DIGEST_LO : Fld := ⟨0x220, 31, 0⟩
/-- SYS_DIGEST_HI.DIGEST_HI, RO. -/
abbrev SYS_DIGEST_HI_DIGEST_HI : Fld := ⟨0x224, 31, 0⟩
/-- SYS_DIGEST_STAT.BUSY, RO. -/
abbrev SYS_DIGEST_STAT_BUSY : Fld := ⟨0x228, 0, 0⟩
/-- SYS_EPOCH.EPOCH, RO. -/
abbrev SYS_EPOCH_EPOCH : Fld := ⟨0x22c, 31, 0⟩
/-- SYS_REFELT_CTRL.DEVICE, RW. -/
abbrev SYS_REFELT_CTRL_DEVICE : Fld := ⟨0x240, 19, 16⟩
/-- SYS_REFELT_CTRL.GO, WO. -/
abbrev SYS_REFELT_CTRL_GO : Fld := ⟨0x240, 8, 8⟩
/-- SYS_REFELT_CTRL.FELT, RW. -/
abbrev SYS_REFELT_CTRL_FELT : Fld := ⟨0x240, 6, 0⟩
/-- SYS_REFELT_MASK.PHASES, RW. -/
abbrev SYS_REFELT_MASK_PHASES : Fld := ⟨0x250, 31, 0⟩
/-- SYS_REFELT_STATUS.RESULT, RO. -/
abbrev SYS_REFELT_STATUS_RESULT : Fld := ⟨0x268, 7, 4⟩
/-- SYS_REFELT_STATUS.ACTIVE, RO. -/
abbrev SYS_REFELT_STATUS_ACTIVE : Fld := ⟨0x268, 0, 0⟩
/-- SL_CTRL.LOSS_LIMIT, RW. -/
abbrev SL_CTRL_LOSS_LIMIT : Fld := ⟨0x0, 24, 16⟩
/-- SL_CTRL.VER_MAX, RW. -/
abbrev SL_CTRL_VER_MAX : Fld := ⟨0x0, 9, 8⟩
/-- SL_CTRL.ABORT, WO. -/
abbrev SL_CTRL_ABORT : Fld := ⟨0x0, 3, 3⟩
/-- SL_CTRL.RETRAIN, WO. -/
abbrev SL_CTRL_RETRAIN : Fld := ⟨0x0, 2, 2⟩
/-- SL_CTRL.AUTO_RETRAIN, RW. -/
abbrev SL_CTRL_AUTO_RETRAIN : Fld := ⟨0x0, 1, 1⟩
/-- SL_CTRL.EN, RW. -/
abbrev SL_CTRL_EN : Fld := ⟨0x0, 0, 0⟩
/-- SL_STATUS.TRAIN_FAILS, RO. -/
abbrev SL_STATUS_TRAIN_FAILS : Fld := ⟨0x4, 31, 24⟩
/-- SL_STATUS.LAST_FAIL, RO. -/
abbrev SL_STATUS_LAST_FAIL : Fld := ⟨0x4, 23, 20⟩
/-- SL_STATUS.VERSION, RO. -/
abbrev SL_STATUS_VERSION : Fld := ⟨0x4, 17, 16⟩
/-- SL_STATUS.TRIP_PENDING, RO. -/
abbrev SL_STATUS_TRIP_PENDING : Fld := ⟨0x4, 8, 8⟩
/-- SL_STATUS.HUB_LATCH, RO. -/
abbrev SL_STATUS_HUB_LATCH : Fld := ⟨0x4, 7, 7⟩
/-- SL_STATUS.HUB_SAFE, RO. -/
abbrev SL_STATUS_HUB_SAFE : Fld := ⟨0x4, 6, 6⟩
/-- SL_STATUS.SIDE_UP, RO. -/
abbrev SL_STATUS_SIDE_UP : Fld := ⟨0x4, 5, 5⟩
/-- SL_STATUS.STATE, RO. -/
abbrev SL_STATUS_STATE : Fld := ⟨0x4, 3, 0⟩
/-- SL_HUB_ID.VENDOR, RO. -/
abbrev SL_HUB_ID_VENDOR : Fld := ⟨0x8, 31, 16⟩
/-- SL_HUB_ID.REVISION, RO. -/
abbrev SL_HUB_ID_REVISION : Fld := ⟨0x8, 15, 0⟩
/-- SL_HUB_CAPS.PD_PORTS, RO. -/
abbrev SL_HUB_CAPS_PD_PORTS : Fld := ⟨0xc, 18, 16⟩
/-- SL_HUB_CAPS.POPULATED, RO. -/
abbrev SL_HUB_CAPS_POPULATED : Fld := ⟨0xc, 15, 0⟩
/-- SL_LAT_MEAS.D_TURN, RO. -/
abbrev SL_LAT_MEAS_D_TURN : Fld := ⟨0x10, 31, 16⟩
/-- SL_LAT_MEAS.M_TRAIN, RO. -/
abbrev SL_LAT_MEAS_M_TRAIN : Fld := ⟨0x10, 15, 0⟩
/-- SL_LAT_RT.SPREAD, RO. -/
abbrev SL_LAT_RT_SPREAD : Fld := ⟨0x14, 23, 16⟩
/-- SL_LAT_RT.T_RT, RO. -/
abbrev SL_LAT_RT_T_RT : Fld := ⟨0x14, 15, 0⟩
/-- SL_LAT_CAL.T_DN, RO. -/
abbrev SL_LAT_CAL_T_DN : Fld := ⟨0x18, 31, 16⟩
/-- SL_LAT_CAL.ASYM, RW. -/
abbrev SL_LAT_CAL_ASYM : Fld := ⟨0x18, 15, 0⟩
/-- SL_LAT_TRACK.DRIFT_LIMIT, RW. -/
abbrev SL_LAT_TRACK_DRIFT_LIMIT : Fld := ⟨0x1c, 23, 16⟩
/-- SL_LAT_TRACK.M_NOW, RO. -/
abbrev SL_LAT_TRACK_M_NOW : Fld := ⟨0x1c, 15, 0⟩
/-- SL_CNT_CRC.COUNT, RC. -/
abbrev SL_CNT_CRC_COUNT : Fld := ⟨0x20, 31, 0⟩
/-- SL_CNT_SEQ.COUNT, RC. -/
abbrev SL_CNT_SEQ_COUNT : Fld := ⟨0x24, 31, 0⟩
/-- SL_CNT_SAMPLE.COUNT, RC. -/
abbrev SL_CNT_SAMPLE_COUNT : Fld := ⟨0x28, 31, 0⟩
/-- SL_CNT_RETX.DISCARDED, RC. -/
abbrev SL_CNT_RETX_DISCARDED : Fld := ⟨0x2c, 31, 16⟩
/-- SL_CNT_RETX.RETX, RC. -/
abbrev SL_CNT_RETX_RETX : Fld := ⟨0x2c, 15, 0⟩
/-- SL_CNT_EVENTS.SIDE_FAILS, RC. -/
abbrev SL_CNT_EVENTS_SIDE_FAILS : Fld := ⟨0x30, 31, 24⟩
/-- SL_CNT_EVENTS.LOSSES, RC. -/
abbrev SL_CNT_EVENTS_LOSSES : Fld := ⟨0x30, 23, 16⟩
/-- SL_CNT_EVENTS.TRAINS, RC. -/
abbrev SL_CNT_EVENTS_TRAINS : Fld := ⟨0x30, 15, 8⟩
/-- SL_CNT_EVENTS.DRIFTS, RC. -/
abbrev SL_CNT_EVENTS_DRIFTS : Fld := ⟨0x30, 7, 0⟩
/-- SL_MAX_BAD.RUN, RC. -/
abbrev SL_MAX_BAD_RUN : Fld := ⟨0x34, 15, 0⟩
/-- SL_CNT_DN.COUNT, RO. -/
abbrev SL_CNT_DN_COUNT : Fld := ⟨0x38, 31, 0⟩
/-- SL_HUB_ADDR.ADDR, RW. -/
abbrev SL_HUB_ADDR_ADDR : Fld := ⟨0x40, 15, 0⟩
/-- SL_HUB_CMD.COUNT, RW. -/
abbrev SL_HUB_CMD_COUNT : Fld := ⟨0x44, 6, 4⟩
/-- SL_HUB_CMD.WRITE, RW. -/
abbrev SL_HUB_CMD_WRITE : Fld := ⟨0x44, 1, 1⟩
/-- SL_HUB_CMD.GO, WO. -/
abbrev SL_HUB_CMD_GO : Fld := ⟨0x44, 0, 0⟩
/-- SL_HUB_STAT.RESULT, RO. -/
abbrev SL_HUB_STAT_RESULT : Fld := ⟨0x48, 7, 4⟩
/-- SL_HUB_STAT.BUSY, RO. -/
abbrev SL_HUB_STAT_BUSY : Fld := ⟨0x48, 0, 0⟩
/-- SL_HUB_DATA.DATA, RW. -/
abbrev SL_HUB_DATA_DATA : Fld := ⟨0x60, 31, 0⟩
/-- SL_TX_EQ.POST, RW. -/
abbrev SL_TX_EQ_POST : Fld := ⟨0x80, 21, 16⟩
/-- SL_TX_EQ.MAIN, RW. -/
abbrev SL_TX_EQ_MAIN : Fld := ⟨0x80, 13, 8⟩
/-- SL_TX_EQ.PRE, RW. -/
abbrev SL_TX_EQ_PRE : Fld := ⟨0x80, 5, 0⟩
/-- PHS_STATUS.POS, RO. -/
abbrev PHS_STATUS_POS : Fld := ⟨0x0, 28, 24⟩
/-- PHS_STATUS.FELT, RO. -/
abbrev PHS_STATUS_FELT : Fld := ⟨0x0, 22, 16⟩
/-- PHS_STATUS.LEAD, RO. -/
abbrev PHS_STATUS_LEAD : Fld := ⟨0x0, 11, 11⟩
/-- PHS_STATUS.FULLING, RO. -/
abbrev PHS_STATUS_FULLING : Fld := ⟨0x0, 10, 10⟩
/-- PHS_STATUS.SURGE, RO. -/
abbrev PHS_STATUS_SURGE : Fld := ⟨0x0, 9, 9⟩
/-- PHS_STATUS.TRIPPED, RO. -/
abbrev PHS_STATUS_TRIPPED : Fld := ⟨0x0, 8, 8⟩
/-- PHS_STATUS.LATCHED, RO. -/
abbrev PHS_STATUS_LATCHED : Fld := ⟨0x0, 7, 7⟩
/-- PHS_STATUS.LIMITED, RO. -/
abbrev PHS_STATUS_LIMITED : Fld := ⟨0x0, 6, 6⟩
/-- PHS_STATUS.DE, RO. -/
abbrev PHS_STATUS_DE : Fld := ⟨0x0, 5, 5⟩
/-- PHS_STATUS.STATE, RO. -/
abbrev PHS_STATUS_STATE : Fld := ⟨0x0, 3, 0⟩
/-- PHS_MEAS_I.I_AVG, RO. -/
abbrev PHS_MEAS_I_I_AVG : Fld := ⟨0x4, 31, 0⟩
/-- PHS_MEAS_V.V, RO. -/
abbrev PHS_MEAS_V_V : Fld := ⟨0x8, 31, 0⟩
/-- PHS_ON.ON_TICKS, RO. -/
abbrev PHS_ON_ON_TICKS : Fld := ⟨0xc, 19, 0⟩
/-- PHS_TRIM.TRIM, RO. -/
abbrev PHS_TRIM_TRIM : Fld := ⟨0x10, 31, 0⟩
/-- PHS_CNT_LIMIT.LATE, RC. -/
abbrev PHS_CNT_LIMIT_LATE : Fld := ⟨0x14, 31, 16⟩
/-- PHS_CNT_LIMIT.LIMITED, RC. -/
abbrev PHS_CNT_LIMIT_LIMITED : Fld := ⟨0x14, 15, 0⟩
/-- PHS_CNT_MISS.COUNT, RC. -/
abbrev PHS_CNT_MISS_COUNT : Fld := ⟨0x18, 31, 0⟩
/-- PHS_CNT_TRIP.COUNT, RC. -/
abbrev PHS_CNT_TRIP_COUNT : Fld := ⟨0x1c, 31, 0⟩
/-- PHS_CNT_SURGE.COUNT, RC. -/
abbrev PHS_CNT_SURGE_COUNT : Fld := ⟨0x20, 31, 0⟩
/-- PHS_SYNC_STAT.PERIOD_NOW, RO. -/
abbrev PHS_SYNC_STAT_PERIOD_NOW : Fld := ⟨0x24, 31, 12⟩
/-- PHS_SYNC_STAT.STATE, RO. -/
abbrev PHS_SYNC_STAT_STATE : Fld := ⟨0x24, 2, 0⟩
/-- PHS_PWM.DIV, RW. -/
abbrev PHS_PWM_DIV : Fld := ⟨0x100, 31, 28⟩
/-- PHS_PWM.MUL, RW. -/
abbrev PHS_PWM_MUL : Fld := ⟨0x100, 27, 24⟩
/-- PHS_PWM.FF_SRC, RW. -/
abbrev PHS_PWM_FF_SRC : Fld := ⟨0x100, 21, 21⟩
/-- PHS_PWM.SRC, RW. -/
abbrev PHS_PWM_SRC : Fld := ⟨0x100, 20, 20⟩
/-- PHS_PWM.PERIOD, RW. -/
abbrev PHS_PWM_PERIOD : Fld := ⟨0x100, 19, 0⟩
/-- PHS_PWM2.TOFF_MIN, RW. -/
abbrev PHS_PWM2_TOFF_MIN : Fld := ⟨0x104, 31, 16⟩
/-- PHS_PWM2.TON_MIN, RW. -/
abbrev PHS_PWM2_TON_MIN : Fld := ⟨0x104, 15, 0⟩
/-- PHS_SYNC.SYNC_DLY, RW. -/
abbrev PHS_SYNC_SYNC_DLY : Fld := ⟨0x108, 19, 0⟩
/-- PHS_DUTY_LIM.D_MAX, RW. -/
abbrev PHS_DUTY_LIM_D_MAX : Fld := ⟨0x10c, 31, 16⟩
/-- PHS_DUTY_LIM.D_MIN, RW. -/
abbrev PHS_DUTY_LIM_D_MIN : Fld := ⟨0x10c, 15, 0⟩
/-- PHS_KP.VALUE, RW. -/
abbrev PHS_KP_VALUE : Fld := ⟨0x110, 31, 0⟩
/-- PHS_KI.VALUE, RW. -/
abbrev PHS_KI_VALUE : Fld := ⟨0x114, 31, 0⟩
/-- PHS_XMAX.VALUE, RW. -/
abbrev PHS_XMAX_VALUE : Fld := ⟨0x118, 31, 0⟩
/-- PHS_I_RATED.VALUE, RW. -/
abbrev PHS_I_RATED_VALUE : Fld := ⟨0x11c, 31, 0⟩
/-- PHS_I_PK.VALUE, RW. -/
abbrev PHS_I_PK_VALUE : Fld := ⟨0x120, 31, 0⟩
/-- PHS_I_NEG.VALUE, RW. -/
abbrev PHS_I_NEG_VALUE : Fld := ⟨0x124, 31, 0⟩
/-- PHS_V_OV.VALUE, RW. -/
abbrev PHS_V_OV_VALUE : Fld := ⟨0x128, 31, 0⟩
/-- PHS_PROT.MISS_LIMIT, RW. -/
abbrev PHS_PROT_MISS_LIMIT : Fld := ⟨0x12c, 23, 16⟩
/-- PHS_PROT.OV_COUNT, RW. -/
abbrev PHS_PROT_OV_COUNT : Fld := ⟨0x12c, 10, 8⟩
/-- PHS_PROT.OC_CYCLES, RW. -/
abbrev PHS_PROT_OC_CYCLES : Fld := ⟨0x12c, 7, 0⟩
/-- PHS_FULL.VALUE, RW. -/
abbrev PHS_FULL_VALUE : Fld := ⟨0x130, 31, 0⟩
/-- PHS_TRIM_MAX.VALUE, RW. -/
abbrev PHS_TRIM_MAX_VALUE : Fld := ⟨0x134, 31, 0⟩
/-- PHS_LL.BURST_OUT, RW. -/
abbrev PHS_LL_BURST_OUT : Fld := ⟨0x138, 31, 24⟩
/-- PHS_LL.BURST_IN, RW. -/
abbrev PHS_LL_BURST_IN : Fld := ⟨0x138, 23, 16⟩
/-- PHS_LL.DE_OUT, RW. -/
abbrev PHS_LL_DE_OUT : Fld := ⟨0x138, 15, 8⟩
/-- PHS_LL.DE_IN, RW. -/
abbrev PHS_LL_DE_IN : Fld := ⟨0x138, 7, 0⟩
/-- PHS_BURST.BAND, RW. -/
abbrev PHS_BURST_BAND : Fld := ⟨0x13c, 31, 16⟩
/-- PHS_BURST.LL_EN, RW. -/
abbrev PHS_BURST_LL_EN : Fld := ⟨0x13c, 8, 8⟩
/-- PHS_BURST.BURST_CYCLES, RW. -/
abbrev PHS_BURST_BURST_CYCLES : Fld := ⟨0x13c, 7, 0⟩
/-- PHS_SURGE_SLOPE.VALUE, RW. -/
abbrev PHS_SURGE_SLOPE_VALUE : Fld := ⟨0x140, 31, 0⟩
/-- PHS_SURGE_MIN.VALUE, RW. -/
abbrev PHS_SURGE_MIN_VALUE : Fld := ⟨0x148, 31, 0⟩
/-- PHS_VBUS_FIX.VALUE, RW. -/
abbrev PHS_VBUS_FIX_VALUE : Fld := ⟨0x14c, 31, 0⟩
/-- PHS_SURGE.HOLDOFF, RW. -/
abbrev PHS_SURGE_HOLDOFF : Fld := ⟨0x144, 23, 16⟩
/-- PHS_SURGE.SURGE_ON, RW. -/
abbrev PHS_SURGE_SURGE_ON : Fld := ⟨0x144, 15, 8⟩
/-- PHS_SURGE.EN, RW. -/
abbrev PHS_SURGE_EN : Fld := ⟨0x144, 2, 2⟩
/-- PHS_SURGE.COUNT, RW. -/
abbrev PHS_SURGE_COUNT : Fld := ⟨0x144, 1, 0⟩
/-- PHS_ORDER.POS, RW. -/
abbrev PHS_ORDER_POS : Fld := ⟨0x150, 4, 0⟩
/-- PHS_LF_INFO.VALID, W1C. -/
abbrev PHS_LF_INFO_VALID : Fld := ⟨0x200, 31, 31⟩
/-- PHS_LF_INFO.CAUSE, RO. -/
abbrev PHS_LF_INFO_CAUSE : Fld := ⟨0x200, 27, 24⟩
/-- PHS_LF_INFO.STATE, RO. -/
abbrev PHS_LF_INFO_STATE : Fld := ⟨0x200, 23, 20⟩
/-- PHS_LF_INFO.ON_TICKS, RO. -/
abbrev PHS_LF_INFO_ON_TICKS : Fld := ⟨0x200, 19, 0⟩
/-- PHS_LF_SEC.SEC, RO. -/
abbrev PHS_LF_SEC_SEC : Fld := ⟨0x204, 31, 0⟩
/-- PHS_LF_NS.SEC_HI, RO. -/
abbrev PHS_LF_NS_SEC_HI : Fld := ⟨0x208, 31, 30⟩
/-- PHS_LF_NS.NS, RO. -/
abbrev PHS_LF_NS_NS : Fld := ⟨0x208, 29, 0⟩
/-- PHS_LF_IREF.VALUE, RO. -/
abbrev PHS_LF_IREF_VALUE : Fld := ⟨0x20c, 31, 0⟩
/-- PHS_LF_X.VALUE, RO. -/
abbrev PHS_LF_X_VALUE : Fld := ⟨0x210, 31, 0⟩
/-- PHS_LF_TRIM.VALUE, RO. -/
abbrev PHS_LF_TRIM_VALUE : Fld := ⟨0x214, 31, 0⟩
/-- PHS_LF_I.ODD, RO. -/
abbrev PHS_LF_I_ODD : Fld := ⟨0x218, 29, 16⟩
/-- PHS_LF_I.EVEN, RO. -/
abbrev PHS_LF_I_EVEN : Fld := ⟨0x218, 13, 0⟩
/-- PHS_LF_V.ODD, RO. -/
abbrev PHS_LF_V_ODD : Fld := ⟨0x228, 29, 16⟩
/-- PHS_LF_V.EVEN, RO. -/
abbrev PHS_LF_V_EVEN : Fld := ⟨0x228, 13, 0⟩
/-- FELT_CTRL.BRK_CLEAR, WO. -/
abbrev FELT_CTRL_BRK_CLEAR : Fld := ⟨0x0, 8, 8⟩
/-- FELT_CTRL.OV_CLEAR, WO. -/
abbrev FELT_CTRL_OV_CLEAR : Fld := ⟨0x0, 7, 7⟩
/-- FELT_CTRL.AT_BELL, RW. -/
abbrev FELT_CTRL_AT_BELL : Fld := ⟨0x0, 4, 4⟩
/-- FELT_CTRL.TEST, RW. -/
abbrev FELT_CTRL_TEST : Fld := ⟨0x0, 3, 3⟩
/-- FELT_CTRL.ABORT, WO. -/
abbrev FELT_CTRL_ABORT : Fld := ⟨0x0, 2, 2⟩
/-- FELT_CTRL.EN, RW. -/
abbrev FELT_CTRL_EN : Fld := ⟨0x0, 0, 0⟩
/-- FELT_STATUS.STOP_CAUSE, RO. -/
abbrev FELT_STATUS_STOP_CAUSE : Fld := ⟨0x4, 31, 28⟩
/-- FELT_STATUS.RETRIES, RO. -/
abbrev FELT_STATUS_RETRIES : Fld := ⟨0x4, 27, 24⟩
/-- FELT_STATUS.BLOCK, RO. -/
abbrev FELT_STATUS_BLOCK : Fld := ⟨0x4, 23, 20⟩
/-- FELT_STATUS.QUAD, RO. -/
abbrev FELT_STATUS_QUAD : Fld := ⟨0x4, 19, 18⟩
/-- FELT_STATUS.ALLOW_LIM, RO. -/
abbrev FELT_STATUS_ALLOW_LIM : Fld := ⟨0x4, 17, 17⟩
/-- FELT_STATUS.SENSE_LOCAL, RO. -/
abbrev FELT_STATUS_SENSE_LOCAL : Fld := ⟨0x4, 16, 16⟩
/-- FELT_STATUS.HOLD, RO. -/
abbrev FELT_STATUS_HOLD : Fld := ⟨0x4, 15, 15⟩
/-- FELT_STATUS.IN_REG, RO. -/
abbrev FELT_STATUS_IN_REG : Fld := ⟨0x4, 14, 14⟩
/-- FELT_STATUS.BANK, RO. -/
abbrev FELT_STATUS_BANK : Fld := ⟨0x4, 13, 12⟩
/-- FELT_STATUS.MODE, RO. -/
abbrev FELT_STATUS_MODE : Fld := ⟨0x4, 11, 8⟩
/-- FELT_STATUS.STATE, RO. -/
abbrev FELT_STATUS_STATE : Fld := ⟨0x4, 3, 0⟩
/-- FELT_SRC.BLK_DROP, W1C. -/
abbrev FELT_SRC_BLK_DROP : Fld := ⟨0x8, 11, 11⟩
/-- FELT_SRC.PIN_EN, RW. -/
abbrev FELT_SRC_PIN_EN : Fld := ⟨0x8, 10, 10⟩
/-- FELT_SRC.BLK_SEL, RW. -/
abbrev FELT_SRC_BLK_SEL : Fld := ⟨0x8, 7, 4⟩
/-- FELT_SRC.SEL, RW. -/
abbrev FELT_SRC_SEL : Fld := ⟨0x8, 2, 0⟩
/-- FELT_SP_HOST.WORD, RW. -/
abbrev FELT_SP_HOST_WORD : Fld := ⟨0x20, 31, 0⟩
/-- FELT_SP_ENG.WORD, RW. -/
abbrev FELT_SP_ENG_WORD : Fld := ⟨0x40, 31, 0⟩
/-- FELT_MEAS_VFB.VALUE, RO. -/
abbrev FELT_MEAS_VFB_VALUE : Fld := ⟨0x60, 31, 0⟩
/-- FELT_MEAS_VFORCE.VALUE, RO. -/
abbrev FELT_MEAS_VFORCE_VALUE : Fld := ⟨0x64, 31, 0⟩
/-- FELT_MEAS_I.VALUE, RO. -/
abbrev FELT_MEAS_I_VALUE : Fld := ⟨0x68, 31, 0⟩
/-- FELT_MEAS_P.VALUE, RO. -/
abbrev FELT_MEAS_P_VALUE : Fld := ⟨0x6c, 31, 0⟩
/-- FELT_IREF.VALUE, RO. -/
abbrev FELT_IREF_VALUE : Fld := ⟨0x70, 31, 0⟩
/-- FELT_VREF.VALUE, RO. -/
abbrev FELT_VREF_VALUE : Fld := ⟨0x74, 31, 0⟩
/-- FELT_ALLOW_SRC.VALUE, RO. -/
abbrev FELT_ALLOW_SRC_VALUE : Fld := ⟨0x78, 31, 0⟩
/-- FELT_ALLOW_SNK.VALUE, RO. -/
abbrev FELT_ALLOW_SNK_VALUE : Fld := ⟨0x7c, 31, 0⟩
/-- FELT_EVT.STOP_TMO, W1C. -/
abbrev FELT_EVT_STOP_TMO : Fld := ⟨0x80, 13, 13⟩
/-- FELT_EVT.SET_REFUSED, W1C. -/
abbrev FELT_EVT_SET_REFUSED : Fld := ⟨0x80, 12, 12⟩
/-- FELT_EVT.SET_APPLIED, W1C. -/
abbrev FELT_EVT_SET_APPLIED : Fld := ⟨0x80, 11, 11⟩
/-- FELT_EVT.STOPPED, W1C. -/
abbrev FELT_EVT_STOPPED : Fld := ⟨0x80, 10, 10⟩
/-- FELT_EVT.START_FAIL, W1C. -/
abbrev FELT_EVT_START_FAIL : Fld := ⟨0x80, 9, 9⟩
/-- FELT_EVT.BATT_DONE, W1C. -/
abbrev FELT_EVT_BATT_DONE : Fld := ⟨0x80, 8, 8⟩
/-- FELT_EVT.TRACK_LOST, W1C. -/
abbrev FELT_EVT_TRACK_LOST : Fld := ⟨0x80, 7, 7⟩
/-- FELT_EVT.SENSE_OPEN, W1C. -/
abbrev FELT_EVT_SENSE_OPEN : Fld := ⟨0x80, 6, 6⟩
/-- FELT_EVT.BRK_LATCH, W1C. -/
abbrev FELT_EVT_BRK_LATCH : Fld := ⟨0x80, 5, 5⟩
/-- FELT_EVT.BRK_TRIP, W1C. -/
abbrev FELT_EVT_BRK_TRIP : Fld := ⟨0x80, 4, 4⟩
/-- FELT_EVT.ALLOWANCE, W1C. -/
abbrev FELT_EVT_ALLOWANCE : Fld := ⟨0x80, 3, 3⟩
/-- FELT_EVT.QUAD, W1C. -/
abbrev FELT_EVT_QUAD : Fld := ⟨0x80, 2, 2⟩
/-- FELT_EVT.OUT_REG, W1C. -/
abbrev FELT_EVT_OUT_REG : Fld := ⟨0x80, 1, 1⟩
/-- FELT_EVT.IN_REG, W1C. -/
abbrev FELT_EVT_IN_REG : Fld := ⟨0x80, 0, 0⟩
/-- FELT_EVT_EN.STOP_TMO, RW. -/
abbrev FELT_EVT_EN_STOP_TMO : Fld := ⟨0x84, 13, 13⟩
/-- FELT_EVT_EN.SET_REFUSED, RW. -/
abbrev FELT_EVT_EN_SET_REFUSED : Fld := ⟨0x84, 12, 12⟩
/-- FELT_EVT_EN.SET_APPLIED, RW. -/
abbrev FELT_EVT_EN_SET_APPLIED : Fld := ⟨0x84, 11, 11⟩
/-- FELT_EVT_EN.STOPPED, RW. -/
abbrev FELT_EVT_EN_STOPPED : Fld := ⟨0x84, 10, 10⟩
/-- FELT_EVT_EN.START_FAIL, RW. -/
abbrev FELT_EVT_EN_START_FAIL : Fld := ⟨0x84, 9, 9⟩
/-- FELT_EVT_EN.BATT_DONE, RW. -/
abbrev FELT_EVT_EN_BATT_DONE : Fld := ⟨0x84, 8, 8⟩
/-- FELT_EVT_EN.TRACK_LOST, RW. -/
abbrev FELT_EVT_EN_TRACK_LOST : Fld := ⟨0x84, 7, 7⟩
/-- FELT_EVT_EN.SENSE_OPEN, RW. -/
abbrev FELT_EVT_EN_SENSE_OPEN : Fld := ⟨0x84, 6, 6⟩
/-- FELT_EVT_EN.BRK_LATCH, RW. -/
abbrev FELT_EVT_EN_BRK_LATCH : Fld := ⟨0x84, 5, 5⟩
/-- FELT_EVT_EN.BRK_TRIP, RW. -/
abbrev FELT_EVT_EN_BRK_TRIP : Fld := ⟨0x84, 4, 4⟩
/-- FELT_EVT_EN.ALLOWANCE, RW. -/
abbrev FELT_EVT_EN_ALLOWANCE : Fld := ⟨0x84, 3, 3⟩
/-- FELT_EVT_EN.QUAD, RW. -/
abbrev FELT_EVT_EN_QUAD : Fld := ⟨0x84, 2, 2⟩
/-- FELT_EVT_EN.OUT_REG, RW. -/
abbrev FELT_EVT_EN_OUT_REG : Fld := ⟨0x84, 1, 1⟩
/-- FELT_EVT_EN.IN_REG, RW. -/
abbrev FELT_EVT_EN_IN_REG : Fld := ⟨0x84, 0, 0⟩
/-- FELT_RESULT.CODE, RO. -/
abbrev FELT_RESULT_CODE : Fld := ⟨0x88, 3, 0⟩
/-- FELT_R_LEAD.VALUE, RO. -/
abbrev FELT_R_LEAD_VALUE : Fld := ⟨0x8c, 31, 0⟩
/-- FELT_TEST_I.VALUE, RW. -/
abbrev FELT_TEST_I_VALUE : Fld := ⟨0x90, 31, 0⟩
/-- FELT_BANK.COEF, RW. -/
abbrev FELT_BANK_COEF : Fld := ⟨0x100, 31, 0⟩
/-- FELT_LOOP.PREBIAS_SINK, RW. -/
abbrev FELT_LOOP_PREBIAS_SINK : Fld := ⟨0x180, 16, 16⟩
/-- FELT_LOOP.QUAD_HYST, RW. -/
abbrev FELT_LOOP_QUAD_HYST : Fld := ⟨0x180, 15, 8⟩
/-- FELT_LOOP.DEC, RW. -/
abbrev FELT_LOOP_DEC : Fld := ⟨0x180, 7, 0⟩
/-- FELT_I_RANGE.VALUE, RW. -/
abbrev FELT_I_RANGE_VALUE : Fld := ⟨0x184, 31, 0⟩
/-- FELT_V_MAX.VALUE, RW. -/
abbrev FELT_V_MAX_VALUE : Fld := ⟨0x188, 31, 0⟩
/-- FELT_I_SRC_MAX.VALUE, RW. -/
abbrev FELT_I_SRC_MAX_VALUE : Fld := ⟨0x18c, 31, 0⟩
/-- FELT_I_SNK_MAX.VALUE, RW. -/
abbrev FELT_I_SNK_MAX_VALUE : Fld := ⟨0x190, 31, 0⟩
/-- FELT_P_SRC_MAX.VALUE, RW. -/
abbrev FELT_P_SRC_MAX_VALUE : Fld := ⟨0x194, 31, 0⟩
/-- FELT_P_SNK_MAX.VALUE, RW. -/
abbrev FELT_P_SNK_MAX_VALUE : Fld := ⟨0x198, 31, 0⟩
/-- FELT_CP_VMIN.VALUE, RW. -/
abbrev FELT_CP_VMIN_VALUE : Fld := ⟨0x19c, 31, 0⟩
/-- FELT_PG.TIME, RW. -/
abbrev FELT_PG_TIME : Fld := ⟨0x1a0, 31, 24⟩
/-- FELT_PG.BAND_I, RW. -/
abbrev FELT_PG_BAND_I : Fld := ⟨0x1a0, 23, 16⟩
/-- FELT_PG.BAND_MV, RW. -/
abbrev FELT_PG_BAND_MV : Fld := ⟨0x1a0, 15, 0⟩
/-- FELT_START_SLEW.VALUE, RW. -/
abbrev FELT_START_SLEW_VALUE : Fld := ⟨0x1a4, 31, 0⟩
/-- FELT_STOP_SLEW.VALUE, RW. -/
abbrev FELT_STOP_SLEW_VALUE : Fld := ⟨0x1a8, 31, 0⟩
/-- FELT_V_OFF.VALUE, RW. -/
abbrev FELT_V_OFF_VALUE : Fld := ⟨0x1ac, 31, 0⟩
/-- FELT_STOP.TMO, RW. -/
abbrev FELT_STOP_TMO : Fld := ⟨0x1b0, 29, 16⟩
/-- FELT_STOP.MODE, RW. -/
abbrev FELT_STOP_MODE : Fld := ⟨0x1b0, 1, 0⟩
/-- FELT_ADMIT.PRIO, RW. -/
abbrev FELT_ADMIT_PRIO : Fld := ⟨0x1b4, 23, 20⟩
/-- FELT_ADMIT.CHARGE, RW. -/
abbrev FELT_ADMIT_CHARGE : Fld := ⟨0x1b4, 19, 0⟩
/-- FELT_ADMIT_WAIT.WAIT, RW. -/
abbrev FELT_ADMIT_WAIT_WAIT : Fld := ⟨0x1b8, 13, 0⟩
/-- FELT_I_BRK.VALUE, RW. -/
abbrev FELT_I_BRK_VALUE : Fld := ⟨0x1bc, 31, 0⟩
/-- FELT_I_BRK_FAST.VALUE, RW. -/
abbrev FELT_I_BRK_FAST_VALUE : Fld := ⟨0x1c0, 31, 0⟩
/-- FELT_BRK.T_BRK, RW. -/
abbrev FELT_BRK_T_BRK : Fld := ⟨0x1c4, 16, 0⟩
/-- FELT_BRK2.CLR, RW. -/
abbrev FELT_BRK2_CLR : Fld := ⟨0x1c8, 31, 24⟩
/-- FELT_BRK2.N_RETRY, RW. -/
abbrev FELT_BRK2_N_RETRY : Fld := ⟨0x1c8, 19, 16⟩
/-- FELT_BRK2.T_RETRY, RW. -/
abbrev FELT_BRK2_T_RETRY : Fld := ⟨0x1c8, 13, 0⟩
/-- FELT_SENSE.SLOT, RW. -/
abbrev FELT_SENSE_SLOT : Fld := ⟨0x1cc, 15, 8⟩
/-- FELT_SENSE.EN, RW. -/
abbrev FELT_SENSE_EN : Fld := ⟨0x1cc, 0, 0⟩
/-- FELT_R_MIN.R_MIN, RW. -/
abbrev FELT_R_MIN_R_MIN : Fld := ⟨0x1d0, 31, 0⟩
/-- FELT_TRACK.BLK, RW. -/
abbrev FELT_TRACK_BLK : Fld := ⟨0x1d4, 19, 16⟩
/-- FELT_TRACK.LEADER, RW. -/
abbrev FELT_TRACK_LEADER : Fld := ⟨0x1d4, 14, 8⟩
/-- FELT_TRACK.LEADER_KIND, RW. -/
abbrev FELT_TRACK_LEADER_KIND : Fld := ⟨0x1d4, 2, 2⟩
/-- FELT_TRACK.KIND, RW. -/
abbrev FELT_TRACK_KIND : Fld := ⟨0x1d4, 1, 0⟩
/-- FELT_TRACK_K.VALUE, RW. -/
abbrev FELT_TRACK_K_VALUE : Fld := ⟨0x1d8, 31, 0⟩
/-- FELT_TRACK_OFS.VALUE, RW. -/
abbrev FELT_TRACK_OFS_VALUE : Fld := ⟨0x1dc, 31, 0⟩
/-- FELT_TRACK_MS.VALUE, RW. -/
abbrev FELT_TRACK_MS_VALUE : Fld := ⟨0x1e0, 31, 0⟩
/-- FELT_BATT.EOD_MS, RW. -/
abbrev FELT_BATT_EOD_MS : Fld := ⟨0x1e4, 31, 16⟩
/-- FELT_BATT.TERM_MS, RW. -/
abbrev FELT_BATT_TERM_MS : Fld := ⟨0x1e4, 15, 0⟩
/-- FELT_I_TERM.I_TERM, RW. -/
abbrev FELT_I_TERM_I_TERM : Fld := ⟨0x1e8, 31, 0⟩
/-- FELT_BLK.WORD, RW. -/
abbrev FELT_BLK_WORD : Fld := ⟨0x400, 31, 0⟩
/-- TIME_NS.SEC_HI, RO. -/
abbrev TIME_NS_SEC_HI : Fld := ⟨0x0, 31, 30⟩
/-- TIME_NS.NS, RO. -/
abbrev TIME_NS_NS : Fld := ⟨0x0, 29, 0⟩
/-- TIME_SNAP_SEC.SEC, RO. -/
abbrev TIME_SNAP_SEC_SEC : Fld := ⟨0x4, 31, 0⟩
/-- TIME_WR_SEC.SEC, RW. -/
abbrev TIME_WR_SEC_SEC : Fld := ⟨0x10, 31, 0⟩
/-- TIME_WR_NS.SEC_HI, RW. -/
abbrev TIME_WR_NS_SEC_HI : Fld := ⟨0x14, 31, 30⟩
/-- TIME_WR_NS.NS, RW. -/
abbrev TIME_WR_NS_NS : Fld := ⟨0x14, 29, 0⟩
/-- TIME_APPLY.MODE, WO. -/
abbrev TIME_APPLY_MODE : Fld := ⟨0x18, 2, 1⟩
/-- TIME_APPLY.GO, WO. -/
abbrev TIME_APPLY_GO : Fld := ⟨0x18, 0, 0⟩
/-- TIME_STATUS.HOLD_S, RO. -/
abbrev TIME_STATUS_HOLD_S : Fld := ⟨0x1c, 31, 16⟩
/-- TIME_STATUS.APPLY_PENDING, RO. -/
abbrev TIME_STATUS_APPLY_PENDING : Fld := ⟨0x1c, 15, 15⟩
/-- TIME_STATUS.WR_ERR, W1C. -/
abbrev TIME_STATUS_WR_ERR : Fld := ⟨0x1c, 14, 14⟩
/-- TIME_STATUS.SLEWING, RO. -/
abbrev TIME_STATUS_SLEWING : Fld := ⟨0x1c, 13, 13⟩
/-- TIME_STATUS.ALIGNED, RO. -/
abbrev TIME_STATUS_ALIGNED : Fld := ⟨0x1c, 12, 12⟩
/-- TIME_STATUS.STATE, RO. -/
abbrev TIME_STATUS_STATE : Fld := ⟨0x1c, 11, 8⟩
/-- TIME_STATUS.REF, RO. -/
abbrev TIME_STATUS_REF : Fld := ⟨0x1c, 5, 4⟩
/-- TIME_STATUS.QUAL_CAS, RO. -/
abbrev TIME_STATUS_QUAL_CAS : Fld := ⟨0x1c, 3, 3⟩
/-- TIME_STATUS.QUAL_REFIN, RO. -/
abbrev TIME_STATUS_QUAL_REFIN : Fld := ⟨0x1c, 2, 2⟩
/-- TIME_STATUS.QUAL_XTAL, RO. -/
abbrev TIME_STATUS_QUAL_XTAL : Fld := ⟨0x1c, 1, 1⟩
/-- TIME_REF_CFG.REFIN_10M, RW. -/
abbrev TIME_REF_CFG_REFIN_10M : Fld := ⟨0x20, 8, 8⟩
/-- TIME_REF_CFG.XTAL_EN, RW. -/
abbrev TIME_REF_CFG_XTAL_EN : Fld := ⟨0x20, 2, 2⟩
/-- TIME_REF_CFG.REFIN_EN, RW. -/
abbrev TIME_REF_CFG_REFIN_EN : Fld := ⟨0x20, 1, 1⟩
/-- TIME_REF_CFG.CAS_EN, RW. -/
abbrev TIME_REF_CFG_CAS_EN : Fld := ⟨0x20, 0, 0⟩
/-- TIME_HOLD.LIMIT, RW. -/
abbrev TIME_HOLD_LIMIT : Fld := ⟨0x24, 11, 0⟩
/-- TIME_FREQ.OFS_PPB, RO. -/
abbrev TIME_FREQ_OFS_PPB : Fld := ⟨0x28, 31, 0⟩
/-- TIME_BELL_SEC.SEC, RW. -/
abbrev TIME_BELL_SEC_SEC : Fld := ⟨0x30, 31, 0⟩
/-- TIME_BELL_NS.SEC_HI, RW. -/
abbrev TIME_BELL_NS_SEC_HI : Fld := ⟨0x34, 31, 30⟩
/-- TIME_BELL_NS.NS, RW. -/
abbrev TIME_BELL_NS_NS : Fld := ⟨0x34, 29, 0⟩
/-- TIME_BELL_CTRL.COUNT, RO. -/
abbrev TIME_BELL_CTRL_COUNT : Fld := ⟨0x38, 31, 16⟩
/-- TIME_BELL_CTRL.UNALIGNED, W1C. -/
abbrev TIME_BELL_CTRL_UNALIGNED : Fld := ⟨0x38, 8, 8⟩
/-- TIME_BELL_CTRL.MISS, W1C. -/
abbrev TIME_BELL_CTRL_MISS : Fld := ⟨0x38, 7, 7⟩
/-- TIME_BELL_CTRL.LATE, W1C. -/
abbrev TIME_BELL_CTRL_LATE : Fld := ⟨0x38, 6, 6⟩
/-- TIME_BELL_CTRL.REFUSED, W1C. -/
abbrev TIME_BELL_CTRL_REFUSED : Fld := ⟨0x38, 5, 5⟩
/-- TIME_BELL_CTRL.ACKED, RO. -/
abbrev TIME_BELL_CTRL_ACKED : Fld := ⟨0x38, 4, 4⟩
/-- TIME_BELL_CTRL.PENDING, RO. -/
abbrev TIME_BELL_CTRL_PENDING : Fld := ⟨0x38, 3, 3⟩
/-- TIME_BELL_CTRL.CANCEL, WO. -/
abbrev TIME_BELL_CTRL_CANCEL : Fld := ⟨0x38, 1, 1⟩
/-- TIME_BELL_CTRL.ARM, WO. -/
abbrev TIME_BELL_CTRL_ARM : Fld := ⟨0x38, 0, 0⟩
/-- TIME_BELL_LEAD.L_MIN, RO. -/
abbrev TIME_BELL_LEAD_L_MIN : Fld := ⟨0x3c, 31, 0⟩
/-- TIME_BELL_TMR_LO.MASK, RW. -/
abbrev TIME_BELL_TMR_LO_MASK : Fld := ⟨0x40, 31, 0⟩
/-- TIME_BELL_TMR_HI.MASK, RW. -/
abbrev TIME_BELL_TMR_HI_MASK : Fld := ⟨0x44, 31, 0⟩
/-- TIME_SYNC_OUT.MODE, RW. -/
abbrev TIME_SYNC_OUT_MODE : Fld := ⟨0x50, 21, 20⟩
/-- TIME_SYNC_OUT.PERIOD, RW. -/
abbrev TIME_SYNC_OUT_PERIOD : Fld := ⟨0x50, 19, 0⟩
/-- TIME_ALIGN_ERR.ERR, RO. -/
abbrev TIME_ALIGN_ERR_ERR : Fld := ⟨0x60, 31, 0⟩
/-- TIME_CAS_ASYM.ASYM, RW. -/
abbrev TIME_CAS_ASYM_ASYM : Fld := ⟨0x64, 15, 0⟩
/-- FELT_WF_BASE.BASE, RW. -/
abbrev FELT_WF_BASE_BASE : Fld := ⟨0x200, 31, 0⟩
/-- FELT_WF_LEN.LOOP_IDX, RW. -/
abbrev FELT_WF_LEN_LOOP_IDX : Fld := ⟨0x204, 28, 16⟩
/-- FELT_WF_LEN.LEN, RW. -/
abbrev FELT_WF_LEN_LEN : Fld := ⟨0x204, 12, 0⟩
/-- FELT_WF_CTRL.LOOPS, RW. -/
abbrev FELT_WF_CTRL_LOOPS : Fld := ⟨0x208, 31, 16⟩
/-- FELT_WF_CTRL.END, RW. -/
abbrev FELT_WF_CTRL_END : Fld := ⟨0x208, 9, 8⟩
/-- FELT_WF_CTRL.START_MODE, RW. -/
abbrev FELT_WF_CTRL_START_MODE : Fld := ⟨0x208, 4, 4⟩
/-- FELT_WF_CTRL.ABORT, WO. -/
abbrev FELT_WF_CTRL_ABORT : Fld := ⟨0x208, 2, 2⟩
/-- FELT_WF_CTRL.STOP, WO. -/
abbrev FELT_WF_CTRL_STOP : Fld := ⟨0x208, 1, 1⟩
/-- FELT_WF_CTRL.START, WO. -/
abbrev FELT_WF_CTRL_START : Fld := ⟨0x208, 0, 0⟩
/-- FELT_WF_ADV.AUTO, RW. -/
abbrev FELT_WF_ADV_AUTO : Fld := ⟨0x20c, 8, 8⟩
/-- FELT_WF_ADV.ADV, RW. -/
abbrev FELT_WF_ADV_ADV : Fld := ⟨0x20c, 7, 0⟩
/-- FELT_WF_CFF.CFF, RW. -/
abbrev FELT_WF_CFF_CFF : Fld := ⟨0x210, 31, 0⟩
/-- FELT_WF_STAT.STATE, RO. -/
abbrev FELT_WF_STAT_STATE : Fld := ⟨0x214, 31, 28⟩
/-- FELT_WF_STAT.CODE, RO. -/
abbrev FELT_WF_STAT_CODE : Fld := ⟨0x214, 27, 24⟩
/-- FELT_WF_STAT.POINT, RO. -/
abbrev FELT_WF_STAT_POINT : Fld := ⟨0x214, 11, 0⟩
/-- FELT_WF_LOOP.LOOPS_LEFT, RO. -/
abbrev FELT_WF_LOOP_LOOPS_LEFT : Fld := ⟨0x218, 15, 0⟩
/-- FELT_WF_CNT.SKIPPED, RC. -/
abbrev FELT_WF_CNT_SKIPPED : Fld := ⟨0x21c, 31, 0⟩
/-- FELT_WF_ORG_SEC.SEC, RO. -/
abbrev FELT_WF_ORG_SEC_SEC : Fld := ⟨0x220, 31, 0⟩
/-- FELT_WF_ORG_NS.SEC_HI, RO. -/
abbrev FELT_WF_ORG_NS_SEC_HI : Fld := ⟨0x224, 31, 30⟩
/-- FELT_WF_ORG_NS.NS, RO. -/
abbrev FELT_WF_ORG_NS_NS : Fld := ⟨0x224, 29, 0⟩
/-- FELT_WF_EVT.WF_REFUSED, W1C. -/
abbrev FELT_WF_EVT_WF_REFUSED : Fld := ⟨0x228, 5, 5⟩
/-- FELT_WF_EVT.WF_ERR, W1C. -/
abbrev FELT_WF_EVT_WF_ERR : Fld := ⟨0x228, 4, 4⟩
/-- FELT_WF_EVT.WF_UNDERRUN, W1C. -/
abbrev FELT_WF_EVT_WF_UNDERRUN : Fld := ⟨0x228, 3, 3⟩
/-- FELT_WF_EVT.WF_MARK, W1C. -/
abbrev FELT_WF_EVT_WF_MARK : Fld := ⟨0x228, 2, 2⟩
/-- FELT_WF_EVT.WF_END, W1C. -/
abbrev FELT_WF_EVT_WF_END : Fld := ⟨0x228, 1, 1⟩
/-- FELT_WF_EVT.WF_START, W1C. -/
abbrev FELT_WF_EVT_WF_START : Fld := ⟨0x228, 0, 0⟩
/-- FELT_WF_EVT_EN.WF_REFUSED, RW. -/
abbrev FELT_WF_EVT_EN_WF_REFUSED : Fld := ⟨0x22c, 5, 5⟩
/-- FELT_WF_EVT_EN.WF_ERR, RW. -/
abbrev FELT_WF_EVT_EN_WF_ERR : Fld := ⟨0x22c, 4, 4⟩
/-- FELT_WF_EVT_EN.WF_UNDERRUN, RW. -/
abbrev FELT_WF_EVT_EN_WF_UNDERRUN : Fld := ⟨0x22c, 3, 3⟩
/-- FELT_WF_EVT_EN.WF_MARK, RW. -/
abbrev FELT_WF_EVT_EN_WF_MARK : Fld := ⟨0x22c, 2, 2⟩
/-- FELT_WF_EVT_EN.WF_END, RW. -/
abbrev FELT_WF_EVT_EN_WF_END : Fld := ⟨0x22c, 1, 1⟩
/-- FELT_WF_EVT_EN.WF_START, RW. -/
abbrev FELT_WF_EVT_EN_WF_START : Fld := ⟨0x22c, 0, 0⟩
/-- HSE_CTRL.SAMPLED, RW. -/
abbrev HSE_CTRL_SAMPLED : Fld := ⟨0x0, 2, 2⟩
/-- HSE_CTRL.ABORT, WO. -/
abbrev HSE_CTRL_ABORT : Fld := ⟨0x0, 1, 1⟩
/-- HSE_CTRL.EN, RW. -/
abbrev HSE_CTRL_EN : Fld := ⟨0x0, 0, 0⟩
/-- HSE_STATUS.DAC_PK, RO. -/
abbrev HSE_STATUS_DAC_PK : Fld := ⟨0x4, 15, 8⟩
/-- HSE_STATUS.KEEP, RO. -/
abbrev HSE_STATUS_KEEP : Fld := ⟨0x4, 7, 7⟩
/-- HSE_STATUS.ROLE, RO. -/
abbrev HSE_STATUS_ROLE : Fld := ⟨0x4, 6, 4⟩
/-- HSE_STATUS.DIR, RO. -/
abbrev HSE_STATUS_DIR : Fld := ⟨0x4, 3, 3⟩
/-- HSE_STATUS.OV, RO. -/
abbrev HSE_STATUS_OV : Fld := ⟨0x4, 2, 2⟩
/-- HSE_STATUS.OC, RO. -/
abbrev HSE_STATUS_OC : Fld := ⟨0x4, 1, 1⟩
/-- HSE_STATUS.ON, RO. -/
abbrev HSE_STATUS_ON : Fld := ⟨0x4, 0, 0⟩
/-- HSE_MEAS_V.VALUE, RO. -/
abbrev HSE_MEAS_V_VALUE : Fld := ⟨0x8, 31, 0⟩
/-- HSE_MEAS_I.VALUE, RO. -/
abbrev HSE_MEAS_I_VALUE : Fld := ⟨0xc, 31, 0⟩
/-- HSE_CNT.OV, RC. -/
abbrev HSE_CNT_OV : Fld := ⟨0x10, 31, 16⟩
/-- HSE_CNT.OC, RC. -/
abbrev HSE_CNT_OC : Fld := ⟨0x10, 15, 0⟩
/-- HSE_PWM.DMAX, RW. -/
abbrev HSE_PWM_DMAX : Fld := ⟨0x40, 31, 24⟩
/-- HSE_PWM.PERIOD, RW. -/
abbrev HSE_PWM_PERIOD : Fld := ⟨0x40, 13, 0⟩
/-- HSE_PWM.PHASE, RW. -/
abbrev HSE_PWM_PHASE : Fld := ⟨0x40, 23, 14⟩
/-- HSE_DEAD.LEB, RW. -/
abbrev HSE_DEAD_LEB : Fld := ⟨0x44, 23, 16⟩
/-- HSE_DEAD.DT_LH, RW. -/
abbrev HSE_DEAD_DT_LH : Fld := ⟨0x44, 15, 8⟩
/-- HSE_DEAD.DT_HL, RW. -/
abbrev HSE_DEAD_DT_HL : Fld := ⟨0x44, 7, 0⟩
/-- HSE_THR.REG, RW. -/
abbrev HSE_THR_REG : Fld := ⟨0x48, 29, 20⟩
/-- HSE_THR.OV, RW. -/
abbrev HSE_THR_OV : Fld := ⟨0x48, 19, 10⟩
/-- HSE_THR.OC, RW. -/
abbrev HSE_THR_OC : Fld := ⟨0x48, 9, 0⟩
/-- HSE_RAMP.RAMP, RW. -/
abbrev HSE_RAMP_RAMP : Fld := ⟨0x4c, 7, 0⟩
/-- HSE_SAMP.TON, RW. -/
abbrev HSE_SAMP_TON : Fld := ⟨0x50, 25, 16⟩
/-- HSE_SAMP.TICK, RW. -/
abbrev HSE_SAMP_TICK : Fld := ⟨0x50, 10, 0⟩
/-- HSE_SCALE_V.VALUE, RW. -/
abbrev HSE_SCALE_V_VALUE : Fld := ⟨0x54, 31, 0⟩
/-- HSE_SCALE_I.VALUE, RW. -/
abbrev HSE_SCALE_I_VALUE : Fld := ⟨0x58, 31, 0⟩
/-- HSE_VSET.VALUE, RW. -/
abbrev HSE_VSET_VALUE : Fld := ⟨0x5c, 31, 0⟩
/-- HSE_KP.VALUE, RW. -/
abbrev HSE_KP_VALUE : Fld := ⟨0x60, 31, 0⟩
/-- HSE_KI.VALUE, RW. -/
abbrev HSE_KI_VALUE : Fld := ⟨0x64, 31, 0⟩
/-- HSE_SS.VALUE, RW. -/
abbrev HSE_SS_VALUE : Fld := ⟨0x68, 31, 0⟩
/-- HSE_PROT.OC_CYCLES, RW. -/
abbrev HSE_PROT_OC_CYCLES : Fld := ⟨0x6c, 7, 0⟩
/-- HSE_ADMIT.PRIO, RW. -/
abbrev HSE_ADMIT_PRIO : Fld := ⟨0x70, 23, 20⟩
/-- HSE_ADMIT.CHARGE, RW. -/
abbrev HSE_ADMIT_CHARGE : Fld := ⟨0x70, 19, 0⟩
/-- HSE_ADMIT_WAIT.WAIT, RW. -/
abbrev HSE_ADMIT_WAIT_WAIT : Fld := ⟨0x74, 13, 0⟩
/-- HSE_DAC_RB.MISMATCH, W1C. -/
abbrev HSE_DAC_RB_MISMATCH : Fld := ⟨0x800, 8, 8⟩
/-- HSE_DAC_RB.AUTO, RW. -/
abbrev HSE_DAC_RB_AUTO : Fld := ⟨0x800, 7, 7⟩
/-- HSE_DAC_RB.DAC, RW. -/
abbrev HSE_DAC_RB_DAC : Fld := ⟨0x800, 6, 5⟩
/-- HSE_DAC_RB.CH, RW. -/
abbrev HSE_DAC_RB_CH : Fld := ⟨0x800, 4, 2⟩
/-- HSE_DAC_TOL.TOL, RW. -/
abbrev HSE_DAC_TOL_TOL : Fld := ⟨0x804, 7, 0⟩
/-- BUS_CTRL.OV_CLEAR, WO. -/
abbrev BUS_CTRL_OV_CLEAR : Fld := ⟨0x0, 1, 1⟩
/-- BUS_CTRL.EN, RW. -/
abbrev BUS_CTRL_EN : Fld := ⟨0x0, 0, 0⟩
/-- BUS_STATUS.CODE, RO. -/
abbrev BUS_STATUS_CODE : Fld := ⟨0x4, 31, 28⟩
/-- BUS_STATUS.CAPPED, RO. -/
abbrev BUS_STATUS_CAPPED : Fld := ⟨0x4, 11, 11⟩
/-- BUS_STATUS.SENSE_ERR, RO. -/
abbrev BUS_STATUS_SENSE_ERR : Fld := ⟨0x4, 10, 10⟩
/-- BUS_STATUS.DUMP_HOT, RO. -/
abbrev BUS_STATUS_DUMP_HOT : Fld := ⟨0x4, 9, 9⟩
/-- BUS_STATUS.SHELF_FULL, RO. -/
abbrev BUS_STATUS_SHELF_FULL : Fld := ⟨0x4, 8, 8⟩
/-- BUS_STATUS.OV_LATCH, RO. -/
abbrev BUS_STATUS_OV_LATCH : Fld := ⟨0x4, 7, 7⟩
/-- BUS_STATUS.STAGE, RO. -/
abbrev BUS_STATUS_STAGE : Fld := ⟨0x4, 6, 4⟩
/-- BUS_STATUS.MODE, RO. -/
abbrev BUS_STATUS_MODE : Fld := ⟨0x4, 2, 0⟩
/-- BUS_MEAS_V.VALUE, RO. -/
abbrev BUS_MEAS_V_VALUE : Fld := ⟨0x8, 31, 0⟩
/-- BUS_P_REQ.VALUE, RO. -/
abbrev BUS_P_REQ_VALUE : Fld := ⟨0xc, 31, 0⟩
/-- BUS_P_IN.VALUE, RO. -/
abbrev BUS_P_IN_VALUE : Fld := ⟨0x10, 31, 0⟩
/-- BUS_P_SHELF.VALUE, RO. -/
abbrev BUS_P_SHELF_VALUE : Fld := ⟨0x14, 31, 0⟩
/-- BUS_P_DUMP.VALUE, RO. -/
abbrev BUS_P_DUMP_VALUE : Fld := ⟨0x18, 31, 0⟩
/-- BUS_P_INPUT.VALUE, RO. -/
abbrev BUS_P_INPUT_VALUE : Fld := ⟨0x1c, 31, 0⟩
/-- BUS_ROOM_SNK.VALUE, RO. -/
abbrev BUS_ROOM_SNK_VALUE : Fld := ⟨0x20, 31, 0⟩
/-- BUS_ROOM_SRC.VALUE, RO. -/
abbrev BUS_ROOM_SRC_VALUE : Fld := ⟨0x24, 31, 0⟩
/-- BUS_CFG.MON, RW. -/
abbrev BUS_CFG_MON : Fld := ⟨0x100, 12, 8⟩
/-- BUS_CFG.SHELF_GAUGE, RW. -/
abbrev BUS_CFG_SHELF_GAUGE : Fld := ⟨0x100, 7, 4⟩
/-- BUS_CFG.VBUS_SRC, RW. -/
abbrev BUS_CFG_VBUS_SRC : Fld := ⟨0x100, 1, 0⟩
/-- BUS_V_SET.VALUE, RW. -/
abbrev BUS_V_SET_VALUE : Fld := ⟨0x104, 31, 0⟩
/-- BUS_V_HI.VALUE, RW. -/
abbrev BUS_V_HI_VALUE : Fld := ⟨0x108, 31, 0⟩
/-- BUS_V_LO.VALUE, RW. -/
abbrev BUS_V_LO_VALUE : Fld := ⟨0x10c, 31, 0⟩
/-- BUS_V_OV.VALUE, RW. -/
abbrev BUS_V_OV_VALUE : Fld := ⟨0x110, 31, 0⟩
/-- BUS_V_SHED.VALUE, RW. -/
abbrev BUS_V_SHED_VALUE : Fld := ⟨0x114, 31, 0⟩
/-- BUS_V_HOLD_END.VALUE, RW. -/
abbrev BUS_V_HOLD_END_VALUE : Fld := ⟨0x118, 31, 0⟩
/-- BUS_V_UV.VALUE, RW. -/
abbrev BUS_V_UV_VALUE : Fld := ⟨0x11c, 31, 0⟩
/-- BUS_SENSE_TOL.VALUE, RW. -/
abbrev BUS_SENSE_TOL_VALUE : Fld := ⟨0x124, 31, 0⟩
/-- BUS_SHED.INT, RW. -/
abbrev BUS_SHED_INT : Fld := ⟨0x15c, 9, 0⟩
/-- BUS_SHED_PRIO.PRIO, RW. -/
abbrev BUS_SHED_PRIO_PRIO : Fld := ⟨0x160, 31, 0⟩
/-- BUS_ADM_CAP.VALUE, RW. -/
abbrev BUS_ADM_CAP_VALUE : Fld := ⟨0x190, 31, 0⟩
/-- BUS_ADM_RATE.VALUE, RW. -/
abbrev BUS_ADM_RATE_VALUE : Fld := ⟨0x194, 31, 0⟩
/-- BUS_HS_UV_RISE.VALUE, RW. -/
abbrev BUS_HS_UV_RISE_VALUE : Fld := ⟨0x1a0, 31, 0⟩
/-- BUS_HS_UV_FALL.VALUE, RW. -/
abbrev BUS_HS_UV_FALL_VALUE : Fld := ⟨0x1a4, 31, 0⟩
/-- BUS_HS_OV_RISE.VALUE, RW. -/
abbrev BUS_HS_OV_RISE_VALUE : Fld := ⟨0x1a8, 31, 0⟩
/-- BUS_HS_OV_FALL.VALUE, RW. -/
abbrev BUS_HS_OV_FALL_VALUE : Fld := ⟨0x1ac, 31, 0⟩
/-- BUS_HS_PG_DROP.VALUE, RW. -/
abbrev BUS_HS_PG_DROP_VALUE : Fld := ⟨0x1b0, 31, 0⟩
/-- BUS_HS_SCALE.VALUE, RW. -/
abbrev BUS_HS_SCALE_VALUE : Fld := ⟨0x1b4, 31, 0⟩
/-- BUS_HS_TIME.RET_DLY, RW. -/
abbrev BUS_HS_TIME_RET_DLY : Fld := ⟨0x1b8, 25, 16⟩
/-- BUS_HS_TIME.INS_DLY, RW. -/
abbrev BUS_HS_TIME_INS_DLY : Fld := ⟨0x1b8, 9, 0⟩
/-- BUS_HS_LIM.SLEW, RW. -/
abbrev BUS_HS_LIM_SLEW : Fld := ⟨0x1bc, 31, 22⟩
/-- BUS_HS_LIM.IFAST, RW. -/
abbrev BUS_HS_LIM_IFAST : Fld := ⟨0x1bc, 19, 10⟩
/-- BUS_HS_LIM.ILIM, RW. -/
abbrev BUS_HS_LIM_ILIM : Fld := ⟨0x1bc, 9, 0⟩
/-- BUS_HS_FLT.RETRIES, RW. -/
abbrev BUS_HS_FLT_RETRIES : Fld := ⟨0x1c0, 31, 28⟩
/-- BUS_HS_FLT.COOL, RW. -/
abbrev BUS_HS_FLT_COOL : Fld := ⟨0x1c0, 27, 14⟩
/-- BUS_HS_FLT.TFLT, RW. -/
abbrev BUS_HS_FLT_TFLT : Fld := ⟨0x1c0, 9, 0⟩
/-- BUS_HS_ADMIT.PRIO, RW. -/
abbrev BUS_HS_ADMIT_PRIO : Fld := ⟨0x1c4, 23, 20⟩
/-- BUS_HS_ADMIT.CHARGE, RW. -/
abbrev BUS_HS_ADMIT_CHARGE : Fld := ⟨0x1c4, 19, 0⟩
/-- BUS_HS_WAIT.WAIT, RW. -/
abbrev BUS_HS_WAIT_WAIT : Fld := ⟨0x1c8, 13, 0⟩
/-- BUS_HS_RSNS.VALUE, RW. -/
abbrev BUS_HS_RSNS_VALUE : Fld := ⟨0x1cc, 31, 0⟩
/-- BUS_ADM_LEVEL.LEVEL, RO. -/
abbrev BUS_ADM_LEVEL_LEVEL : Fld := ⟨0x200, 31, 0⟩
/-- BUS_ADM_STAT.TIMEOUTS, RC. -/
abbrev BUS_ADM_STAT_TIMEOUTS : Fld := ⟨0x204, 31, 24⟩
/-- BUS_ADM_STAT.REMOTE, RO. -/
abbrev BUS_ADM_STAT_REMOTE : Fld := ⟨0x204, 15, 15⟩
/-- BUS_ADM_STAT.FROZEN, RO. -/
abbrev BUS_ADM_STAT_FROZEN : Fld := ⟨0x204, 14, 14⟩
/-- BUS_ADM_STAT.RESTRICTED, RO. -/
abbrev BUS_ADM_STAT_RESTRICTED : Fld := ⟨0x204, 13, 13⟩
/-- BUS_ADM_STAT.QUEUED, RO. -/
abbrev BUS_ADM_STAT_QUEUED : Fld := ⟨0x204, 7, 0⟩
/-- BUS_HS_CTRL.CLEAR, WO. -/
abbrev BUS_HS_CTRL_CLEAR : Fld := ⟨0x300, 1, 1⟩
/-- BUS_HS_CTRL.EN, RW. -/
abbrev BUS_HS_CTRL_EN : Fld := ⟨0x300, 0, 0⟩
/-- BUS_HS_STATUS.RETRIES, RO. -/
abbrev BUS_HS_STATUS_RETRIES : Fld := ⟨0x304, 11, 8⟩
/-- BUS_HS_STATUS.PG, RO. -/
abbrev BUS_HS_STATUS_PG : Fld := ⟨0x304, 7, 7⟩
/-- BUS_HS_STATUS.LIMIT, RO. -/
abbrev BUS_HS_STATUS_LIMIT : Fld := ⟨0x304, 6, 6⟩
/-- BUS_HS_STATUS.WIN_GOOD, RO. -/
abbrev BUS_HS_STATUS_WIN_GOOD : Fld := ⟨0x304, 5, 5⟩
/-- BUS_HS_STATUS.STATE, RO. -/
abbrev BUS_HS_STATUS_STATE : Fld := ⟨0x304, 3, 0⟩
/-- BUS_HS_MEAS_VIN.VALUE, RO. -/
abbrev BUS_HS_MEAS_VIN_VALUE : Fld := ⟨0x308, 31, 0⟩
/-- BUS_HS_MEAS_I.VALUE, RO. -/
abbrev BUS_HS_MEAS_I_VALUE : Fld := ⟨0x30c, 31, 0⟩
/-- PD_CTRL.HARD_RESET, WO. -/
abbrev PD_CTRL_HARD_RESET : Fld := ⟨0x0, 2, 2⟩
/-- PD_CTRL.ABORT, WO. -/
abbrev PD_CTRL_ABORT : Fld := ⟨0x0, 1, 1⟩
/-- PD_CTRL.EN, RW. -/
abbrev PD_CTRL_EN : Fld := ⟨0x0, 0, 0⟩
/-- PD_STATUS.UNUSABLE, RO. -/
abbrev PD_STATUS_UNUSABLE : Fld := ⟨0x4, 31, 28⟩
/-- PD_STATUS.CAUSE, RO. -/
abbrev PD_STATUS_CAUSE : Fld := ⟨0x4, 27, 24⟩
/-- PD_STATUS.HOLD_WAIT, RO. -/
abbrev PD_STATUS_HOLD_WAIT : Fld := ⟨0x4, 21, 21⟩
/-- PD_STATUS.GATE_SNK, RO. -/
abbrev PD_STATUS_GATE_SNK : Fld := ⟨0x4, 20, 20⟩
/-- PD_STATUS.GATE_SRC, RO. -/
abbrev PD_STATUS_GATE_SRC : Fld := ⟨0x4, 19, 19⟩
/-- PD_STATUS.EPR, RO. -/
abbrev PD_STATUS_EPR : Fld := ⟨0x4, 18, 18⟩
/-- PD_STATUS.VBUS, RO. -/
abbrev PD_STATUS_VBUS : Fld := ⟨0x4, 17, 16⟩
/-- PD_STATUS.PARTNER_RP, RO. -/
abbrev PD_STATUS_PARTNER_RP : Fld := ⟨0x4, 15, 14⟩
/-- PD_STATUS.ORIENT, RO. -/
abbrev PD_STATUS_ORIENT : Fld := ⟨0x4, 13, 13⟩
/-- PD_STATUS.UNCHUNKED, RO. -/
abbrev PD_STATUS_UNCHUNKED : Fld := ⟨0x4, 12, 12⟩
/-- PD_STATUS.SPEC, RO. -/
abbrev PD_STATUS_SPEC : Fld := ⟨0x4, 11, 10⟩
/-- PD_STATUS.VCONN_SRC, RO. -/
abbrev PD_STATUS_VCONN_SRC : Fld := ⟨0x4, 9, 9⟩
/-- PD_STATUS.DATA_ROLE, RO. -/
abbrev PD_STATUS_DATA_ROLE : Fld := ⟨0x4, 8, 8⟩
/-- PD_STATUS.POWER_ROLE, RO. -/
abbrev PD_STATUS_POWER_ROLE : Fld := ⟨0x4, 7, 7⟩
/-- PD_STATUS.PD, RO. -/
abbrev PD_STATUS_PD : Fld := ⟨0x4, 6, 4⟩
/-- PD_STATUS.TC_STATE, RO. -/
abbrev PD_STATUS_TC_STATE : Fld := ⟨0x4, 3, 0⟩
/-- PD_CONTRACT.OBJ_POS, RO. -/
abbrev PD_CONTRACT_OBJ_POS : Fld := ⟨0x8, 31, 28⟩
/-- PD_CONTRACT.KIND, RO. -/
abbrev PD_CONTRACT_KIND : Fld := ⟨0x8, 27, 26⟩
/-- PD_CONTRACT.I, RO. -/
abbrev PD_CONTRACT_I : Fld := ⟨0x8, 25, 16⟩
/-- PD_CONTRACT.V, RO. -/
abbrev PD_CONTRACT_V : Fld := ⟨0x8, 15, 0⟩
/-- PD_CABLE.TRIES, RO. -/
abbrev PD_CABLE_TRIES : Fld := ⟨0xc, 12, 8⟩
/-- PD_CABLE.MAXV, RO. -/
abbrev PD_CABLE_MAXV : Fld := ⟨0xc, 5, 4⟩
/-- PD_CABLE.CABLE_EPR, RO. -/
abbrev PD_CABLE_CABLE_EPR : Fld := ⟨0xc, 2, 2⟩
/-- PD_CABLE.CABLE_5A, RO. -/
abbrev PD_CABLE_CABLE_5A : Fld := ⟨0xc, 1, 1⟩
/-- PD_CABLE.VALID, RO. -/
abbrev PD_CABLE_VALID : Fld := ⟨0xc, 0, 0⟩
/-- PD_EVT.HOLD_WAIT, W1C. -/
abbrev PD_EVT_HOLD_WAIT : Fld := ⟨0x10, 14, 14⟩
/-- PD_EVT.ERROR_RECOVERY, W1C. -/
abbrev PD_EVT_ERROR_RECOVERY : Fld := ⟨0x10, 13, 13⟩
/-- PD_EVT.EPR, W1C. -/
abbrev PD_EVT_EPR : Fld := ⟨0x10, 12, 12⟩
/-- PD_EVT.SWAP, W1C. -/
abbrev PD_EVT_SWAP : Fld := ⟨0x10, 11, 11⟩
/-- PD_EVT.POLICY_TMO, W1C. -/
abbrev PD_EVT_POLICY_TMO : Fld := ⟨0x10, 10, 10⟩
/-- PD_EVT.GUARD, W1C. -/
abbrev PD_EVT_GUARD : Fld := ⟨0x10, 9, 9⟩
/-- PD_EVT.ADM_TIMEOUT, W1C. -/
abbrev PD_EVT_ADM_TIMEOUT : Fld := ⟨0x10, 8, 8⟩
/-- PD_EVT.ADM_GRANT, W1C. -/
abbrev PD_EVT_ADM_GRANT : Fld := ⟨0x10, 7, 7⟩
/-- PD_EVT.CABLE, W1C. -/
abbrev PD_EVT_CABLE : Fld := ⟨0x10, 6, 6⟩
/-- PD_EVT.HARD_RESET, W1C. -/
abbrev PD_EVT_HARD_RESET : Fld := ⟨0x10, 5, 5⟩
/-- PD_EVT.CONTRACT, W1C. -/
abbrev PD_EVT_CONTRACT : Fld := ⟨0x10, 4, 4⟩
/-- PD_EVT.TX_DONE, W1C. -/
abbrev PD_EVT_TX_DONE : Fld := ⟨0x10, 3, 3⟩
/-- PD_EVT.RX, W1C. -/
abbrev PD_EVT_RX : Fld := ⟨0x10, 2, 2⟩
/-- PD_EVT.DETACH, W1C. -/
abbrev PD_EVT_DETACH : Fld := ⟨0x10, 1, 1⟩
/-- PD_EVT.ATTACH, W1C. -/
abbrev PD_EVT_ATTACH : Fld := ⟨0x10, 0, 0⟩
/-- PD_EVT_EN.HOLD_WAIT, RW. -/
abbrev PD_EVT_EN_HOLD_WAIT : Fld := ⟨0x14, 14, 14⟩
/-- PD_EVT_EN.ERROR_RECOVERY, RW. -/
abbrev PD_EVT_EN_ERROR_RECOVERY : Fld := ⟨0x14, 13, 13⟩
/-- PD_EVT_EN.EPR, RW. -/
abbrev PD_EVT_EN_EPR : Fld := ⟨0x14, 12, 12⟩
/-- PD_EVT_EN.SWAP, RW. -/
abbrev PD_EVT_EN_SWAP : Fld := ⟨0x14, 11, 11⟩
/-- PD_EVT_EN.POLICY_TMO, RW. -/
abbrev PD_EVT_EN_POLICY_TMO : Fld := ⟨0x14, 10, 10⟩
/-- PD_EVT_EN.GUARD, RW. -/
abbrev PD_EVT_EN_GUARD : Fld := ⟨0x14, 9, 9⟩
/-- PD_EVT_EN.ADM_TIMEOUT, RW. -/
abbrev PD_EVT_EN_ADM_TIMEOUT : Fld := ⟨0x14, 8, 8⟩
/-- PD_EVT_EN.ADM_GRANT, RW. -/
abbrev PD_EVT_EN_ADM_GRANT : Fld := ⟨0x14, 7, 7⟩
/-- PD_EVT_EN.CABLE, RW. -/
abbrev PD_EVT_EN_CABLE : Fld := ⟨0x14, 6, 6⟩
/-- PD_EVT_EN.HARD_RESET, RW. -/
abbrev PD_EVT_EN_HARD_RESET : Fld := ⟨0x14, 5, 5⟩
/-- PD_EVT_EN.CONTRACT, RW. -/
abbrev PD_EVT_EN_CONTRACT : Fld := ⟨0x14, 4, 4⟩
/-- PD_EVT_EN.TX_DONE, RW. -/
abbrev PD_EVT_EN_TX_DONE : Fld := ⟨0x14, 3, 3⟩
/-- PD_EVT_EN.RX, RW. -/
abbrev PD_EVT_EN_RX : Fld := ⟨0x14, 2, 2⟩
/-- PD_EVT_EN.DETACH, RW. -/
abbrev PD_EVT_EN_DETACH : Fld := ⟨0x14, 1, 1⟩
/-- PD_EVT_EN.ATTACH, RW. -/
abbrev PD_EVT_EN_ATTACH : Fld := ⟨0x14, 0, 0⟩
/-- PD_ADM_REQ.GO, WO. -/
abbrev PD_ADM_REQ_GO : Fld := ⟨0x18, 31, 31⟩
/-- PD_ADM_REQ.P_NEW, RW. -/
abbrev PD_ADM_REQ_P_NEW : Fld := ⟨0x18, 11, 0⟩
/-- PD_ADM_STAT.GRANT_W, RO. -/
abbrev PD_ADM_STAT_GRANT_W : Fld := ⟨0x1c, 31, 20⟩
/-- PD_ADM_STAT.STATE, RO. -/
abbrev PD_ADM_STAT_STATE : Fld := ⟨0x1c, 1, 0⟩
/-- PD_TX_CTRL.GO, WO. -/
abbrev PD_TX_CTRL_GO : Fld := ⟨0x20, 31, 31⟩
/-- PD_TX_CTRL.SOP, RW. -/
abbrev PD_TX_CTRL_SOP : Fld := ⟨0x20, 13, 12⟩
/-- PD_TX_CTRL.LEN, RW. -/
abbrev PD_TX_CTRL_LEN : Fld := ⟨0x20, 8, 0⟩
/-- PD_TX_STAT.BUSY, RO. -/
abbrev PD_TX_STAT_BUSY : Fld := ⟨0x24, 31, 31⟩
/-- PD_TX_STAT.RESULT, RO. -/
abbrev PD_TX_STAT_RESULT : Fld := ⟨0x24, 3, 0⟩
/-- PD_RX_STAT.FULL, W1C. -/
abbrev PD_RX_STAT_FULL : Fld := ⟨0x28, 31, 31⟩
/-- PD_RX_STAT.OVR, W1C. -/
abbrev PD_RX_STAT_OVR : Fld := ⟨0x28, 30, 30⟩
/-- PD_RX_STAT.QUEUED, RO. -/
abbrev PD_RX_STAT_QUEUED : Fld := ⟨0x28, 15, 14⟩
/-- PD_RX_STAT.SOP, RO. -/
abbrev PD_RX_STAT_SOP : Fld := ⟨0x28, 13, 12⟩
/-- PD_RX_STAT.LEN, RO. -/
abbrev PD_RX_STAT_LEN : Fld := ⟨0x28, 8, 0⟩
/-- PD_CNT.HARD_RESETS, RC. -/
abbrev PD_CNT_HARD_RESETS : Fld := ⟨0x2c, 31, 24⟩
/-- PD_CNT.ERROR_RECOVERIES, RC. -/
abbrev PD_CNT_ERROR_RECOVERIES : Fld := ⟨0x2c, 23, 16⟩
/-- PD_CNT.TX_FAILS, RC. -/
abbrev PD_CNT_TX_FAILS : Fld := ⟨0x2c, 15, 8⟩
/-- PD_CNT.IGNORED, RC. -/
abbrev PD_CNT_IGNORED : Fld := ⟨0x2c, 7, 0⟩
/-- PD_CFG.DB_RD, RW. -/
abbrev PD_CFG_DB_RD : Fld := ⟨0x40, 9, 9⟩
/-- PD_CFG.UNCHUNKED, RW. -/
abbrev PD_CFG_UNCHUNKED : Fld := ⟨0x40, 8, 8⟩
/-- PD_CFG.VCONN_EN, RW. -/
abbrev PD_CFG_VCONN_EN : Fld := ⟨0x40, 7, 7⟩
/-- PD_CFG.AVS_EN, RW. -/
abbrev PD_CFG_AVS_EN : Fld := ⟨0x40, 6, 6⟩
/-- PD_CFG.EPR_EN, RW. -/
abbrev PD_CFG_EPR_EN : Fld := ⟨0x40, 5, 5⟩
/-- PD_CFG.PPS_EN, RW. -/
abbrev PD_CFG_PPS_EN : Fld := ⟨0x40, 4, 4⟩
/-- PD_CFG.RP_DEF, RW. -/
abbrev PD_CFG_RP_DEF : Fld := ⟨0x40, 3, 2⟩
/-- PD_CFG.ROLE, RW. -/
abbrev PD_CFG_ROLE : Fld := ⟨0x40, 1, 0⟩
/-- PD_LIM.P_MAX, RW. -/
abbrev PD_LIM_P_MAX : Fld := ⟨0x44, 31, 24⟩
/-- PD_LIM.I_MAX, RW. -/
abbrev PD_LIM_I_MAX : Fld := ⟨0x44, 23, 14⟩
/-- PD_LIM.V_MAX, RW. -/
abbrev PD_LIM_V_MAX : Fld := ⟨0x44, 13, 0⟩
/-- PD_GUARD.OC_T, RW. -/
abbrev PD_GUARD_OC_T : Fld := ⟨0x48, 31, 24⟩
/-- PD_GUARD.OC_PCT, RW. -/
abbrev PD_GUARD_OC_PCT : Fld := ⟨0x48, 23, 16⟩
/-- PD_GUARD.OV_CNT, RW. -/
abbrev PD_GUARD_OV_CNT : Fld := ⟨0x48, 10, 8⟩
/-- PD_GUARD.OV_PCT, RW. -/
abbrev PD_GUARD_OV_PCT : Fld := ⟨0x48, 7, 0⟩
/-- PD_GUARD2.RC_US, RW. -/
abbrev PD_GUARD2_RC_US : Fld := ⟨0x4c, 23, 16⟩
/-- PD_GUARD2.RC_MA, RW. -/
abbrev PD_GUARD2_RC_MA : Fld := ⟨0x4c, 15, 0⟩
/-- PD_ADMIT.PRIO, RW. -/
abbrev PD_ADMIT_PRIO : Fld := ⟨0x50, 23, 20⟩
/-- PD_ADMIT.Q_PER_W, RW. -/
abbrev PD_ADMIT_Q_PER_W : Fld := ⟨0x50, 19, 0⟩
/-- PD_ADMIT_WAIT.WAIT, RW. -/
abbrev PD_ADMIT_WAIT_WAIT : Fld := ⟨0x54, 13, 0⟩
/-- PD_SINK.VFLOOR, RW. -/
abbrev PD_SINK_VFLOOR : Fld := ⟨0x58, 7, 0⟩
/-- PD_TIM.SRC_TRANS, RW. -/
abbrev PD_TIM_SRC_TRANS : Fld := ⟨0x5c, 15, 8⟩
/-- PD_TIM.POLICY_TMO, RW. -/
abbrev PD_TIM_POLICY_TMO : Fld := ⟨0x5c, 7, 0⟩
/-- PD_TX_BUF.DATA, RW. -/
abbrev PD_TX_BUF_DATA : Fld := ⟨0x100, 31, 0⟩
/-- PD_RX_BUF.DATA, RO. -/
abbrev PD_RX_BUF_DATA : Fld := ⟨0x300, 31, 0⟩
/-- SVC_STATUS.PATH_OC, W1C. -/
abbrev SVC_STATUS_PATH_OC : Fld := ⟨0x0, 15, 15⟩
/-- SVC_STATUS.PATH_OV, W1C. -/
abbrev SVC_STATUS_PATH_OV : Fld := ⟨0x0, 14, 14⟩
/-- SVC_STATUS.S1_PATH, RO. -/
abbrev SVC_STATUS_S1_PATH : Fld := ⟨0x0, 13, 13⟩
/-- SVC_STATUS.S0_PATH, RO. -/
abbrev SVC_STATUS_S0_PATH : Fld := ⟨0x0, 12, 12⟩
/-- SVC_STATUS.S1_STATE, RO. -/
abbrev SVC_STATUS_S1_STATE : Fld := ⟨0x0, 11, 8⟩
/-- SVC_STATUS.S0_STATE, RO. -/
abbrev SVC_STATUS_S0_STATE : Fld := ⟨0x0, 7, 4⟩
/-- SVC_STATUS.DEAD_BATT, RO. -/
abbrev SVC_STATUS_DEAD_BATT : Fld := ⟨0x0, 2, 2⟩
/-- SVC_STATUS.POWER, RO. -/
abbrev SVC_STATUS_POWER : Fld := ⟨0x0, 1, 0⟩
/-- SVC_VDM.SVID, RW. -/
abbrev SVC_VDM_SVID : Fld := ⟨0x10, 31, 16⟩
/-- SVC_VDM.CMD_EN, RW. -/
abbrev SVC_VDM_CMD_EN : Fld := ⟨0x10, 3, 0⟩
/-- SVC_LAST.COUNT, RC. -/
abbrev SVC_LAST_COUNT : Fld := ⟨0x14, 31, 16⟩
/-- SVC_LAST.PORT, RO. -/
abbrev SVC_LAST_PORT : Fld := ⟨0x14, 15, 15⟩
/-- SVC_LAST.CMD, RO. -/
abbrev SVC_LAST_CMD : Fld := ⟨0x14, 9, 4⟩
/-- SVC_LAST.STATUS, RO. -/
abbrev SVC_LAST_STATUS : Fld := ⟨0x14, 3, 0⟩
/-- GAU_CTRL.LEARN_RESET, WO. -/
abbrev GAU_CTRL_LEARN_RESET : Fld := ⟨0x0, 3, 3⟩
/-- GAU_CTRL.RELOAD, WO. -/
abbrev GAU_CTRL_RELOAD : Fld := ⟨0x0, 2, 2⟩
/-- GAU_CTRL.SWAP, WO. -/
abbrev GAU_CTRL_SWAP : Fld := ⟨0x0, 1, 1⟩
/-- GAU_CTRL.EN, RW. -/
abbrev GAU_CTRL_EN : Fld := ⟨0x0, 0, 0⟩
/-- GAU_STATUS.LEARN, RO. -/
abbrev GAU_STATUS_LEARN : Fld := ⟨0x4, 11, 10⟩
/-- GAU_STATUS.DIR, RO. -/
abbrev GAU_STATUS_DIR : Fld := ⟨0x4, 9, 8⟩
/-- GAU_STATUS.ECF, RO. -/
abbrev GAU_STATUS_ECF : Fld := ⟨0x4, 7, 7⟩
/-- GAU_STATUS.ECW, RO. -/
abbrev GAU_STATUS_ECW : Fld := ⟨0x4, 6, 6⟩
/-- GAU_STATUS.EDF, RO. -/
abbrev GAU_STATUS_EDF : Fld := ⟨0x4, 5, 5⟩
/-- GAU_STATUS.EDW, RO. -/
abbrev GAU_STATUS_EDW : Fld := ⟨0x4, 4, 4⟩
/-- GAU_STATUS.BLIND, RO. -/
abbrev GAU_STATUS_BLIND : Fld := ⟨0x4, 3, 3⟩
/-- GAU_STATUS.LOW, RO. -/
abbrev GAU_STATUS_LOW : Fld := ⟨0x4, 2, 2⟩
/-- GAU_STATUS.RESTORED, RO. -/
abbrev GAU_STATUS_RESTORED : Fld := ⟨0x4, 1, 1⟩
/-- GAU_STATUS.VALID, RO. -/
abbrev GAU_STATUS_VALID : Fld := ⟨0x4, 0, 0⟩
/-- GAU_SOC_REP.VALUE, RO. -/
abbrev GAU_SOC_REP_VALUE : Fld := ⟨0x8, 31, 0⟩
/-- GAU_SOC_EST.VALUE, RO. -/
abbrev GAU_SOC_EST_VALUE : Fld := ⟨0xc, 31, 0⟩
/-- GAU_SOC_REST.VALUE, RO. -/
abbrev GAU_SOC_REST_VALUE : Fld := ⟨0x10, 31, 0⟩
/-- GAU_I.VALUE, RO. -/
abbrev GAU_I_VALUE : Fld := ⟨0x14, 31, 0⟩
/-- GAU_V.VALUE, RO. -/
abbrev GAU_V_VALUE : Fld := ⟨0x18, 31, 0⟩
/-- GAU_T.VALUE, RO. -/
abbrev GAU_T_VALUE : Fld := ⟨0x1c, 31, 0⟩
/-- GAU_Q_MAX.Q_MAX, RW. -/
abbrev GAU_Q_MAX_Q_MAX : Fld := ⟨0x20, 31, 0⟩
/-- GAU_Q_PASS_LO.Q, RO. -/
abbrev GAU_Q_PASS_LO_Q : Fld := ⟨0x24, 31, 0⟩
/-- GAU_Q_PASS_HI.Q, RO. -/
abbrev GAU_Q_PASS_HI_Q : Fld := ⟨0x28, 31, 0⟩
/-- GAU_CYCLES.CYCLES, RO. -/
abbrev GAU_CYCLES_CYCLES : Fld := ⟨0x2c, 31, 0⟩
/-- GAU_LEARN_INFO.SPAN, RO. -/
abbrev GAU_LEARN_INFO_SPAN : Fld := ⟨0x30, 31, 16⟩
/-- GAU_LEARN_INFO.INIT, RO. -/
abbrev GAU_LEARN_INFO_INIT : Fld := ⟨0x30, 12, 12⟩
/-- GAU_LEARN_INFO.CODE, RO. -/
abbrev GAU_LEARN_INFO_CODE : Fld := ⟨0x30, 11, 8⟩
/-- GAU_LEARN_INFO.ACCEPTED, RO. -/
abbrev GAU_LEARN_INFO_ACCEPTED : Fld := ⟨0x30, 7, 0⟩
/-- GAU_CNT.MISS, RC. -/
abbrev GAU_CNT_MISS : Fld := ⟨0x34, 31, 0⟩
/-- GAU_EVT.CELL, W1C. -/
abbrev GAU_EVT_CELL : Fld := ⟨0x38, 10, 10⟩
/-- GAU_EVT.TAP, W1C. -/
abbrev GAU_EVT_TAP : Fld := ⟨0x38, 9, 9⟩
/-- GAU_EVT.SWAP, W1C. -/
abbrev GAU_EVT_SWAP : Fld := ⟨0x38, 8, 8⟩
/-- GAU_EVT.LEARN_REJ, W1C. -/
abbrev GAU_EVT_LEARN_REJ : Fld := ⟨0x38, 7, 7⟩
/-- GAU_EVT.LEARN_DONE, W1C. -/
abbrev GAU_EVT_LEARN_DONE : Fld := ⟨0x38, 6, 6⟩
/-- GAU_EVT.REST, W1C. -/
abbrev GAU_EVT_REST : Fld := ⟨0x38, 5, 5⟩
/-- GAU_EVT.LEVEL_CLR, W1C. -/
abbrev GAU_EVT_LEVEL_CLR : Fld := ⟨0x38, 4, 4⟩
/-- GAU_EVT.ECF, W1C. -/
abbrev GAU_EVT_ECF : Fld := ⟨0x38, 3, 3⟩
/-- GAU_EVT.ECW, W1C. -/
abbrev GAU_EVT_ECW : Fld := ⟨0x38, 2, 2⟩
/-- GAU_EVT.EDF, W1C. -/
abbrev GAU_EVT_EDF : Fld := ⟨0x38, 1, 1⟩
/-- GAU_EVT.EDW, W1C. -/
abbrev GAU_EVT_EDW : Fld := ⟨0x38, 0, 0⟩
/-- GAU_EVT_EN.CELL, RW. -/
abbrev GAU_EVT_EN_CELL : Fld := ⟨0x3c, 10, 10⟩
/-- GAU_EVT_EN.TAP, RW. -/
abbrev GAU_EVT_EN_TAP : Fld := ⟨0x3c, 9, 9⟩
/-- GAU_EVT_EN.SWAP, RW. -/
abbrev GAU_EVT_EN_SWAP : Fld := ⟨0x3c, 8, 8⟩
/-- GAU_EVT_EN.LEARN_REJ, RW. -/
abbrev GAU_EVT_EN_LEARN_REJ : Fld := ⟨0x3c, 7, 7⟩
/-- GAU_EVT_EN.LEARN_DONE, RW. -/
abbrev GAU_EVT_EN_LEARN_DONE : Fld := ⟨0x3c, 6, 6⟩
/-- GAU_EVT_EN.REST, RW. -/
abbrev GAU_EVT_EN_REST : Fld := ⟨0x3c, 5, 5⟩
/-- GAU_EVT_EN.LEVEL_CLR, RW. -/
abbrev GAU_EVT_EN_LEVEL_CLR : Fld := ⟨0x3c, 4, 4⟩
/-- GAU_EVT_EN.ECF, RW. -/
abbrev GAU_EVT_EN_ECF : Fld := ⟨0x3c, 3, 3⟩
/-- GAU_EVT_EN.ECW, RW. -/
abbrev GAU_EVT_EN_ECW : Fld := ⟨0x3c, 2, 2⟩
/-- GAU_EVT_EN.EDF, RW. -/
abbrev GAU_EVT_EN_EDF : Fld := ⟨0x3c, 1, 1⟩
/-- GAU_EVT_EN.EDW, RW. -/
abbrev GAU_EVT_EN_EDW : Fld := ⟨0x3c, 0, 0⟩
/-- GAU_CELL.HIGH, RO. -/
abbrev GAU_CELL_HIGH : Fld := ⟨0x40, 31, 16⟩
/-- GAU_CELL.LOW, RO. -/
abbrev GAU_CELL_LOW : Fld := ⟨0x40, 15, 0⟩
/-- GAU_TAP_STAT.PAIR, RO. -/
abbrev GAU_TAP_STAT_PAIR : Fld := ⟨0x60, 31, 17⟩
/-- GAU_TAP_STAT.OPEN, W1C. -/
abbrev GAU_TAP_STAT_OPEN : Fld := ⟨0x60, 16, 1⟩
/-- GAU_T_EXT.VALUE, RW. -/
abbrev GAU_T_EXT_VALUE : Fld := ⟨0x64, 31, 0⟩
/-- GAU_CFG.REST_SLEW, RW. -/
abbrev GAU_CFG_REST_SLEW : Fld := ⟨0x80, 31, 24⟩
/-- GAU_CFG.RESTORE, RW. -/
abbrev GAU_CFG_RESTORE : Fld := ⟨0x80, 23, 23⟩
/-- GAU_CFG.IMON, RW. -/
abbrev GAU_CFG_IMON : Fld := ⟨0x80, 20, 16⟩
/-- GAU_CFG.ISRC, RW. -/
abbrev GAU_CFG_ISRC : Fld := ⟨0x80, 8, 8⟩
/-- GAU_CFG.SERIES, RW. -/
abbrev GAU_CFG_SERIES : Fld := ⟨0x80, 5, 0⟩
/-- GAU_OCV_BASE.VALUE, RW. -/
abbrev GAU_OCV_BASE_VALUE : Fld := ⟨0x84, 31, 0⟩
/-- GAU_Q_DESIGN.VALUE, RW. -/
abbrev GAU_Q_DESIGN_VALUE : Fld := ⟨0x88, 31, 0⟩
/-- GAU_REST_I.VALUE, RW. -/
abbrev GAU_REST_I_VALUE : Fld := ⟨0x90, 31, 0⟩
/-- GAU_LOW_I.VALUE, RW. -/
abbrev GAU_LOW_I_VALUE : Fld := ⟨0x98, 31, 0⟩
/-- GAU_DEADBAND.VALUE, RW. -/
abbrev GAU_DEADBAND_VALUE : Fld := ⟨0x9c, 31, 0⟩
/-- GAU_FALLBACK_I.VALUE, RW. -/
abbrev GAU_FALLBACK_I_VALUE : Fld := ⟨0xa4, 31, 0⟩
/-- GAU_REST.DV, RW. -/
abbrev GAU_REST_DV : Fld := ⟨0x8c, 23, 16⟩
/-- GAU_REST.REST_S, RW. -/
abbrev GAU_REST_REST_S : Fld := ⟨0x8c, 15, 0⟩
/-- GAU_LOW.PERIOD, RW. -/
abbrev GAU_LOW_PERIOD : Fld := ⟨0x94, 9, 0⟩
/-- GAU_LEARN.DT, RW. -/
abbrev GAU_LEARN_DT : Fld := ⟨0xa0, 31, 24⟩
/-- GAU_LEARN.HOURS, RW. -/
abbrev GAU_LEARN_HOURS : Fld := ⟨0xa0, 23, 16⟩
/-- GAU_LEARN.STEP, RW. -/
abbrev GAU_LEARN_STEP : Fld := ⟨0xa0, 15, 8⟩
/-- GAU_LEARN.SPAN, RW. -/
abbrev GAU_LEARN_SPAN : Fld := ⟨0xa0, 7, 0⟩
/-- GAU_LEARN2.TMAX, RW. -/
abbrev GAU_LEARN2_TMAX : Fld := ⟨0xc4, 15, 8⟩
/-- GAU_LEARN2.TMIN, RW. -/
abbrev GAU_LEARN2_TMIN : Fld := ⟨0xc4, 7, 0⟩
/-- GAU_WARN_PCT.ECF, RW. -/
abbrev GAU_WARN_PCT_ECF : Fld := ⟨0xa8, 31, 24⟩
/-- GAU_WARN_PCT.ECW, RW. -/
abbrev GAU_WARN_PCT_ECW : Fld := ⟨0xa8, 23, 16⟩
/-- GAU_WARN_PCT.EDF, RW. -/
abbrev GAU_WARN_PCT_EDF : Fld := ⟨0xa8, 15, 8⟩
/-- GAU_WARN_PCT.EDW, RW. -/
abbrev GAU_WARN_PCT_EDW : Fld := ⟨0xa8, 7, 0⟩
/-- GAU_WARN_T.HYST_MV, RW. -/
abbrev GAU_WARN_T_HYST_MV : Fld := ⟨0xac, 31, 16⟩
/-- GAU_WARN_T.HYST, RW. -/
abbrev GAU_WARN_T_HYST : Fld := ⟨0xac, 15, 8⟩
/-- GAU_WARN_T.T, RW. -/
abbrev GAU_WARN_T_T : Fld := ⟨0xac, 7, 0⟩
/-- GAU_EDV_W.VALUE, RW. -/
abbrev GAU_EDV_W_VALUE : Fld := ⟨0xb0, 31, 0⟩
/-- GAU_EDV_F.VALUE, RW. -/
abbrev GAU_EDV_F_VALUE : Fld := ⟨0xb4, 31, 0⟩
/-- GAU_ECV_W.VALUE, RW. -/
abbrev GAU_ECV_W_VALUE : Fld := ⟨0xb8, 31, 0⟩
/-- GAU_ECV_F.VALUE, RW. -/
abbrev GAU_ECV_F_VALUE : Fld := ⟨0xbc, 31, 0⟩
/-- GAU_T_A.VALUE, RW. -/
abbrev GAU_T_A_VALUE : Fld := ⟨0xc8, 31, 0⟩
/-- GAU_T_B.VALUE, RW. -/
abbrev GAU_T_B_VALUE : Fld := ⟨0xcc, 31, 0⟩
/-- GAU_I_A.VALUE, RW. -/
abbrev GAU_I_A_VALUE : Fld := ⟨0xd0, 31, 0⟩
/-- GAU_I_B.VALUE, RW. -/
abbrev GAU_I_B_VALUE : Fld := ⟨0xd4, 31, 0⟩
/-- GAU_TEMP.MON, RW. -/
abbrev GAU_TEMP_MON : Fld := ⟨0xc0, 12, 8⟩
/-- GAU_TEMP.SRC, RW. -/
abbrev GAU_TEMP_SRC : Fld := ⟨0xc0, 1, 0⟩
/-- GAU_TAP_CFG.CNT, RW. -/
abbrev GAU_TAP_CFG_CNT : Fld := ⟨0xd8, 31, 24⟩
/-- GAU_TAP_CFG.THR, RW. -/
abbrev GAU_TAP_CFG_THR : Fld := ⟨0xd8, 23, 16⟩
/-- GAU_TAP_CFG.TEST, RW. -/
abbrev GAU_TAP_CFG_TEST : Fld := ⟨0xd8, 15, 15⟩
/-- GAU_TAP_CFG.CELLS, RW. -/
abbrev GAU_TAP_CFG_CELLS : Fld := ⟨0xd8, 12, 8⟩
/-- GAU_TAP_CFG.FIRST, RW. -/
abbrev GAU_TAP_CFG_FIRST : Fld := ⟨0xd8, 4, 0⟩
/-- GAU_CELL_LIM.OV, RW. -/
abbrev GAU_CELL_LIM_OV : Fld := ⟨0xdc, 31, 16⟩
/-- GAU_CELL_LIM.UV, RW. -/
abbrev GAU_CELL_LIM_UV : Fld := ⟨0xdc, 15, 0⟩
/-- GAU_TAP_SCALE.HIGH, RW. -/
abbrev GAU_TAP_SCALE_HIGH : Fld := ⟨0xe0, 31, 16⟩
/-- GAU_TAP_SCALE.LOW, RW. -/
abbrev GAU_TAP_SCALE_LOW : Fld := ⟨0xe0, 15, 0⟩
/-- ENG_CTRL.ABORT, WO. -/
abbrev ENG_CTRL_ABORT : Fld := ⟨0x0, 3, 3⟩
/-- ENG_CTRL.HALT, WO. -/
abbrev ENG_CTRL_HALT : Fld := ⟨0x0, 2, 2⟩
/-- ENG_CTRL.RESUME, WO. -/
abbrev ENG_CTRL_RESUME : Fld := ⟨0x0, 1, 1⟩
/-- ENG_CTRL.START, WO. -/
abbrev ENG_CTRL_START : Fld := ⟨0x0, 0, 0⟩
/-- ENG_STATUS.FAULTS, RC. -/
abbrev ENG_STATUS_FAULTS : Fld := ⟨0x4, 31, 16⟩
/-- ENG_STATUS.FTASK, RO. -/
abbrev ENG_STATUS_FTASK : Fld := ⟨0x4, 11, 8⟩
/-- ENG_STATUS.IN_FAULT, RO. -/
abbrev ENG_STATUS_IN_FAULT : Fld := ⟨0x4, 7, 7⟩
/-- ENG_STATUS.TASK, RO. -/
abbrev ENG_STATUS_TASK : Fld := ⟨0x4, 6, 4⟩
/-- ENG_STATUS.STATE, RO. -/
abbrev ENG_STATUS_STATE : Fld := ⟨0x4, 3, 0⟩
/-- ENG_ENTRY.ENTRY, RW. -/
abbrev ENG_ENTRY_ENTRY : Fld := ⟨0x8, 11, 0⟩
/-- ENG_CFG.GROUP, RO. -/
abbrev ENG_CFG_GROUP : Fld := ⟨0xc, 18, 16⟩
/-- ENG_CFG.FV_EN, RW. -/
abbrev ENG_CFG_FV_EN : Fld := ⟨0xc, 12, 12⟩
/-- ENG_CFG.FAULT_VEC, RW. -/
abbrev ENG_CFG_FAULT_VEC : Fld := ⟨0xc, 11, 0⟩
/-- ENG_FSTAT.FTASK, RO. -/
abbrev ENG_FSTAT_FTASK : Fld := ⟨0x10, 11, 8⟩
/-- ENG_FSTAT.ACTION, RW. -/
abbrev ENG_FSTAT_ACTION : Fld := ⟨0x10, 1, 0⟩
/-- ENG_APER.GAUGE, RW. -/
abbrev ENG_APER_GAUGE : Fld := ⟨0x14, 22, 16⟩
/-- ENG_APER.PORT, RW. -/
abbrev ENG_APER_PORT : Fld := ⟨0x14, 15, 8⟩
/-- ENG_APER.PHASE, RW. -/
abbrev ENG_APER_PHASE : Fld := ⟨0x14, 7, 0⟩
/-- ENG_SWTRIG.TRIG, W1S. -/
abbrev ENG_SWTRIG_TRIG : Fld := ⟨0x18, 7, 0⟩
/-- ENG_TASK0_CFG.TRIG_EN, RW. -/
abbrev ENG_TASK0_CFG_TRIG_EN : Fld := ⟨0x40, 28, 28⟩
/-- ENG_TASK0_CFG.TRIG, RW. -/
abbrev ENG_TASK0_CFG_TRIG : Fld := ⟨0x40, 27, 16⟩
/-- ENG_TASK0_CFG.EN, RW. -/
abbrev ENG_TASK0_CFG_EN : Fld := ⟨0x40, 15, 15⟩
/-- ENG_TASK0_CFG.PRI, RW. -/
abbrev ENG_TASK0_CFG_PRI : Fld := ⟨0x40, 14, 12⟩
/-- ENG_TASK0_CFG.ENTRY, RW. -/
abbrev ENG_TASK0_CFG_ENTRY : Fld := ⟨0x40, 11, 0⟩
/-- ENG_TASK_CFG.TRIG_EN, RW. -/
abbrev ENG_TASK_CFG_TRIG_EN : Fld := ⟨0x50, 28, 28⟩
/-- ENG_TASK_CFG.TRIG, RW. -/
abbrev ENG_TASK_CFG_TRIG : Fld := ⟨0x50, 27, 16⟩
/-- ENG_TASK_CFG.EN, RW. -/
abbrev ENG_TASK_CFG_EN : Fld := ⟨0x50, 15, 15⟩
/-- ENG_TASK_CFG.PRI, RW. -/
abbrev ENG_TASK_CFG_PRI : Fld := ⟨0x50, 14, 12⟩
/-- ENG_TASK_CFG.ENTRY, RW. -/
abbrev ENG_TASK_CFG_ENTRY : Fld := ⟨0x50, 11, 0⟩
/-- ENG_TASK_SP.SP, RW. -/
abbrev ENG_TASK_SP_SP : Fld := ⟨0x44, 31, 0⟩
/-- ENG_TASK_SL.SL, RW. -/
abbrev ENG_TASK_SL_SL : Fld := ⟨0x48, 31, 3⟩
/-- ENG_TASK_STAT.STATE, RO. -/
abbrev ENG_TASK_STAT_STATE : Fld := ⟨0x4c, 2, 0⟩
/-- ENG_MPU_BASE.BASE, RW. -/
abbrev ENG_MPU_BASE_BASE : Fld := ⟨0x100, 31, 5⟩
/-- ENG_MPU_LIM.LIMIT, RW. -/
abbrev ENG_MPU_LIM_LIMIT : Fld := ⟨0x104, 31, 5⟩
/-- ENG_MPU_ATTR.CTX, RW. -/
abbrev ENG_MPU_ATTR_CTX : Fld := ⟨0x108, 16, 8⟩
/-- ENG_MPU_ATTR.SPACE, RW. -/
abbrev ENG_MPU_ATTR_SPACE : Fld := ⟨0x108, 3, 3⟩
/-- ENG_MPU_ATTR.W, RW. -/
abbrev ENG_MPU_ATTR_W : Fld := ⟨0x108, 2, 2⟩
/-- ENG_MPU_ATTR.R, RW. -/
abbrev ENG_MPU_ATTR_R : Fld := ⟨0x108, 1, 1⟩
/-- ENG_MPU_ATTR.EN, RW. -/
abbrev ENG_MPU_ATTR_EN : Fld := ⟨0x108, 0, 0⟩
/-- ENG_MPU_CTRL.LOCK, W1S. -/
abbrev ENG_MPU_CTRL_LOCK : Fld := ⟨0x180, 1, 1⟩
/-- ENG_MPU_CTRL.EN, RW. -/
abbrev ENG_MPU_CTRL_EN : Fld := ⟨0x180, 0, 0⟩
/-- ENG_MBX_IN.DATA, WO. -/
abbrev ENG_MBX_IN_DATA : Fld := ⟨0x1c0, 31, 0⟩
/-- ENG_MBX_OUT.DATA, RO. -/
abbrev ENG_MBX_OUT_DATA : Fld := ⟨0x1c4, 31, 0⟩
/-- ENG_MBX_STAT.OVF, W1C. -/
abbrev ENG_MBX_STAT_OVF : Fld := ⟨0x1e0, 31, 24⟩
/-- ENG_MBX_STAT.LEVELS, RO. -/
abbrev ENG_MBX_STAT_LEVELS : Fld := ⟨0x1e0, 19, 0⟩
/-- DMA_CTRL.PRI, RW. -/
abbrev DMA_CTRL_PRI : Fld := ⟨0x0, 5, 4⟩
/-- DMA_CTRL.ABORT, WO. -/
abbrev DMA_CTRL_ABORT : Fld := ⟨0x0, 1, 1⟩
/-- DMA_CTRL.EN, RW. -/
abbrev DMA_CTRL_EN : Fld := ⟨0x0, 0, 0⟩
/-- DMA_STATUS.LOST, RC. -/
abbrev DMA_STATUS_LOST : Fld := ⟨0x4, 31, 24⟩
/-- DMA_STATUS.PEND, RO. -/
abbrev DMA_STATUS_PEND : Fld := ⟨0x4, 23, 16⟩
/-- DMA_STATUS.ERR, RO. -/
abbrev DMA_STATUS_ERR : Fld := ⟨0x4, 7, 4⟩
/-- DMA_STATUS.STATE, RO. -/
abbrev DMA_STATUS_STATE : Fld := ⟨0x4, 3, 0⟩
/-- DMA_DESC.DESC, RW. -/
abbrev DMA_DESC_DESC : Fld := ⟨0x8, 31, 0⟩
/-- DMA_CUR.CUR, RO. -/
abbrev DMA_CUR_CUR : Fld := ⟨0xc, 31, 0⟩
/-- DMA_REMAIN.REMAIN, RO. -/
abbrev DMA_REMAIN_REMAIN : Fld := ⟨0x10, 16, 0⟩
/-- DMA_FADDR.FADDR, RO. -/
abbrev DMA_FADDR_FADDR : Fld := ⟨0x14, 31, 0⟩
/-- DMA_TRIG.EN, RW. -/
abbrev DMA_TRIG_EN : Fld := ⟨0x18, 8, 8⟩
/-- DMA_TRIG.INPUT, RW. -/
abbrev DMA_TRIG_INPUT : Fld := ⟨0x18, 7, 0⟩
/-- DMA_TAG.TAG, RO. -/
abbrev DMA_TAG_TAG : Fld := ⟨0x1c, 31, 0⟩
/-- CAP_CTRL.INPUT, RW. -/
abbrev CAP_CTRL_INPUT : Fld := ⟨0x0, 15, 8⟩
/-- CAP_CTRL.START, RW. -/
abbrev CAP_CTRL_START : Fld := ⟨0x0, 5, 4⟩
/-- CAP_CTRL.XLANE, RW. -/
abbrev CAP_CTRL_XLANE : Fld := ⟨0x0, 3, 3⟩
/-- CAP_CTRL.DEST, RW. -/
abbrev CAP_CTRL_DEST : Fld := ⟨0x0, 2, 2⟩
/-- CAP_CTRL.ABORT, WO. -/
abbrev CAP_CTRL_ABORT : Fld := ⟨0x0, 1, 1⟩
/-- CAP_CTRL.EN, RW. -/
abbrev CAP_CTRL_EN : Fld := ⟨0x0, 0, 0⟩
/-- CAP_SRC.QTY, RW. -/
abbrev CAP_SRC_QTY : Fld := ⟨0x4, 21, 20⟩
/-- CAP_SRC.SLOTS, RW. -/
abbrev CAP_SRC_SLOTS : Fld := ⟨0x4, 19, 4⟩
/-- CAP_SRC.LANE, RW. -/
abbrev CAP_SRC_LANE : Fld := ⟨0x4, 3, 0⟩
/-- CAP_DEC.DEC, RW. -/
abbrev CAP_DEC_DEC : Fld := ⟨0x8, 15, 0⟩
/-- CAP_REC.FRAMES, RW. -/
abbrev CAP_REC_FRAMES : Fld := ⟨0xc, 9, 0⟩
/-- CAP_RING_BASE.BASE, RW. -/
abbrev CAP_RING_BASE_BASE : Fld := ⟨0x10, 31, 0⟩
/-- CAP_RING_SIZE.K, RW. -/
abbrev CAP_RING_SIZE_K : Fld := ⟨0x14, 3, 0⟩
/-- CAP_WR.WR, RO. -/
abbrev CAP_WR_WR : Fld := ⟨0x18, 22, 0⟩
/-- CAP_RD.RD, RW. -/
abbrev CAP_RD_RD : Fld := ⟨0x1c, 22, 0⟩
/-- CAP_WM.WM, RW. -/
abbrev CAP_WM_WM : Fld := ⟨0x20, 22, 0⟩
/-- CAP_SEQ.SEQ, RO. -/
abbrev CAP_SEQ_SEQ : Fld := ⟨0x24, 31, 0⟩
/-- CAP_DROP.DROP, RC. -/
abbrev CAP_DROP_DROP : Fld := ⟨0x28, 31, 0⟩
/-- CAP_STATUS.CODE, RO. -/
abbrev CAP_STATUS_CODE : Fld := ⟨0x2c, 7, 4⟩
/-- CAP_STATUS.STATE, RO. -/
abbrev CAP_STATUS_STATE : Fld := ⟨0x2c, 3, 0⟩
/-- TMR_CTRL.ABORT, WO. -/
abbrev TMR_CTRL_ABORT : Fld := ⟨0x0, 3, 3⟩
/-- TMR_CTRL.WAIT_START, RW. -/
abbrev TMR_CTRL_WAIT_START : Fld := ⟨0x0, 2, 2⟩
/-- TMR_CTRL.EN, RW. -/
abbrev TMR_CTRL_EN : Fld := ⟨0x0, 0, 0⟩
/-- TMR_STATUS.CAP_F_NEW, W1C. -/
abbrev TMR_STATUS_CAP_F_NEW : Fld := ⟨0x4, 6, 6⟩
/-- TMR_STATUS.CAP_R_NEW, W1C. -/
abbrev TMR_STATUS_CAP_R_NEW : Fld := ⟨0x4, 5, 5⟩
/-- TMR_STATUS.CMP_FLAG, W1C. -/
abbrev TMR_STATUS_CMP_FLAG : Fld := ⟨0x4, 4, 4⟩
/-- TMR_STATUS.OVF_FLAG, W1C. -/
abbrev TMR_STATUS_OVF_FLAG : Fld := ⟨0x4, 3, 3⟩
/-- TMR_STATUS.ARMED, RO. -/
abbrev TMR_STATUS_ARMED : Fld := ⟨0x4, 2, 2⟩
/-- TMR_STATUS.STATE, RO. -/
abbrev TMR_STATUS_STATE : Fld := ⟨0x4, 1, 0⟩
/-- TMR_CFG.REARM, RW. -/
abbrev TMR_CFG_REARM : Fld := ⟨0x8, 25, 24⟩
/-- TMR_CFG.OPIN, RW. -/
abbrev TMR_CFG_OPIN : Fld := ⟨0x8, 22, 20⟩
/-- TMR_CFG.OUT, RW. -/
abbrev TMR_CFG_OUT : Fld := ⟨0x8, 17, 16⟩
/-- TMR_CFG.CAPV, RW. -/
abbrev TMR_CFG_CAPV : Fld := ⟨0x8, 13, 13⟩
/-- TMR_CFG.CAP_EN, RW. -/
abbrev TMR_CFG_CAP_EN : Fld := ⟨0x8, 12, 12⟩
/-- TMR_CFG.CPIN, RW. -/
abbrev TMR_CFG_CPIN : Fld := ⟨0x8, 10, 8⟩
/-- TMR_CFG.PIN, RW. -/
abbrev TMR_CFG_PIN : Fld := ⟨0x8, 6, 4⟩
/-- TMR_CFG.SRC, RW. -/
abbrev TMR_CFG_SRC : Fld := ⟨0x8, 2, 0⟩
/-- TMR_DIV.DIV, RW. -/
abbrev TMR_DIV_DIV : Fld := ⟨0xc, 31, 0⟩
/-- TMR_RELOAD.RELOAD, RW. -/
abbrev TMR_RELOAD_RELOAD : Fld := ⟨0x10, 31, 0⟩
/-- TMR_COUNT.COUNT, RW. -/
abbrev TMR_COUNT_COUNT : Fld := ⟨0x14, 31, 0⟩
/-- TMR_CMP.CMP, RW. -/
abbrev TMR_CMP_CMP : Fld := ⟨0x18, 31, 0⟩
/-- TMR_INTERVAL.INTERVAL, RW. -/
abbrev TMR_INTERVAL_INTERVAL : Fld := ⟨0x1c, 31, 0⟩
/-- TMR_CAP_R.VALUE, RO. -/
abbrev TMR_CAP_R_VALUE : Fld := ⟨0x20, 31, 0⟩
/-- TMR_CAP_F.VALUE, RO. -/
abbrev TMR_CAP_F_VALUE : Fld := ⟨0x24, 31, 0⟩
/-- TMR_WIDTH.VALUE, RO. -/
abbrev TMR_WIDTH_VALUE : Fld := ⟨0x28, 31, 0⟩
/-- TMR_CNT.CAP_OVR, RC. -/
abbrev TMR_CNT_CAP_OVR : Fld := ⟨0x2c, 31, 16⟩
/-- TMR_CNT.LATE, RC. -/
abbrev TMR_CNT_LATE : Fld := ⟨0x2c, 15, 0⟩
/-- TMR_EVT_EN.OVF, RW. -/
abbrev TMR_EVT_EN_OVF : Fld := ⟨0x30, 1, 1⟩
/-- TMR_EVT_EN.CMP, RW. -/
abbrev TMR_EVT_EN_CMP : Fld := ⟨0x30, 0, 0⟩
/-- EVT_TIN_SEL.EN1, RW. -/
abbrev EVT_TIN_SEL_EN1 : Fld := ⟨0x0, 25, 25⟩
/-- EVT_TIN_SEL.SEL1, RW. -/
abbrev EVT_TIN_SEL_SEL1 : Fld := ⟨0x0, 24, 16⟩
/-- EVT_TIN_SEL.EN0, RW. -/
abbrev EVT_TIN_SEL_EN0 : Fld := ⟨0x0, 9, 9⟩
/-- EVT_TIN_SEL.SEL0, RW. -/
abbrev EVT_TIN_SEL_SEL0 : Fld := ⟨0x0, 8, 0⟩
/-- EVT_TIN_SEL2.EN1, RW. -/
abbrev EVT_TIN_SEL2_EN1 : Fld := ⟨0x4, 25, 25⟩
/-- EVT_TIN_SEL2.SEL1, RW. -/
abbrev EVT_TIN_SEL2_SEL1 : Fld := ⟨0x4, 24, 16⟩
/-- EVT_TIN_SEL2.EN0, RW. -/
abbrev EVT_TIN_SEL2_EN0 : Fld := ⟨0x4, 9, 9⟩
/-- EVT_TIN_SEL2.SEL0, RW. -/
abbrev EVT_TIN_SEL2_SEL0 : Fld := ⟨0x4, 8, 0⟩
/-- EVT_TIN_CFG.COINC_EV, RW. -/
abbrev EVT_TIN_CFG_COINC_EV : Fld := ⟨0x8, 16, 16⟩
/-- EVT_TIN_CFG.GSEL, RW. -/
abbrev EVT_TIN_CFG_GSEL : Fld := ⟨0x8, 13, 8⟩
/-- EVT_TIN_CFG.INV, RW. -/
abbrev EVT_TIN_CFG_INV : Fld := ⟨0x8, 4, 4⟩
/-- EVT_TIN_CFG.GATE, RW. -/
abbrev EVT_TIN_CFG_GATE : Fld := ⟨0x8, 3, 2⟩
/-- EVT_TIN_CFG.KIND, RW. -/
abbrev EVT_TIN_CFG_KIND : Fld := ⟨0x8, 0, 0⟩
/-- EVT_TIN_CNT.OVR, RC. -/
abbrev EVT_TIN_CNT_OVR : Fld := ⟨0xc, 31, 24⟩
/-- EVT_TIN_CNT.COINC, RC. -/
abbrev EVT_TIN_CNT_COINC : Fld := ⟨0xc, 23, 16⟩
/-- EVT_TIN_CNT.COUNT, RW. -/
abbrev EVT_TIN_CNT_COUNT : Fld := ⟨0xc, 15, 0⟩
/-- EVT_GATE.GATE, RW. -/
abbrev EVT_GATE_GATE : Fld := ⟨0x1000, 31, 0⟩
/-- EVT_TSTART_LO.MASK, WO. -/
abbrev EVT_TSTART_LO_MASK : Fld := ⟨0x1100, 31, 0⟩
/-- EVT_TSTART_HI.MASK, WO. -/
abbrev EVT_TSTART_HI_MASK : Fld := ⟨0x1104, 31, 0⟩
/-- EVT_TSTOP_LO.MASK, WO. -/
abbrev EVT_TSTOP_LO_MASK : Fld := ⟨0x1108, 31, 0⟩
/-- EVT_TSTOP_HI.MASK, WO. -/
abbrev EVT_TSTOP_HI_MASK : Fld := ⟨0x110c, 31, 0⟩
/-- SUP_STATUS.SEQ_FLT, RO. -/
abbrev SUP_STATUS_SEQ_FLT : Fld := ⟨0x0, 11, 11⟩
/-- SUP_STATUS.SEQ_IN, RO. -/
abbrev SUP_STATUS_SEQ_IN : Fld := ⟨0x0, 10, 10⟩
/-- SUP_STATUS.SEQ_OUT, RO. -/
abbrev SUP_STATUS_SEQ_OUT : Fld := ⟨0x0, 9, 9⟩
/-- SUP_STATUS.PWR_EN, RO. -/
abbrev SUP_STATUS_PWR_EN : Fld := ⟨0x0, 8, 8⟩
/-- SUP_STATUS.STEP, RO. -/
abbrev SUP_STATUS_STEP : Fld := ⟨0x0, 7, 3⟩
/-- SUP_STATUS.CAB, RO. -/
abbrev SUP_STATUS_CAB : Fld := ⟨0x0, 2, 0⟩
/-- SUP_EVT.WINDOW, W1C. -/
abbrev SUP_EVT_WINDOW : Fld := ⟨0x4, 7, 7⟩
/-- SUP_EVT.ILK_RUN, W1C. -/
abbrev SUP_EVT_ILK_RUN : Fld := ⟨0x4, 6, 6⟩
/-- SUP_EVT.ILK_STOP, W1C. -/
abbrev SUP_EVT_ILK_STOP : Fld := ⟨0x4, 5, 5⟩
/-- SUP_EVT.RAIL, W1C. -/
abbrev SUP_EVT_RAIL : Fld := ⟨0x4, 4, 4⟩
/-- SUP_EVT.PD_DONE, W1C. -/
abbrev SUP_EVT_PD_DONE : Fld := ⟨0x4, 3, 3⟩
/-- SUP_EVT.PU_DONE, W1C. -/
abbrev SUP_EVT_PU_DONE : Fld := ⟨0x4, 2, 2⟩
/-- SUP_EVT.PB_LONG, W1C. -/
abbrev SUP_EVT_PB_LONG : Fld := ⟨0x4, 1, 1⟩
/-- SUP_EVT.PB_SHORT, W1C. -/
abbrev SUP_EVT_PB_SHORT : Fld := ⟨0x4, 0, 0⟩
/-- SUP_SCAN_STAT.LAST_NS, RO. -/
abbrev SUP_SCAN_STAT_LAST_NS : Fld := ⟨0x10, 31, 16⟩
/-- SUP_SCAN_STAT.COUNT, RO. -/
abbrev SUP_SCAN_STAT_COUNT : Fld := ⟨0x10, 15, 0⟩
/-- SUP_DIE_T.DIE_T, RO. -/
abbrev SUP_DIE_T_DIE_T : Fld := ⟨0x14, 31, 0⟩
/-- SUP_DIE_LIM.DIE_LIM, RW. -/
abbrev SUP_DIE_LIM_DIE_LIM : Fld := ⟨0x18, 31, 0⟩
/-- SUP_MON.SEQ, RO. -/
abbrev SUP_MON_SEQ : Fld := ⟨0x100, 31, 24⟩
/-- SUP_MON.PULSED, RO. -/
abbrev SUP_MON_PULSED : Fld := ⟨0x100, 19, 19⟩
/-- SUP_MON.FRESH, RC. -/
abbrev SUP_MON_FRESH : Fld := ⟨0x100, 18, 18⟩
/-- SUP_MON.UNR, RO. -/
abbrev SUP_MON_UNR : Fld := ⟨0x100, 17, 17⟩
/-- SUP_MON.OVR, RO. -/
abbrev SUP_MON_OVR : Fld := ⟨0x100, 16, 16⟩
/-- SUP_MON.CODE, RO. -/
abbrev SUP_MON_CODE : Fld := ⟨0x100, 15, 0⟩
/-- SUP_INT.SEQ, RO. -/
abbrev SUP_INT_SEQ : Fld := ⟨0x180, 31, 24⟩
/-- SUP_INT.PULSED, RO. -/
abbrev SUP_INT_PULSED : Fld := ⟨0x180, 19, 19⟩
/-- SUP_INT.FRESH, RC. -/
abbrev SUP_INT_FRESH : Fld := ⟨0x180, 18, 18⟩
/-- SUP_INT.UNR, RO. -/
abbrev SUP_INT_UNR : Fld := ⟨0x180, 17, 17⟩
/-- SUP_INT.OVR, RO. -/
abbrev SUP_INT_OVR : Fld := ⟨0x180, 16, 16⟩
/-- SUP_INT.CODE, RO. -/
abbrev SUP_INT_CODE : Fld := ⟨0x180, 15, 0⟩
/-- SUP_WIN.LO_RISE, RW. -/
abbrev SUP_WIN_LO_RISE : Fld := ⟨0x300, 31, 16⟩
/-- SUP_WIN.LO_FALL, RW. -/
abbrev SUP_WIN_LO_FALL : Fld := ⟨0x300, 15, 0⟩
/-- SUP_WIN2.HI_RISE, RW. -/
abbrev SUP_WIN2_HI_RISE : Fld := ⟨0x304, 31, 16⟩
/-- SUP_WIN2.HI_FALL, RW. -/
abbrev SUP_WIN2_HI_FALL : Fld := ⟨0x304, 15, 0⟩
/-- SUP_WIN_STAT.GOOD, RO. -/
abbrev SUP_WIN_STAT_GOOD : Fld := ⟨0x2f0, 31, 0⟩
/-- SUP_WIN_ERR.ORDER_ERR, RO. -/
abbrev SUP_WIN_ERR_ORDER_ERR : Fld := ⟨0x2f4, 31, 0⟩
/-- SUP_WIN_CNT.CNT, RW. -/
abbrev SUP_WIN_CNT_CNT : Fld := ⟨0x2a0, 31, 0⟩
/-- SUP_ILK_CFG.HOUSE, RW. -/
abbrev SUP_ILK_CFG_HOUSE : Fld := ⟨0x400, 31, 24⟩
/-- SUP_ILK_CFG.RESTART, RW. -/
abbrev SUP_ILK_CFG_RESTART : Fld := ⟨0x400, 20, 20⟩
/-- SUP_ILK_CFG.ACTION, RW. -/
abbrev SUP_ILK_CFG_ACTION : Fld := ⟨0x400, 19, 19⟩
/-- SUP_ILK_CFG.B_ANTI, RW. -/
abbrev SUP_ILK_CFG_B_ANTI : Fld := ⟨0x400, 18, 18⟩
/-- SUP_ILK_CFG.DISC_MS, RW. -/
abbrev SUP_ILK_CFG_DISC_MS : Fld := ⟨0x400, 17, 9⟩
/-- SUP_ILK_FELT0.FELTS, RW. -/
abbrev SUP_ILK_FELT0_FELTS : Fld := ⟨0x404, 31, 0⟩
/-- SUP_ILK_FELT1.FELTS, RW. -/
abbrev SUP_ILK_FELT1_FELTS : Fld := ⟨0x408, 31, 0⟩
/-- SUP_ILK_FELT2.FELTS, RW. -/
abbrev SUP_ILK_FELT2_FELTS : Fld := ⟨0x40c, 31, 0⟩
/-- SUP_ILK_STAT.RAW, RO. -/
abbrev SUP_ILK_STAT_RAW : Fld := ⟨0x480, 31, 16⟩
/-- SUP_ILK_STAT.STATE, RO. -/
abbrev SUP_ILK_STAT_STATE : Fld := ⟨0x480, 15, 0⟩
/-- SUP_ILK_CTRL.ACK, WO. -/
abbrev SUP_ILK_CTRL_ACK : Fld := ⟨0x484, 3, 0⟩
/-- SUP_PB_CFG.AUTO_ON, RW. -/
abbrev SUP_PB_CFG_AUTO_ON : Fld := ⟨0x500, 25, 25⟩
/-- SUP_PB_CFG.KEEP_OFF, RW. -/
abbrev SUP_PB_CFG_KEEP_OFF : Fld := ⟨0x500, 24, 24⟩
/-- SUP_PB_CFG.SHORT_ACT, RW. -/
abbrev SUP_PB_CFG_SHORT_ACT : Fld := ⟨0x500, 23, 23⟩
/-- SUP_PB_CFG.LONG_S, RW. -/
abbrev SUP_PB_CFG_LONG_S : Fld := ⟨0x500, 20, 16⟩
/-- SUP_PB_CFG.ON_MS, RW. -/
abbrev SUP_PB_CFG_ON_MS : Fld := ⟨0x500, 10, 0⟩
/-- SUP_PB_STAT.PRESS_MS, RO. -/
abbrev SUP_PB_STAT_PRESS_MS : Fld := ⟨0x504, 31, 16⟩
/-- SUP_PB_STAT.MR, RO. -/
abbrev SUP_PB_STAT_MR : Fld := ⟨0x504, 1, 1⟩
/-- SUP_PB_STAT.PRESSED, RO. -/
abbrev SUP_PB_STAT_PRESSED : Fld := ⟨0x504, 0, 0⟩
/-- SUP_TT_CFG.CHAIN_DN_DLY, RW. -/
abbrev SUP_TT_CFG_CHAIN_DN_DLY : Fld := ⟨0x600, 31, 16⟩
/-- SUP_TT_CFG.UNNAMED_TMO, RW. -/
abbrev SUP_TT_CFG_UNNAMED_TMO : Fld := ⟨0x600, 15, 8⟩
/-- SUP_TT_CFG.FLT_OUT, RW. -/
abbrev SUP_TT_CFG_FLT_OUT : Fld := ⟨0x600, 5, 5⟩
/-- SUP_TT_CFG.FLT_IN, RW. -/
abbrev SUP_TT_CFG_FLT_IN : Fld := ⟨0x600, 4, 4⟩
/-- SUP_TT_CFG.CHAIN_IN, RW. -/
abbrev SUP_TT_CFG_CHAIN_IN : Fld := ⟨0x600, 3, 3⟩
/-- SUP_TT_CFG.PWR_OFF, RW. -/
abbrev SUP_TT_CFG_PWR_OFF : Fld := ⟨0x600, 2, 2⟩
/-- SUP_TT_CFG.AUTO, RW. -/
abbrev SUP_TT_CFG_AUTO : Fld := ⟨0x600, 0, 0⟩
/-- SUP_TT_CTRL.DOWN, WO. -/
abbrev SUP_TT_CTRL_DOWN : Fld := ⟨0x604, 1, 1⟩
/-- SUP_TT_CTRL.UP, WO. -/
abbrev SUP_TT_CTRL_UP : Fld := ⟨0x604, 0, 0⟩
/-- SUP_TT_STAT.FAILED, RO. -/
abbrev SUP_TT_STAT_FAILED : Fld := ⟨0x608, 31, 16⟩
/-- SUP_TT_STAT.UP_DROP, W1C. -/
abbrev SUP_TT_STAT_UP_DROP : Fld := ⟨0x608, 8, 8⟩
/-- SUP_TT_STAT.LAST_FAULT, RO. -/
abbrev SUP_TT_STAT_LAST_FAULT : Fld := ⟨0x608, 4, 0⟩
/-- SUP_TTE_A.VALID, RW. -/
abbrev SUP_TTE_A_VALID : Fld := ⟨0x800, 31, 31⟩
/-- SUP_TTE_A.STEP, RW. -/
abbrev SUP_TTE_A_STEP : Fld := ⟨0x800, 28, 24⟩
/-- SUP_TTE_A.KIND, RW. -/
abbrev SUP_TTE_A_KIND : Fld := ⟨0x800, 23, 20⟩
/-- SUP_TTE_A.INDEX, RW. -/
abbrev SUP_TTE_A_INDEX : Fld := ⟨0x800, 18, 12⟩
/-- SUP_TTE_A.GROUP, RW. -/
abbrev SUP_TTE_A_GROUP : Fld := ⟨0x800, 11, 9⟩
/-- SUP_TTE_A.CHAIN, RW. -/
abbrev SUP_TTE_A_CHAIN : Fld := ⟨0x800, 8, 8⟩
/-- SUP_TTE_A.REACT, RW. -/
abbrev SUP_TTE_A_REACT : Fld := ⟨0x800, 7, 6⟩
/-- SUP_TTE_A.N_RETRY, RW. -/
abbrev SUP_TTE_A_N_RETRY : Fld := ⟨0x800, 5, 2⟩
/-- SUP_TTE_B.UP_DLY, RW. -/
abbrev SUP_TTE_B_UP_DLY : Fld := ⟨0x804, 31, 16⟩
/-- SUP_TTE_B.PG_TMO, RW. -/
abbrev SUP_TTE_B_PG_TMO : Fld := ⟨0x804, 15, 0⟩
/-- SUP_TTE_C.PG_SRC, RW. -/
abbrev SUP_TTE_C_PG_SRC : Fld := ⟨0x808, 31, 29⟩
/-- SUP_TTE_C.MON_SEL, RW. -/
abbrev SUP_TTE_C_MON_SEL : Fld := ⟨0x808, 28, 24⟩
/-- SUP_TTE_C.RETRY_DLY, RW. -/
abbrev SUP_TTE_C_RETRY_DLY : Fld := ⟨0x808, 23, 16⟩
/-- SUP_TTE_C.OFF_TMO, RW. -/
abbrev SUP_TTE_C_OFF_TMO : Fld := ⟨0x808, 15, 0⟩
/-- SUP_TTE_D.DN_DLY, RW. -/
abbrev SUP_TTE_D_DN_DLY : Fld := ⟨0x80c, 31, 16⟩
/-- SUP_TTE_D.OFF_CODE, RW. -/
abbrev SUP_TTE_D_OFF_CODE : Fld := ⟨0x80c, 15, 0⟩
/-- FC_CTRL.CLEAR, WO. -/
abbrev FC_CTRL_CLEAR : Fld := ⟨0x0, 0, 0⟩
/-- FC_STATUS.RECESS_LEFT, RO. -/
abbrev FC_STATUS_RECESS_LEFT : Fld := ⟨0x4, 31, 16⟩
/-- FC_STATUS.DEPTH, RO. -/
abbrev FC_STATUS_DEPTH : Fld := ⟨0x4, 15, 9⟩
/-- FC_STATUS.MARKER, RO. -/
abbrev FC_STATUS_MARKER : Fld := ⟨0x4, 8, 8⟩
/-- FC_STATUS.HOLD, RO. -/
abbrev FC_STATUS_HOLD : Fld := ⟨0x4, 7, 7⟩
/-- FC_STATUS.SCOPE, RO. -/
abbrev FC_STATUS_SCOPE : Fld := ⟨0x4, 6, 4⟩
/-- FC_STATUS.STATE, RO. -/
abbrev FC_STATUS_STATE : Fld := ⟨0x4, 1, 0⟩
/-- FC_INT_STATUS.HOLD, W1C. -/
abbrev FC_INT_STATUS_HOLD : Fld := ⟨0x8, 5, 5⟩
/-- FC_INT_STATUS.OVERFLOW, W1C. -/
abbrev FC_INT_STATUS_OVERFLOW : Fld := ⟨0x8, 4, 4⟩
/-- FC_INT_STATUS.LATCHED, W1C. -/
abbrev FC_INT_STATUS_LATCHED : Fld := ⟨0x8, 3, 3⟩
/-- FC_INT_STATUS.RECOVERED, W1C. -/
abbrev FC_INT_STATUS_RECOVERED : Fld := ⟨0x8, 2, 2⟩
/-- FC_INT_STATUS.SAFE, W1C. -/
abbrev FC_INT_STATUS_SAFE : Fld := ⟨0x8, 1, 1⟩
/-- FC_INT_STATUS.ENTRY, W1C. -/
abbrev FC_INT_STATUS_ENTRY : Fld := ⟨0x8, 0, 0⟩
/-- FC_INT_EN.HOLD, RW. -/
abbrev FC_INT_EN_HOLD : Fld := ⟨0xc, 5, 5⟩
/-- FC_INT_EN.OVERFLOW, RW. -/
abbrev FC_INT_EN_OVERFLOW : Fld := ⟨0xc, 4, 4⟩
/-- FC_INT_EN.LATCHED, RW. -/
abbrev FC_INT_EN_LATCHED : Fld := ⟨0xc, 3, 3⟩
/-- FC_INT_EN.RECOVERED, RW. -/
abbrev FC_INT_EN_RECOVERED : Fld := ⟨0xc, 2, 2⟩
/-- FC_INT_EN.SAFE, RW. -/
abbrev FC_INT_EN_SAFE : Fld := ⟨0xc, 1, 1⟩
/-- FC_INT_EN.ENTRY, RW. -/
abbrev FC_INT_EN_ENTRY : Fld := ⟨0xc, 0, 0⟩
/-- FC_Q_MSG_LO.VALUE, RO. -/
abbrev FC_Q_MSG_LO_VALUE : Fld := ⟨0x10, 31, 0⟩
/-- FC_Q_MSG_HI.VALUE, RO. -/
abbrev FC_Q_MSG_HI_VALUE : Fld := ⟨0x14, 31, 0⟩
/-- FC_Q_TS_LO.VALUE, RO. -/
abbrev FC_Q_TS_LO_VALUE : Fld := ⟨0x18, 31, 0⟩
/-- FC_Q_TS_HI.VALUE, RO. -/
abbrev FC_Q_TS_HI_VALUE : Fld := ⟨0x1c, 31, 0⟩
/-- FC_Q_POP.POP, WO. -/
abbrev FC_Q_POP_POP : Fld := ⟨0x20, 0, 0⟩
/-- FC_CNT.LOST, RC. -/
abbrev FC_CNT_LOST : Fld := ⟨0x24, 31, 16⟩
/-- FC_CNT.COAL_SAT, RC. -/
abbrev FC_CNT_COAL_SAT : Fld := ⟨0x24, 15, 0⟩
/-- FC_RECOV_STAT.TOTAL, RO. -/
abbrev FC_RECOV_STAT_TOTAL : Fld := ⟨0x28, 31, 8⟩
/-- FC_RECOV_STAT.COUNT, RO. -/
abbrev FC_RECOV_STAT_COUNT : Fld := ⟨0x28, 7, 0⟩
/-- FC_INJ_LO.ARG, RW. -/
abbrev FC_INJ_LO_ARG : Fld := ⟨0x30, 31, 0⟩
/-- FC_INJ_HI.KIND, WO. -/
abbrev FC_INJ_HI_KIND : Fld := ⟨0x34, 7, 0⟩
/-- FC_CFG.STORE_SEV, RW. -/
abbrev FC_CFG_STORE_SEV : Fld := ⟨0x100, 7, 4⟩
/-- FC_CFG.CARD_SEV, RW. -/
abbrev FC_CFG_CARD_SEV : Fld := ⟨0x100, 3, 0⟩
/-- FC_RECESS.MS, RW. -/
abbrev FC_RECESS_MS : Fld := ⟨0x104, 15, 0⟩
/-- FC_RECOV.WINDOW, RW. -/
abbrev FC_RECOV_WINDOW : Fld := ⟨0x108, 31, 16⟩
/-- FC_RECOV.MAX, RW. -/
abbrev FC_RECOV_MAX : Fld := ⟨0x108, 7, 0⟩
/-- FC_FGRP.GROUP, RW. -/
abbrev FC_FGRP_GROUP : Fld := ⟨0x110, 31, 0⟩
/-- FC_REACT.SEV, RO. -/
abbrev FC_REACT_SEV : Fld := ⟨0x400, 31, 28⟩
/-- FC_REACT.FLOOR, RO. -/
abbrev FC_REACT_FLOOR : Fld := ⟨0x400, 26, 24⟩
/-- FC_REACT.GRPMASK, RW. -/
abbrev FC_REACT_GRPMASK : Fld := ⟨0x400, 23, 8⟩
/-- FC_REACT.SPREAD, RW. -/
abbrev FC_REACT_SPREAD : Fld := ⟨0x400, 4, 4⟩
/-- FC_REACT.HOLD, RW. -/
abbrev FC_REACT_HOLD : Fld := ⟨0x400, 3, 3⟩
/-- FC_REACT.SCOPE, RW. -/
abbrev FC_REACT_SCOPE : Fld := ⟨0x400, 2, 0⟩
/-- NV_CTRL.CARD_CLEAR, WO. -/
abbrev NV_CTRL_CARD_CLEAR : Fld := ⟨0x0, 2, 2⟩
/-- NV_CTRL.CARD, WO. -/
abbrev NV_CTRL_CARD : Fld := ⟨0x0, 1, 1⟩
/-- NV_CTRL.STORE, WO. -/
abbrev NV_CTRL_STORE : Fld := ⟨0x0, 0, 0⟩
/-- NV_STATUS.HALF_ERASED, RO. -/
abbrev NV_STATUS_HALF_ERASED : Fld := ⟨0x4, 31, 24⟩
/-- NV_STATUS.CMD_ERR, W1C. -/
abbrev NV_STATUS_CMD_ERR : Fld := ⟨0x4, 9, 9⟩
/-- NV_STATUS.STORE_ERR, W1C. -/
abbrev NV_STATUS_STORE_ERR : Fld := ⟨0x4, 8, 8⟩
/-- NV_STATUS.SLATE_SRC, RO. -/
abbrev NV_STATUS_SLATE_SRC : Fld := ⟨0x4, 7, 6⟩
/-- NV_STATUS.PENDING, RO. -/
abbrev NV_STATUS_PENDING : Fld := ⟨0x4, 5, 5⟩
/-- NV_STATUS.REC_BUSY, RO. -/
abbrev NV_STATUS_REC_BUSY : Fld := ⟨0x4, 4, 4⟩
/-- NV_STATUS.ERASE_BUSY, RO. -/
abbrev NV_STATUS_ERASE_BUSY : Fld := ⟨0x4, 3, 3⟩
/-- NV_STATUS.CARD_BUSY, RO. -/
abbrev NV_STATUS_CARD_BUSY : Fld := ⟨0x4, 2, 2⟩
/-- NV_STATUS.STORE_BUSY, RO. -/
abbrev NV_STATUS_STORE_BUSY : Fld := ⟨0x4, 1, 1⟩
/-- NV_STATUS.READY, RO. -/
abbrev NV_STATUS_READY : Fld := ⟨0x4, 0, 0⟩
/-- NV_SLATE_SEQ.SEQ, RO. -/
abbrev NV_SLATE_SEQ_SEQ : Fld := ⟨0x8, 31, 0⟩
/-- NV_CFG.PF_MV, RW. -/
abbrev NV_CFG_PF_MV : Fld := ⟨0xc, 11, 0⟩
/-- NV_ERASE.GO, WO. -/
abbrev NV_ERASE_GO : Fld := ⟨0x10, 8, 8⟩
/-- NV_ERASE.SECT, RW. -/
abbrev NV_ERASE_SECT : Fld := ⟨0x10, 4, 0⟩
/-- NV_REC_ADDR.ADDR, RW. -/
abbrev NV_REC_ADDR_ADDR : Fld := ⟨0x20, 16, 0⟩
/-- NV_REC_SRC.SRC, RW. -/
abbrev NV_REC_SRC_SRC : Fld := ⟨0x24, 31, 0⟩
/-- NV_REC_LEN.LEN, RW. -/
abbrev NV_REC_LEN_LEN : Fld := ⟨0x28, 11, 0⟩
/-- NV_REC_CTRL.TAG, RW. -/
abbrev NV_REC_CTRL_TAG : Fld := ⟨0x2c, 31, 16⟩
/-- NV_REC_CTRL.RESULT, RO. -/
abbrev NV_REC_CTRL_RESULT : Fld := ⟨0x2c, 7, 4⟩
/-- NV_REC_CTRL.GO, WO. -/
abbrev NV_REC_CTRL_GO : Fld := ⟨0x2c, 0, 0⟩
/-- NV_CARD_SEQ.NEXT, RO. -/
abbrev NV_CARD_SEQ_NEXT : Fld := ⟨0x30, 31, 0⟩
/-- NV_CARD_STAT.LOST, RC. -/
abbrev NV_CARD_STAT_LOST : Fld := ⟨0x34, 31, 24⟩
/-- NV_CARD_STAT.VALID, RO. -/
abbrev NV_CARD_STAT_VALID : Fld := ⟨0x34, 11, 3⟩
/-- NV_CARD_STAT.WAITING, RO. -/
abbrev NV_CARD_STAT_WAITING : Fld := ⟨0x34, 2, 0⟩
/-- NV_CARD_RD.OFFSET, RO. -/
abbrev NV_CARD_RD_OFFSET : Fld := ⟨0x38, 31, 16⟩
/-- NV_CARD_RD.INDEX, RW. -/
abbrev NV_CARD_RD_INDEX : Fld := ⟨0x38, 7, 0⟩
/-- NV_CARD_USER.DATA, RW. -/
abbrev NV_CARD_USER_DATA : Fld := ⟨0x40, 31, 0⟩
/-- NV_SECHDR.STATE, RO. -/
abbrev NV_SECHDR_STATE : Fld := ⟨0x100, 31, 0⟩
/-- NV_CNT.VALUE, RO. -/
abbrev NV_CNT_VALUE : Fld := ⟨0x200, 31, 0⟩
/-- NV_CNT_INC.MASK, WO. -/
abbrev NV_CNT_INC_MASK : Fld := ⟨0x240, 11, 0⟩
/-- NV_CNT_CLR.MASK, RWL. -/
abbrev NV_CNT_CLR_MASK : Fld := ⟨0x244, 11, 0⟩
/-- NV_PROT.REC_WP, RWL. -/
abbrev NV_PROT_REC_WP : Fld := ⟨0x300, 9, 2⟩
/-- NV_PROT.BP, RWL. -/
abbrev NV_PROT_BP : Fld := ⟨0x300, 1, 0⟩
/-- NV_MAP.SVC_SECT, RW. -/
abbrev NV_MAP_SVC_SECT : Fld := ⟨0x304, 12, 8⟩
/-- NV_MAP.CARD_BASE, RW. -/
abbrev NV_MAP_CARD_BASE : Fld := ⟨0x304, 4, 0⟩
/-- HP_GRP.GROUP, RWL. -/
abbrev HP_GRP_GROUP : Fld := ⟨0x800, 31, 0⟩
/-- HP_NOTIFY.N_STUCK, RWL. -/
abbrev HP_NOTIFY_N_STUCK : Fld := ⟨0x840, 9, 9⟩
/-- HP_NOTIFY.N_ALERT, RWL. -/
abbrev HP_NOTIFY_N_ALERT : Fld := ⟨0x840, 8, 8⟩
/-- HP_NOTIFY.N_RSP, RWL. -/
abbrev HP_NOTIFY_N_RSP : Fld := ⟨0x840, 7, 7⟩
/-- HP_NOTIFY.ADDR, RWL. -/
abbrev HP_NOTIFY_ADDR : Fld := ⟨0x840, 6, 0⟩
/-- HOST_SPI_STAT.CRC_ERR, RC. -/
abbrev HOST_SPI_STAT_CRC_ERR : Fld := ⟨0x0, 31, 16⟩
/-- HOST_SPI_STAT.ABORTS, RC. -/
abbrev HOST_SPI_STAT_ABORTS : Fld := ⟨0x0, 15, 0⟩
/-- HOST_TW_STAT.NOTICE_LOST, RC. -/
abbrev HOST_TW_STAT_NOTICE_LOST : Fld := ⟨0x10, 31, 24⟩
/-- HOST_TW_STAT.PEC_ERR, RC. -/
abbrev HOST_TW_STAT_PEC_ERR : Fld := ⟨0x10, 23, 16⟩
/-- HOST_TW_STAT.ADDR, RO. -/
abbrev HOST_TW_STAT_ADDR : Fld := ⟨0x10, 8, 2⟩
/-- HOST_TW_STAT.STUCK, RO. -/
abbrev HOST_TW_STAT_STUCK : Fld := ⟨0x10, 1, 0⟩
/-- HOST_TW_CTRL.RESET, WO. -/
abbrev HOST_TW_CTRL_RESET : Fld := ⟨0x14, 0, 0⟩
/-- CAS_CTRL.ROLL_NOW, WO. -/
abbrev CAS_CTRL_ROLL_NOW : Fld := ⟨0x0, 2, 2⟩
/-- CAS_CTRL.ENUM, WO. -/
abbrev CAS_CTRL_ENUM : Fld := ⟨0x0, 1, 1⟩
/-- CAS_CTRL.CROWN, W1S. -/
abbrev CAS_CTRL_CROWN : Fld := ⟨0x0, 0, 0⟩
/-- CAS_STATUS.PENDING, RO. -/
abbrev CAS_STATUS_PENDING : Fld := ⟨0x4, 31, 24⟩
/-- CAS_STATUS.FOUND, RO. -/
abbrev CAS_STATUS_FOUND : Fld := ⟨0x4, 23, 20⟩
/-- CAS_STATUS.UPSTREAM, RO. -/
abbrev CAS_STATUS_UPSTREAM : Fld := ⟨0x4, 19, 18⟩
/-- CAS_STATUS.RING, RO. -/
abbrev CAS_STATUS_RING : Fld := ⟨0x4, 17, 16⟩
/-- CAS_STATUS.POSITION, RO. -/
abbrev CAS_STATUS_POSITION : Fld := ⟨0x4, 7, 4⟩
/-- CAS_STATUS.ROLE, RO. -/
abbrev CAS_STATUS_ROLE : Fld := ⟨0x4, 1, 0⟩
/-- CAS_LANE01.LOSS_LIMIT, RW. -/
abbrev CAS_LANE01_LOSS_LIMIT : Fld := ⟨0x10, 23, 15⟩
/-- CAS_LANE01.STATE, RO. -/
abbrev CAS_LANE01_STATE : Fld := ⟨0x10, 14, 11⟩
/-- CAS_LANE01.MODE, RO. -/
abbrev CAS_LANE01_MODE : Fld := ⟨0x10, 2, 1⟩
/-- CAS_LANE01.EN, RW. -/
abbrev CAS_LANE01_EN : Fld := ⟨0x10, 0, 0⟩
/-- CAS_LANE23.LOSS_LIMIT, RW. -/
abbrev CAS_LANE23_LOSS_LIMIT : Fld := ⟨0x18, 23, 15⟩
/-- CAS_LANE23.STATE, RO. -/
abbrev CAS_LANE23_STATE : Fld := ⟨0x18, 14, 11⟩
/-- CAS_LANE23.MODE, RW. -/
abbrev CAS_LANE23_MODE : Fld := ⟨0x18, 2, 1⟩
/-- CAS_LANE23.EN, RW. -/
abbrev CAS_LANE23_EN : Fld := ⟨0x18, 0, 0⟩
/-- CAS_CNT.CRC, RC. -/
abbrev CAS_CNT_CRC : Fld := ⟨0x20, 31, 0⟩
/-- CAS_CFG.ROLL_CLR, RW. -/
abbrev CAS_CFG_ROLL_CLR : Fld := ⟨0x100, 19, 16⟩
/-- CAS_CFG.ROLL_MS, RW. -/
abbrev CAS_CFG_ROLL_MS : Fld := ⟨0x100, 9, 0⟩
/-- CAS_CROWN_LO.SERIAL, RW. -/
abbrev CAS_CROWN_LO_SERIAL : Fld := ⟨0x104, 31, 0⟩
/-- CAS_CROWN_HI.SERIAL, RW. -/
abbrev CAS_CROWN_HI_SERIAL : Fld := ⟨0x108, 31, 0⟩
/-- CAS_RMT_POS.GO, WO. -/
abbrev CAS_RMT_POS_GO : Fld := ⟨0x200, 8, 8⟩
/-- CAS_RMT_POS.WRITE, RW. -/
abbrev CAS_RMT_POS_WRITE : Fld := ⟨0x200, 4, 4⟩
/-- CAS_RMT_POS.POS, RW. -/
abbrev CAS_RMT_POS_POS : Fld := ⟨0x200, 3, 0⟩
/-- CAS_RMT_ADDR.VALUE, RW. -/
abbrev CAS_RMT_ADDR_VALUE : Fld := ⟨0x204, 31, 0⟩
/-- CAS_RMT_DATA.VALUE, RW. -/
abbrev CAS_RMT_DATA_VALUE : Fld := ⟨0x208, 31, 0⟩
/-- CAS_RMT_STAT.BUSY, RO. -/
abbrev CAS_RMT_STAT_BUSY : Fld := ⟨0x20c, 4, 4⟩
/-- CAS_RMT_STAT.RESULT, RO. -/
abbrev CAS_RMT_STAT_RESULT : Fld := ⟨0x20c, 3, 0⟩
/-- CAS_ROLL_STAT.MISS, RO. -/
abbrev CAS_ROLL_STAT_MISS : Fld := ⟨0x300, 31, 16⟩
/-- CAS_ROLL_STAT.MATCH, RO. -/
abbrev CAS_ROLL_STAT_MATCH : Fld := ⟨0x300, 15, 0⟩
/-- CAS_EXP_STAT.DROP3, RC. -/
abbrev CAS_EXP_STAT_DROP3 : Fld := ⟨0x400, 31, 16⟩
/-- CAS_EXP_STAT.DROP2, RC. -/
abbrev CAS_EXP_STAT_DROP2 : Fld := ⟨0x400, 15, 0⟩
/-- SYS_ID.REV, RO. -/
abbrev SYS_ID_REV : Fld := ⟨0x0, 23, 16⟩
/-- SYS_ID.PART, RO. -/
abbrev SYS_ID_PART : Fld := ⟨0x0, 15, 0⟩
/-- SYS_LOT_LO.LOT, RO. -/
abbrev SYS_LOT_LO_LOT : Fld := ⟨0x4, 31, 0⟩
/-- SYS_LOT_HI.LOT, RO. -/
abbrev SYS_LOT_HI_LOT : Fld := ⟨0x8, 15, 0⟩
/-- SYS_DIE.DIE_Y, RO. -/
abbrev SYS_DIE_DIE_Y : Fld := ⟨0xc, 23, 16⟩
/-- SYS_DIE.DIE_X, RO. -/
abbrev SYS_DIE_DIE_X : Fld := ⟨0xc, 15, 8⟩
/-- SYS_DIE.WAFER, RO. -/
abbrev SYS_DIE_WAFER : Fld := ⟨0xc, 4, 0⟩
/-- SYS_SERIAL_LO.VALUE, RO. -/
abbrev SYS_SERIAL_LO_VALUE : Fld := ⟨0x10, 31, 0⟩
/-- SYS_SERIAL_HI.VALUE, RO. -/
abbrev SYS_SERIAL_HI_VALUE : Fld := ⟨0x14, 31, 0⟩
/-- SYS_FSIG_LO.VALUE, RO. -/
abbrev SYS_FSIG_LO_VALUE : Fld := ⟨0x18, 31, 0⟩
/-- SYS_FSIG_HI.VALUE, RO. -/
abbrev SYS_FSIG_HI_VALUE : Fld := ⟨0x1c, 31, 0⟩
/-- SYS_FUSE.SIG_REQ, RO. -/
abbrev SYS_FUSE_SIG_REQ : Fld := ⟨0x20, 8, 8⟩
/-- SYS_FUSE.REVOKE, RO. -/
abbrev SYS_FUSE_REVOKE : Fld := ⟨0x20, 7, 4⟩
/-- SYS_FUSE.SLOT_SET, RO. -/
abbrev SYS_FUSE_SLOT_SET : Fld := ⟨0x20, 3, 0⟩
/-- SYS_KEYHASH.HASH, RO. -/
abbrev SYS_KEYHASH_HASH : Fld := ⟨0x40, 31, 0⟩
/-- SYS_RST_CAUSE.CAUSE, W1C. -/
abbrev SYS_RST_CAUSE_CAUSE : Fld := ⟨0xc0, 3, 0⟩
/-- SYS_RST_CTRL.KEY, WO. -/
abbrev SYS_RST_CTRL_KEY : Fld := ⟨0xc4, 31, 16⟩
/-- SYS_RST_CTRL.GO, WO. -/
abbrev SYS_RST_CTRL_GO : Fld := ⟨0xc4, 0, 0⟩
/-- SYS_PWR.AWAKE, RO. -/
abbrev SYS_PWR_AWAKE : Fld := ⟨0xc8, 1, 1⟩
/-- SYS_PWR.SLEEP, W1S. -/
abbrev SYS_PWR_SLEEP : Fld := ⟨0xc8, 0, 0⟩
/-- SYS_CLK_STAT.PLLA_LOCK, RO. -/
abbrev SYS_CLK_STAT_PLLA_LOCK : Fld := ⟨0xcc, 2, 2⟩
/-- SYS_CLK_STAT.XTAL32, RO. -/
abbrev SYS_CLK_STAT_XTAL32 : Fld := ⟨0xcc, 1, 1⟩
/-- SYS_CLK_STAT.PLLA_SRC, RO. -/
abbrev SYS_CLK_STAT_PLLA_SRC : Fld := ⟨0xcc, 0, 0⟩
/-- BUS_K.VALUE, RW. -/
abbrev BUS_K_VALUE : Fld := ⟨0x128, 31, 0⟩
/-- BUS_IN_SLEW.VALUE, RW. -/
abbrev BUS_IN_SLEW_VALUE : Fld := ⟨0x12c, 31, 0⟩
/-- BUS_P_PREF.VALUE, RW. -/
abbrev BUS_P_PREF_VALUE : Fld := ⟨0x130, 31, 0⟩
/-- BUS_SOC_TGT.VALUE, RW. -/
abbrev BUS_SOC_TGT_VALUE : Fld := ⟨0x134, 31, 0⟩
/-- BUS_CAP_P.VALUE, RW. -/
abbrev BUS_CAP_P_VALUE : Fld := ⟨0x138, 31, 0⟩
/-- BUS_CAP_I.VALUE, RW. -/
abbrev BUS_CAP_I_VALUE : Fld := ⟨0x13c, 31, 0⟩
/-- BUS_IN_PMAX.VALUE, RW. -/
abbrev BUS_IN_PMAX_VALUE : Fld := ⟨0x140, 31, 0⟩
/-- BUS_SHELF_CHG.VALUE, RW. -/
abbrev BUS_SHELF_CHG_VALUE : Fld := ⟨0x144, 31, 0⟩
/-- BUS_SHELF_DIS.VALUE, RW. -/
abbrev BUS_SHELF_DIS_VALUE : Fld := ⟨0x148, 31, 0⟩
/-- BUS_DUMP_PMAX.VALUE, RW. -/
abbrev BUS_DUMP_PMAX_VALUE : Fld := ⟨0x14c, 31, 0⟩
/-- BUS_R_DUMP.VALUE, RW. -/
abbrev BUS_R_DUMP_VALUE : Fld := ⟨0x150, 31, 0⟩
/-- BUS_DUMP_E.VALUE, RW. -/
abbrev BUS_DUMP_E_VALUE : Fld := ⟨0x154, 31, 0⟩
/-- BUS_DUMP_PAVG.VALUE, RW. -/
abbrev BUS_DUMP_PAVG_VALUE : Fld := ⟨0x158, 31, 0⟩
/-- BUS_START_SLEW.VALUE, RW. -/
abbrev BUS_START_SLEW_VALUE : Fld := ⟨0x198, 31, 0⟩
/-- SYS_CST_W0.PHASES, RO. -/
abbrev SYS_CST_W0_PHASES : Fld := ⟨0x4000, 31, 0⟩
/-- SYS_CST_W6.DEFINED, RO. -/
abbrev SYS_CST_W6_DEFINED : Fld := ⟨0x4018, 8, 8⟩
/-- SYS_CST_W6.OWNER, RO. -/
abbrev SYS_CST_W6_OWNER : Fld := ⟨0x4018, 6, 0⟩
end F

end Sys2Proof.Machine
end

