-- ==== Sys2Proof/Machine/State.lean ====
section
/-! DEFINITION. The machine's state as plain data: every register of the register map (by host address, in one sparse
table), the memories, and for each unit the state that its rules give it beside its registers; the faults, the refusals
and the state after reset. -/
namespace Sys2Proof.Machine

/-- Why a step stops with a fault. No meaning of this model raises one: every behaviour of spec/ that a command can meet
is a next state (a refused access is a dropped write and an ACCESS report, R25). The constructor is kept so that the type
is closed and not empty; it is safe, because nothing raises it. -/
inductive Fault where
  /-- Raised by nobody; safe. -/
  | none
  deriving DecidableEq, Repr

/-- Why a step has no meaning. -/
inductive Refusal where
  /-- Raised by an arm of exec whose command has no meaning yet, with the command's mnemonic; safe. -/
  | notModelled (mnemonic : String)
  deriving DecidableEq, Repr

/-- One timer's own state that no register shows (R375, R376, R378, R381, R382). -/
structure TimerX where
  /-- The prescaler accumulator A (R375). -/
  acc : Nat
  /-- The RELOAD in force while a written one is staged (R376); none when the register is in force. -/
  active : Option Word
  /-- The compare was armed with its value already passed, and has been due since: its fire is late (R380). -/
  fresh : Bool
  /-- A compare written while the timer did not count, armed when counting begins (R381). -/
  stored : Bool
  /-- REARM 2: the compare is armed again at the next overflow (R381). -/
  atOverflow : Bool
  /-- A rising edge captured since the last falling edge (R384). -/
  rise : Bool
  /-- The level the timer drives on its output pin (R382). -/
  out : Bool
  deriving DecidableEq, Repr

/-- A fault message (R415) in its fields. -/
structure Msg where
  cls : Nat
  inst : Nat
  kind : Nat
  sev : Nat
  count : Nat
  arg : Nat
  deriving DecidableEq, Repr

/-- An entry of the fault queue: the message, its stamp, and whether FC_Q_MSG_LO has been read while it stood at the
head (R420). -/
structure QEntry where
  msg : Msg
  stamp : DWord
  read : Bool
  deriving DecidableEq, Repr

/-- A report waiting for its decision: the message and whether it came by a spread fault packet (R427). -/
structure Report where
  msg : Msg
  spread : Bool
  deriving DecidableEq, Repr

/-- A reaction with its outputs: its scope (R423), the felts it covers and the reports whose conditions it holds. -/
structure Reaction where
  scope : Nat
  felts : List Nat
  conds : List Msg
  deriving DecidableEq, Repr

/-- The fault collector (R418 to R431). -/
structure FcX where
  /-- The queue, oldest first; an overflow marker is an entry of KIND OVERFLOW (R421). -/
  queue : List QEntry
  /-- Reports that have arrived and are not yet decided (R425). -/
  undecided : List Report
  /-- The running reaction of scope 2 or wider. -/
  running : Option Reaction
  /-- The reaction backlog: at most one merged reaction for each scope (R426). -/
  backlog : List Reaction
  /-- Felts held by a reaction. -/
  heldFelts : List Nat
  /-- House channels, hot-swap and bus held by a reaction of scope 4 or 5. -/
  heldCab : Bool
  /-- Reports decided during the fault state, whose held conditions R429 judges. -/
  conds : List Msg
  /-- A recovery window is open (R431). -/
  window : Bool
  /-- The widest scope that holds outputs (FC_STATUS.SCOPE); 0 none. -/
  wide : Nat
  /-- A reset-scope reaction waits for its store and card (R423). -/
  resetWait : Bool
  deriving DecidableEq, Repr

/-- A side-channel packet of a stage lane (R83). -/
structure SidePkt where
  cls : Nat
  pseq : Nat
  arg : Nat
  body : List Word
  deriving DecidableEq, Repr

/-- A stage-end register access in order of request (R84): a host access of SL_HUB_CMD, or the reading of the common
registers that R102 asks for after training. -/
structure HubAcc where
  host : Bool
  write : Bool
  addr : Nat
  count : Nat
  deriving DecidableEq, Repr

/-- A partial USB PD message of a port (R85): SOP kind, next segment, bytes so far. -/
structure PdPart where
  port : Nat
  sop : Nat
  seg : Nat
  bytes : List Byte
  deriving DecidableEq, Repr

/-- One stage lane beside its registers (03_stage_link.md). -/
structure LaneX where
  /-- SEQ of the previous uplink frame slot, once aligned (R77). -/
  seq : Option Nat
  /-- Consecutive good frames of the type the training state wants (R99). -/
  good : Nat
  /-- Consecutive bad uplink frames in RUN (R104). -/
  bad : Nat
  /-- Attempts failed since the last BACKOFF (R99). -/
  fails : Nat
  /-- SL_TRAIN_FAIL has been reported in this run of failures (R99). -/
  told : Bool
  /-- Measurements of M in MEASURE: how many, the least, the greatest (R99). -/
  measN : Nat
  measMin : Nat
  measMax : Nat
  /-- The chosen version, 0 until chosen (R101). -/
  chosen : Nat
  /-- The stage end's sample delays, in ticks (R96). -/
  dSampI : Nat
  dSampV : Nat
  /-- SL_LAT_DRIFT has been reported in this excursion (R98). -/
  drifted : Bool
  /-- An SL_LOSS that is due: 0 none, 1 bad frames, 2 HUB_SAFE, 3 latency jump (R104). -/
  loss : Nat
  /-- RUN frames with all slots OFF still to send before electrical idle, and whether the lane then halts (R104, R106). -/
  closing : Option (Nat × Bool)
  /-- Slots are all sent OFF: after SL_LOSS (R104). -/
  off : Bool
  /-- The earliest downlink frame not yet built, by its index on the line count (R72, R177). -/
  built : Nat
  /-- The frame last sent; none in electrical idle. Bit b0 is the most significant bit. -/
  tx : Option (BitVec 280)
  /-- The next PSEQ this end gives (R90). -/
  nextSeq : Nat
  /-- The ACKSEQ this end sends: PSEQ of the last packet accepted (R90). -/
  ackOut : Nat
  /-- Packets that wait for their first sending, in order of request. -/
  waiting : List SidePkt
  /-- Packets sent whole or in part and not acknowledged, oldest first (R90). -/
  sent : List SidePkt
  /-- Packets to send again, oldest first (R91). -/
  again : List SidePkt
  /-- Body words left of the packet in progress (R93). -/
  txBody : List Word
  /-- Successive timeouts with no ACKSEQ progress (R91). -/
  timeouts : Nat
  /-- A RESYNC packet is to be sent next (R92). -/
  resync : Bool
  /-- The packet being received and the words it still lacks (R83). -/
  rxPart : Option (SidePkt × Nat)
  /-- Packets accepted and not yet acted on, oldest first. -/
  rx : List SidePkt
  /-- ARG of the last uplink IDLE packet, until it is acted on (R84). -/
  idle : Option Nat
  /-- Partial PD messages by port (R85). -/
  pdIn : List PdPart
  /-- Stage-end register accesses queued or in flight, oldest first. -/
  accs : List HubAcc
  /-- The stage end's units, read from its common registers (R111). -/
  iLsb : Word
  vLsb : Word
  /-- The common registers have been read since the last training (R102). -/
  common : Bool
  /-- Slots in trip by STATUS page 0 (R88). -/
  tripMask : Nat
  /-- Slots the stage end reports latched (R88, R89). -/
  latchMask : Nat
  /-- STATUS page 0 word 3 at the previous page, 0 after a training (R88). -/
  slotErrs : Nat
  /-- The stage end's temperature (R88). -/
  temp : Nat
  /-- STATUS pages 1 to 15 as received (R88). -/
  pages : List (Nat × List Word)
  /-- Link control packets other than those with a command of their own are dropped; a LATCH_CLEAR asked for (R167). -/
  clearing : Nat
  /-- The last good uplink RUN frame was a RUN_TRIP frame (R94). -/
  tripRun : Bool
  /-- The index k of the last uplink frame slot in RUN: SEQ is k mod 16 (R72, R96, R113). -/
  idx : Int
  deriving DecidableEq, Repr

/-- A phase's part of one uplink frame that waits for the same frame of the felt's other lanes (R112, R113). -/
structure Sample where
  /-- The frame's index (R72). -/
  k : Int
  /-- The frame was bad. -/
  bad : Bool
  /-- It carried a valid sample. -/
  ok : Bool
  /-- Its code marks saturation (R82). -/
  sat : Bool
  /-- The sample, or the last valid one that stands in for it, in amperes or volts. -/
  val : Word
  deriving DecidableEq, Repr

/-- One phase beside its registers (04_phase_control.md). -/
structure PhaseX where
  /-- The GATE code the last frame left in force (R78). -/
  gate : Nat
  /-- Leading edges scheduled and not yet placed, in ticks of the line count, earliest first (R117). -/
  leads : List Int
  /-- The leading edge of the pulse that is on (R118). -/
  lead : Option Int
  /-- The last eight current codes, newest first (R136). -/
  iHist : List Nat
  /-- The last eight voltage codes, newest first (R136). -/
  vHist : List Nat
  /-- The current sample in the felt's last complete current frame, the last valid one standing in for a missing one (R112,
  R113), in amperes. -/
  i : Word
  /-- The last valid voltage sample and whether one has arrived since the felt started (R114). -/
  v : Word
  vSince : Bool
  /-- SEQ of the felt's complete current frame that waits for the lead loop, and whether it was bad (R112, R113). -/
  iSeq : Option Nat
  iBad : Bool
  /-- SEQ of the felt's last complete voltage frame, whether it was bad, whether it carried a valid sample. -/
  vSeq : Option Nat
  vBad : Bool
  vOk : Bool
  /-- Current samples of the running period, and i_sum over the same time, newest first (R125). -/
  iPer : List Word
  sPer : List Word
  /-- Consecutive no-sample codes (R112). -/
  miss : Nat
  /-- Consecutive over-voltage samples (R133). -/
  ov : Nat
  /-- Consecutive limited cycles, and the limit event of the running cycle: 0 none, 1 positive, 2 negative (R131). -/
  lim : Nat
  cut : Nat
  /-- The running cycle is limited (R132). -/
  limited : Bool
  /-- Consecutive cycles below DE_IN (R127). -/
  deIn : Nat
  /-- A cycle has ended and its average waits for the light-load judgement (R127). -/
  cyc : Bool
  /-- LOW_LATCH is sent (R133). -/
  latchTx : Bool
  /-- The coefficient registers +0x100 to +0x150 in force; none: the registers themselves (R137). -/
  coef : List Word
  /-- The current and the voltage frames that wait for the same frame of the felt's other lanes, newest first (R113). -/
  iQ : List Sample
  vQ : List Sample
  /-- The last valid current sample, in amperes (R112). -/
  iLast : Word
  /-- The felt's last complete current frame carried a valid sample of this phase, and it was saturated (R164, R291). -/
  iOk : Bool
  iSat : Bool
  /-- The voltage of this phase in the felt's last complete voltage frame (R129, R139). -/
  vNow : Word
  deriving DecidableEq, Repr

/-- A setpoint set (R143). -/
structure SpSet where
  ctrl : Word
  v : Word
  i : Word
  iSrc : Word
  iSnk : Word
  x : Word
  slewV : Word
  slewI : Word
  deriving DecidableEq, Repr

/-- One felt beside its registers (05_felt_regulation.md; its loop hardware is that of its lead phase). -/
structure FeltX where
  /-- The host set and the engine set last applied by word 0 (R144). -/
  host : Option SpSet
  eng : Option SpSet
  /-- The set in force (R146). -/
  set : Option SpSet
  /-- A set that takes effect at the next update (R146). -/
  next : Option SpSet
  /-- The block last selected or recorded (R154). -/
  blk : Nat
  /-- v_ref, the present target, and the present current target (R146). -/
  vRef : Word
  iRef : Word
  /-- The i_ref of R148 before clamping, and the i_ref passed to the lead loop. -/
  iRaw : Word
  iOut : Word
  /-- y(V) determined i_ref without being clamped: region V (R149). -/
  regionV : Bool
  /-- Errors e(k−1) to e(k−3) and outputs y(k−1) to y(k−3), newest first (R140). -/
  eh : List Word
  yh : List Word
  /-- Valid voltages of the voltage frames since the last update, and how many frames have passed (R139). -/
  vAcc : List Word
  vCnt : Nat
  /-- Values of v_fb with the count of the voltage frame of their update, newest first; the voltage frames so far (R159). -/
  vfbs : List (Nat × Word)
  vFrames : Nat
  /-- v_fb of the last update that had a valid sample. -/
  vFb : Word
  /-- The integrator x and the duty d of the lead loop (R114). -/
  x : Word
  d : Word
  /-- i_sum of the last current frames, newest first, and i_avg (R114). -/
  sums : List Word
  iAvg : Word
  /-- Direction sink (R149); updates for which a new QUAD value has held. -/
  sink : Bool
  quadN : Nat
  /-- What the start ramp drives: 0 no ramp, 1 v_ref, 2 i_ref (R159). -/
  ramp : Nat
  /-- The start came from a breaker retry or the end of a fault reaction (R126). -/
  recovery : Bool
  /-- Switching cycles of fulling still to run (R126). -/
  fullN : Nat
  /-- Fulling because d lies above the rotation limit (R126). -/
  fullD : Bool
  /-- Fulling ran in the last round (R126). -/
  full : Bool
  /-- Burst: 0 normal, 1 idle, 2 burst; rounds counted (R128). -/
  burst : Nat
  burstN : Nat
  /-- A round has begun and waits for the burst judgement (R128). -/
  newRound : Bool
  /-- A surge drives the phases; the hold-off runs (R130). -/
  surge : Bool
  surgeHold : Bool
  /-- Consecutive slope frames, and the mean of the last voltage frame (R129). -/
  slopeN : Nat
  vPrev : Option Word
  /-- The schedule: round number, start of the round in ticks of the line count, period in ticks (R117). -/
  round : Nat
  roundT : Int
  period : Nat
  /-- Glide of the period: cycles left, the target period, the phase error still to remove in ticks (R123). -/
  glide : Nat
  glideP : Nat
  glideE : Int
  /-- SYNC_IN correction still to remove in ticks, and rounds over which it is spread (R122). -/
  syncE : Int
  syncN : Nat
  /-- SYNC_IN edges since the last one that aligned a round (R122). -/
  syncK : Nat
  /-- |i_sum| of the valid current frames of this microsecond (R164); the breaker timer. -/
  brkI : List Word
  brkT : Nat
  /-- i_sum of the valid current frames of the gauge's microsecond, and one of them held a saturation code (R277, R291). -/
  gauI : List Word
  gauSat : Bool
  /-- The last current frame lay above FELT_I_BRK_FAST (R165). -/
  brkFast : Bool
  /-- The stop profile runs (R161): 0 none, 1 v_ref ramps, 2 i_ref ramps; EN was written 1 meanwhile. -/
  stop : Nat
  again : Bool
  /-- Lanes that have not yet confirmed a latch clear (R167). -/
  clearing : List Nat
  /-- The lead resistance has been learned (R169). -/
  learned : Bool
  /-- SENSE_OPEN is latched (R171). -/
  senseOpen : Bool
  /-- The limits of the PD port that the felt serves (R239); none: no port. -/
  portHi : Option Word
  portLo : Option Word
  /-- The source gate of the port is closed: v_ref follows v_fb (R240); its sink gate is open (R241). -/
  portTrack : Bool
  portSnk : Bool
  /-- The port holds the sets that the policy writes, and the set it holds (R253). -/
  portHold : Bool
  portSet : Option SpSet
  /-- The port awaits a set, and the voltage frame count at which it took effect (R254). -/
  portWant : Bool
  portAt : Option Nat
  /-- The breaker is latched: STATE 9, or 10 while a safe reaction holds the felt (R31, R166). -/
  brkLat : Bool
  /-- The SYNC_DLY that the schedule of rounds holds, in ticks (R117, R137). -/
  dly : Nat
  /-- The source (SEL) whose set is in force (R31, R145), and the block of the set that waits for the next update (R154). -/
  src : Nat
  nextBlk : Option Nat
  /-- The start ramp's own value, a v_ref or an i_ref, and whether it has reached its target at an update (R156, R159). -/
  rampV : Word
  rampHit : Bool
  /-- IN_REG has been set since the start (R169). -/
  regSeen : Bool
  /-- The felt waits at step 2 held off by an interlock stop or a force-off: it restarts by the checks of R158 (R160). -/
  restart : Bool
  /-- v_force of the last eight voltage frames, newest first, none where it is missing; i_sum of the valid current frames of
  this microsecond: what a port's guards judge (R263). -/
  vForces : List (Option Word)
  sumsUs : List Word
  /-- v_out of the last voltage frame with no bad part (R112, R114): the mean of the phases' latest valid samples since the start. -/
  vOut : Option Word
  /-- v_force of the voltage frames since the last update that have one (R139, R171). -/
  vfAcc : List Word
  /-- The coherent registers +0x100 to +0x1FF as the last update took them (R173); none before the first. -/
  co : List Word
  deriving DecidableEq, Repr

/-- A waveform list point as read (R197): its two words. -/
structure WfPoint where
  w0 : Word
  w1 : Word
  deriving DecidableEq, Repr

/-- One felt's list unit beside its registers (R197 to R205). -/
structure ListX where
  /-- The origin on the line count, in nanoseconds. -/
  org : Nat
  /-- Start of the point in use on the line count, in nanoseconds. -/
  t : Nat
  /-- The value at the start of the point in use (R198). -/
  prev : Word
  /-- The base set at the start (R198). -/
  base : Option SpSet
  /-- Points that have arrived from shared memory, by index (R202). -/
  pts : List (Nat × WfPoint)
  /-- The value last delivered to the felt loop (R202). -/
  out : Word
  /-- The list has been aborted or held: the target stays (R204). -/
  frozen : Bool
  /-- STOP was written: the list ends at the end of the point (R204). -/
  stopping : Bool
  /-- An underrun runs: WF_UNDERRUN has been raised (R202). -/
  under : Bool
  /-- The origin of the armed list is known (R199). -/
  due : Bool
  /-- The origin in cabinet time, in nanoseconds, as it stood when the origin was taken (R194, R199). -/
  orgC : Nat
  /-- The list has delivered a value since it was started (R202). -/
  fed : Bool
  deriving DecidableEq, Repr

/-- SYNC_IN as the part sees it (R120, R121). -/
structure SyncX where
  /-- The last rising edge on the line count, in ticks. -/
  last : Option Int
  /-- The last intervals in ticks, newest first, at most 16. -/
  ivals : List Nat
  deriving DecidableEq, Repr

/-- The time unit beside its registers (06_time_and_waveforms.md). -/
structure TimeX where
  /-- Cabinet time counts: the time PLL has first locked (R175, R184). -/
  counting : Bool
  /-- The residue a slew removes, in nanoseconds (R180). -/
  residue : Int
  /-- The apply that waits for the next bell, in nanoseconds (R179). -/
  pendApply : Option Nat
  /-- The pending bell, in nanoseconds (R193). -/
  bell : Option Nat
  /-- Brims that have acknowledged the pending bell (R193). -/
  acked : List Nat
  /-- Probes in a row within 1 ns (R191). -/
  goodProbes : Nat
  /-- Phase adjustments made and not yet a whole nanosecond of the line count, in ticks (R189). -/
  phase : Int
  /-- The one-way latency to each brim, in ticks, by position (R189, R193). -/
  lats : List (Nat × Nat)
  /-- The send time of the last probe to each brim, in nanoseconds of cabinet time, by position (R189). -/
  probes : List (Nat × Nat)
  /-- This brim has joined the cascade and has not yet taken the crown's time (R190). -/
  joining : Bool
  /-- The phase error the running glide removes, in nanoseconds: the target follows phase (R186, R190). -/
  glide : Int
  /-- The line count at which holdover began, in nanoseconds (R187). -/
  holdAt : Nat
  /-- The device has not been in the cascade since its upstream lane was last up: an ENUM joins it (R190). -/
  away : Bool
  /-- The first probe after joining: its arrival on the own clock less its send stamp, in nanoseconds, until the error packet
  tells the way (R189, R190). -/
  joinAt : Option Int
  /-- The last rising edge that SYNC_OUT repeated, in ticks of the line count (R196). -/
  syncRise : Option Int
  /-- This brim has taken the crown's time since reset: a later join is a rejoin (R190). -/
  joined : Bool
  /-- The brim has left the cascade while it held (R489). -/
  left : Bool
  deriving DecidableEq, Repr

/-- A start request to the admission budget (R229). kind: 0 felt, 1 PD port, 2 hot-swap, 3 house channel; left: 10 µs steps
of its maximum wait still to run; id: the identity a brim gave it (R486). -/
structure AdmReq where
  kind : Nat
  pos : Nat
  inst : Nat
  q : Nat
  prio : Nat
  wait : Nat
  left : Nat
  id : Nat
  deriving DecidableEq, Repr

/-- A cascade packet (R481, R482), without the hop's PSEQ and ACKSEQ. -/
structure CasPkt where
  cls : Nat
  src : Nat
  dst : Nat
  bcast : Bool
  sub : Nat
  body : List Word
  deriving DecidableEq, Repr

/-- The start-admission budget beside its registers (R228 to R231). -/
structure AdmX where
  /-- The level L in hundredths of a mA·ms, so that no charge is lost to rounding (R228). -/
  level : Int
  /-- Requests made and not yet entered into the queue, oldest first. -/
  asked : List AdmReq
  /-- The queue, in order of priority and then of arrival (R229). -/
  queue : List AdmReq
  /-- The next identity this device gives a request of its own (R486). -/
  nextId : Nat
  /-- Requests of this brim that left its queue ungranted, by identity, with their charge q: a grant that still comes for
  one is returned (R231, R486). -/
  gone : List (Nat × Nat)
  deriving DecidableEq, Repr

/-- One shadow copy of the slate (R441): its words by name, the gauge block and the slate as sparse tables, its CRC. -/
structure Shadow where
  commit : Word
  seq : Word
  format : Word
  stamp : DWord
  epoch : Word
  imgId : Word
  gauges : List (Nat × Word)
  slate : List Host.Cell
  crc : Word
  deriving DecidableEq, Repr

/-- A record write in progress (R451): byte offset in the array, TAG and the data words read from shared memory. -/
structure RecWrite where
  addr : Nat
  tag : Nat
  data : List Word
  deriving DecidableEq, Repr

/-- What waits for the slate or the boot scan (R445, R456): a word that a master writes, or a command of the unit's registers. -/
inductive NvHeld where
  /-- A word write of a master: its address and the word. -/
  | word (m : Master) (a : Nat) (v : Word)
  /-- A write to the unit's register at an offset that would write the record array. -/
  | command (o v : Nat)
  deriving DecidableEq, Repr

/-- The non-volatile unit (R438 to R460) beside its registers. -/
structure NvX where
  /-- The copy that holds the newest valid content: 0 none, 1 A, 2 B (R447). -/
  newest : Nat
  /-- The copy a running store writes: 0 none, 1 A, 2 B (R444). -/
  storing : Nat
  /-- Shadow copy A. -/
  copyA : Shadow
  /-- Shadow copy B. -/
  copyB : Shadow
  /-- The sector headers (R449); an unlisted header is erased. -/
  headers : List (Nat × Word)
  /-- The cells of the wear-spread counters (R457): key 64 × counter + 2 × cell + (0 value, 1 complement). -/
  cells : List (Nat × Word)
  /-- NV_MAP as last recorded in the system rows (R448). -/
  mapRec : Option Word
  /-- The layout in use: the first ring sector and the service sector (R448). -/
  ring : Nat
  svc : Nat
  /-- Sectors whose erase runs (the first) or waits, and whether the list is a CARD_CLEAR (R452). -/
  erasing : List Nat
  clearing : Bool
  /-- The record write in progress. -/
  recw : Option RecWrite
  /-- Cards waiting, oldest first: their words with 0 for CARD_SEQ and the CRC (R458). -/
  cards : List (List Word)
  /-- The valid cards of the ring: slot and sequence (R460). -/
  valid : List (Nat × Nat)
  /-- The boot scan has run since the core-domain reset (R456). -/
  scanned : Bool
  /-- Writes held until the running store or the boot scan has ended, oldest first (R445, R456). -/
  held : List NvHeld
  deriving DecidableEq, Repr

/-- A blank shadow copy: every cell reads ones, so COMMIT is not the committed value (R447, log entry 3). -/
def shadow0 : Shadow :=
  ⟨0xFFFFFFFF#32, 0xFFFFFFFF#32, 0xFFFFFFFF#32, 0xFFFFFFFFFFFFFFFF#64, 0xFFFFFFFF#32, 0xFFFFFFFF#32, [], [], 0xFFFFFFFF#32⟩

/-- One house channel beside its registers (07_bus_energy.md). -/
structure HouseX where
  /-- Consecutive periods with an OC trip (R210). -/
  ocN : Nat
  /-- The OC or OV comparator has been on the bad side in the running period (R210). -/
  ocNow : Bool
  ovNow : Bool
  /-- The integrator and the present target of the AUX and POL loop, and whether the target ramps (R211, R212). -/
  integ : Word
  ref : Word
  ramping : Bool
  /-- DAC_PK in use, the duty of DUMP, and the running pulse's longest on-time in ns; 0: no pulse (R208, R209). -/
  dac : Nat
  duty : Word
  ton : Nat
  /-- The channel goes off at the next period (R212). -/
  off : Bool
  /-- Sampled operation is in effect (R213). -/
  sampled : Bool
  /-- The line count of the running period's leading edge, or of the last tick, in ns (R208, R213). -/
  lead : Nat
  /-- The last tick of sampled operation on the line count, in nanoseconds (R213). -/
  tick : Nat
  deriving DecidableEq, Repr

/-- The bus, the balancer and the hot-swap controller beside their registers (R215 to R235). -/
structure BusX where
  /-- The last bus readings of the BUSIN and DUMP channels, in volts (R215). -/
  vIn : Word
  vDump : Word
  /-- eta of cap_top(), and whether p_meas exceeded BUS_CAP_P in the previous cycle (R224, R520). -/
  eta : Word
  excess : Bool
  /-- The energy account of the dump resistor, in joules (R223). -/
  energy : Word
  /-- v_set while it ramps (R219). -/
  vSet : Word
  ramp : Bool
  /-- Consecutive cycles at or above BUS_V_OV (R217); an image that sets BUS_V_OV has been loaded. -/
  ovN : Nat
  loadOv : Bool
  /-- BUS_UV has been reported in this episode; cycles at or above BUS_V_UV since (R218). -/
  uvTold : Bool
  uvGood : Nat
  /-- Cycles until the shed condition is judged again (R226). -/
  shedLeft : Nat
  /-- The hot-swap source voltage, in volts (R211). -/
  vSrc : Word
  /-- Consecutive samples that ask the window to become good, or not-good (R232). -/
  wGood : Nat
  wBad : Nat
  /-- The next insertion delay is RET_DLY (R235). -/
  ret : Bool
  /-- The DUMP comparator has been good for a whole period since the image that sets BUS_V_OV was loaded, and the line count
  of that load (R217). -/
  dumpGood : Bool
  loadAt : Nat
  /-- The window last became not-good by UV (R235). -/
  wUv : Bool
  /-- The registers at +0x100 to +0x1FF as the balancer last took them (R237). -/
  co : List Word
  deriving DecidableEq, Repr

/-- A USB PD message to send (R248): SOP* kind, the bytes from its header on (the port fills in MessageID, revision and
roles), and whether the policy sent it. -/
structure PdTx where
  sop : Nat
  bytes : List Byte
  policy : Bool
  deriving DecidableEq, Repr

/-- The figures of a contract (R252): voltage in mV, current in 10 mA, kind 0 fixed, 1 PPS, 2 AVS, object position. -/
structure PdDeal where
  v : Nat
  i : Nat
  kind : Nat
  pos : Nat
  deriving DecidableEq, Repr

/-- One PD port beside its registers (08_cable_ports.md). -/
structure PortX where
  /-- The port was usable when it was last judged (R238). -/
  live : Bool
  /-- ErrorRecovery (R247): 0 none, 1 until vSafe0V too, 2 without that wait (R267). -/
  er : Nat
  /-- A Detach waits for vSafe0V (R246). -/
  detaching : Bool
  /-- The source gate waits for vSafe0V, or the sink gate for vSafe5V (R245). -/
  wantSrc : Bool
  wantSnk : Bool
  /-- The Rp the port presents (R244), and an explicit contract has been made in this attach. -/
  rp : Nat
  explicit : Bool
  /-- MessageID: the next to send, and the last received, by SOP* kind (R249). -/
  txId : List (Nat × Nat)
  rxId : List (Nat × Nat)
  /-- Whole messages received and not yet acted on, oldest first. -/
  inbox : List (Nat × List Byte)
  /-- Messages for the policy, at most four (R249). -/
  rxq : List (Nat × List Byte)
  /-- Messages to send, oldest first, and the one whose result is awaited (R86). -/
  outq : List PdTx
  cur : Option PdTx
  /-- The PS_RDY of the policy that the port holds (R254). -/
  held : Option PdTx
  /-- The Source_Capabilities last sent, and those last received, as objects (R251, R253). -/
  caps : List Word
  capsMsg : Option PdTx
  capsN : Nat
  theirs : List Word
  /-- The Request in progress as source: 0 none, 1 the policy's answer is awaited, 2 answered with Wait, 3 answered with
  Reject by the port, the policy's answer being refused (R253). -/
  req : Nat
  reqType : Nat
  /-- The contract that is being made. -/
  next : PdDeal
  /-- The admission request of the port: 0 none, 1 contract, 2 default power at attach, 3 after a Hard Reset; its watts. -/
  admFor : Nat
  admW : Nat
  /-- The power of an admission request that has timed out and whose Request the port still answers with Reject (R253). -/
  lateW : Nat
  /-- Between Accept and PS_RDY (R252). -/
  moving : Bool
  /-- As sink: the last Request, and a Wait was its answer (R255). -/
  lastReq : Option PdTx
  waited : Bool
  /-- The message type whose response is awaited within tSenderResponse; 0 none (R266). -/
  expect : Nat
  /-- Hard Reset (R265): 0 none, 1 tPSHardReset, 2 discharge, 3 tSrcRecover, 4 admission; sink: 5 until vSafe0V, 6 until
  vSafe5V; and one has run since the last explicit contract. -/
  hr : Nat
  hrSeen : Bool
  /-- PR_Swap (R259): 0 none; source to sink: 1 tSrcTransition, 2 discharge, 3 partner's PS_RDY; sink to source: 4 partner's
  PS_RDY, 5 vSafe5V, 6 tSwapSourceStart. -/
  swap : Nat
  /-- VCONN_Swap (R261): 0 none, 1 the port gives VCONN up at the partner's PS_RDY, 2 it asked for VCONN (R257). -/
  vswap : Nat
  /-- Cable discovery runs (R257). -/
  disc : Bool
  /-- EPR mode entry is in progress (R258). -/
  entering : Bool
  /-- A chunked message being sent, and its next chunk; one being received: SOP* kind and the bytes so far (R248). -/
  chunkTx : Option (PdTx × Nat)
  chunkRx : Option (Nat × List Byte)
  /-- The eight words from PD_CFG on as they stood at the attach (R276); none while the port is not attached. -/
  co : List Word
  /-- The opening of the sink gate writes the sink set: after an attach or a swap to sink (R241). -/
  snkSet : Bool
  /-- VCONN was on before a Hard Reset and comes back with the source gate (R265). -/
  vconnBack : Bool
  /-- The next OFF of the port's felt comes from a guard or a lane that has already brought ErrorRecovery (R264, R267). -/
  blamed : Bool
  /-- Successive means of i_sum over 1 µs that met the OC guard and the two reverse guards (R263). -/
  ocN : Nat
  revSrcN : Nat
  revSnkN : Nat
  /-- As sink: a Request and an EPR_KeepAlive that wait for SinkTxOk (R244), and a received Source_Capabilities that the
  policy has not answered yet. -/
  reqDue : Bool
  aliveDue : Bool
  answering : Bool
  deriving DecidableEq, Repr

/-- One battery gauge beside its registers (09_gauge.md). -/
structure GaugeX where
  /-- The gauge counts: enabled, and not stopped at a step's end (R296). -/
  run : Bool
  /-- Q_PASS in nC and the remainder below 1 nC, in units of 2^-149 nC (R280). -/
  q : Int
  frac : Nat
  /-- Low-current operation (R281): the sum of the microsecond means in 2^-149 A and how many, in the running step. -/
  lowSum : Int
  lowN : Nat
  /-- Suppressed charge since the first anchor, in 2^-149 nC (R281, R291). -/
  suppr : Nat
  /-- The estimate as R287 leaves it. -/
  est : Word
  /-- Discharged charge since GAU_CYCLES last counted, in nC (R282). -/
  disch : Nat
  /-- A rest has qualified and |i_b| has not reached GAU_REST_I since (R286); the initial point has been taken (R288). -/
  rested : Bool
  started : Bool
  /-- The first anchor of a learning cycle: its SOC, its time on the line count, the temperatures since (R290, R291). -/
  soc1 : Word
  at1 : Nat
  tLo : Word
  tHi : Word
  /-- GAU_TABLE has been reported since the last lookup that succeeded (R284). -/
  tableTold : Bool
  /-- Milliseconds in a row for which each level's set condition and clear condition has held: EDW, EDF, ECW, ECF (R293). -/
  setN : List Nat
  clrN : List Nat
  /-- Taps (R299 to R301): the last unpulsed reading of tap k in volts; taps read with OVR or UNR; a pulsed reading that waits,
  with the unpulsed one before it; pulsed scans in a row above THR. -/
  taps : List (Nat × Word)
  badTaps : List Nat
  pulsed : List (Nat × Word)
  openN : List (Nat × Nat)
  /-- Cells: readings in a row that ask for a change, those judged good, those judged good once, and GAU_CELL reports held back
  with the pulsed scans left. -/
  cellN : List (Nat × Nat)
  good : List Nat
  once : List Nat
  held : List (Nat × Nat)
  /-- The tap whose signature a held-back cell shows (R301). -/
  heldTap : List (Nat × Nat)
  /-- SOC_REST holds a point: the estimate runs from it (R286 to R288, R298). -/
  based : Bool
  /-- A state taken up from the slate waits for EN = 1 (R298). -/
  kept : Bool
  /-- The coherent registers +0x080 to +0x0FF as the running integration step uses them (R303); none while the gauge stands. -/
  co : List Word
  /-- Q_PASS of the first anchor of a learning cycle, in nC, as an initial point has moved it since (R288, R290). -/
  q1 : Int
  /-- The line count, in nanoseconds, at which |i_b| last lay at or above GAU_REST_I, or the gauge began (R286). -/
  quietAt : Nat
  deriving DecidableEq, Repr

/-- One context of an engine (R340): its banked registers, all 0 before the first START (DESIGN CHOICE, log entry 177). -/
structure EngCtx where
  /-- g1 to g31; an unlisted register holds 0. -/
  g : List (Nat × Word)
  pc : Nat
  pl : Word
  ph : Word
  fps : Word
  sl : Word
  /-- The context has been dispatched since START: until then its first dispatch begins at its entry state (R341). -/
  ran : Bool
  /-- FAULTED, it has been released by a write of EN = 0: the write of EN = 1 returns it to its entry state (R347). -/
  reenter : Bool
  deriving DecidableEq, Repr

/-- A product instruction in flight (R327, R328): PH:PL as they stand after it in program order, whether it writes PH, and
the FPS flags it sets. -/
structure EngProd where
  wide : Bool
  pl : Word
  ph : Word
  flags : Nat
  deriving DecidableEq, Repr

/-- One engine beside its registers (10_achal_isa.md, 11_engine_runtime.md); its memories lie in mem. -/
structure EngX where
  /-- The contexts 0 to 7 and 8, the fault context. -/
  ctxs : List (Nat × EngCtx)
  /-- The context that runs; none while every context waits. -/
  cur : Option Nat
  /-- An instruction has faulted and the fault context has not started (R345). -/
  due : Bool
  /-- Products in flight, oldest first. -/
  prods : List EngProd
  /-- FCAUSE, FPC and FADDR (R337). -/
  fcause : Nat
  fpc : Nat
  faddr : Nat
  /-- Private bits 0x000 to 0x3FF that are set, and the software triggers (R311, R352). -/
  bits : List Nat
  sw : Nat
  /-- The mailboxes' FIFOs, oldest word first (R353): key k inbound, 4 + k outbound. -/
  mbx : List (Nat × List Word)
  /-- The fault context's stack memory (R346), by offset from 0x4000. -/
  stack : List (Nat × Byte)
  /-- The core cycles since the engine started as CYCLE was last read, not yet cut to 32 bits (R306, log entry 30). -/
  cycle : Nat
  /-- The line count at START, in nanoseconds (R306). -/
  startNs : Nat
  deriving DecidableEq, Repr

/-- One DMA channel beside its registers (R358 to R363). -/
structure DmaX where
  /-- The descriptor in use; [] when none has been fetched. -/
  desc : List Word
  /-- A descriptor is to be fetched, at this address. -/
  next : Option Nat
  /-- Host addresses of the next element. -/
  src : Nat
  dst : Nat
  /-- DMA_DESC has been written since the channel started: EN = 1 starts afresh (R362). -/
  fresh : Bool
  /-- DMA_DONE and DMA_WM raised (R358, R359). -/
  doneN : Nat
  wmN : Nat
  /-- A triggered run was in progress when the channel stopped (R361, R363). -/
  mid : Bool
  deriving DecidableEq, Repr

/-- A capture record in its fields (R366): QTY, lane, slots, stamp of its first frame, kept frames, bad ones, closed early,
dropped at its begin, and its samples, oldest first. -/
structure CapRec where
  qty : Nat
  lane : Nat
  slots : Nat
  stamp : DWord
  frames : Nat
  bad : Nat
  trunc : Bool
  lost : Bool
  samples : List Nat
  deriving DecidableEq, Repr

/-- One capture unit beside its registers (R364 to R370). -/
structure CapX where
  /-- Pairs since the last kept one; the running pair is kept; an even frame has begun a pair. -/
  pair : Nat
  keep : Bool
  begun : Bool
  /-- The record in progress, and those that have closed and are not yet written, oldest first. -/
  cur : Option CapRec
  closed : List CapRec
  deriving DecidableEq, Repr

/-- One timetable entry as the supervisor runs it (R400 to R404). st: 0 off, 1 waits for UP_DLY, 2 waits for power-good,
3 good, 4 failed, 5 waits for DN_DLY, 6 waits for off, 7 retry: powered down, 8 good and then faulted; the retries made;
the entry runs a retry. -/
structure RailX where
  st : Nat
  retries : Nat
  deriving DecidableEq, Repr

/-- The supervisor beside its registers (13_supervision.md). -/
structure SupX where
  /-- The point converted next, 0 to 39, and the out-of-range results of the running scan (R394, R395). -/
  pos : Nat
  outN : Nat
  /-- Consecutive scans with INT6 out of its limits, with the die too hot, and with VDD_IO33 below PF_MV (R394, R443). -/
  refN : Nat
  hotN : Nat
  hotTold : Bool
  pfN : Nat
  /-- Consecutive results that ask window n to change (R398). -/
  winN : List (Nat × Nat)
  /-- The timetable: 0 at rest, 1 waits for SEQ_IN, 2 power-up, 3 unnamed outputs, 4 power-down (R402, R403). -/
  seq : Nat
  rails : List (Nat × RailX)
  /-- A power-up has been ended by REACT 2 or 3 (R402). -/
  broken : Bool
  /-- Groups that REACT 2 powers down (R404). -/
  groups : List Nat
  /-- Groups that REACT 2 has shut down: they start again only by UP (R404). -/
  shut : List Nat
  /-- Entries that REACT 2 powers down for their own fault, which takes a KEEP channel down too (R404). -/
  ownFault : List Nat
  /-- CHAIN_DN_DLY runs (R406). -/
  chain : Bool
  /-- Why SEQ_FLT_N is pulled low (R405): 0 group shutdown, 1 rail reset, 2 force-off, 3 end of hold-up. -/
  flt : List Nat
  /-- Pins a KIND 3 entry has driven high (R400). -/
  pins : List Nat
  /-- Samples since j0 of interlock n (R407). -/
  ilkN : List (Nat × Nat)
  /-- The press in progress is ignored, or has acted as ON or as a force-off (R409). -/
  pbDone : Bool
  deriving DecidableEq, Repr

/-- The image loader beside its registers (R38 to R69). -/
structure LoadX where
  /-- The source of the running load, coded as SYS_IMG_CTRL.SRC; 0 when none runs. -/
  src : Nat
  /-- Flash slots of the boot order still to try: 1 A, 2 B (R53). -/
  cand : List Nat
  /-- The boot image has been chosen since the core-domain reset (R53). -/
  chosen : Bool
  /-- The present full image is loaded: registers with an "img" reset hold its values. -/
  loaded : Bool
  /-- The running load is a live reload (R58). -/
  live : Bool
  /-- The section CRCs of pass 1, in order (R55). -/
  crcs : List Word
  /-- The configuration digest D (R63). -/
  digest : DWord
  /-- The sum of the terms of each section's words, by TYPE (R63, R65). -/
  sums : List (Nat × DWord)
  /-- Coherent writes held while a live reload applies, oldest first: master, address, value (R67). -/
  held : List (Master × Nat × Word)
  /-- The roll call whose answer waits for a settled digest (R66). -/
  waits : Bool
  /-- Image bytes received from the crown (R491), by offset. -/
  rx : List (Nat × Byte)
  /-- How many bytes of it have come, from offset 0 on. -/
  rxEnd : Nat
  /-- Timetable words of a live reload that take effect when the running sequence ends (R58): address and value. -/
  ttHeld : List (Nat × Word)
  /-- The LIVE flag of the crown's load command that began the running load (R482, R491). -/
  want : Option Bool
  deriving DecidableEq, Repr
/-- Supplies, resets and sleep (R505 to R508). -/
structure PwrX where
  /-- Every main supply is in its range. -/
  main : Bool
  /-- PLL A is locked. -/
  pll : Bool
  /-- The core domain is out of reset. -/
  core : Bool
  /-- The core clock is stopped by SYS_PWR.SLEEP (R508). -/
  asleep : Bool
  /-- VAON has risen since its power-up (R412). -/
  vaon : Bool
  /-- The house auxiliary power feeds VAON (R270): false from a start on a service port's VBUS alone (R271). -/
  aux : Bool
  deriving DecidableEq, Repr
/-- A two-wire inbound frame that waits (R472): CMD, ADDR, N and its data words. -/
structure TwReq where
  cmd : Nat
  addr : Nat
  n : Nat
  data : List Word
  deriving DecidableEq, Repr
/-- The host interfaces (R464 to R476). -/
structure HostX where
  /-- STATUS and the data words of the last SPI response (R465, R467). -/
  spiStatus : Nat
  spiData : List Word
  /-- Two-wire frames received and not yet executed, oldest first (R473). -/
  twIn : List TwReq
  /-- Outbound payloads, oldest first (R472, R473). -/
  twOut : List (List Byte)
  /-- The last payload that a two-wire read has clocked out. -/
  twSent : List Byte
  /-- The causes of the notice that is to be sent, as its cause byte (R475). -/
  notice : Nat
  /-- TW_STUCK has been reported in this episode (R476). -/
  stuck : Bool
  /-- The last notice that the device has written (R475): the address byte of the host, and its three bytes. -/
  noticeSent : List Byte
  /-- TW_RST_N is held low: the two-wire block stays in reset (R476). -/
  rstLow : Bool
  deriving DecidableEq, Repr
/-- A packet sent on a hop and not acknowledged: its PSEQ, and the frames sent since its last word, none until that has gone
(R481, R91). -/
structure CasSent where
  pkt : CasPkt
  pseq : Nat
  age : Option Nat
  deriving DecidableEq, Repr
/-- The sending side of a hop (R481, R90 to R92). -/
structure CasTx where
  /-- Packets that wait for their first sending, in order of arrival. -/
  wait : List CasPkt
  /-- The next PSEQ this end gives. -/
  nextSeq : Nat
  /-- Packets sent whole or in part and not acknowledged, oldest first. -/
  sent : List CasSent
  /-- Packets to send again, oldest first. -/
  again : List CasSent
  /-- Body words left of the packet in progress, and its PSEQ. -/
  body : List Word
  cur : Nat
  /-- Successive timeouts with no ACKSEQ progress. -/
  timeouts : Nat
  /-- A RESYNC packet is to be sent next. -/
  resync : Bool
  /-- The brims whose time probe has its HEAD word in the frame being built (R485). -/
  heads : List Nat
  deriving DecidableEq, Repr
/-- A sending side at its start: PSEQ 0 next, nothing waiting (R92). -/
def casTx0 : CasTx := ⟨[], 0, [], [], [], 0, 0, false, []⟩
/-- One cascade lane beside its registers (R480, R481). -/
structure CasLane where
  /-- SEQ of the previous frame slot, once aligned. -/
  seq : Option Nat
  /-- Good frames of the type the training state wants, and bad frames in a row in RUN. -/
  good : Nat
  bad : Nat
  /-- Attempts failed since the last BACKOFF; its failure has been reported; the chosen version. -/
  fails : Nat
  told : Bool
  chosen : Nat
  /-- The peer's silicon revision and serial, from TRAIN_B. -/
  peer : List Word
  /-- The PSEQ of the last packet accepted. -/
  ackIn : Nat
  /-- The packet being received, and the body words it still lacks. -/
  part : Option (CasPkt × Nat × Nat)
  /-- The frame in flight (R480); and on a lane that exports the bytes its receiver still lacks of the record at the front of
  the lane's queue, 0 where that record has not begun (R492). -/
  out : Option (BitVec 280)
  left : Nat
  /-- What it sends to the next hop (R481, R90 to R92). -/
  tx : CasTx
  /-- Cabinet time at the first symbol of the frame that brought the last HEAD word, in nanoseconds (R485). -/
  headAt : Nat
  deriving DecidableEq, Repr
/-- The cascade beside its registers (R483 to R491). -/
structure CasX where
  /-- Devices found by enumeration: position, serial low and high (R483). -/
  found : List (Nat × Word × Word)
  /-- The position at which the present image was applied (R483). -/
  imgPos : Nat
  /-- Coherent broadcasts not yet acknowledged by all: epoch and the positions still to acknowledge (R487). -/
  coh : List (Nat × List Nat)
  /-- When the epoch last advanced, on the line count in nanoseconds (R488). -/
  epochAt : Option Nat
  /-- Positions whose answer to the running roll call is awaited (R488). -/
  asked : List Nat
  /-- Consecutive roll-call matches a brim has received (R489). -/
  agreed : Nat
  /-- The remote access in progress: write (R490). -/
  rmt : Option Bool
  /-- This brim's image is the crown's, as it has confirmed when it joined and after its last load (R57). -/
  same : Bool
  /-- The crown's IMAGE_ID and IMAGE_SERIAL as this brim last learned them (R57). -/
  crown : Option (Word × Word)
  /-- The crown's epoch, as the last packet that carries it said (R68, R487, R488). -/
  epoch : Option Word
  /-- Packets of which not every copy has come (R484): the lanes over which one has, bit l for lane l, the packet. -/
  once : List (Nat × CasPkt)
  /-- A match result has come since the last roll call (R489). -/
  matched : Bool
  /-- The arrivals of the PROBE packets among the received ones, in cabinet time, oldest first (R485). -/
  probeAt : List Nat
  /-- The crown's last roll call has come round to it: the ring is closed (R484). -/
  round : Bool
  /-- The side over which each brim's last packet came to the crown, 0 CL0, 1 CL1, by position (R484). -/
  sides : List (Nat × Nat)
  /-- The brims that have reported in the running enumeration (R483). -/
  reported : List Nat
  /-- Packets of a reserved class, counted (R482). -/
  reserved : Nat
  deriving DecidableEq, Repr
/-- A maintenance request (R273): port, TAG, CMD and the data objects. -/
structure SvcReq where
  port : Nat
  tag : Nat
  cmd : Nat
  objs : List Word
  deriving DecidableEq, Repr
/-- An image update in progress (R275): slot, length, next offset, last accepted offset, service port. -/
structure SvcUpd where
  slot : Nat
  len : Nat
  next : Nat
  last : Option Nat
  port : Nat
  deriving DecidableEq, Repr
/-- The service ports (R269 to R275). -/
structure SvcX where
  /-- The maintenance request being handled. -/
  req : Option SvcReq
  /-- The update in progress. -/
  upd : Option SvcUpd
  /-- USB PD messages sent, oldest first: port and bytes from the header on. -/
  sent : List (Nat × List Byte)
  /-- The next MessageID sent, and the last received, by port. -/
  txId : List (Nat × Nat)
  rxId : List (Nat × Nat)
  /-- The port has requested 5 V and awaits PS_RDY. -/
  asked : List Nat
  /-- Paths that opened on current and retry (R270). -/
  retry : List Nat
  /-- The erase of an update slot runs; it outlasts the update (R275). -/
  erasing : Bool
  deriving DecidableEq, Repr

/-- The record of timer after reset. -/
def timer0 : TimerX := ⟨0, none, false, false, false, false, false⟩

/-- The record of lane after reset. -/
def lane0 : LaneX := ⟨none, 0, 0, 0, false, 0, 0, 0, 0, 0, 0, false, 0, none, false, 0, none, 0, 15, [], [], [], [], 0, false, none, [], none, [], [], 0#32, 0#32, false, 0, 0, 0, 0, [], 0, false, 0⟩

/-- The record of phase after reset. -/
def phase0 : PhaseX := ⟨0, [], none, [], [], 0#32, 0#32, false, none, false, none, false, false, [], [], 0, 0, 0, 0, false, 0, false, false, [], [], [], 0#32, false, false, 0#32⟩

/-- The record of felt after reset. -/
def felt0 : FeltX := ⟨none, none, none, none, 0, 0#32, 0#32, 0#32, 0#32, false, [], [], [], 0, [], 0, 0#32, 0#32, 0#32, [], 0#32, false, 0, 0, false, 0, false, false, 0, 0, false, false, false, 0, none, 0, 0, 0, 0, 0, 0, 0, 0, 0, [], 0, [], false, false, 0, false, [], false, false, none, none, false, false, false, none, false, none, false, 0, 0, none, 0#32, false, false, false, [], [], none, [], []⟩

/-- The record of wf after reset. -/
def wf0 : ListX := ⟨0, 0, 0#32, none, [], 0#32, false, false, false, false, 0, false⟩

/-- The record of house after reset. -/
def house0 : HouseX := ⟨0, true, true, 0#32, 0#32, false, 0, 0#32, 0, false, false, 0, 0⟩

/-- The record of port after reset. -/
def port0 : PortX := ⟨false, 0, false, false, false, 0, false, [], [], [], [], [], none, none, [], none, 0, [], 0, 0, ⟨0, 0, 0, 0⟩, 0, 0, 0, false, none, false, 0, 0, false, 0, 0, false, false, none, none, [], false, false, false, 0, 0, 0, false, false, false⟩

/-- The record of gauge after reset. -/
def gauge0 : GaugeX := ⟨false, 0, 0, 0, 0, 0, 0#32, 0, false, false, 0#32, 0, 0#32, 0#32, false, [0, 0, 0, 0], [0, 0, 0, 0], [], [], [], [], [], [], [], [], [], false, false, [], 0, 0⟩

/-- The record of engine after reset. -/
def engine0 : EngX := ⟨[], none, false, [], 0, 0, 0, [], 0, [], [], 0, 0⟩

/-- The record of dma after reset. -/
def dma0 : DmaX := ⟨[], none, 0, 0, true, 0, 0, false⟩

/-- The record of cap after reset. -/
def cap0 : CapX := ⟨0, false, false, none, []⟩

/-- The record of casLane after reset. -/
def casLane0 : CasLane := ⟨none, 0, 0, 0, false, 0, [], 15, none, none, 0, casTx0, 0⟩

/-- The state of the MZ7192 block and the queue of commands that wait for it. -/
structure State where
  /-- Every register of the host address space (R24), by host address; an unlisted one holds its reset value. -/
  regs : List (Nat × Word)
  /-- Every byte of the engine memories, shared memory, slate and record array, by host address (R24). -/
  mem : List Host.Cell
  /-- The line count in nanoseconds (R177). -/
  lineNs : Nat
  /-- The offset of cabinet time from the line count, in nanoseconds (R177). -/
  timeOfs : Int
  /-- Words latched for a reading master (R178, R422): key 8 × master code + slot. -/
  snaps : List (Nat × Word)
  /-- Reports on their way from the units to the collector (R418), oldest first. -/
  reports : List Msg
  /-- The fault collector. -/
  fc : FcX
  /-- Event lines that have pulsed in the running core cycle (R385); empty between steps. -/
  pulses : List Nat
  /-- Trigger task inputs whose flag is set (R387), each once. -/
  tinFlags : List Nat
  /-- The ball levels of TIO0 to TIO7. -/
  tio : BitVec 8
  /-- Triggers that have reached DMA channel c and are not yet served (R388). -/
  dmaArr : List (Nat × Nat)
  /-- The timers t0 to t63. A sparse table by instance; an unlisted instance holds its reset record. -/
  tmrs : List (Nat × TimerX)
  /-- The model's own: how many free values have been taken (log entry 1); no rule of the spec. -/
  freeCount : Nat
  /-- The stage lanes SL0 to SL11. A sparse table by instance; an unlisted instance holds its reset record. -/
  lanes : List (Nat × LaneX)
  /-- The phases p0 to p191. A sparse table by instance; an unlisted instance holds its reset record. -/
  phases : List (Nat × PhaseX)
  /-- The felts f0 to f95. A sparse table by instance; an unlisted instance holds its reset record. -/
  felts : List (Nat × FeltX)
  /-- The waveform list units of the felts. A sparse table by instance; an unlisted instance holds its reset record. -/
  lists : List (Nat × ListX)
  /-- SYNC_IN. -/
  sync : SyncX
  /-- The time unit. -/
  time : TimeX
  /-- The last result of each MON input that tracking uses (R396): code in bits 15:0, OVR in 16, UNR in 17. -/
  monTrk : List (Nat × Nat)
  /-- Cascade packets received and not yet acted on, oldest first. -/
  casRx : List CasPkt
  /-- The admission budget. L = C at reset, and C is 1 before an image is loaded (R228). -/
  adm : AdmX
  /-- Cascade packets this device has sent into the cascade and no hop has taken yet, oldest first. -/
  casOut : List CasPkt
  /-- Felts under an interlock stop (R408). -/
  ilkHold : List Nat
  /-- A push-button force-off is in force (R410). -/
  forceOff : Bool
  /-- The non-volatile unit. -/
  nv : NvX
  /-- The house channels h0 to h7. A sparse table by instance; an unlisted instance holds its reset record. -/
  houses : List (Nat × HouseX)
  /-- The DC bus. -/
  bus : BusX
  /-- House channels under an interlock stop (R408). -/
  ilkHouse : List Nat
  /-- The PD ports 0 to 47. A sparse table by instance; an unlisted instance holds its reset record. -/
  ports : List (Nat × PortX)
  /-- The felt that STRUCTURE binds to each PD port (R47); an unlisted port is unbound. -/
  portFelt : List (Nat × Nat)
  /-- The gauges 0 to 99. A sparse table by instance; an unlisted instance holds its reset record. -/
  gauges : List (Nat × GaugeX)
  /-- The gauge records that the boot scan has found in the slate's copy (R298, R447): key 8 × gauge + word. -/
  gauRec : List (Nat × Word)
  /-- The engines e0 to e95. A sparse table by instance; an unlisted instance holds its reset record. -/
  engines : List (Nat × EngX)
  /-- The DMA channels d0 to d31. A sparse table by instance; an unlisted instance holds its reset record. -/
  dmas : List (Nat × DmaX)
  /-- The capture units 0 to 7. A sparse table by instance; an unlisted instance holds its reset record. -/
  caps : List (Nat × CapX)
  /-- DMA channels whose done bit is set (R352). -/
  dmaDone : List Nat
  /-- The channel last served in each DMA priority (R360). -/
  dmaLast : List (Nat × Nat)
  /-- Bytes of records that wait on export lanes CL2 and CL3, in the order in which the records close (R370, R492). -/
  expQ : List (Nat × List Byte)
  /-- The supervisor. -/
  sup : SupX
  /-- The image loader. -/
  img : LoadX
  /-- The boot flash by offset (R53); an unlisted byte reads erased, 0xFF. -/
  flash : List (Nat × Byte)
  /-- Supplies, resets and sleep. -/
  pwr : PwrX
  /-- The host interfaces. -/
  host : HostX
  /-- The cascade lanes CL0 to CL3. A sparse table by instance; an unlisted instance holds its reset record. -/
  casLanes : List (Nat × CasLane)
  /-- The cascade. -/
  cas : CasX
  /-- The service ports. -/
  svc : SvcX
  /-- The commands that are waiting, first in, first out. -/
  pending : List Instr
  deriving DecidableEq, Repr

/-- The machine right after power-up reset: every register at its reset value (an empty table), nothing in memory,
every unit idle, no command waiting. -/
def State.reset : State where
  regs := []
  mem := []
  lineNs := 0
  timeOfs := 0
  snaps := []
  reports := []
  fc := ⟨[], [], none, [], [], false, [], false, 0, false⟩
  pulses := []
  tinFlags := []
  tio := 0#8
  dmaArr := []
  tmrs := []
  freeCount := 0
  lanes := []
  phases := []
  felts := []
  lists := []
  sync := ⟨none, []⟩
  time := ⟨false, 0, none, none, [], 0, 0, [], [], false, 0, 0, true, none, none, false, false⟩
  monTrk := []
  casRx := []
  adm := ⟨100, [], [], 0, []⟩
  casOut := []
  ilkHold := []
  forceOff := false
  nv := ⟨0, 0, shadow0, shadow0, [], [], none, 0, 16, [], false, none, [], [], false, []⟩
  houses := []
  bus := ⟨0#32, 0#32, 0x3F800000#32, false, 0#32, 0#32, false, 0, false, false, 0, 0, 0#32, 0, 0, false, false, 0, true, []⟩
  ilkHouse := []
  ports := []
  portFelt := []
  gauges := []
  gauRec := []
  engines := []
  dmas := []
  caps := []
  dmaDone := []
  dmaLast := []
  expQ := []
  sup := ⟨0, 0, 0, 0, false, 0, [], 0, [], false, [], [], [], false, [], [], [], false⟩
  img := ⟨0, [], false, false, false, [], 0#64, [], [], false, [], 0, [], none⟩
  flash := []
  pwr := ⟨true, true, true, false, true, true⟩
  host := ⟨0x40, [], [], [], [], 0, false, [], false⟩
  casLanes := []
  cas := ⟨[], 0, [], none, [], 0, none, false, none, none, [], false, [], true, [], [], 0⟩
  svc := ⟨none, none, [], [], [], [], [], false⟩
  pending := []

end Sys2Proof.Machine
end

