-- ==== Sys2Proof/Machine/Ops.lean ====
section
/-! DEFINITION. The named operations over State that every unit uses: registers and their fields, memory, the tables of
the instances, cabinet time, reports to the fault collector, event lines, snapshots and free values. -/
namespace Sys2Proof.Machine

/-- Base address of a unit window (R24). -/
def slB (l : Nat) : Nat := 0xC0000 + 0x1000 * l
/-- Base address of phase p's window (R24). -/
def phsB (p : Nat) : Nat := 0x100000 + 0x800 * p
/-- Base address of felt f's window (R24). -/
def feltB (f : Nat) : Nat := 0x180000 + 0x800 * f
/-- Base address of PD port n's window (R24). -/
def pdB (n : Nat) : Nat := 0x1C0000 + 0x800 * n
/-- Base address of engine e's window (R24). -/
def engB (e : Nat) : Nat := 0x200000 + 0x200 * e
/-- Base address of timer n's window (R24). -/
def tmrB (n : Nat) : Nat := 0x40000 + 0x100 * n
/-- Base address of house channel h's window (R24). -/
def hseB (h : Nat) : Nat := 0x70000 + 0x100 * h
/-- Base address of gauge g's window (R24). -/
def gauB (g : Nat) : Nat := 0x90000 + 0x100 * g
/-- Base address of DMA channel c's window (R24). -/
def dmaB (c : Nat) : Nat := 0xE0000 + 0x40 * c
/-- Base address of capture unit u's window (11_engine_runtime.md). -/
def capB (u : Nat) : Nat := 0xE8000 + 0x100 * u
/-- Base addresses of the single units (R24). -/
def fcB : Nat := 0x10000
/-- Base address of the event matrix (R24). -/
def evtB : Nat := 0x30000
/-- Base address of the time unit (R24). -/
def timeB : Nat := 0x50000
/-- Base address of the supervisor (R24). -/
def supB : Nat := 0x60000
/-- Base address of the bus balancer (R24). -/
def busB : Nat := 0x80000
/-- Base address of the non-volatile unit (R24). -/
def nvB : Nat := 0xA0000
/-- Base address of the host interfaces (R24). -/
def hostB : Nat := 0xB0000
/-- Base address of the cascade (R24). -/
def casB : Nat := 0xD0000
/-- Base address of the service ports (R24). -/
def svcB : Nat := 0xF0000

/-- The register at a host address. -/
def State.rd (s : State) (a : Nat) : Word := sparseGet regReset s.regs a

/-- Set the register at a host address, as the hardware does. -/
def State.wr (s : State) (a : Nat) (v : Word) : State := { s with regs := sparseSet regReset s.regs a v }

/-- A field of a register of the unit window at b. -/
def State.fld (s : State) (b : Nat) (F : Fld) : Nat := fget (s.rd (b + F.off)) F

/-- Set a field of a register of the unit window at b, as the hardware does. -/
def State.setFld (s : State) (b : Nat) (F : Fld) (v : Nat) : State :=
  s.wr (b + F.off) (fset (s.rd (b + F.off)) F v)

/-- Whether a one-bit field is set. -/
def State.flag (s : State) (b : Nat) (F : Fld) : Bool := s.fld b F != 0


/-- Count n events in a saturating count field. -/
def State.bump (s : State) (b : Nat) (F : Fld) (n : Nat) : State :=
  s.setFld b F (satAdd (2 ^ (F.hi - F.lo + 1) - 1) (s.fld b F) n)

/-- What a byte of memory that nothing has written reads as: 0xFF in the record array, which is flash and reads erased
(R447), else 0x00 (DESIGN CHOICE, log entry 3: the spec gives RAM no contents after power-on). -/
def memDefault (a : Nat) : Byte := if 0x3100000 ≤ a ∧ a < 0x3120000 then 0xFF#8 else 0x00#8

/-- One byte of memory at a host address. -/
def State.byte (s : State) (a : Nat) : Byte := sparseGet memDefault s.mem a

/-- Write one byte of memory at a host address. -/
def State.setByte (s : State) (a : Nat) (v : Byte) : State := { s with mem := sparseSet memDefault s.mem a v }

/-- The memory's canonical form: addresses strictly rising, no entry equal to what an unlisted address reads as. -/
def Memory.wf (m : List Host.Cell) : Bool := sparseWf memDefault m

/-- A little-endian word of memory (R7). -/
def State.memWord (s : State) (a : Nat) : Word :=
  leWord (s.byte a) (s.byte (a + 1)) (s.byte (a + 2)) (s.byte (a + 3))

/-- Write a little-endian word of memory (R7). -/
def State.setMemWord (s : State) (a : Nat) (v : Word) : State :=
  (((s.setByte a (byteOf v 0)).setByte (a + 1) (byteOf v 1)).setByte (a + 2) (byteOf v 2)).setByte (a + 3) (byteOf v 3)

/-- Write bytes of memory from an address upwards. -/
def State.setBytes (s : State) (a : Nat) : List Byte → State
  | [] => s
  | b :: t => (s.setByte a b).setBytes (a + 1) t

/-- n bytes of memory from an address upwards. -/
def State.getBytes (s : State) (a n : Nat) : List Byte := (List.range n).map (fun i => s.byte (a + i))

/-- The timers t0 to t63. Read one instance. -/
def State.timer (s : State) (i : Nat) : TimerX := sparseGet (fun _ => timer0) s.tmrs i

/-- The timers t0 to t63. Write one instance. -/
def State.setTimer (s : State) (i : Nat) (x : TimerX) : State :=
  { s with tmrs := sparseSet (fun _ => timer0) s.tmrs i x }

/-- The stage lanes SL0 to SL11. Read one instance. -/
def State.lane (s : State) (i : Nat) : LaneX := sparseGet (fun _ => lane0) s.lanes i

/-- The stage lanes SL0 to SL11. Write one instance. -/
def State.setLane (s : State) (i : Nat) (x : LaneX) : State :=
  { s with lanes := sparseSet (fun _ => lane0) s.lanes i x }

/-- The phases p0 to p191. Read one instance. -/
def State.phase (s : State) (i : Nat) : PhaseX := sparseGet (fun _ => phase0) s.phases i

/-- The phases p0 to p191. Write one instance. -/
def State.setPhase (s : State) (i : Nat) (x : PhaseX) : State :=
  { s with phases := sparseSet (fun _ => phase0) s.phases i x }

/-- The felts f0 to f95. Read one instance. -/
def State.felt (s : State) (i : Nat) : FeltX := sparseGet (fun _ => felt0) s.felts i

/-- The felts f0 to f95. Write one instance. -/
def State.setFelt (s : State) (i : Nat) (x : FeltX) : State :=
  { s with felts := sparseSet (fun _ => felt0) s.felts i x }

/-- The waveform list units of the felts. Read one instance. -/
def State.wf (s : State) (i : Nat) : ListX := sparseGet (fun _ => wf0) s.lists i

/-- The waveform list units of the felts. Write one instance. -/
def State.setWf (s : State) (i : Nat) (x : ListX) : State :=
  { s with lists := sparseSet (fun _ => wf0) s.lists i x }

/-- The house channels h0 to h7. Read one instance. -/
def State.house (s : State) (i : Nat) : HouseX := sparseGet (fun _ => house0) s.houses i

/-- The house channels h0 to h7. Write one instance. -/
def State.setHouse (s : State) (i : Nat) (x : HouseX) : State :=
  { s with houses := sparseSet (fun _ => house0) s.houses i x }

/-- The PD ports 0 to 47. Read one instance. -/
def State.port (s : State) (i : Nat) : PortX := sparseGet (fun _ => port0) s.ports i

/-- The PD ports 0 to 47. Write one instance. -/
def State.setPort (s : State) (i : Nat) (x : PortX) : State :=
  { s with ports := sparseSet (fun _ => port0) s.ports i x }

/-- The gauges 0 to 99. Read one instance. -/
def State.gauge (s : State) (i : Nat) : GaugeX := sparseGet (fun _ => gauge0) s.gauges i

/-- The gauges 0 to 99. Write one instance. -/
def State.setGauge (s : State) (i : Nat) (x : GaugeX) : State :=
  { s with gauges := sparseSet (fun _ => gauge0) s.gauges i x }

/-- The engines e0 to e95. Read one instance. -/
def State.engine (s : State) (i : Nat) : EngX := sparseGet (fun _ => engine0) s.engines i

/-- The engines e0 to e95. Write one instance. -/
def State.setEngine (s : State) (i : Nat) (x : EngX) : State :=
  { s with engines := sparseSet (fun _ => engine0) s.engines i x }

/-- The DMA channels d0 to d31. Read one instance. -/
def State.dma (s : State) (i : Nat) : DmaX := sparseGet (fun _ => dma0) s.dmas i

/-- The DMA channels d0 to d31. Write one instance. -/
def State.setDma (s : State) (i : Nat) (x : DmaX) : State :=
  { s with dmas := sparseSet (fun _ => dma0) s.dmas i x }

/-- The capture units 0 to 7. Read one instance. -/
def State.cap (s : State) (i : Nat) : CapX := sparseGet (fun _ => cap0) s.caps i

/-- The capture units 0 to 7. Write one instance. -/
def State.setCap (s : State) (i : Nat) (x : CapX) : State :=
  { s with caps := sparseSet (fun _ => cap0) s.caps i x }

/-- The cascade lanes CL0 to CL3. Read one instance. -/
def State.casLane (s : State) (i : Nat) : CasLane := sparseGet (fun _ => casLane0) s.casLanes i

/-- The cascade lanes CL0 to CL3. Write one instance. -/
def State.setCasLane (s : State) (i : Nat) (x : CasLane) : State :=
  { s with casLanes := sparseSet (fun _ => casLane0) s.casLanes i x }


/-- Nanoseconds after which cabinet time returns to zero: 2^34 seconds (R174). -/
def cabWrap : Nat := 2 ^ 34 * 1000000000

/-- The clock is moved up to a moment of the line count that a command names. -/
def State.until (s : State) (ns : Nat) : State := { s with lineNs := max s.lineNs ns }

/-- Cabinet time in nanoseconds: the line count plus the offset (R177), with SEC wrapping at 2^34 (R174). -/
def State.cabNs (s : State) : Nat := (((s.lineNs : Int) + s.timeOfs) % (cabWrap : Int)).toNat

/-- Word 0 of the TIME layout of a time in nanoseconds: SEC[31:0] (R176). -/
def timeW0 (t : Nat) : Word := BitVec.ofNat 32 (t / 1000000000)
/-- Word 1 of the TIME layout of a time in nanoseconds: SEC[33:32] and NS (R176). -/
def timeW1 (t : Nat) : Word := BitVec.ofNat 32 ((t / 1000000000) / 2 ^ 32 % 4 * 2 ^ 30 + t % 1000000000)
/-- The time in nanoseconds that the TIME layout spells (R176); the NS field is taken as it stands. -/
def timeOfWords (w0 w1 : Word) : Nat :=
  (w0.toNat + (w1.toNat / 2 ^ 30) * 2 ^ 32) * 1000000000 + w1.toNat % 2 ^ 30
/-- The stamp of a time in nanoseconds: SEC × 2^30 + NS (R176). -/
def stampOf (t : Nat) : DWord := BitVec.ofNat 64 (t / 1000000000 * 2 ^ 30 + t % 1000000000)
/-- The stamp of the present cabinet time. -/
def State.stamp (s : State) : DWord := stampOf s.cabNs

/-- The severity of a kind (R417); a reserved code has none and counts as 0. -/
def kindSev (k : Nat) : Nat :=
  match kindRow k with
  | none => 0
  | some (sev, _) => sev

/-- A unit reports a fault to the collector (R13, R418): the report is on its way. -/
def State.report (s : State) (cls inst kind arg : Nat) : State :=
  { s with reports := s.reports ++ [⟨cls, inst, kind, kindSev kind, 0, arg % 2 ^ 32⟩] }

/-- The class and instance under which a master's refused access is reported (R417, R479). DMA reports its own (R362); the
loader is never refused; a pair of a coherent broadcast that is refused was written as by the cascade master (R10, R487). -/
def masterSource : Master → Option (Nat × Nat)
  | .spi => some (0xD, 0)
  | .twoWire => some (0xD, 1)
  | .debug => some (0xD, 3)
  | .cascade => some (0xE, 0)
  | .engine e => some (0x9, e.val)
  | .dma _ => none
  | .loader => none
  | .coherent => some (0xE, 0)

/-- A refused access of a master: the collector receives ACCESS with the refused address (R25, R479). -/
def State.accessReport (s : State) (m : Master) (a : Nat) : State :=
  match masterSource m with
  | none => s
  | some (c, i) => s.report c i K.ACCESS a

/-- A number for each master that has snapshots of its own (R178). -/
def masterCode : Master → Nat
  | .spi => 0
  | .twoWire => 1
  | .debug => 2
  | .dma _ => 3
  | .cascade => 4
  | .loader => 5
  | .coherent => 6
  | .engine e => 16 + e.val

/-- The word latched in a master's snapshot slot. -/
def State.snap (s : State) (m : Master) (slot : Nat) : Word := sparseGet (fun _ => 0#32) s.snaps (8 * masterCode m + slot)
/-- Latch a word into a master's snapshot slot. -/
def State.setSnap (s : State) (m : Master) (slot : Nat) (v : Word) : State :=
  { s with snaps := sparseSet (fun _ => 0#32) s.snaps (8 * masterCode m + slot) v }

/-- Event line l pulses in this core cycle, at most once (R385). -/
def State.pulse (s : State) (l : Nat) : State := { s with pulses := setAdd s.pulses l }

/-- A W1C event bit goes to 1; when it rises while its enable is 1, the source's event line pulses (R385). -/
def State.event (s : State) (b : Nat) (E En : Fld) (line : Nat) : State :=
  let s1 := s.setFld b E 1
  if s.fld b E = 0 ∧ s.fld b En ≠ 0 then s1.pulse line else s1

/-- The device's cascade position (SYS_IMG_VER.POSITION). -/
def State.position (s : State) : Nat := s.fld 0 F.SYS_IMG_VER_POSITION
/-- The devices in the cabinet (HEADER.CABINET_SIZE, 0 while no image is loaded). -/
def State.cabinetSize (s : State) : Nat := s.fld 0 F.SYS_IMG_VER_CABINET_SIZE
/-- CAS_STATUS.ROLE: 0 standalone or unassigned, 1 crown, 2 brim. -/
def State.role (s : State) : Nat := s.fld casB F.CAS_STATUS_ROLE
/-- The device is a brim (R483). -/
def State.isBrim (s : State) : Bool := s.role == 2
/-- The device is the crown (R483). -/
def State.isCrown (s : State) : Bool := s.role == 1
/-- The device calls the host for a cause that HP_NOTIFY enables (R475): bit 0 a response, 1 ALERT_N, 2 a recovery. -/
def notify (s : State) (bitNo : Nat) (En : Fld) : State :=
  if s.flag 0x20000 En then { s with host := { s.host with notice := s.host.notice ||| 2 ^ bitNo } } else s

/-- A force-off runs, or has ended in FORCED_OFF, which the device leaves by the start that follows (R410). -/
def State.forcedOff (s : State) : Bool := s.forceOff || s.fld supB F.SUP_STATUS_CAB == 5

/-- A brim whose image is not known to be the crown's accepts no start of a felt or a house channel (R57): EN reads 0 again
(DESIGN CHOICE, log entry 46). -/
def startBarred (s : State) : Bool := s.isBrim && !s.cas.same
/-- A load runs: SYS_IMG_STATUS.STATE is pass 1 or pass 2 (R54). No output starts meanwhile (R55): what is asked to start waits for
the load's end (DESIGN CHOICE, log entry 178). -/
def loadRuns (s : State) : Bool := s.fld 0 F.SYS_IMG_STATUS_STATE == 1 || s.fld 0 F.SYS_IMG_STATUS_STATE == 2
/-- Hold of R428 is in force on this device. -/
def State.hold (s : State) : Bool := s.flag fcB F.FC_STATUS_HOLD

/-- Take the next free value: the counter advances, the value is the opaque constant at the counter (log entry 1). -/
def State.takeFree (s : State) : Word × State := (Config.freeWord s.freeCount, { s with freeCount := s.freeCount + 1 })

end Sys2Proof.Machine
end

