-- ==== Sys2Proof/Machine/Adm.lean ====
section
/-! DEFINITION. The start-admission budget (R228 to R231, R486): the bucket, the queue, and who is admitted. What an
admitted or timed-out requester does is its own unit's. -/
namespace Sys2Proof.Machine

/-- Queue a packet for the cascade, from this device (R481). -/
def casSend (s : State) (cls dst sub : Nat) (bcast : Bool) (body : List Word) : State :=
  { s with casOut := s.casOut ++ [⟨cls, s.position, dst, bcast, sub, body⟩] }

/-- The mode of the bus (R219). -/
def busMode (s : State) : Nat := s.fld busB F.BUS_STATUS_MODE

/-- A register of the bus unit as it acts: one at +0x100 to +0x1FF while the balancer runs, in modes 1 to 3, as its last
cycle took it (R237); any other, and all while it does not run, as it stands (DEDUCED, log entry 166). -/
def busW (s : State) (off : Nat) : Word :=
  if 0x100 ≤ off ∧ off < 0x200 ∧ 1 ≤ busMode s ∧ busMode s ≤ 3 then s.bus.co.getD ((off - 0x100) / 4) 0#32 else s.rd (busB + off)
/-- A field of the bus unit as it acts (R237). -/
def busF (s : State) (f : Fld) : Nat := fget (busW s f.off) f
/-- The balancer takes the registers at +0x100 to +0x1FF (R237). -/
def busLatch (s : State) : State :=
  { s with bus := { s.bus with co := (List.range 64).map (fun k => s.rd (busB + 0x100 + 4 * k)) } }

/-- The bucket's capacity C in mA·ms (R228). -/
def admCap (s : State) : Nat :=
  let c := (busW s R.BUS_ADM_CAP).toNat
  if c = 0 then 1 else min c (2 ^ 31 - 1)

/-- Show the queue's length and restrictions (R229). -/
def admShow (s : State) : State :=
  let s1 := s.setFld busB F.BUS_ADM_STAT_QUEUED s.adm.queue.length
  s1.setFld busB F.BUS_ADM_STAT_RESTRICTED (b2n (s.fld busB F.BUS_STATUS_MODE != 2))

/-- A maximum wait as it acts: 0 acts as 1, above 10,000 as 10,000 (R229). -/
def waitMs (w : Nat) : Nat := if w = 0 then 1 else min w 10000

/-- A unit asks the admission budget for a start (R229). -/
def admAsk (s : State) (kind inst q prio wait : Nat) : State :=
  let r : AdmReq := ⟨kind, s.position, inst, q, prio, waitMs wait, 100 * waitMs wait, s.adm.nextId⟩
  { s with adm := { s.adm with asked := s.adm.asked ++ [r], nextId := (s.adm.nextId + 1) % 2 ^ 16 } }

/-- A request is this device's own request of a unit. -/
def AdmReq.isOwn (s : State) (kind inst : Nat) (r : AdmReq) : Bool :=
  r.kind == kind && r.inst == inst && r.pos == s.position

/-- A brim notes a request of its own that left without a grant (R231). -/
def admGone (s : State) (l : List AdmReq) : State :=
  if s.isBrim then { s with adm := { s.adm with gone := s.adm.gone ++ l.map (fun r => (r.id, r.q)) } } else s

/-- A request is withdrawn without a report (R230); a brim tells the crown (R486). -/
def admWithdraw (s : State) (kind inst : Nat) : State :=
  let out := s.adm.queue.filter (fun r => r.isOwn s kind inst)
  let s1 := { s with adm := { s.adm with asked := s.adm.asked.filter (fun r => !r.isOwn s kind inst), queue := s.adm.queue.filter (fun r => !r.isOwn s kind inst) } }
  let s2 := if s.isBrim then out.foldl (fun s r => casSend s 4 0 3 false [BitVec.ofNat 32 r.id]) s1 else s1
  admShow (admGone s2 out)

/-- Whether a request of a unit waits, asked or queued. -/
def admWaits (s : State) (kind inst : Nat) : Bool := (s.adm.asked ++ s.adm.queue).any (fun r => r.isOwn s kind inst)

/-- Insert by priority, then by arrival (R229). -/
def admInsert (r : AdmReq) : List AdmReq → List AdmReq
  | [] => [r]
  | a :: t => if a.prio < r.prio then r :: a :: t else a :: admInsert r t

/-- The argument of ADMIT_TIMEOUT (R417). -/
def admArg (r : AdmReq) : Nat := r.kind * 2 ^ 12 + r.pos % 16 * 2 ^ 8 + r.inst % 256

/-- Report ADMIT_TIMEOUT and count it. -/
def admTimeoutReport (s : State) (arg : Nat) : State :=
  (s.bump busB F.BUS_ADM_STAT_TIMEOUTS 1).report 6 2 K.ADMIT_TIMEOUT arg

/-- The oldest request asked for enters the queue (R229). The second part is a request that found the queue full, which
leaves at once. A brim sends its request to the crown and times it itself (R231). -/
def admEnter (s : State) : State × Option AdmReq :=
  match s.adm.asked with
  | [] => (s, none)
  | r :: t =>
    let s1 := { s with adm := { s.adm with asked := t } }
    if s.adm.queue.length ≥ 160 then (admTimeoutReport s1 0xFFFF, some r)
    else
      let s2 := { s1 with adm := { s1.adm with queue := admInsert r s1.adm.queue } }
      let s3 := if s.isBrim then
          casSend s2 4 0 0 false [BitVec.ofNat 32 r.id, BitVec.ofNat 32 r.q, BitVec.ofNat 32 r.prio, BitVec.ofNat 32 r.wait]
        else s2
      (admShow s3, none)

/-- A request may be admitted now (R229): every one in bus MODE 2, else only the bus's own, and while the queue is frozen
only the hot-swap controller's. A request whose wait has run out is no longer judged (R230). -/
def admEligible (s : State) (r : AdmReq) : Bool :=
  if r.left = 0 then false
  else if s.flag busB F.BUS_ADM_STAT_FROZEN then r.kind == 2
  else if s.fld busB F.BUS_STATUS_MODE = 2 then true
  else decide (2 ≤ r.kind)

/-- Admit eligible requests from the head of the queue (R229); fuel bounds them by the queue's length. -/
def admGo (s : State) : Nat → List AdmReq → Int → List AdmReq → List AdmReq × Int × List AdmReq
  | 0, q, l, done => (q, l, done)
  | n + 1, q, l, done =>
    match q.find? (admEligible s) with
    | none => (q, l, done)
    | some r =>
      let c : Int := (admCap s * 100 : Nat)
      let charge : Int := (r.q * 100 : Nat)
      if charge ≤ l ∨ (c < charge ∧ l = c) then
        admGo s n (q.erase r) ((if charge ≤ l then l else c) - charge) (done ++ [r])
      else (q, l, done)

/-- A 10 µs step (R228 to R230): refill, admissions in queue order, then the waits. On a brim nothing is admitted here
(R231). The second part lists the requests admitted, in order. -/
def admStep (s : State) : State × List AdmReq :=
  let c : Int := (admCap s * 100 : Nat)
  let l := min c (s.adm.level + ((busW s R.BUS_ADM_RATE).toNat : Int))
  let res := if s.isBrim then (s.adm.queue, l, []) else admGo s s.adm.queue.length s.adm.queue l []
  let dec := fun (r : AdmReq) => { r with left := if r.pos = s.position then r.left - 1 else r.left }
  (admShow { s with adm := { s.adm with queue := res.1.map dec, level := res.2.1 } }, res.2.2)

/-- The first request whose wait has run out leaves the queue with ADMIT_TIMEOUT (R230). -/
def admExpire (s : State) : State × Option AdmReq :=
  match s.adm.queue.find? (fun r => r.left == 0) with
  | none => (s, none)
  | some r =>
    (admTimeoutReport (admShow (admGone { s with adm := { s.adm with queue := s.adm.queue.erase r } } [r])) (admArg r), some r)

/-- C has changed (R228): a lower C lowers L. -/
def admCapWritten (s : State) : State :=
  { s with adm := { s.adm with level := min ((admCap s * 100 : Nat) : Int) s.adm.level } }

/-- A full image load ends: L = C (R228). -/
def admFill (s : State) : State := { s with adm := { s.adm with level := (admCap s * 100 : Nat) } }

/-- The level as BUS_ADM_LEVEL shows it: 0 on a brim (R231). -/
def admLevelWord (s : State) : Word := if s.isBrim then 0#32 else BitVec.ofInt 32 (s.adm.level / 100)

end Sys2Proof.Machine
end

