-- ==== Sys2Proof/Machine/F32.lean ====
section
/-! DEFINITION. IEEE 754 binary32 arithmetic as the spec uses it everywhere (R330 to R334): values are exact, every
result is rounded once to nearest even, subnormals are kept, every NaN made is 0x7FC0_0000, and the flags are those of
FPS (R332). A float is its 32 bits. -/
namespace Sys2Proof.Machine

/-- The flags of FPS an operation raises (R332), as the bits of FPS. -/
abbrev FNV : Nat := 1
/-- Divide-by-zero (R332). -/
abbrev FDZ : Nat := 2
/-- Overflow (R332). -/
abbrev FOF : Nat := 4
/-- Underflow (R332). -/
abbrev FUF : Nat := 8
/-- Inexact (R332). -/
abbrev FNX : Nat := 16

/-- The canonical NaN (R331). -/
abbrev fNaN : Word := 0x7FC00000#32
/-- Positive infinity. -/
abbrev fInf : Word := 0x7F800000#32
/-- One. -/
abbrev fOne : Word := 0x3F800000#32

/-- The sign bit. -/
def fSign (a : Word) : Bool := a.toNat.testBit 31
/-- The magnitude bits. -/
def fMag (a : Word) : Nat := a.toNat % 2 ^ 31
/-- The value is a NaN. -/
def fIsNaN (a : Word) : Bool := decide (0x7F800000 < fMag a)
/-- The value is a signalling NaN: bit 22 is 0. -/
def fIsSNaN (a : Word) : Bool := fIsNaN a && !(a.toNat.testBit 22)
/-- The value is an infinity. -/
def fIsInf (a : Word) : Bool := fMag a == 0x7F800000
/-- The value is a zero of either sign. -/
def fIsZero (a : Word) : Bool := fMag a == 0
/-- The value is finite. -/
def fFinite (a : Word) : Bool := decide (fMag a < 0x7F800000)

/-- The significand of a finite value. -/
def fSig (a : Word) : Nat := if fMag a < 2 ^ 23 then fMag a else fMag a % 2 ^ 23 + 2 ^ 23
/-- The exponent of a finite value's significand, plus 149, so that it is never negative. -/
def fExp (a : Word) : Nat := if fMag a < 2 ^ 23 then 0 else fMag a / 2 ^ 23 - 1
/-- The value of a finite float in units of 2^-149, exact. -/
def fVal (a : Word) : Int := let v : Int := ((fSig a * 2 ^ fExp a : Nat) : Int); if fSign a then -v else v

/-- A float of a sign and magnitude bits. -/
def fMake (neg : Bool) (mag : Nat) : Word := BitVec.ofNat 32 (mag + b2n neg * 2 ^ 31)

/-- Round half to even: q is the quotient kept, r the rest of d, sticky whether more was lost. -/
def rne (q r d : Nat) (sticky : Bool) : Nat :=
  if 2 * r > d ∨ (2 * r = d ∧ (sticky ∨ q % 2 = 1)) then q + 1 else q

/-- The binary32 value nearest to num / den × 2^(e − k), with the flags of its rounding (R330, R332). den is not 0. The
sign is that of the exact value. -/
def fRoundF (neg : Bool) (num den e k : Nat) : Word × Nat :=
  if num = 0 then (fMake neg 0, 0)
  else
    -- Q holds at least 27 significant bits, sticky what the division lost
    let s := 27 + Nat.log2 den + 1 - min (27 + Nat.log2 den + 1) (Nat.log2 num)
    let Q := num * 2 ^ s / den
    let sticky := num * 2 ^ s % den != 0
    let L := Nat.log2 Q
    -- the unit of Q is 2^(e − k − s); the exponent of the leading bit, plus 149 + k + s
    let top := L + e + 149
    let t0 := L - 23
    -- normal: drop t0 bits; subnormal: the unit kept is 2^-149
    let t := max t0 (k + s - min (k + s) (e + 149))
    let m := rne (Q / 2 ^ t) (Q % 2 ^ t) (2 ^ t) sticky
    let inexact := sticky || Q % 2 ^ t != 0
    let q := e + 149 + t - (k + s)
    let bitsv := q * 2 ^ 23 + m
    let m' := rne (Q / 2 ^ t0) (Q % 2 ^ t0) (2 ^ t0) sticky
    let tiny := decide (top + 1 < k + s + 23) || (decide (top + 1 = k + s + 23) && m' != 2 ^ 24)
    if 0x7F800000 ≤ bitsv then (fMake neg 0x7F800000, FOF + FNX)
    else (fMake neg bitsv, (if inexact then FNX else 0) + (if tiny && inexact then FUF else 0))

/-- Round an exact signed value in units of 2^-k. zneg is the sign of an exact zero. -/
def fRoundZ (v : Int) (k : Nat) (zneg : Bool) : Word × Nat :=
  if v = 0 then (fMake zneg 0, 0) else fRoundF (decide (v < 0)) v.natAbs 1 0 k

/-- Invalid from a signalling NaN operand (R331). -/
def fSnan2 (a b : Word) : Nat := if fIsSNaN a || fIsSNaN b then FNV else 0

/-- FADD with its flags (R333). -/
def fAddF (a b : Word) : Word × Nat :=
  if fIsNaN a || fIsNaN b then (fNaN, fSnan2 a b)
  else if fIsInf a then (if fIsInf b && fSign a != fSign b then (fNaN, FNV) else (a, 0))
  else if fIsInf b then (b, 0)
  else fRoundZ (fVal a + fVal b) 149 (fSign a && fSign b)

/-- The negation, bit 31 inverted (R331). -/
def fNeg (a : Word) : Word := a ^^^ 0x80000000#32
/-- The magnitude, bit 31 cleared (R331). -/
def fAbs (a : Word) : Word := a &&& 0x7FFFFFFF#32

/-- FSUB with its flags (R333). A NaN operand keeps its class. -/
def fSubF (a b : Word) : Word × Nat := fAddF a (fNeg b)

/-- FMUL with its flags (R332, R333). -/
def fMulF (a b : Word) : Word × Nat :=
  let neg := fSign a != fSign b
  if fIsNaN a || fIsNaN b then (fNaN, fSnan2 a b)
  else if (fIsInf a && fIsZero b) || (fIsZero a && fIsInf b) then (fNaN, FNV)
  else if fIsInf a || fIsInf b then (fMake neg 0x7F800000, 0)
  else fRoundF neg (fSig a * fSig b) 1 (fExp a + fExp b) 298

/-- FMAC: a × b + c rounded once, with its flags (R332). -/
def fMacF (a b c : Word) : Word × Nat :=
  let neg := fSign a != fSign b
  let bad := (fIsInf a && fIsZero b) || (fIsZero a && fIsInf b)
  let sn := if fIsSNaN a || fIsSNaN b || fIsSNaN c || bad then FNV else 0
  if fIsNaN a || fIsNaN b || fIsNaN c || bad then (fNaN, sn)
  else if fIsInf a || fIsInf b then
    if fIsInf c && fSign c != neg then (fNaN, FNV) else (fMake neg 0x7F800000, 0)
  else if fIsInf c then (c, 0)
  else
    let p : Int := fVal a * fVal b
    fRoundZ (p + fVal c * ((2 ^ 149 : Nat) : Int)) 298 (neg && fSign c)

/-- Division, correctly rounded, with its flags; FRCP is the division of 1.0 (R333). -/
def fDivF (a b : Word) : Word × Nat :=
  let neg := fSign a != fSign b
  if fIsNaN a || fIsNaN b then (fNaN, fSnan2 a b)
  else if fIsInf a then (if fIsInf b then (fNaN, FNV) else (fMake neg 0x7F800000, 0))
  else if fIsInf b then (fMake neg 0, 0)
  else if fIsZero b then (if fIsZero a then (fNaN, FNV) else (fMake neg 0x7F800000, FDZ))
  else fRoundF neg (fSig a) (fSig b) (fExp a) (fExp b)

/-- The order of floats that are no NaN: −0 below +0 (R333). -/
def fKey (a : Word) : Int := if fSign a then -((fMag a : Int)) - 1 else (fMag a : Int)
/-- a < b as IEEE 754 compares: false with a NaN, +0 equals −0 (R320). -/
def fLt (a b : Word) : Bool := !fIsNaN a && !fIsNaN b && !(fIsZero a && fIsZero b) && decide (fKey a < fKey b)
/-- a = b as IEEE 754 compares (R320). -/
def fEq (a b : Word) : Bool := !fIsNaN a && !fIsNaN b && ((fIsZero a && fIsZero b) || decide (fKey a = fKey b))
/-- a ≤ b as IEEE 754 compares (R320). -/
def fLe (a b : Word) : Bool := fLt a b || fEq a b

/-- FMIN with its flags: minimumNumber (R333). -/
def fMinF (a b : Word) : Word × Nat :=
  let r := if fIsNaN a then (if fIsNaN b then fNaN else b) else if fIsNaN b then a else if fKey a ≤ fKey b then a else b
  (r, fSnan2 a b)
/-- FMAX with its flags: maximumNumber (R333). -/
def fMaxF (a b : Word) : Word × Nat :=
  let r := if fIsNaN a then (if fIsNaN b then fNaN else b) else if fIsNaN b then a else if fKey a ≤ fKey b then b else a
  (r, fSnan2 a b)

/-- The nearest float to a natural number. -/
def fOfNat (n : Nat) : Word := (fRoundF false n 1 0 0).1
/-- The nearest float to an integer. -/
def fOfInt (n : Int) : Word := (fRoundZ n 0 false).1
/-- The nearest float to an integer, with its flags (I2F, U2F). -/
def fOfIntF (n : Int) : Word × Nat := fRoundZ n 0 false
/-- The nearest float to a ratio of natural numbers. -/
def fRatio (n d : Nat) : Word := (fRoundF false n d 0 0).1

/-- The sum, rounded. -/
def fAdd (a b : Word) : Word := (fAddF a b).1
/-- The difference, rounded. -/
def fSub (a b : Word) : Word := (fSubF a b).1
/-- The product, rounded. -/
def fMul (a b : Word) : Word := (fMulF a b).1
/-- The quotient, rounded. -/
def fDiv (a b : Word) : Word := (fDivF a b).1
/-- The smaller, a NaN giving way to a number. -/
def fMin (a b : Word) : Word := (fMinF a b).1
/-- The larger, a NaN giving way to a number. -/
def fMax (a b : Word) : Word := (fMaxF a b).1
/-- clamp(x, lo, hi): x held between two limits; a NaN passes (log entry 10). -/
def fClamp (x lo hi : Word) : Word := if fLt x lo then lo else if fLt hi x then hi else x
/-- The sum of a list in its order, each addition rounded (log entry 11). -/
def fSum : List Word → Word
  | [] => 0#32
  | x :: t => t.foldl fAdd x
/-- The mean of a list: the sum in its order divided by the count (log entry 11); 0 of none. -/
def fMean (l : List Word) : Word := if l = [] then 0#32 else fDiv (fSum l) (fOfNat l.length)
/-- The value is above zero. -/
def fPos (a : Word) : Bool := fLt 0#32 a
/-- A value scaled by 1 / 256 units, as the threshold fields give it: u × x / 256. -/
def f256 (u : Nat) (x : Word) : Word := fMul (fRatio u 256) x

/-- The integer a finite value rounds to, ties to even; 0 of a NaN or an infinity. -/
def fToIntRne (a : Word) : Int :=
  if fFinite a then
    let n : Nat := fSig a * 2 ^ fExp a
    let q : Nat := rne (n / 2 ^ 149) (n % 2 ^ 149) (2 ^ 149) false
    if fSign a then -(q : Int) else (q : Int)
  else 0
/-- The integer a finite value truncates to; 0 of a NaN or an infinity. -/
def fToIntTz (a : Word) : Int :=
  if fFinite a then
    let q : Nat := fSig a * 2 ^ fExp a / 2 ^ 149
    if fSign a then -(q : Int) else (q : Int)
  else 0

/-- Conversion to an integer of a range, with flags (R334): rounded by the mode, saturated with invalid. -/
def fToIntF (lo hi : Int) (nearest : Bool) (a : Word) : Int × Nat :=
  if fIsNaN a then (hi, FNV)
  else if fIsInf a then ((if fSign a then lo else hi), FNV)
  else
    let q := if nearest then fToIntRne a else fToIntTz a
    if q < lo then (lo, FNV) else if hi < q then (hi, FNV)
    else (q, if q * ((2 ^ 149 : Nat) : Int) = fVal a then 0 else FNX)

end Sys2Proof.Machine
end

