-- ==== Sys2Proof/Machine/Crc.lean ====
section
/-! DEFINITION. The cyclic redundancy checks of the spec: CRC-32 of the image and the record array (R40), CRC-64 of the
configuration digest (R64), CRC-16 of the links and the host SPI (R75), CRC-8 of the two-wire mailbox (R471). -/
namespace Sys2Proof.Machine

/-- One bit of a CRC of width w that is not reflected. -/
def crcBitMsb (w poly c : Nat) : Nat :=
  if c.testBit (w - 1) then ((c <<< 1) % 2 ^ w) ^^^ poly else (c <<< 1) % 2 ^ w

/-- n bits of a CRC that is not reflected. -/
def crcBitsMsb (w poly : Nat) : Nat → Nat → Nat
  | 0, c => c
  | n + 1, c => crcBitsMsb w poly n (crcBitMsb w poly c)

/-- A CRC of width w, not reflected, over bytes, most significant bit of each first. -/
def crcMsb (w poly : Nat) (init : Nat) (bs : List Byte) : Nat :=
  bs.foldl (fun c b => crcBitsMsb w poly 8 (c ^^^ (b.toNat <<< (w - 8)))) init

/-- One bit of the reflected CRC-32. -/
def crcBitLsb (poly c : Nat) : Nat := if c.testBit 0 then (c >>> 1) ^^^ poly else c >>> 1

/-- n bits of the reflected CRC-32. -/
def crcBitsLsb (poly : Nat) : Nat → Nat → Nat
  | 0, c => c
  | n + 1, c => crcBitsLsb poly n (crcBitLsb poly c)

/-- CRC-32 of R40: polynomial 0x04C1_1DB7 reflected, initial value and final XOR 0xFFFF_FFFF. -/
def crc32 (bs : List Byte) : Word :=
  BitVec.ofNat 32 ((bs.foldl (fun c b => crcBitsLsb 0xEDB88320 8 (c ^^^ b.toNat)) 0xFFFFFFFF) ^^^ 0xFFFFFFFF)

/-- CRC-64 of R64: ECMA-182, not reflected, initial value 0, no final XOR. -/
def crc64 (bs : List Byte) : DWord := BitVec.ofNat 64 (crcMsb 64 0x42F0E1EBA9EA3693 0 bs)

/-- CRC-8 of R471: polynomial 0x07, initial value 0, not reflected. -/
def crc8 (bs : List Byte) : Byte := BitVec.ofNat 8 (crcMsb 8 0x07 0 bs)

/-- CRC-16 of R75: polynomial 0x1021, initial value 0xFFFF, not reflected, no final XOR. -/
def crc16 (bs : List Byte) : Nat := crcMsb 16 0x1021 0xFFFF bs

/-- The bytes of words, each little-endian (R7). -/
def wordsBytes (ws : List Word) : List Byte := ws.flatMap wordBytes

end Sys2Proof.Machine
end

