-- ==== Sys2Proof/Machine/Side.lean ====
section
/-! DEFINITION. The stage lane below its phases (03_stage_link.md, R70 to R105): frames and their scrambler, the judgement
of an uplink frame, the training states, latency, and the side channel with its acknowledgement. -/
namespace Sys2Proof.Machine

/-- w bits of a frame from bit i on: b0 is sent first, the most significant bit of a field first (R73). -/
def frField (fr : BitVec 280) (i w : Nat) : Nat := bits fr.toNat (279 - i) (280 - i - w)

/-- n output bits of the scrambler, the first most significant (R76). -/
def scrGo : Nat → Nat → Nat → Nat
  | 0, _, acc => acc
  | n + 1, st, acc =>
    let k := ((st >>> 30) + (st >>> 27)) % 2
    scrGo n ((st * 2 + k) % 2 ^ 31) (acc * 2 + k)

/-- The scrambler output over b8 to b279 of a frame of this SEQ (R76). -/
def scramble (seq : Nat) : Nat := scrGo 272 (0x2AAAAAA0 ||| (seq % 16)) 0

/-- The n bytes of a number, most significant first. -/
def natBE (n x : Nat) : List Byte := (natLE n x).reverse

/-- A frame (R73 to R76): TYPE, SEQ, the 224 bits of the slots, the SIDE word; IV is SEQ[0]. -/
def frameOf (typ seq slots side : Nat) : BitVec 280 :=
  let head := typ % 8 * 32 + seq % 2 * 16 + seq % 16
  let body := slots % 2 ^ 224 * 2 ^ 32 + side % 2 ^ 32
  let crc := crc16 (natBE 33 (head * 2 ^ 256 + body))
  BitVec.ofNat 280 (head * 2 ^ 272 + ((body * 2 ^ 16 + crc) ^^^ scramble (seq % 16)))

/-- The slots of a frame as one number, slot 0 first (R73). -/
def slotsOf (l : List Nat) : Nat := l.foldl (fun a x => a * 2 ^ 14 + x % 2 ^ 14) 0

/-- The PAM4 level of a bit pair, its first bit the more significant, in Gray code (R71). -/
def pamLevel (pair : BitVec 2) : Int :=
  if pair = 0b00#2 then -3 else if pair = 0b01#2 then -1 else if pair = 0b11#2 then 1 else 3

/-- The bit pair that a PAM4 level stands for (R71); any other number is read as the outermost level on its side. -/
def pamPair (level : Int) : BitVec 2 :=
  if level < -2 then 0b00#2 else if level < 0 then 0b01#2 else if level < 2 then 0b11#2 else 0b10#2

/-- Symbol i of a frame as its level: it carries b(2i) and b(2i+1), b0 the frame's most significant bit (R71, R73). -/
def frameSymbol (fr : BitVec 280) (i : Nat) : Int := pamLevel (fr.extractLsb' (278 - 2 * i) 2)

/-- The 140 symbols of a frame in order of sending (R71). -/
def frameSymbols (fr : BitVec 280) : List Int := (List.range 140).map (frameSymbol fr)

/-- The frame that 140 received symbols spell, first symbol first (R71). -/
def symbolsFrame (l : List Int) : BitVec 280 :=
  BitVec.ofNat 280 (l.foldl (fun n v => 4 * n + (pamPair v).toNat) 0)

/-- What lane l drives in the frame time of its last downlink frame: the 140 levels, or nothing in electrical idle (R71, R99). -/
def laneDrives (s : State) (l : Nat) : Option (List Int) := (s.lane l).tx.map frameSymbols

/-- What a good frame carries: TYPE, SEQ, the 16 slots, SIDE; pay is b8 to b263. -/
structure UpFrame where
  typ : Nat
  seq : Nat
  pay : Nat
  deriving DecidableEq, Repr

/-- Slot j of an uplink frame (R82). -/
def UpFrame.slot (f : UpFrame) (j : Nat) : Nat := bits f.pay (255 - 14 * j) (242 - 14 * j)
/-- The SIDE word. -/
def UpFrame.side (f : UpFrame) : Nat := f.pay % 2 ^ 32
/-- Word k of a TRAIN_B frame: W0 first (R100). -/
def UpFrame.word (f : UpFrame) (k : Nat) : Nat := bits f.pay (255 - 32 * k) (224 - 32 * k)

/-- Whether the CRC of a received frame holds (R75, R76). -/
def frameCrcOk (fr : BitVec 280) : Bool :=
  let d := (fr.toNat % 2 ^ 272) ^^^ scramble (frField fr 4 4)
  crc16 (natBE 33 (frField fr 0 8 * 2 ^ 256 + d / 2 ^ 16)) == d % 2 ^ 16

/-- The content of a received frame, before it is judged. -/
def unframe (fr : BitVec 280) : UpFrame :=
  ⟨frField fr 0 3, frField fr 4 4, ((fr.toNat % 2 ^ 272) ^^^ scramble (frField fr 4 4)) / 2 ^ 16⟩

/-- The judgement of R77: the good frame, or none; the second part is a sequence slip. -/
def judgeFrame (prev : Option Nat) (frame : Option (BitVec 280)) : Option UpFrame × Bool :=
  match frame with
  | none => (none, false)
  | some fr =>
    let u := unframe fr
    let inSeq := match prev with
      | none => true
      | some p => u.seq == (p + 1) % 16
    if frameCrcOk fr && decide (u.typ ≤ 5) && (frField fr 3 1 == u.seq % 2) then
      (if inSeq then some u else none, !inSeq)
    else (none, false)

/-- SL_STATUS.STATE of a lane. -/
def laneState (s : State) (l : Nat) : Nat := s.fld (slB l) F.SL_STATUS_STATE
/-- A lane is in RUN. -/
def laneRun (s : State) (l : Nat) : Bool := laneState s l == 6

/-- A free value between two bounds, both admitted. -/
def freeBetween (s : State) (lo hi : Nat) : Nat × State :=
  (lo + (s.takeFree).1.toNat % (hi - lo + 1), (s.takeFree).2)

/-- ASYM as it is used: signed, bounded by half the round trip (R97). -/
def asymUsed (s : State) (l rt : Nat) : Int :=
  let a := sint 16 (s.fld (slB l) F.SL_LAT_CAL_ASYM)
  let h : Int := ((rt / 2 : Nat) : Int)
  max (-h) (min h a)

/-- The downlink latency of a round trip, in ticks (R97). -/
def tDnOf (s : State) (l rt : Nat) : Nat := (((rt / 2 : Nat) : Int) + asymUsed s l rt).toNat

/-- T_DN in use (R97, R98). -/
def laneTdn (s : State) (l : Nat) : Nat := s.fld (slB l) F.SL_LAT_CAL_T_DN

/-- The side channel and the partial messages go back to their start: PSEQ 0 next, ACKSEQ 0xF (R92). Packets that wait for
their first sending are discarded with the unacknowledged ones (DESIGN CHOICE, log entry 151; unsafe). -/
def LaneX.sideReset (x : LaneX) : LaneX :=
  { x with nextSeq := 0, ackOut := 15, waiting := [], sent := [], again := [], txBody := [], timeouts := 0, rxPart := none, rx := [], idle := none, pdIn := [], accs := [] }

/-- The host's access, if one is in progress, ends with a result (R84, R92). -/
def hubFail (s : State) (l code : Nat) : State :=
  if s.flag (slB l) F.SL_HUB_STAT_BUSY then
    (s.setFld (slB l) F.SL_HUB_STAT_BUSY 0).setFld (slB l) F.SL_HUB_STAT_RESULT code
  else s


/-- A lane goes to electrical idle, its receiver and its side channel reset. A host access in progress ends with result 4. The
chosen version still holds (R101). -/
def laneQuiet (s : State) (l : Nat) : State :=
  let s1 := hubFail s l 4
  let x := (s1.lane l).sideReset
  let x := { x with seq := none, good := 0, bad := 0, measN := 0, drifted := false, loss := 0, closing := none, off := false, tx := none, resync := false, common := false, tripRun := false }
  (s1.setLane l x).setFld (slB l) F.SL_STATUS_SIDE_UP 0

/-- A lane starts an attempt from IDLE (R99): a training begins, and with it the choice of a version (R101). -/
def laneIdle (s : State) (l : Nat) : State :=
  let s1 := laneQuiet s l
  ((s1.setLane l { s1.lane l with chosen := 0 }).setFld (slB l) F.SL_STATUS_STATE 1).setFld (slB l) F.SL_STATUS_VERSION 0

/-- A lane stops at electrical idle in a state: 0 disabled, 7 BACKOFF, 8 HALTED. -/
def laneStop (s : State) (l state : Nat) : State := (laneQuiet s l).setFld (slB l) F.SL_STATUS_STATE state

/-- A training state begins. -/
def laneEnter (s : State) (l state : Nat) : State :=
  (s.setLane l { s.lane l with good := 0, measN := 0 }).setFld (slB l) F.SL_STATUS_STATE state

/-- A training attempt fails (R99): back to IDLE, or to BACKOFF after the eighth in a row, reported at its first entry. -/
def laneFail (s : State) (l code : Nat) : State :=
  let b := slB l
  let s1 := (s.bump b F.SL_STATUS_TRAIN_FAILS 1).setFld b F.SL_STATUS_LAST_FAIL code
  let n := (s1.lane l).fails + 1
  if n ≥ 8 then
    let s2 := laneStop s1 l 7
    let s3 := if (s2.lane l).told then s2 else s2.report 1 l K.SL_TRAIN_FAIL code
    s3.setLane l { s3.lane l with fails := 0, told := true }
  else
    let s2 := laneIdle s1 l
    s2.setLane l { s2.lane l with fails := n }

/-- No version in common ends in HALTED with SL_VERSION (R99, R101). -/
def laneNoVersion (s : State) (l marked : Nat) : State :=
  let b := slB l
  let s1 := (s.bump b F.SL_STATUS_TRAIN_FAILS 1).setFld b F.SL_STATUS_LAST_FAIL 3
  (laneStop s1 l 8).report 1 l K.SL_VERSION marked

/-- The versions this end offers (R101): every one up to VER_MAX. -/
def versionsOffered (s : State) (l : Nat) : Nat := if s.fld (slB l) F.SL_CTRL_VER_MAX = 1 then 1 else 3

/-- Queue a packet for its first sending; PSEQ is given when it is sent (R90). -/
def sideSend (s : State) (l cls arg : Nat) (body : List Word) : State :=
  s.setLane l { s.lane l with waiting := (s.lane l).waiting ++ [⟨cls, 0, arg, body⟩] }

/-- A lane reaches RUN (R99, R95, R102): TIME and the reading of the common registers are queued. -/
def laneToRun (s : State) (l : Nat) : State :=
  let b := slB l
  let s1 := laneEnter s l 6
  let s2 := ((s1.bump b F.SL_CNT_EVENTS_TRAINS 1).setFld b F.SL_STATUS_TRAIN_FAILS 0).setFld b F.SL_STATUS_SIDE_UP 1
  let s3 := s2.setFld b F.SL_LAT_TRACK_M_NOW (s2.fld b F.SL_LAT_MEAS_M_TRAIN)
  let x := { s3.lane l with fails := 0, told := false, bad := 0, slotErrs := 0, loss := 0, drifted := false, accs := [⟨false, false, 0, 4⟩] }
  sideSend (sideSend (s3.setLane l x) l 2 0 [4#32]) l 7 0 []

/-- MEASURE has its 256 measurements (R99): M_TRAIN lies between the least and the greatest (the spec does not say which
value it is: a free value, log entry 12), and T_RT and the spread are judged. -/
def laneMeasured (s : State) (l : Nat) : State :=
  let b := slB l
  let x := s.lane l
  let (m, s1) := freeBetween s x.measMin x.measMax
  let dt := s1.fld b F.SL_LAT_MEAS_D_TURN
  let rt : Int := (m : Int) - 640 - (dt : Int)
  let spread := x.measMax - x.measMin
  let s2 := ((s1.setFld b F.SL_LAT_MEAS_M_TRAIN m).setFld b F.SL_LAT_RT_T_RT (unint 16 rt)).setFld b F.SL_LAT_RT_SPREAD (min spread 255)
  if rt < 2560 ∨ 7680 < rt then laneFail s2 l 4
  else if 4 < spread then laneFail s2 l 5
  else laneEnter (s2.setFld b F.SL_LAT_CAL_T_DN (tDnOf s2 l rt.toNat)) l 5

/-- A good TRAIN_B frame in NEGOTIATE (R100, R101). -/
def laneNegotiate (s : State) (l : Nat) (u : UpFrame) : State :=
  let b := slB l
  let marked := bits (u.word 0) 15 8
  let both := marked &&& versionsOffered s l
  if both &&& 3 = 0 then laneNoVersion s l marked
  else
    let v := if bit both 1 then 2 else 1
    let s1 := ((s.wr (b + R.SL_HUB_ID) (BitVec.ofNat 32 (u.word 1))).setFld b F.SL_HUB_CAPS_PD_PORTS (u.word 0 % 8)).setFld b F.SL_HUB_CAPS_POPULATED (u.word 2 % 2 ^ 16)
    let s2 := s1.setFld b F.SL_LAT_MEAS_D_TURN (bits (u.word 2) 31 16)
    let ok := (s.lane l).chosen == v && bits (u.word 4) 1 0 == v
    let n := if ok then (s.lane l).good + 1 else 0
    let s3 := s2.setLane l { s2.lane l with chosen := v, good := n, dSampI := u.word 3 % 2 ^ 16, dSampV := bits (u.word 3) 31 16 }
    if n ≥ 16 then laneEnter (s3.setFld b F.SL_STATUS_VERSION v) l 4 else s3

/-- The uplink types that R74 calls a RUN frame: RUN, RUN_TRIP and HUB_SAFE. All three count in READY (DEDUCED, log entry
152). -/
def runType (typ : Nat) : Bool := typ == 0 || typ == 1 || typ == 5

/-- A frame of a RUN type, in READY or RUN: TRIP_PENDING rises at the first RUN_TRIP frame (R94). -/
def tripSeen (s : State) (l typ : Nat) : State :=
  let s1 := if typ = 1 ∧ !(s.lane l).tripRun then s.setFld (slB l) F.SL_STATUS_TRIP_PENDING 1 else s
  s1.setLane l { s1.lane l with tripRun := typ == 1 }

/-- A frame time in a training state (R99); u is the good frame, m the measurement. -/
def laneTrainFrame (s : State) (l : Nat) (u : Option UpFrame) (m : Nat) : State :=
  let x := s.lane l
  let restart := s.setLane l { x with good := 0 }
  match u with
  | none => if laneState s l = 4 then s else restart
  | some u =>
    if laneState s l = 2 then
      if u.typ = 2 then
        (if x.good + 1 ≥ 32 then laneEnter s l 3 else s.setLane l { x with good := x.good + 1 })
      else restart
    else if laneState s l = 3 then (if u.typ = 3 then laneNegotiate s l u else restart)
    else if laneState s l = 4 then
      if u.typ = 4 then
        let x1 := { x with measN := x.measN + 1, measMin := if x.measN = 0 then m else min x.measMin m, measMax := if x.measN = 0 then m else max x.measMax m }
        let s1 := s.setLane l x1
        if x1.measN ≥ 256 then laneMeasured s1 l else s1
      else s
    else
      if runType u.typ then
        let s1 := tripSeen s l u.typ
        (if x.good + 1 ≥ 64 then laneToRun s1 l else s1.setLane l { s1.lane l with good := x.good + 1 })
      else restart

/-- The timer of a training state expires (R99). -/
def trainTimeout (s : State) (l : Nat) : State :=
  let st := laneState s l
  if st = 2 then laneFail s l 1 else if st = 3 then laneFail s l 2
  else if st = 4 then laneFail s l 7 else if st = 5 then laneFail s l 6 else s

/-- M_NOW − M_TRAIN in ticks. -/
def driftOf (s : State) (l : Nat) : Int :=
  (s.fld (slB l) F.SL_LAT_TRACK_M_NOW : Int) - (s.fld (slB l) F.SL_LAT_MEAS_M_TRAIN : Int)

/-- The drift of M_NOW is judged (R98): SL_LAT_DRIFT once per excursion, a jump above 320 ticks makes the
lane lost, unless it is lost or closing already (R104). -/
def driftJudge (s : State) (l : Nat) : State :=
  let b := slB l
  let d := driftOf s l
  let x := s.lane l
  let out := decide (s.fld b F.SL_LAT_TRACK_DRIFT_LIMIT < d.natAbs)
  let s1 :=
    if out && !x.drifted then
      ((s.bump b F.SL_CNT_EVENTS_DRIFTS 1).report 1 l K.SL_LAT_DRIFT (unint 32 d)).setLane l { x with drifted := true }
    else s.setLane l { x with drifted := out }
  if 320 < d.natAbs && x.loss == 0 && x.closing.isNone then s1.setLane l { s1.lane l with loss := 3 } else s1

/-- A measurement in RUN (R98): the filtered value M_NOW comes to lie between its present value and the measurement;
where is not stated (a free value, log entry 12). -/
def trackMeasure (s : State) (l m : Nat) : State :=
  let now := s.fld (slB l) F.SL_LAT_TRACK_M_NOW
  let (v, s1) := if now = m then (m, s) else freeBetween s (min now m) (max now m)
  driftJudge (s1.setFld (slB l) F.SL_LAT_TRACK_M_NOW v) l

/-- A millisecond of tracking (R98): T_DN moves by at most one tick toward T_DN_NOW. -/
def latencyStep (s : State) (l : Nat) : State :=
  if laneRun s l then
    let b := slB l
    let rt := s.fld b F.SL_LAT_TRACK_M_NOW - 640 - s.fld b F.SL_LAT_MEAS_D_TURN
    let want := tDnOf s l rt
    let t := s.fld b F.SL_LAT_CAL_T_DN
    let t' := if t < want then t + 1 else if want < t then t - 1 else t
    driftJudge (s.setFld b F.SL_LAT_CAL_T_DN t') l
  else s

/-- The number of packets that a received ACKSEQ acknowledges: those up to and including its PSEQ (R90). -/
def ackCount (sent : List SidePkt) (ack : Nat) : Nat :=
  match sent.findIdx? (fun p => p.pseq == ack) with
  | none => 0
  | some i => i + 1

/-- An ACKSEQ arrives (R90, R91). -/
def takeAck (s : State) (l ack : Nat) : State :=
  let x := s.lane l
  let n := ackCount x.sent ack
  if n = 0 then s
  else
    let rest := x.sent.drop n
    s.setLane l { x with sent := rest, again := x.again.filter (fun p => rest.any (fun q => q.pseq == p.pseq)), timeouts := 0 }

/-- A whole packet has arrived (R90, R92): RESYNC is accepted whatever its PSEQ, any other with the expected PSEQ. -/
def takePacket (s : State) (l : Nat) (p : SidePkt) : State :=
  let x := s.lane l
  if p.cls = 9 ∧ p.arg / 2 ^ 12 = 0 ∧ p.pseq = 0 ∧ p.body = [] then s.setLane l { x with rx := x.rx ++ [p] }
  else if p.pseq = (x.ackOut + 1) % 16 then s.setLane l { x with rx := x.rx ++ [p], ackOut := p.pseq }
  else s

/-- The SIDE word of a good uplink RUN frame (R83, R90). The ACKSEQ of a HEAD word whose LEN is 9 to 15 is still used, as
every HEAD word carries one, and the packet dropped with it is counted nowhere (DESIGN CHOICE, log entry 153; unsafe). -/
def takeSide (s : State) (l : Nat) (w : Nat) : State :=
  let x := s.lane l
  match x.rxPart with
  | some (p, n) =>
    let p1 := { p with body := p.body ++ [BitVec.ofNat 32 w] }
    if n ≤ 1 then takePacket (s.setLane l { x with rxPart := none }) l p1
    else s.setLane l { x with rxPart := some (p1, n - 1) }
  | none =>
    let cls := bits w 31 28
    let len := bits w 23 20
    let p : SidePkt := ⟨cls, bits w 27 24, w % 2 ^ 16, []⟩
    let s1 := takeAck s l (bits w 19 16)
    let x1 := s1.lane l
    if 8 < len then s1
    else if cls = 0 then s1.setLane l { x1 with idle := some (w % 2 ^ 16) }
    else if len = 0 then takePacket s1 l p
    else s1.setLane l { x1 with rxPart := some (p, len) }

/-- A frame of a packet was lost: the packet is dropped without a word (R90). -/
def dropPart (s : State) (l : Nat) : State := s.setLane l { s.lane l with rxPart := none }

/-- The priority of a class in R93: LINK, then PD_MSG and PD_CTL, then REG_WR and REG_RD, then TIME. -/
def sidePrio (cls : Nat) : Nat :=
  if cls = 9 then 0 else if cls = 4 ∨ cls = 5 then 1 else if cls = 1 ∨ cls = 2 then 2 else 3

/-- Take the first packet of the best priority out of a list. -/
def sidePick : Nat → List SidePkt → Option (SidePkt × List SidePkt)
  | _, [] => none
  | k, l =>
    match l.findIdx? (fun p => sidePrio p.cls == k) with
    | some i =>
      match l[i]? with
      | some p => some (p, l.eraseIdx i)
      | none => none
    | none => none

/-- The next packet to send for the first time, by R93. A LINK packet may so come between two segments of a PD message, which
then have no consecutive PSEQ (DESIGN CHOICE, log entry 154; unsafe). -/
def sideNext (l : List SidePkt) : Option (SidePkt × List SidePkt) :=
  match sidePick 0 l with
  | some r => some r
  | none =>
    match sidePick 1 l with
    | some r => some r
    | none =>
      match sidePick 2 l with
      | some r => some r
      | none => sidePick 3 l

/-- A HEAD word (R83). -/
def headWord (p : SidePkt) (ack : Nat) : Nat :=
  p.cls % 16 * 2 ^ 28 + p.pseq % 16 * 2 ^ 24 + p.body.length % 16 * 2 ^ 20 + ack % 16 * 2 ^ 16 + p.arg % 2 ^ 16

/-- The body of a TIME packet whose HEAD goes in frame k: cabinet time at the start of window k (R95, R96),
cut down to whole nanoseconds (DESIGN CHOICE, log entry 155; unsafe). -/
def timeBody (s : State) (l k : Nat) : List Word :=
  let ns := (5 * k + 5 : Nat) + laneTdn s l / 64
  let t := (((ns : Int) + s.timeOfs) % (cabWrap : Int)).toNat
  [timeW0 t, timeW1 t]

/-- Start sending a packet in frame k: its HEAD word now, its body in the frames that follow. -/
def sideStart (s : State) (l k : Nat) (p : SidePkt) : Nat × State :=
  let p1 := if p.cls = 7 then { p with body := timeBody s l k } else p
  (headWord p1 (s.lane l).ackOut, s.setLane l { s.lane l with txBody := p1.body })

/-- The SIDE word of downlink frame k in RUN (R83, R90 to R93, R95). A lane that closes completes the packet it has started
and starts no other (R106). -/
def sideWord (s : State) (l k : Nat) : Nat × State :=
  let x := s.lane l
  match x.txBody with
  | w :: t => (w.toNat, s.setLane l { x with txBody := t })
  | [] =>
    if x.closing.isSome then (headWord ⟨0, 0, 0, []⟩ x.ackOut, s)
    else if x.resync then
      (headWord ⟨9, 0, 0, []⟩ x.ackOut, s.setLane l { x with resync := false })
    else
      match x.again with
      | p :: t => sideStart (s.setLane l { x with again := t }) l k p
      | [] =>
        if x.sent.length ≥ 8 then (headWord ⟨0, 0, 0, []⟩ x.ackOut, s)
        else
          match sideNext x.waiting with
          | none => (headWord ⟨0, 0, 0, []⟩ x.ackOut, s)
          | some (p, rest) =>
            let p1 := { p with pseq := x.nextSeq }
            let x1 := { x with waiting := rest, sent := x.sent ++ [p1], nextSeq := (x.nextSeq + 1) % 16 }
            sideStart (s.setLane l x1) l k p1

/-- The oldest unacknowledged packet has timed out (R91): it and all later ones are sent again; after eight timeouts in
a row SL_SIDE_FAIL is reported, and the second part says that the side channel is to be reset with RESYNC. -/
def retxTimeout (s : State) (l : Nat) : State × Bool :=
  let x := s.lane l
  if x.sent = [] then (s, false)
  else if x.timeouts + 1 ≥ 8 then
    ((s.bump (slB l) F.SL_CNT_EVENTS_SIDE_FAILS 1).report 1 l K.SL_SIDE_FAIL 0, true)
  else
    ((s.setLane l { x with again := x.sent, timeouts := x.timeouts + 1 }).bump (slB l) F.SL_CNT_RETX_RETX x.sent.length, false)

/-- The side channel is reset by RESYNC (R92); send says that this end sends one. A host access in progress reports
result 4; the discarded outbound PD messages are the caller's to report to their ports. A packet that has been started is
never interrupted (R93): its words left go out first, and a RESYNC after them. -/
def sideResync (s : State) (l : Nat) (send : Bool) : State :=
  let s1 := hubFail s l 4
  s1.setLane l { (s1.lane l).sideReset with txBody := (s1.lane l).txBody, resync := send }

/-- The packet at the head of a lane's received packets, and the state without it. -/
def rxPop (s : State) (l : Nat) : Option (SidePkt × State) :=
  match (s.lane l).rx with
  | [] => none
  | p :: t => some (p, s.setLane l { s.lane l with rx := t })

/-- Take the head packet if p accepts it. -/
def rxTake (s : State) (l : Nat) (p : SidePkt → Bool) : Option (SidePkt × State) :=
  match rxPop s l with
  | none => none
  | some (k, s1) => if p k then some (k, s1) else none

/-- A body word of a packet, 0 if it is missing. -/
def SidePkt.word (p : SidePkt) (k : Nat) : Word := p.body.getD k 0#32

/-- A REG_RSP completes the oldest access (R84, R102). The read of the common registers is made once in each training: one
that a RESYNC has lost, or that is answered with another status than 0, is not made again (DESIGN CHOICE, log entry 156;
unsafe). -/
def regRsp (s : State) (l : Nat) (p : SidePkt) : State :=
  let b := slB l
  let x := s.lane l
  match x.accs with
  | [] => s
  | a :: t =>
    let st := bits (p.word 0).toNat 3 0
    let data := p.body.drop 1
    let s1 := s.setLane l { x with accs := t }
    if a.host then
      let s2 := if a.write ∨ st ≠ 0 then s1
        else (List.range (min 7 data.length)).foldl (fun s k => s.wr (b + R.SL_HUB_DATA + 4 * k) (data.getD k 0#32)) s1
      (s2.setFld b F.SL_HUB_STAT_BUSY 0).setFld b F.SL_HUB_STAT_RESULT st
    else if st = 0 ∧ data.length ≥ 4 then
      s1.setLane l { s1.lane l with iLsb := data.getD 2 0#32, vLsb := data.getD 3 0#32, common := true }
    else s1

/-- SL_HUB_CMD.GO (R84): queued, dropped while BUSY; a lane that is not in RUN gives result 5. -/
def hubGo (s : State) (l : Nat) : State :=
  let b := slB l
  if s.flag b F.SL_HUB_STAT_BUSY then s
  else if !(laneRun s l) then s.setFld b F.SL_HUB_STAT_RESULT 5
  else
    let addr := s.fld b F.SL_HUB_ADDR_ADDR
    let n := s.fld b F.SL_HUB_CMD_COUNT + 1
    let wr := s.flag b F.SL_HUB_CMD_WRITE
    let s1 := s.setFld b F.SL_HUB_STAT_BUSY 1
    let s2 := s1.setLane l { s1.lane l with accs := (s1.lane l).accs ++ [⟨true, wr, addr, n⟩] }
    if wr then sideSend s2 l 1 addr ((List.range n).map (fun k => s.rd (b + R.SL_HUB_DATA + 4 * k)))
    else sideSend s2 l 2 addr [BitVec.ofNat 32 (min n 7)]

/-- The lane leaves RUN for a reason other than a write: SL_LOSS (R104): OFF slots, then IDLE or, with AUTO_RETRAIN 0, 32
RUN frames of OFF and HALTED. -/
def laneLoss (s : State) (l : Nat) : State :=
  let b := slB l
  let why := (s.lane l).loss
  let s1 := (s.bump b F.SL_CNT_EVENTS_LOSSES 1).report 1 l K.SL_LOSS why
  if s.flag b F.SL_CTRL_AUTO_RETRAIN then laneIdle s1 l
  else s1.setLane l { s1.lane l with loss := 0, off := true, closing := some (32, true) }

end Sys2Proof.Machine
end

