-- ==== Sys2Proof/Machine/Phase.lean ====
section
/-! DEFINITION. Phases and felts as objects: who belongs to whom (R61, R108 to R110), coefficients (R109, R137), the
conversion of samples (R111), the loop state and its reset (R135), last-fault capture (R136), the felt's way to OFF, and the
protections a phase judges on its samples (R112, R129 to R134, R165). -/
namespace Sys2Proof.Machine

/-- Base of felt f's cabinet structure table entry on this device (R24, 02_fabric_image.md). -/
def cstB (s : State) (f : Nat) : Nat := 0xC00 * s.position + 0x20 * f
/-- Felt f is DEFINED. -/
def feltDefined (s : State) (f : Nat) : Bool := s.flag (cstB s f) F.SYS_CST_W6_DEFINED
/-- The owner engine of felt f. -/
def feltOwner (s : State) (f : Nat) : Nat := s.fld (cstB s f) F.SYS_CST_W6_OWNER
/-- The phases of felt f, ascending: its mask words in the structure table. -/
def feltPhases (s : State) (f : Nat) : List Nat :=
  let w := (List.range 6).map (fun k => (s.rd (cstB s f + 0x4000 + 4 * k)).toNat)
  natsWhere 192 (fun p => bit (w.getD (p / 32) 0) (p % 32))
/-- The lead phase of felt f, its lowest-numbered phase (R108). -/
def leadPhase (s : State) (f : Nat) : Nat := (feltPhases s f).headD 0
/-- The felt of phase p (PHS_STATUS.FELT); none where it is in no felt (R110). -/
def phaseFelt (s : State) (p : Nat) : Option Nat :=
  let f := s.fld (phsB p) F.PHS_STATUS_FELT
  if f < 96 then some f else none
/-- PHS_STATUS.FELT of every phase follows the structure table (R61, R110): 0x7F in no felt. -/
def showPhases (s : State) : State :=
  let s1 := (List.range 192).foldl (fun t p => t.setFld (phsB p) F.PHS_STATUS_FELT 0x7F) s
  (natsWhere 96 (feltDefined s)).foldl (fun t f => (feltPhases s f).foldl (fun t p => t.setFld (phsB p) F.PHS_STATUS_FELT f) t) s1
/-- The lane of phase p. -/
def phaseLane (p : Nat) : Nat := p / 16
/-- The lanes that carry a phase of felt f. -/
def feltLanes (s : State) (f : Nat) : List Nat := ((feltPhases s f).map phaseLane).eraseDups
/-- The felts with a phase on lane l, ascending. -/
def laneFelts (s : State) (l : Nat) : List Nat :=
  natsWhere 96 (fun f => (List.range 16).any (fun j => s.fld (phsB (16 * l + j)) F.PHS_STATUS_FELT == f))

/-- FELT_STATUS.STATE. -/
def feltState (s : State) (f : Nat) : Nat := s.fld (feltB f) F.FELT_STATUS_STATE
/-- The phases of the felt switch: 5 starting, 6 running, 7 stopping, 13 test (R106, R220). -/
def feltSwitching (s : State) (f : Nat) : Bool := [5, 6, 7, 13].contains (feltState s f)
/-- FELT_STATUS.MODE, the mode in use. -/
def feltMode (s : State) (f : Nat) : Nat := s.fld (feltB f) F.FELT_STATUS_MODE
/-- The mode regulates voltage: 1, 5 and 6 (R148, R152; log entry 13). -/
def vMode (s : State) (f : Nat) : Bool := [1, 5, 6].contains (feltMode s f)

/-- A phase coefficient as it acts: the copy taken at the start of the round, else the register (R137, R138). -/
def phsCo (s : State) (p : Nat) (F : Fld) : Nat :=
  match (s.phase p).coef with
  | [] => s.fld (phsB p) F
  | l => fget (l.getD ((F.off - 0x100) / 4) 0#32) F
/-- A phase coefficient word (binary32). -/
def phsCoW (s : State) (p off : Nat) : Word :=
  match (s.phase p).coef with
  | [] => s.rd (phsB p + off)
  | l => l.getD ((off - 0x100) / 4) 0#32
/-- The coefficient registers of phase p as they stand (+0x100 to +0x150). -/
def phsCoefNow (s : State) (p : Nat) : List Word := (List.range 21).map (fun k => s.rd (phsB p + 0x100 + 4 * k))
/-- A register of felt f as it acts: a coherent one as the last update took it (R173). -/
def feltW (s : State) (f off : Nat) : Word :=
  match (s.felt f).co with
  | [] => s.rd (feltB f + off)
  | ws => if 0x100 ≤ off ∧ off < 0x200 then ws.getD ((off - 0x100) / 4) 0#32 else s.rd (feltB f + off)
/-- A field of a register of felt f as it acts (R173). -/
def feltF (s : State) (f : Nat) (F : Fld) : Nat := fget (feltW s f F.off) F
/-- The update takes the coherent registers as they stand (R173). -/
def feltLatch (s : State) (f : Nat) : State :=
  s.setFelt f { s.felt f with co := (List.range 64).map (fun k => s.rd (feltB f + 0x100 + 4 * k)) }

/-- A value in a range as it acts. -/
def clampNat (lo hi v : Nat) : Nat := max lo (min hi v)
/-- PHS_PWM.PERIOD as it acts (R116). -/
def pwmPeriod (s : State) (p : Nat) : Nat := clampNat 16000 640000 (phsCo s p F.PHS_PWM_PERIOD)
/-- TON_MIN as it acts (R118). -/
def tonMin (s : State) (p : Nat) : Nat := max 320 (phsCo s p F.PHS_PWM2_TON_MIN)
/-- TOFF_MIN as it acts (R118). -/
def toffMin (s : State) (p : Nat) : Nat := max 320 (phsCo s p F.PHS_PWM2_TOFF_MIN)

/-- A sample code in units, as binary32 (R111). -/
def sampleVal (code : Nat) (lsb : Word) : Word := fMul (fOfInt (sint 14 code)) lsb

/-- PHS_STATUS.STATE of a phase (04_phase_control.md). -/
def phsState (s : State) (p : Nat) : Nat :=
  match phaseFelt s p with
  | none => 0
  | some f =>
    if feltState s f = 10 ∨ s.fc.heldFelts.contains f then 6
    else if feltSwitching s f then
      (if (s.felt f).burst = 1 then 4 else if (s.felt f).burst = 2 then 5 else if (s.felt f).full then 3 else 2)
    else 1

/-- PHS_STATUS as it reads: the stored bits with those its felt gives. -/
def phsStatusWord (s : State) (p : Nat) : Word :=
  let w := s.rd (phsB p + R.PHS_STATUS)
  match phaseFelt s p with
  | none => fset w F.PHS_STATUS_STATE 0
  | some f =>
    let w1 := fset (fset w F.PHS_STATUS_STATE (phsState s p)) F.PHS_STATUS_POS (phsCo s p F.PHS_ORDER_POS)
    let w2 := fset (fset w1 F.PHS_STATUS_LEAD (b2n (leadPhase s f == p))) F.PHS_STATUS_SURGE (b2n (s.felt f).surge)
    fset w2 F.PHS_STATUS_FULLING (b2n (feltSwitching s f && (s.felt f).full))

/-- Two sample codes of a last-fault word: EVEN the older (R136). -/
def lfPair (h : List Nat) (m : Nat) : Word :=
  let old := (h.take 8).reverse
  let pad := List.replicate (8 - old.length) 0x2000 ++ old
  BitVec.ofNat 32 (pad.getD (2 * m) 0 + pad.getD (2 * m + 1) 0 * 2 ^ 16)

/-- Last-fault capture: frozen while VALID is 1 (R136). Samples that have never arrived read as no-sample codes. -/
def lfCapture (s : State) (p cause : Nat) : State :=
  let b := phsB p
  if s.flag b F.PHS_LF_INFO_VALID then s
  else
    let x := s.phase p
    let fx := match phaseFelt s p with
      | some f => s.felt f
      | none => s.felt 96
    let info := cause * 2 ^ 24 + phsState s p * 2 ^ 20 + s.fld b F.PHS_ON_ON_TICKS + 2 ^ 31
    let s1 := ((s.wr (b + R.PHS_LF_INFO) (BitVec.ofNat 32 info)).wr (b + R.PHS_LF_SEC) (timeW0 s.cabNs)).wr (b + R.PHS_LF_NS) (timeW1 s.cabNs)
    let s2 := ((s1.wr (b + R.PHS_LF_IREF) fx.iOut).wr (b + R.PHS_LF_X) fx.x).wr (b + R.PHS_LF_TRIM) (s.rd (b + R.PHS_TRIM))
    (List.range 4).foldl (fun s m => (s.wr (b + R.PHS_LF_I + 4 * m) (lfPair x.iHist m)).wr (b + R.PHS_LF_V + 4 * m) (lfPair x.vHist m)) s2

/-- A W1C event bit of felt f with its enable and its line (R385). -/
def feltEvent (s : State) (f bitNo : Nat) : State :=
  s.event (feltB f) ⟨R.FELT_EVT, bitNo, bitNo⟩ ⟨R.FELT_EVT_EN, bitNo, bitNo⟩ (128 + f)
/-- A W1C event bit of felt f's list unit. -/
def wfEvent (s : State) (f bitNo : Nat) : State :=
  s.event (feltB f) ⟨R.FELT_WF_EVT, bitNo, bitNo⟩ ⟨R.FELT_WF_EVT_EN, bitNo, bitNo⟩ (128 + f)
/-- Set FELT_STATUS.STATE. -/
def setFeltState (s : State) (f st : Nat) : State := s.setFld (feltB f) F.FELT_STATUS_STATE st

/-- The loop state of a phase goes to its reset state (R135). -/
def PhaseX.loopReset (x : PhaseX) : PhaseX :=
  { x with leads := [], lead := none, iPer := [], sPer := [], miss := 0, lim := 0, cut := 0, limited := false, deIn := 0, cyc := false, coef := [], vSince := false }

/-- The loop state of a felt goes to its reset state (R135). -/
def FeltX.loopReset (x : FeltX) : FeltX :=
  { x with x := 0#32, d := 0#32, burst := 0, burstN := 0, newRound := false, surge := false, surgeHold := false, slopeN := 0, vPrev := none, fullN := 0, fullD := false, full := false, glide := 0, glideE := 0, syncE := 0, syncN := 0, syncK := 0, ramp := 0, stop := 0, recovery := false, brkT := 0, brkI := [], brkFast := false, sums := [], vOut := none }

/-- The loop state of every phase of a felt is reset (R135): x, trims, light load, surge and the counts. -/
def loopReset (s : State) (f : Nat) : State :=
  let s1 := (feltPhases s f).foldl (fun s p =>
    (((s.setPhase p (s.phase p).loopReset).wr (phsB p + R.PHS_TRIM) 0#32).setFld (phsB p) F.PHS_STATUS_DE 0).setFld (phsB p) F.PHS_STATUS_LIMITED 0) s
  let s2 := s1.setFelt f (s1.felt f).loopReset
  s2.setFld (phsB (leadPhase s f)) F.PHS_SYNC_STAT_STATE 0

/-- A felt stop, safe reaction, trip, shed, latch or change of source ends a list that runs at once (R204). One that is
armed stays armed: its origin judges it again (R199, R206). -/
def wfEndNow (s : State) (f : Nat) : State :=
  if s.fld (feltB f) F.FELT_WF_STAT_STATE ≤ 1 then s
  else (s.setFld (feltB f) F.FELT_WF_STAT_STATE 0).setWf f { s.wf f with frozen := false, stopping := false, under := false, pts := [] }

/-- No allowance of the bus balancer applies to the felt (R147). -/
def noAllowance (s : State) (f : Nat) : State :=
  (s.wr (feltB f + R.FELT_ALLOW_SRC) fInf).wr (feltB f + R.FELT_ALLOW_SNK) fInf

/-- The felt goes OFF at once into a state with a cause (R135, R162, R166): IN_REG clears without OUT_REG, the breaker
timer clears, the list ends, the sense latch clears, and a pending start is withdrawn. -/
def feltOff (s : State) (f st cause : Nat) : State :=
  let b := feltB f
  let s1 := if admWaits s 0 f then admWithdraw s 0 f else s
  let s2 := (loopReset (wfEndNow s1 f) f)
  let s3 := ((setFeltState s2 f st).setFld b F.FELT_STATUS_STOP_CAUSE cause).setFld b F.FELT_STATUS_IN_REG 0
  let s4 := (s3.setFld b F.FELT_STATUS_ALLOW_LIM 0).setFld b F.FELT_STATUS_SENSE_LOCAL 0
  let s5 := s4.setFelt f { s4.felt f with iOut := 0#32, iRaw := 0#32, learned := false, senseOpen := false, again := false, regSeen := false, restart := false }
  noAllowance (s5.wr (b + R.FELT_IREF) 0#32) f

/-- The felt's over-voltage latch (R133, R167): every phase sends LOW_LATCH and shows LATCHED, the felt goes to state 11
with EN clear, PHS_OV is reported once for the felt. p is the phase detected, trip whether by a stage-end trip. -/
def ovLatch (s : State) (f p : Nat) (trip : Bool) : State :=
  if feltState s f = 11 ∨ !(feltDefined s f) then s
  else
    let s1 := (s.report 2 p K.PHS_OV (b2n trip * 256 + p % 16))
    let s2 := lfCapture s1 p 2
    let s3 := (feltOff s2 f 11 5).setFld (feltB f) F.FELT_CTRL_EN 0
    (feltPhases s f).foldl (fun s q => (s.setPhase q { s.phase q with latchTx := true }).setFld (phsB q) F.PHS_STATUS_LATCHED 1) s3

/-- A latched phase does not run its loops, trims, light load or surge (R133). -/
def phsLatched (s : State) (p : Nat) : Bool := s.flag (phsB p) F.PHS_STATUS_LATCHED
/-- A phase held OFF by a trip (R134). -/
def phsTripped (s : State) (p : Nat) : Bool := s.flag (phsB p) F.PHS_STATUS_TRIPPED

/-- A no-sample code in a populated slot of a good frame (R82, R112). -/
def noSample (s : State) (p : Nat) : State :=
  let l := phaseLane p
  let s1 := if bit (s.fld (slB l) F.SL_HUB_CAPS_POPULATED) (p % 16) then s.bump (slB l) F.SL_CNT_SAMPLE_COUNT 1 else s
  let x := s1.phase p
  let n := x.miss + 1
  let s2 := (s1.bump (phsB p) F.PHS_CNT_MISS_COUNT 1).setPhase p { x with miss := n }
  match phaseFelt s p with
  | none => s2
  | some _ =>
    if n = max 1 (phsCo s p F.PHS_PROT_MISS_LIMIT) then lfCapture (s2.report 2 p K.PHS_SAMPLE n) p 3 else s2

/-- A limit event of the running cycle (R131): the first one makes the cycle limited; after OC_CYCLES limited cycles in a
row PHS_OC is reported. -/
def limitEvent (s : State) (p cut : Nat) : State :=
  let x := s.phase p
  if x.limited then s.setPhase p { x with cut := cut }
  else
    let s1 := (s.bump (phsB p) F.PHS_CNT_LIMIT_LIMITED 1).setPhase p { x with cut := cut, limited := true, lim := x.lim + 1 }
    if x.lim + 1 = max 1 (phsCo s p F.PHS_PROT_OC_CYCLES) then lfCapture (s1.report 2 p K.PHS_OC (x.lim + 1)) p 1 else s1

/-- A phase judges a valid current sample against its cycle limits (R131). -/
def currentLimits (s : State) (p : Nat) (v : Word) : State :=
  match phaseFelt s p with
  | none => s
  | some f =>
    if feltSwitching s f && !phsLatched s p && !phsTripped s p then
      let g := (s.phase p).gate
      if g = 1 ∧ fLt (phsCoW s p R.PHS_I_PK) v then limitEvent s p 1
      else if (g = 2 ∨ g = 6) ∧ fLt v (fNeg (phsCoW s p R.PHS_I_NEG)) then limitEvent s p 2
      else s
    else s

/-- A code marks saturation (R82). -/
def codeSat (code : Nat) : Bool := code == 0x1FFF || code == 0x2001

/-- The phase runs cycles, whose mean current PHS_MEAS_I shows: its felt switches and neither a latch nor a trip holds it. -/
def phsCycles (s : State) (p : Nat) : Bool :=
  match phaseFelt s p with
  | none => false
  | some f => feltSwitching s f && !phsLatched s p && !phsTripped s p

/-- A valid current sample of a phase that runs no cycles is shown as it is: in no felt (R110), latched (R133), or in a felt
that does not switch (DESIGN CHOICE, log entry 159). -/
def showCurrent (s : State) (p : Nat) (v : Word) : State :=
  if phsCycles s p then s else s.wr (phsB p + R.PHS_MEAS_I) v

/-- A frame joins those of a phase that wait for the felt's other lanes: the arrivals of one frame lie within 100 ns, 80 ns of T_RT
(R99) and 20 ns of D_TURN (R96), so that twelve frames of 10 ns hold what can still be completed (R113). -/
def sampleAdd (l : List Sample) (e : Sample) : List Sample := (e :: l).take 12

/-- The index of the frame slot that lane l has just received (R113). -/
def laneIdx (s : State) (p : Nat) : Int := (s.lane (phaseLane p)).idx

/-- A current sample of a good frame (R111, R112, R131). -/
def takeCurrent (s : State) (p code : Nat) : State :=
  let x := s.phase p
  let x1 := { x with iHist := code :: x.iHist.take 7 }
  if code = 0x2000 then noSample (s.setPhase p { x1 with iQ := sampleAdd x.iQ ⟨laneIdx s p, false, false, false, x.iLast⟩ }) p
  else
    let v := sampleVal code (s.lane (phaseLane p)).iLsb
    let s1 := s.setPhase p { x1 with iLast := v, miss := 0, iQ := sampleAdd x.iQ ⟨laneIdx s p, false, true, codeSat code, v⟩ }
    currentLimits (showCurrent s1 p v) p v

/-- A voltage sample of a good frame (R111, R112, R133). -/
def takeVoltage (s : State) (p code : Nat) : State :=
  let x := s.phase p
  let x1 := { x with vHist := code :: x.vHist.take 7 }
  if code = 0x2000 then noSample (s.setPhase p { x1 with vQ := sampleAdd x.vQ ⟨laneIdx s p, false, false, false, x.v⟩ }) p
  else
    let v := sampleVal code (s.lane (phaseLane p)).vLsb
    let n := if fLe (phsCoW s p R.PHS_V_OV) v then x.ov + 1 else 0
    let x2 := { x1 with v := v, miss := 0, vSince := true, ov := n, vQ := sampleAdd x.vQ ⟨laneIdx s p, false, true, codeSat code, v⟩ }
    let s1 := (s.setPhase p x2).wr (phsB p + R.PHS_MEAS_V) v
    match phaseFelt s p with
    | none => s1.setPhase p { s1.phase p with ov := 0 }
    | some f => if phsCo s p F.PHS_PROT_OV_COUNT + 1 ≤ n then ovLatch s1 f p false else s1

/-- A bad frame of a lane: the samples of its phases are missing (R112). cur: the frame's turn was for currents. -/
def missFrame (s : State) (l : Nat) (cur : Bool) : State :=
  (List.range 16).foldl (fun s j =>
    let p := 16 * l + j
    let x := s.phase p
    let e : Sample := ⟨laneIdx s p, true, false, false, if cur then x.iLast else x.v⟩
    s.setPhase p (if cur then { x with iQ := sampleAdd x.iQ e } else { x with vQ := sampleAdd x.vQ e })) s

/-- v_out of R114: the mean of the latest valid voltage samples of the felt's phases since it started, none without one, as its
voltage frames bring it; a frame with a bad part holds it (R112). -/
def feltVout (s : State) (f : Nat) : Option Word := (s.felt f).vOut

/-- v_out as a voltage frame without a bad part gives it (R114). -/
def frameVout (s : State) (f : Nat) : Option Word :=
  match (feltPhases s f).filter (fun p => (s.phase p).vSince) with
  | [] => none
  | l => some (fMean (l.map (fun p => (s.phase p).vNow)))

/-- The felt's remote sense is in use: enabled and SENSE_OPEN not latched (R139, R168). -/
def feltRemote (s : State) (f : Nat) : Bool := feltF s f F.FELT_SENSE_EN != 0 && !(s.felt f).senseOpen

/-- All phases of the felt hold a frame of this SEQ (R113). -/
def frameDone (s : State) (f : Nat) (cur : Bool) (seq : Nat) : Bool :=
  let ps := feltPhases s f
  !ps.isEmpty && ps.all (fun p => (if cur then (s.phase p).iSeq else (s.phase p).vSeq) == some seq)

/-- A phase's part of frame k, if it has arrived. -/
def sampleAt (l : List Sample) (k : Int) : Option Sample := l.find? (fun e => e.k == k)

/-- A phase's part of frame k (SEQ seq) goes to its felt; it and what lies before it waits no longer. -/
def PhaseX.useSample (x : PhaseX) (cur : Bool) (k : Int) (seq : Nat) : PhaseX :=
  match sampleAt (if cur then x.iQ else x.vQ) k with
  | none => x
  | some e =>
    if cur then { x with iSeq := some seq, iBad := e.bad, iOk := e.ok, iSat := e.sat, i := e.val, iQ := x.iQ.filter (fun q => decide (k < q.k)) }
    else { x with vSeq := some seq, vBad := e.bad, vOk := e.ok, vNow := e.val, vQ := x.vQ.filter (fun q => decide (k < q.k)) }

/-- Every phase of the felt has its part of frame k (R113). -/
def frameWhole (s : State) (f : Nat) (cur : Bool) (k : Int) : Bool :=
  let ps := feltPhases s f
  !ps.isEmpty && ps.all (fun p => (sampleAt (if cur then (s.phase p).iQ else (s.phase p).vQ) k).isSome)

/-- Frame k has arrived from every lane of the felt, and the felt takes it (R113). -/
def frameTake (s : State) (f : Nat) (cur : Bool) (k : Int) (seq : Nat) : State :=
  (feltPhases s f).foldl (fun s p => s.setPhase p ((s.phase p).useSample cur k seq)) s

/-- i_sum of the present samples, phases in ascending order (R114). -/
def feltIsum (s : State) (f : Nat) : Word := fSum ((feltPhases s f).map (fun p => (s.phase p).i))

/-- A breaker trip (R166): OFF, FELT_BREAKER, and a retry wait, the latch, or a stop where EN is 0. -/
def breakerTrip (s : State) (f : Nat) : State :=
  let b := feltB f
  let n := s.fld b F.FELT_STATUS_RETRIES
  let s1 := feltEvent (s.report 3 f K.FELT_BREAKER n) f 4
  if s.fld b F.FELT_CTRL_EN = 0 then feltEvent (feltOff s1 f 1 3) f 10
  else if n < feltF s f F.FELT_BRK2_N_RETRY then feltOff s1 f 8 3
  else
    let s2 := feltOff s1 f 9 3
    feltEvent ((s2.setFelt f { s2.felt f with brkLat := true }).report 3 f K.FELT_BRK_LATCH 0) f 5

/-- The current frame of a felt is complete: an i_sum of valid samples enters the gauge's microsecond and ends its blind state (R112, R277,
R279), and a saturation code in any sample is noted (R291). -/
def gaugeFrame (s : State) (f : Nat) : State :=
  if (s.gauge f).run = false then s
  else
    let x := s.felt f
    let ps := feltPhases s f
    let ok := ps.all (fun p => (s.phase p).iOk)
    let s1 := if ok then s.setFld (gauB f) F.GAU_STATUS_BLIND 0 else s
    s1.setFelt f { x with
      gauI := if ok then feltIsum s f :: x.gauI else x.gauI
      gauSat := x.gauSat || ps.any (fun p => (s.phase p).iSat) }

/-- The current frame of a felt is complete (R164, R165): its |i_sum| enters the breaker's microsecond, and two frames in
a row above FELT_I_BRK_FAST trip it at once. A frame in which a phase lacks its sample, by a bad frame or by the no-sample
code, is left out (R112). -/
def breakerFrame (s : State) (f : Nat) : State :=
  let s := gaugeFrame s f
  if !(feltSwitching s f) then s
  else if (feltPhases s f).any (fun p => !(s.phase p).iOk) then s.setFelt f { s.felt f with brkFast := false }
  else
    let m := fAbs (feltIsum s f)
    let fast := fLt (feltW s f R.FELT_I_BRK_FAST) m
    let x := s.felt f
    if fast && x.brkFast then breakerTrip s f
    else s.setFelt f { x with brkI := m :: x.brkI, brkFast := fast, sumsUs := feltIsum s f :: x.sumsUs }

/-- A surge fires (R130): every phase goes HIGH, whatever limit its running cycle has met before, and LOW after the surge whatever
pulse it was in; burst returns to normal, PHS_SURGE is reported. -/
def surgeFire (s : State) (f : Nat) : State :=
  let p := leadPhase s f
  let s0 := (s.bump (phsB p) F.PHS_CNT_SURGE_COUNT 1).report 2 p K.PHS_SURGE f
  let s1 := (feltPhases s0 f).foldl (fun s p => s.setPhase p { s.phase p with cut := 0, lead := none }) s0
  s1.setFelt f { s1.felt f with surge := true, surgeHold := true, slopeN := 0, burst := 0, burstN := 0 }

/-- The voltage frame k of a felt is complete (R139, R129): its voltage joins the mean of the update, and the surge trigger
judges the slope. -/
def voltageFrame (s : State) (f : Nat) (k : Int) : State :=
  let ps := feltPhases s f
  let x := s.felt f
  let valid := ps.filter (fun p => (s.phase p).vOk)
  let sp := feltF s f F.FELT_SENSE_SLOT
  let bad := ps.any (fun p => (s.phase p).vBad)
  let vOut := if bad then x.vOut else frameVout s f
  let fv : Option Word :=
    if feltRemote s f then
      match sampleAt (s.phase sp).vQ k with
      | none => none
      | some e => if e.ok then some e.val else none
    else if valid = [] then none else vOut
  let force := if valid = [] then none else vOut
  let x1 := { x with vOut := vOut, vCnt := x.vCnt + 1, vFrames := x.vFrames + 1, vForces := force :: x.vForces.take 7, vAcc := x.vAcc ++ fv.toList, vfAcc := x.vfAcc ++ force.toList }
  let s1 := s.setFelt f x1
  if bad || valid.isEmpty then s1.setFelt f { x1 with vPrev := none, slopeN := 0 }
  else
    let lp := leadPhase s f
    let v := fMean (valid.map (fun p => (s.phase p).vNow))
    let slope := match x.vPrev with
      | none => false
      | some v0 => fLe (fSub v v0) (fNeg (phsCoW s lp R.PHS_SURGE_SLOPE))
    let n := if slope then x.slopeN + 1 else 0
    let s2 := s1.setFelt f { x1 with vPrev := some v, slopeN := n }
    let deep := fLe v (fSub x.vRef (phsCoW s lp R.PHS_SURGE_MIN))
    if phsCo s lp F.PHS_SURGE_EN ≠ 0 ∧ phsCo s lp F.PHS_SURGE_COUNT + 1 ≤ n ∧ deep ∧ feltSwitching s f ∧ vMode s f ∧
        ¬ x.sink ∧ ¬ x.surgeHold ∧ ¬ x.surge then surgeFire s2 f else s2

/-- The samples of one uplink frame time of lane l in RUN (R82, R111 to R113): u is the good frame, seq its slot. The felts
whose frame is then complete act on it. -/
def laneSamples (s : State) (l : Nat) (u : Option UpFrame) (seq : Nat) : State :=
  let cur := seq % 2 == 0
  let k := (s.lane l).idx
  let s1 := match u with
    | none => missFrame s l cur
    | some u => (List.range 16).foldl (fun s j =>
        if cur then takeCurrent s (16 * l + j) (u.slot j) else takeVoltage s (16 * l + j) (u.slot j)) s
  (laneFelts s l).foldl (fun s f =>
    if frameWhole s f cur k then
      let s2 := frameTake s f cur k seq
      if cur then breakerFrame s2 f else voltageFrame s2 f k
    else s) s1

/-- A stage-end trip (R134). Kinds 1 and 2 are counted; kind 3 latches the felt; kinds 4, 5, 6 and 0xF hold the phase OFF
and report HUB_TRIP. A reserved kind is counted and does nothing else, and the last-fault record takes the time of arrival,
not the time that the packet carries (DESIGN CHOICE, log entry 158; unsafe). -/
def tripPhase (s : State) (p kind : Nat) : State :=
  let s1 := s.bump (phsB p) F.PHS_CNT_TRIP_COUNT 1
  if [3, 4, 5, 6, 15].contains kind then
    let s2 := lfCapture s1 p 4
    let s3 := s2.report 1 (phaseLane p) K.HUB_TRIP (p % 16 * 2 ^ 12 + kind * 2 ^ 8)
    if kind = 3 then
      match phaseFelt s p with
      | some f => ovLatch s3 f p true
      | none => s3
    else s3.setFld (phsB p) F.PHS_STATUS_TRIPPED 1
  else s1

/-- A lane is lost with a trip pending (R106): HUB_TRIP of kind 0xF, slot unknown, and its reaction on every populated
slot. -/
def tripUnknown (s : State) (l : Nat) : State :=
  if s.flag (slB l) F.SL_STATUS_TRIP_PENDING then
    let s1 := (s.setFld (slB l) F.SL_STATUS_TRIP_PENDING 0).report 1 l K.HUB_TRIP (2 ^ 16 + 15 * 2 ^ 8)
    (natsWhere 16 (fun j => bit (s.fld (slB l) F.SL_HUB_CAPS_POPULATED) j)).foldl (fun s j =>
      (lfCapture s (16 * l + j) 4).setFld (phsB (16 * l + j)) F.PHS_STATUS_TRIPPED 1) s1
  else s

/-- SYNC_IN is lost or a felt's source is cabinet time: a glide of 64 cycles to PHS_PWM.PERIOD (R123). -/
def glideToCabinet (s : State) (f : Nat) : State :=
  let p := leadPhase s f
  let s1 := s.setFld (phsB p) F.PHS_SYNC_STAT_STATE 4
  s1.setFelt f { s1.felt f with glide := 64, glideP := pwmPeriod s p, glideE := 0, syncE := 0, syncN := 0 }

end Sys2Proof.Machine
end

