-- ==== Sys2Proof/Machine/Felt.lean ====
section
/-! DEFINITION. What a felt does (05_felt_regulation.md): setpoint sets and their sources, the current loop and the light-load
methods of its lead phase (R114, R125 to R128), the felt loop with its limits (R139 to R152), start, stop, breaker and latch
(R158 to R171), and the waveform list (R197 to R205). -/
namespace Sys2Proof.Machine

/-- Eight words of registers as a set (R143). -/
def setAt (s : State) (a : Nat) : SpSet :=
  ⟨s.rd a, s.rd (a + 4), s.rd (a + 8), s.rd (a + 12), s.rd (a + 16), s.rd (a + 20), s.rd (a + 24), s.rd (a + 28)⟩
/-- MODE of a set (R143). -/
def SpSet.mode (x : SpSet) : Nat := bits x.ctrl.toNat 3 0
/-- BANK of a set (R143). -/
def SpSet.bank (x : SpSet) : Nat := bits x.ctrl.toNat 5 4
/-- A set is valid (R144). -/
def SpSet.valid (x : SpSet) : Bool :=
  decide (1 ≤ x.mode) && decide (x.mode ≤ 7) && [x.v, x.i, x.iSrc, x.iSnk, x.x, x.slewV, x.slewI].all fFinite &&
  [x.iSrc, x.iSnk, x.slewV, x.slewI].all (fun w => !fLt w 0#32) && (x.mode != 3 || fPos x.x)

/-- Block m of felt f (R143). -/
def blockSet (s : State) (f m : Nat) : SpSet := setAt s (feltB f + R.FELT_BLK + 0x20 * m)
/-- FELT_SRC.SEL. -/
def feltSel (s : State) (f : Nat) : Nat := s.fld (feltB f) F.FELT_SRC_SEL

/-- The set the selected source holds (R145); none where it holds no valid one. -/
def sourceSet (s : State) (f : Nat) : Option SpSet :=
  let x := s.felt f
  let r := if feltSel s f = 0 then x.host else if feltSel s f = 1 then x.eng
    else if feltSel s f = 2 then some (blockSet s f x.blk)
    else if feltSel s f = 3 then x.set
    else some (blockSet s f (s.fld (feltB f) F.FELT_TRACK_BLK))
  match r with
  | none => none
  | some t => if t.valid then some t else none

/-- The block that the selected source applies: the one selected, or the base block of tracking (R145). -/
def sourceBlk (s : State) (f : Nat) : Option Nat :=
  if feltSel s f = 2 then some (s.felt f).blk else if feltSel s f = 4 then some (s.fld (feltB f) F.FELT_TRACK_BLK) else none

/-- The selected source offers a set (R145, R146): it takes effect at the next update, or SET_REFUSED is raised and the felt
keeps the set it has until the source supplies a valid one. -/
def sourceApply (s : State) (f : Nat) : State :=
  match sourceSet s f with
  | some t => s.setFelt f { s.felt f with next := some t, nextBlk := sourceBlk s f }
  | none => feltEvent s f 12

/-- Another source is selected (R145): what the one before it has offered and no update has taken is gone. -/
def sourceChange (s : State) (f : Nat) : State := sourceApply (s.setFelt f { s.felt f with next := none, nextBlk := none }) f

/-- A word of block m has been written, or FELT_TRACK: where the block is the one in use, its set takes effect at the next
update (R173). -/
def blockWritten (s : State) (f m : Nat) : State := if sourceBlk s f = some m then sourceApply s f else s

/-- Word 0 of the host set (engine = false) or the engine set has been written (R144). A PD port holds a set that the
policy writes before tSrcTransition has passed (R253). -/
def setWritten (s : State) (f : Nat) (engine : Bool) : State :=
  let t := setAt s (feltB f + if engine then R.FELT_SP_ENG else R.FELT_SP_HOST)
  if t.valid && engine && (s.felt f).portHold then s.setFelt f { s.felt f with portSet := some t }
  else if t.valid then
    let x := s.felt f
    let s1 := s.setFelt f (if engine then { x with eng := some t } else { x with host := some t })
    if feltSel s f = (if engine then 1 else 0) then sourceApply s1 f else s1
  else feltEvent s f 12

/-- A block is selected by a strobe or by BLK_SEL (R153, R154): recorded, and applied where SEL is 2. -/
def blockSelect (s : State) (f m : Nat) : State :=
  let s1 := s.setFelt f { s.felt f with blk := m }
  if feltSel s f = 2 then sourceApply s1 f else s1

/-- The action of a write of FELT_SRC whose stored fields stand in the register: old is the word before (R145, R154). -/
def srcWritten (s : State) (f : Nat) (old : Word) : State :=
  let b := feltB f
  let blkOld := fget old F.FELT_SRC_BLK_SEL
  let blkNew := s.fld b F.FELT_SRC_BLK_SEL
  let selOld := fget old F.FELT_SRC_SEL
  let drop := blkNew != blkOld && s.flag b F.FELT_SRC_PIN_EN
  let s1 := if drop then (s.setFld b F.FELT_SRC_BLK_SEL blkOld).setFld b F.FELT_SRC_BLK_DROP 1 else s
  let s2 := if selOld = 3 ∧ feltSel s1 f ≠ 3 then wfEndNow s1 f else s1
  if blkNew ≠ blkOld ∧ ¬ drop then
    let s3 := s2.setFelt f { s2.felt f with blk := blkNew }
    if selOld ≠ feltSel s3 f then sourceChange s3 f else blockSelect s3 f blkNew
  else if selOld ≠ feltSel s2 f then sourceChange s2 f else s2

/-- A strobe of the BLK pins (R153) as one felt takes it. -/
def strobeFelt (s : State) (at10 at20 : Nat) (f : Nat) : State :=
  if s.flag (feltB f) F.FELT_SRC_PIN_EN && feltDefined s f then
    if at10 ≠ at20 then (if feltSel s f = 2 then feltEvent s f 12 else s)
    else
      let s1 := blockSelect s f at10
      if s.hold ∧ feltSel s f = 2 then feltEvent s1 f 12 else s1
  else s

/-! Tracking (R155 to R157). -/

/-- The value of a MON result word in volts (R392). -/
def monVolts (w : Nat) : Word := fMul (fOfNat (w % 2 ^ 16)) 0x38200000#32
/-- FELT_TRACK.KIND asks for tracking: 1 or 2 (R155). -/
def trackKind (s : State) (f : Nat) : Bool := [1, 2].contains (s.fld (feltB f) F.FELT_TRACK_KIND)
/-- The felt is to track: SEL 4 (R155). -/
def selTracks (s : State) (f : Nat) : Bool := feltSel s f == 4 && trackKind s f
/-- The felt tracks: the set in force is that of SEL 4 (R155). Another SEL acts from the update that takes its set up, so
that a hold freezes it (R31). -/
def feltTracks (s : State) (f : Nat) : Bool := (s.felt f).src == 4 && [1, 2].contains (feltF s f F.FELT_TRACK_KIND)
/-- The leader value L (R155). -/
def leaderValue (s : State) (f : Nat) : Word :=
  let b := feltB f
  let k := feltF s f F.FELT_TRACK_LEADER
  if feltF s f F.FELT_TRACK_LEADER_KIND ≠ 0 then
    fMul (monVolts (sparseGet (fun _ => 0) s.monTrk k)) (feltW s f R.FELT_TRACK_MS)
  else if feltSwitching s k then (s.felt k).vRef else 0#32
/-- v_track of R156 for a set voltage V. -/
def trackV (s : State) (f : Nat) (v : Word) : Word :=
  if feltTracks s f then
    if feltF s f F.FELT_TRACK_KIND = 1 then fMin v (fMul (feltW s f R.FELT_TRACK_K) (leaderValue s f))
    else fMin v (fAdd (leaderValue s f) (feltW s f R.FELT_TRACK_OFS))
  else v
/-- The felts from f up to the head of its chain, at most n + 1 (R155). -/
def chainUp (s : State) : Nat → Nat → List Nat
  | 0, f => [f]
  | n + 1, f =>
    if selTracks s f && !(s.flag (feltB f) F.FELT_TRACK_LEADER_KIND) then f :: chainUp s n (s.fld (feltB f) F.FELT_TRACK_LEADER)
    else [f]
/-- Tracking of felt f is sound: a valid leader, mode 1 or 5, and every chain through f has at most four felts (R155). -/
def trackOk (s : State) (f : Nat) : Bool :=
  let b := feltB f
  let k := s.fld b F.FELT_TRACK_LEADER
  let own := !(selTracks s f) ||
    ((if s.flag b F.FELT_TRACK_LEADER_KIND then decide (k < 32) else decide (k < 96) && feltDefined s k) &&
     [1, 5].contains (blockSet s f (s.fld b F.FELT_TRACK_BLK)).mode)
  own && (List.range 96).all (fun g => let c := chainUp s 4 g; !(c.contains f) || decide (c.length ≤ 4))

/-! Start (R158, R159). -/

/-- A fault reaction covers the felt (R159). -/
def feltCovered (s : State) (f : Nat) : Bool :=
  s.fc.heldFelts.contains f || (match s.fc.running with
    | some r => r.felts.contains f
    | none => false)
/-- A start waits at step 2 (R159), also while a load runs (R55) and while the core clock is stopped (R517, log entry 9). -/
def feltBlocked (s : State) (f : Nat) : Bool :=
  s.hold || feltCovered s f || s.ilkHold.contains f || s.forcedOff || loadRuns s || s.pwr.asleep

/-- The sense slot of felt f is valid (R168). -/
def senseOk (s : State) (f : Nat) : Bool :=
  let sp := s.fld (feltB f) F.FELT_SENSE_SLOT
  !(s.flag (feltB f) F.FELT_SENSE_EN) ||
  (decide (sp < 192) && (phaseFelt s sp).isNone && bit (s.fld (slB (phaseLane sp)) F.SL_HUB_CAPS_POPULATED) (sp % 16) &&
   (feltLanes s f).contains (phaseLane sp))

/-- PHS_ORDER positions are 0 to n − 1, each once (R158). -/
def orderOk (s : State) (f : Nat) : Bool :=
  let ps := (feltPhases s f).map (fun p => phsCo s p F.PHS_ORDER_POS)
  ps.all (fun k => decide (k < ps.length)) && ps.eraseDups.length == ps.length

/-- Every phase of the felt lies in a populated slot of a lane in RUN whose common registers have been read since its last
training (R102). A lane that sends its closing OFF frames still counts (DESIGN CHOICE, log entry 179). -/
def feltLanesOk (s : State) (f : Nat) : Bool :=
  (feltPhases s f).all (fun p => laneRun s (phaseLane p) && (s.lane (phaseLane p)).common &&
    bit (s.fld (slB (phaseLane p)) F.SL_HUB_CAPS_POPULATED) (p % 16))

/-- The first check of R158 that fails, 0 if all pass: they judge the registers as they stand. -/
def startCheck (s : State) (f : Nat) : Nat :=
  if fIsZero (s.rd (feltB f + R.FELT_I_RANGE)) then 1
  else if !(feltDefined s f) then 2
  else if !(feltLanesOk s f) then 3
  else if !(orderOk s f) then 4
  else if feltState s f = 11 then 5
  else if (s.felt f).brkLat then 6
  else if (sourceSet s f).isNone then 7
  else if !(senseOk s f) then 8
  else if !(trackOk s f) then 9
  else 0

/-- A start fails (R158): EN clears, CODE and START_FAIL. -/
def startFail (s : State) (f code : Nat) : State :=
  let b := feltB f
  feltEvent ((s.setFld b F.FELT_CTRL_EN 0).setFld b F.FELT_RESULT_CODE code) f 9

/-- The felt asks the admission budget (R159, step 3). -/
def feltAsk (s : State) (f : Nat) : State :=
  let b := feltB f
  admAsk (setFeltState s f 3) 0 f (feltF s f F.FELT_ADMIT_CHARGE) (feltF s f F.FELT_ADMIT_PRIO) (feltF s f F.FELT_ADMIT_WAIT_WAIT)

/-- A start runs its checks and takes its first wait (R158, R159). recovery: after a breaker retry or a fault reaction. A felt
that has had no set yet has the one that passed. What waits for a load makes its checks again after it (log entry 178). -/
def feltBegin (s : State) (f : Nat) (recovery : Bool) : State :=
  let c := startCheck s f
  if startBarred s then s.setFld (feltB f) F.FELT_CTRL_EN 0
  else if c ≠ 0 then
    let st := feltState s f
    let s1 := if st = 0 ∨ st = 9 ∨ st = 10 ∨ st = 11 then s else setFeltState s f 1
    startFail s1 f c
  else
    let x := { s.felt f with recovery := recovery, again := false, restart := loadRuns s }
    let x1 := if x.set.isNone then { x with set := sourceSet s f, src := feltSel s f } else x
    let s1 := (s.setFld (feltB f) F.FELT_RESULT_CODE 0).setFelt f x1
    if feltBlocked s1 f then setFeltState s1 f 2 else feltAsk s1 f

/-- The wait of step 2 has cleared (R159). After an interlock stop or a force-off the felt restarts by the checks of R158
(R160). -/
def feltProceed (s : State) (f : Nat) : State :=
  if feltState s f = 2 ∧ ¬ feltBlocked s f then
    (if (s.felt f).restart then feltBegin s f false else feltAsk s f)
  else s

/-- The position of a phase of PHS_ORDER.POS m in round r of n (R124, R126). -/
def posIn (full : Bool) (n m r : Nat) : Nat :=
  if full ∨ n < 2 then m else (((m : Int) - (r : Int)) % (n : Int)).toNat
/-- round(i × p / n), an exact half up (R519). -/
def slotTime (i p n : Nat) : Nat := (2 * i * p + n) / (2 * n)

/-- The leading edges of the round that has begun are scheduled (R117). -/
def scheduleRound (s : State) (f : Nat) : State :=
  let ps := feltPhases s f
  let x := s.felt f
  ps.foldl (fun s p =>
    let i := posIn x.full ps.length (phsCo s p F.PHS_ORDER_POS) x.round
    s.setPhase p { s.phase p with leads := (s.phase p).leads ++ [x.roundT + (slotTime i x.period ps.length : Nat)] }) s

/-- The coefficients are taken for the round that begins (R137). -/
def latchCoefs (s : State) (f : Nat) : State :=
  (feltPhases s f).foldl (fun s p => s.setPhase p { s.phase p with coef := phsCoefNow s p }) s

/-- v_ref at a start (R159, step 5): the mean of the v_fb values of the last microsecond, 100 voltage frames, else the last
valid one, else 0 V. -/
def startVref (s : State) (f : Nat) : Word :=
  let x := s.felt f
  let recent := (x.vfbs.filter (fun e => decide (x.vFrames ≤ e.1 + 100))).map (fun e => e.2)
  if recent = [] then x.vFb else fMean recent.reverse

/-- A start time on the line count, rounded up to a whole microsecond of cabinet time (R117). -/
def startRef (s : State) (t : Nat) : Nat :=
  let c := ((t : Int) + s.timeOfs)
  (((c + 999) / 1000 * 1000) - s.timeOfs).toNat

/-- The set a start runs with, and whether it is the one its source now offers (R145): a source without a valid set leaves
the felt the set it has, and a hold freezes it (R31). -/
def startSet (s : State) (f : Nat) : Option SpSet × Bool :=
  let own := (s.felt f).set
  let src := sourceSet s f
  if src.isSome && (!s.hold || own.isNone) then (src, true) else (own, false)

/-- The felt starts at line time t on lanes that carry it (R159, steps 5 and 6; R163 in test mode). FELT_R_LEAD keeps its value
until it is learned again (DESIGN CHOICE, log entry 188). -/
def feltRunFrom (s : State) (f t : Nat) : State :=
  let b := feltB f
  let s0 := latchCoefs (loopReset s f) f
  let p := leadPhase s0 f
  let (set, new) := startSet s0 f
  let test := s0.flag b F.FELT_CTRL_TEST
  let m := match set with
    | some t => t.mode
    | none => 0
  let bank := match set with
    | some t => t.bank
    | none => 0
  let x := s0.felt f
  let volts := m = 1 ∨ m = 5
  let x1 := { x with set := set, next := if new then none else x.next, nextBlk := if new then none else x.nextBlk, src := if new then feltSel s0 f else x.src, regSeen := false, rampV := if volts then startVref s0 f else 0#32, rampHit := false, vRef := startVref s0 f, iRef := (match set with
      | some t => t.i
      | none => 0#32), iRaw := 0#32, iOut := 0#32, eh := [], yh := [], ramp := if test then 0 else if volts then 1 else 2, fullN := if (s.felt f).recovery then 256 else 0, full := decide (2 ≤ (feltPhases s0 f).length), dly := phsCo s0 p F.PHS_SYNC_SYNC_DLY, round := 0, roundT := ((64 * startRef s0 t : Nat) : Int) + (phsCo s0 p F.PHS_SYNC_SYNC_DLY : Nat), period := pwmPeriod s0 p, sink := false, quadN := 0 }
  let s1 := (s0.setFelt f x1).setFld (phsB p) F.PHS_SYNC_STAT_PERIOD_NOW x1.period
  let s2 := ((setFeltState s1 f (if test then 13 else 5)).setFld b F.FELT_STATUS_MODE m).setFld b F.FELT_STATUS_BANK bank
  let s3 := (s2.setFld b F.FELT_STATUS_STOP_CAUSE 0).setFld b F.FELT_STATUS_QUAD 0
  -- a set that still waited for an update takes effect with the start
  let s4 := match sourceBlk s0 f with
    | some k => if new then s3.setFld b F.FELT_STATUS_BLOCK k else s3
    | none => s3
  let s5 := if new && x.next.isSome then feltEvent s4 f 11 else s4
  scheduleRound s5 f

/-- The felt starts at line time t (R159). A lane that is no longer in RUN, or whose common registers have not been read
since a training, refuses it also here (R102, R106; the code is that of the check, DEDUCED, log entry 160); a load sends it back
to its first wait (R55). -/
def feltStartNow (s : State) (f t : Nat) : State :=
  if loadRuns s then setFeltState (s.setFelt f { s.felt f with restart := true }) f 2
  else if feltLanesOk s f then feltRunFrom s f t else startFail (setFeltState s f 1) f 3

/-- The felt is admitted (R159, step 3): it waits for the bell or starts. -/
def feltAdmitted (s : State) (f : Nat) : State :=
  if feltState s f = 3 then
    if s.flag (feltB f) F.FELT_CTRL_AT_BELL then setFeltState s f 4 else feltStartNow s f s.lineNs
  else s

/-- The felt's admission request timed out (R230). -/
def feltAdmitTimeout (s : State) (f : Nat) : State :=
  if feltState s f = 3 then startFail (setFeltState s f 1) f 10 else s

/-! Stop (R161 to R163). -/

/-- The felt goes OFF at the end of a stop: loop state reset, STOPPED, and a start asked for meanwhile (R161). One that an
interlock holds off with EN = 1 shows that it waits (STATE 2, R408). -/
def stopEnd (s : State) (f : Nat) : State :=
  let again := (s.felt f).again
  let s1 := feltEvent (feltOff s f 1 (s.fld (feltB f) F.FELT_STATUS_STOP_CAUSE)) f 10
  if again then feltBegin s1 f false
  else if s1.ilkHold.contains f ∧ s1.flag (feltB f) F.FELT_CTRL_EN then (setFeltState s1 f 2).setFelt f { s1.felt f with restart := true }
  else s1

/-- A stop by the stop profile with a cause (R161): COAST goes OFF at once, and so does test mode, whose profile the spec does
not state (DESIGN CHOICE, log entry 184). The profile keeps the quantity of the mode in which it began (log entry 183). -/
def feltStopBegin (s : State) (f cause : Nat) : State :=
  let b := feltB f
  let st := feltState s f
  if st = 2 ∨ st = 3 ∨ st = 4 ∨ st = 8 ∨ st = 12 then
    (setFeltState (if admWaits s 0 f then admWithdraw s 0 f else s) f 1).setFld b F.FELT_STATUS_STOP_CAUSE cause
  else if st = 5 ∨ st = 6 ∨ st = 13 then
    let s1 := (s.setFld b F.FELT_STATUS_STOP_CAUSE cause).setFld b F.FELT_STATUS_IN_REG 0
    if feltF s f F.FELT_STOP_MODE = 1 ∨ st = 13 then stopEnd (s1.setFelt f { s1.felt f with again := false }) f
    else
      let s2 := setFeltState (wfEndNow s1 f) f 7
      let m := feltMode s f
      s2.setFelt f { s2.felt f with ramp := 0, stop := if m = 1 ∨ m = 5 then 1 else 2, rampV := s2.felt f |>.vRef, again := false }
  else if st = 7 then s.setFelt f { s.felt f with again := false }
  else s

/-- The stop profile has reached its end (R161). -/
def stopReached (s : State) (f : Nat) : Bool :=
  let x := s.felt f
  let voff := feltW s f R.FELT_V_OFF
  if x.stop = 1 then
    fEq x.rampV voff && (feltF s f F.FELT_STOP_MODE != 2 ||
      fLe x.vFb (fAdd voff (fRatio (feltF s f F.FELT_PG_BAND_MV) 1000)))
  else fIsZero x.iOut

/-- ABORT (R162): OFF from any state but the over-voltage latch; a latched breaker and a held felt keep their state. -/
def feltAbortNow (s : State) (f : Nat) : State :=
  let st := feltState s f
  let s0 := s.setFld (feltB f) F.FELT_CTRL_EN 0
  if st = 11 ∨ st = 0 then (if st = 11 then s else s0)
  else if st = 9 ∨ st = 10 ∨ st = 1 then s0
  else
    let s1 := feltOff s0 f 1 2
    if feltSwitching s f then feltEvent s1 f 10 else s1

/-- A shed from the bus balancer (R162): OFF, cause 6, EN kept. -/
def feltShed (s : State) (f : Nat) : State := feltOff s f 12 6

/-- A safe reaction reaches the felt (R135, R160, R423), stopped or breaker-latched too (R31; DEDUCED, log entry 58): OFF without
a profile, EN kept. The over-voltage latch stays. -/
def feltSafe (s : State) (f : Nat) : State :=
  let st := feltState s f
  if [1, 2, 3, 4, 5, 6, 7, 8, 9, 12, 13].contains st then
    feltOff ((feltPhases s f).foldl (fun s p => lfCapture s p 5) s) f 10 4
  else s

/-- The felt goes OFF under an interlock stop or a force-off with a cause and waits with EN kept (R160, R408, R410). One that
sends OFF already, from whatever state, takes the cause too (log entry 59). -/
def feltHoldOff (s : State) (f cause : Nat) : State :=
  let st := feltState s f
  if [2, 3, 4, 5, 6, 7, 8, 12, 13].contains st then
    let en := s.flag (feltB f) F.FELT_CTRL_EN
    let s1 := feltOff s f (if en then 2 else 1) cause
    s1.setFelt f { s1.felt f with restart := en }
  else if st = 0 then s
  else s.setFld (feltB f) F.FELT_STATUS_STOP_CAUSE cause

/-- A fault reaction or a shed has ended for the felt (R160): it restarts if EN is 1; a breaker latch shows again (R166). -/
def feltRelease (s : State) (f : Nat) : State :=
  let st := feltState s f
  if st = 10 ∨ st = 12 then
    if (s.felt f).brkLat then setFeltState s f 9
    else if s.flag (feltB f) F.FELT_CTRL_EN then feltBegin (setFeltState s f 1) f (st == 10) else setFeltState s f 1
  else s

/-- Clear a latched breaker (R166). -/
def brkClearNow (s : State) (f : Nat) : State :=
  let b := feltB f
  if feltState s f = 9 then
    let s0 := s.setFelt f { s.felt f with brkLat := false }
    let s1 := setFeltState (s0.setFld b F.FELT_STATUS_RETRIES 0) f 1
    if s.flag b F.FELT_CTRL_EN then feltBegin s1 f false else s1
  else s.setFld b F.FELT_RESULT_CODE 14

/-- The slots of felt f on lane l as a mask. -/
def slotMask (s : State) (f l : Nat) : Nat :=
  ((feltPhases s f).filter (fun p => phaseLane p == l)).foldl (fun m p => m + 2 ^ (p % 16)) 0

/-- OV_CLEAR (R167, steps 3 and 4). -/
def ovClearNow (s : State) (f : Nat) : State :=
  let b := feltB f
  let ps := feltPhases s f
  let ok := feltState s f == 11 && s.fld b F.FELT_CTRL_EN == 0 &&
    ps.all (fun p => fLt (s.rd (phsB p + R.PHS_MEAS_V)) (phsCoW s p R.PHS_V_OV)) &&
    (feltLanes s f).all (laneRun s) && !(feltCovered s f)
  if ok then
    let s1 := (feltLanes s f).foldl (fun s l => sideSend s l 9 0x1000 [BitVec.ofNat 32 (slotMask s f l)]) s
    let s2 := ps.foldl (fun s p => s.setPhase p { s.phase p with latchTx := false }) s1
    (s2.setFelt f { s2.felt f with clearing := feltLanes s f }).setFld b F.FELT_RESULT_CODE 0
  else s.setFld b F.FELT_RESULT_CODE 12

/-- LATCH_STATE from lane l with its latched mask (R89, R167, R518). -/
def latchReported (s : State) (l mask : Nat) : State :=
  let s0 := (s.setLane l { s.lane l with latchMask := mask }).setFld (slB l) F.SL_STATUS_HUB_LATCH (b2n (mask != 0))
  -- a slot reported latched shows LATCHED, and its felt goes into over-voltage latch without PHS_OV
  let s1 := (natsWhere 16 (bit mask)).foldl (fun s j =>
    let p := 16 * l + j
    let s1 := s.setFld (phsB p) F.PHS_STATUS_LATCHED 1
    match phaseFelt s1 p with
    | none => s1
    | some f => if feltState s1 f = 11 then s1 else (feltOff s1 f 11 5).setFld (feltB f) F.FELT_CTRL_EN 0) s0
  -- a felt whose clear waits on this lane and whose slots read unlatched is confirmed here
  (laneFelts s1 l).foldl (fun s f =>
    let x := s.felt f
    if x.clearing.contains l ∧ slotMask s f l &&& mask = 0 then
      let rest := setDel x.clearing l
      let s2 := s.setFelt f { x with clearing := rest }
      if rest = [] then
        let s3 := (feltPhases s2 f).foldl (fun s p => s.setFld (phsB p) F.PHS_STATUS_LATCHED 0) s2
        setFeltState s3 f 1
      else s2
    else s) s1

/-- A felt that holds a reported latched phase is in over-voltage latch (R518). -/
def heldLatch (s : State) (f : Nat) : State :=
  if (feltPhases s f).any (phsLatched s) ∧ feltState s f ≠ 11 then
    (feltOff s f 11 5).setFld (feltB f) F.FELT_CTRL_EN 0
  else s

/-- The phases of felt f have changed in the structure table (R61, R518). -/
def adoptLatch (s : State) (f : Nat) : State := heldLatch (showPhases s) f

/-- The action of a write of FELT_CTRL: v the word written, old the word before; the stored fields stand in the register
(R158 to R167). Of a write that may not change TEST its TEST bit alone is dropped (DEDUCED, log entry 186). A sleeping device
refuses a start (R517): EN reads 0 again (DESIGN CHOICE, log entry 9). -/
def feltCtrlWritten (s : State) (f v : Nat) (old : Word) : State :=
  let b := feltB f
  let st := feltState s f
  let testOld := fget old F.FELT_CTRL_TEST
  let enOld := fget old F.FELT_CTRL_EN
  let s1 := if bits v 3 3 ≠ testOld ∧ st ≠ 1 ∧ st ≠ 0 then
      (s.setFld b F.FELT_CTRL_TEST testOld).setFld b F.FELT_RESULT_CODE 11 else s
  -- a stop in the same write wins over a clear or a start, which is discarded (R33); ABORT is no stop of state 11 (R162)
  let abort := bit v 2 && st != 11
  let stop := abort || (!(bit v 0) && enOld == 1)
  let s2 := if bit v 8 && !stop then brkClearNow s1 f else s1
  let s3 := if bit v 7 && !stop then ovClearNow s2 f else s2
  if abort then feltAbortNow s3 f
  else if bit v 0 ∧ enOld = 0 then
    if bit v 8 ∧ st = 9 then s3
    else if s.pwr.asleep then s3.setFld b F.FELT_CTRL_EN 0
    else if st = 7 then (s3.setFld b F.FELT_STATUS_RETRIES 0).setFelt f { s3.felt f with again := true }
    else feltBegin (s3.setFld b F.FELT_STATUS_RETRIES 0) f false
  else if ¬ bit v 0 ∧ (enOld = 1 ∨ st = 7) then feltStopBegin s3 f 1
  else s3

/-! The current loop and light load (R114, R126 to R128). -/

/-- The window w of R114, rounded by R519. -/
def loopWindow (p n : Nat) : Nat := max 1 ((2 * p + n * 640) / (2 * n * 640))

/-- Diode emulation is judged for a phase whose cycle has ended (R127). -/
def diodeJudge (s : State) (f n p : Nat) : State :=
  let x := s.phase p
  let lp := leadPhase s f
  let allowed := decide (n ≤ 5) && phsCo s lp F.PHS_BURST_LL_EN != 0 && vMode s f && !(s.felt f).sink
  let iAvg := s.rd (phsB p + R.PHS_MEAS_I)
  let rated := phsCoW s p R.PHS_I_RATED
  let din := phsCo s p F.PHS_LL_DE_IN
  let dout := phsCo s p F.PHS_LL_DE_OUT
  let on := s.flag (phsB p) F.PHS_STATUS_DE
  if on then
    if !allowed || (x.cyc && fLt (f256 dout rated) iAvg) then
      (s.setPhase p { x with cyc := false, deIn := 0 }).setFld (phsB p) F.PHS_STATUS_DE 0
    else s.setPhase p { x with cyc := false }
  else if x.cyc then
    let k := if allowed && decide (din < dout) && fLt iAvg (f256 din rated) then x.deIn + 1 else 0
    let s1 := s.setPhase p { x with cyc := false, deIn := k }
    if 8 ≤ k then s1.setFld (phsB p) F.PHS_STATUS_DE 1 else s1
  else s

/-- Burst is judged once per round (R128). -/
def burstJudge (s : State) (f n : Nat) : State :=
  let x := s.felt f
  let lp := leadPhase s f
  let allowed := decide (6 ≤ n) && phsCo s lp F.PHS_BURST_LL_EN != 0 && vMode s f && !x.sink
  if !allowed then s.setFelt f { x with burst := 0, burstN := 0, newRound := false }
  else if !x.newRound then s
  else
    let full := fMul (fOfNat n) (phsCoW s lp R.PHS_I_RATED)
    let x0 := { x with newRound := false }
    let vOut := match feltVout s f with
      | some v => v
      | none => 0#32
    let band := fRatio (phsCo s lp F.PHS_BURST_BAND) 1000
    let low := fLt x.iAvg (f256 (phsCo s lp F.PHS_LL_BURST_IN) full)
    s.setFelt f (
      if x.burst = 0 then
        (if low then (if 16 ≤ x.burstN + 1 then { x0 with burst := 1, burstN := 0 } else { x0 with burstN := x.burstN + 1 })
         else { x0 with burstN := 0 })
      else if x.burst = 1 then
        (if fLe vOut (fSub x.vRef band) then { x0 with burst := 2, burstN := max 1 (phsCo s lp F.PHS_BURST_BURST_CYCLES) } else x0)
      else if fLt (f256 (phsCo s lp F.PHS_LL_BURST_OUT) full) x.iAvg then { x0 with burst := 0, burstN := 0 }
      else if x.burstN ≤ 1 then { x0 with burst := 1, burstN := 0 } else { x0 with burstN := x.burstN - 1 })

/-- The integrator is held: a trip pending on a lane of the felt (R134), a surge (R130), burst idle (R128). -/
def integratorHeld (s : State) (f : Nat) : Bool :=
  (feltLanes s f).any (fun l => s.flag (slB l) F.SL_STATUS_TRIP_PENDING) || (s.felt f).surge || (s.felt f).burst == 1

/-- i_avg follows a current frame (R114): the mean of i_sum over the last felt tick of a period. -/
def feltMean (s : State) (f period : Nat) : State :=
  let x := s.felt f
  let sums := feltIsum s f :: x.sums.take (loopWindow period (feltPhases s f).length - 1)
  s.setFelt f { x with sums := sums, iAvg := fMean sums.reverse }

/-- The current loop on the samples of one current frame (R114). -/
def currentLoopStep (s0 : State) (f : Nat) : State :=
  let s := feltMean s0 f (s0.felt f).period
  let ps := feltPhases s f
  let n := ps.length
  let lp := leadPhase s f
  let x := s.felt f
  let isum := feltIsum s f
  let iAvg := x.iAvg
  let e := fSub x.iOut iAvg
  let vbus := if phsCo s lp F.PHS_PWM_FF_SRC = 1 then phsCoW s lp R.PHS_VBUS_FIX else s.rd (busB + R.BUS_MEAS_V)
  let dff := match feltVout s f with
    | none => 0#32
    | some v => if fPos vbus && fFinite vbus then fClamp (fDiv v vbus) 0#32 fOne else 0#32
  let dmax := fRatio (phsCo s lp F.PHS_DUTY_LIM_D_MAX) 65536
  let dmin := fRatio (phsCo s lp F.PHS_DUTY_LIM_D_MIN) 65536
  let kpe := fAdd dff (fMul (phsCoW s lp R.PHS_KP) e)
  let draw := fAdd kpe x.x
  let xmax := phsCoW s lp R.PHS_XMAX
  let stuck := (fLt dmax draw && fPos e) || (fLt draw dmin && fLt e 0#32)
  let x' := if stuck || integratorHeld s f then x.x else fClamp (fAdd x.x (fMul (phsCoW s lp R.PHS_KI) e)) (fNeg xmax) xmax
  let d := fClamp (fAdd kpe x') dmin dmax
  let s1 := s.setFelt f { x with x := x', d := d }
  let s2 := ps.foldl (fun s p => s.setPhase p { s.phase p with iPer := (s.phase p).i :: (s.phase p).iPer, sPer := isum :: (s.phase p).sPer }) s1
  burstJudge (ps.foldl (fun s p => diodeJudge s f n p) s2) f n

/-- The current samples of a current frame have arrived from every lane (R112 to R114): with a bad frame among them the
update is skipped. In a felt that does not switch i_avg alone follows. -/
def currentLoop (s : State) (f : Nat) : State :=
  let ps := feltPhases s f
  match (s.phase (leadPhase s f)).iSeq with
  | none => s
  | some q =>
    if frameDone s f true q then
      let bad := ps.any (fun p => (s.phase p).iBad)
      let s1 := ps.foldl (fun s p => s.setPhase p { s.phase p with iSeq := none, iBad := false }) s
      if bad then s1
      else if feltSwitching s f then currentLoopStep s1 f
      else feltMean s1 f (pwmPeriod s1 (leadPhase s1 f))
    else s

/-! The waveform list's timeline (R198, R200, R202). -/

/-- DUR of a point in nanoseconds (R197). -/
def WfPoint.dur (p : WfPoint) : Nat := 10 * bits p.w0.toNat 23 0
/-- A point is sound (R203). -/
def WfPoint.ok (p : WfPoint) : Bool := bits p.w0.toNat 31 26 == 0 && bits p.w0.toNat 23 0 != 0 && fFinite p.w1
/-- The value of a point dt nanoseconds after its begin, from the value before it (R198). -/
def WfPoint.at (p : WfPoint) (prev : Word) (dt : Nat) : Word :=
  if bit p.w0.toNat 24 then fAdd prev (fMul (fSub p.w1 prev) (fRatio dt p.dur)) else p.w1

/-- Point k of felt f's list, once it has arrived (R202). -/
def wfPoint (s : State) (f k : Nat) : Option WfPoint :=
  ((s.wf f).pts.find? (fun e => e.1 == k)).map (fun e => e.2)

/-- The timeline value at line time t, walking n points from point k that begins at t0 (R198); none where a point is missing.
left counts the passes after the present one. An unsound point holds the value at its start (R203), and under hold no further
pass follows (R204). -/
def wfWalk (s : State) (f t : Nat) : Nat → Nat → Nat → Word → Nat → Option Word
  | 0, _, _, prev, _ => some prev
  | n + 1, k, t0, prev, left =>
    match wfPoint s f k with
    | none => none
    | some p =>
      if !p.ok then some prev
      else if t < t0 + p.dur then some (p.at prev (t - t0))
      else if k + 1 < s.fld (feltB f) F.FELT_WF_LEN_LEN then wfWalk s f t n (k + 1) (t0 + p.dur) p.w1 left
      else if (left ≠ 0 ∨ s.fld (feltB f) F.FELT_WF_CTRL_LOOPS = 0) ∧ ¬ s.hold then
        wfWalk s f t n (s.fld (feltB f) F.FELT_WF_LEN_LOOP_IDX) (t0 + p.dur) p.w1 (left - 1)
      else some p.w1

/-- The first condition of R199 that fails, 0 if all hold. origin: checked again at the origin, where the list itself is
armed. -/
def wfCheck (s : State) (f : Nat) (origin : Bool) : Nat :=
  let b := feltB f
  let base := s.fld b F.FELT_WF_BASE_BASE
  let len := s.fld b F.FELT_WF_LEN_LEN
  if feltSel s f ≠ 3 then 1
  else if !([1, 2, 5].contains (feltMode s f)) then 2
  else if feltState s f ≠ 6 then 3
  else if s.hold then 4
  else if !origin ∧ [1, 2].contains (s.fld b F.FELT_WF_STAT_STATE) then 5
  else if len = 0 ∨ 4096 < len ∨ len ≤ s.fld b F.FELT_WF_LEN_LOOP_IDX then 6
  else if base % 8 ≠ 0 ∨ base < 0x2000000 ∨ 0x2400000 < base + 8 * len then 7
  else if s.flag b F.FELT_WF_CTRL_START_MODE ∧ s.cabinetSize ≠ 1 then 8
  else 0

/-- The origin of felt f's list on the line count: the one it has, or, armed for the next bell, that of the bell that is
pending (R194, R199). -/
def wfOrg (s : State) (f : Nat) : Option Nat :=
  if s.fld (feltB f) F.FELT_WF_STAT_STATE ≠ 1 ∨ (s.wf f).due then some (s.wf f).org
  else s.time.bell.map (fun c => ((c : Int) - s.timeOfs).toNat)

/-- The list gives the felt its value for line time t: running, or held, or armed with its origin reached by t and nothing in
the way of its start (R198, R200, R204). -/
def wfReaches (s : State) (f t : Nat) : Bool :=
  let st := s.fld (feltB f) F.FELT_WF_STAT_STATE
  (decide (st = 2 ∨ st = 3) && feltSel s f == 3) ||
  (st == 1 && wfCheck s f true == 0 && (match wfOrg s f with
    | some o => decide (o ≤ t)
    | none => false))

/-- ADV in nanoseconds (R200). -/
def wfAdv (s : State) (f : Nat) : Nat :=
  let b := feltB f
  if s.flag b F.FELT_WF_ADV_AUTO then
    let dec := max 1 (feltF s f F.FELT_LOOP_DEC)
    let rt := (feltLanes s f).foldl (fun m l => max m (s.fld (slB l) F.SL_LAT_RT_T_RT)) 0
    min 2550 (10 * (((61 + 10 * (dec - 1)) * 64 + rt + 639) / 640))
  else 10 * s.fld b F.FELT_WF_ADV_ADV

/-- The list drives the felt's update: its timeline has been reached by t_u + ADV (R200). -/
def wfDrives (s : State) (f : Nat) : Bool := wfReaches s f (s.lineNs + wfAdv s f)

/-- The list value at line time t; none where a point it needs has not arrived. Before the origin it is the base value; from
it, a list that has not yet started runs its first pass. STOP ends the timeline with the point in use (R204). -/
def wfValue (s : State) (f t : Nat) (base : Word) : Option Word :=
  let x := s.wf f
  let b := feltB f
  let st := s.fld b F.FELT_WF_STAT_STATE
  let org := (wfOrg s f).getD 0
  if t < org then some base
  else if st = 1 then wfWalk s f t 600 0 org base (s.fld b F.FELT_WF_CTRL_LOOPS - 1)
  else if st = 3 ∨ x.frozen then some x.out
  else wfWalk s f t (if x.stopping then 1 else 600) (s.fld b F.FELT_WF_STAT_POINT) x.t x.prev (s.fld b F.FELT_WF_LOOP_LOOPS_LEFT)

/-- The list supplies the felt's update (R200, R202): its value, and WF_UNDERRUN once per underrun. -/
def wfSupply (s : State) (f : Nat) (base : Word) : Word × State :=
  match wfValue s f (s.lineNs + wfAdv s f) base with
  | some v => (v, s.setWf f { s.wf f with out := v, under := false, fed := true })
  | none =>
    let x := s.wf f
    -- before its first value the target has the value it stands at
    let v := if x.fed then x.out else if feltMode s f = 2 then (s.felt f).iRef else (s.felt f).vRef
    if x.under then (v, s) else (v, wfEvent (s.setWf f { x with under := true }) f 3)

/-- The feed-forward current of R201. -/
def wfFeed (s : State) (f dec : Nat) (base : Word) : Word :=
  let t := s.lineNs + wfAdv s f
  match wfValue s f (t + 10 * dec) base, wfValue s f t base with
  | some a, some b => fDiv (fMul (feltW s f R.FELT_WF_CFF) (fSub a b)) (fRatio (10 * dec) 1000000000)
  | _, _ => 0#32

/-! The felt loop (R139 to R152). -/

/-- A value moves toward a target by at most a step. -/
def moveTo (v target step : Word) : Word :=
  if fLt v target then fMin (fAdd v step) target else if fLt target v then fMax (fSub v step) target else target
/-- The step of a slew per ms over dec voltage frames of 10 ns; a slew of 0 steps at once (R143). -/
def slewTo (v target slew : Word) (dec : Nat) : Word :=
  if fIsZero slew then target else moveTo v target (fMul slew (fRatio dec 100000))
/-- P / v_d, no limit where v_d is not above 0 (R147). -/
def perVolt (p vd : Word) : Word := if fPos vd then fDiv p vd else fInf

/-- The current limits of R147: i_hi, i_lo, and whether the allowance is the smallest term of each. -/
structure Limits where
  hi : Word
  lo : Word
  hiAllow : Bool
  loAllow : Bool

/-- The limits of R147 with those of the felt's port, the start ramp and the stop profile (R159, R161, R239). -/
def feltLimits (s : State) (f : Nat) (t : SpSet) (vd : Word) : Limits :=
  let x := s.felt f
  let m := t.mode
  let aSrc := perVolt (feltW s f R.FELT_ALLOW_SRC) vd
  let aSnk := perVolt (feltW s f R.FELT_ALLOW_SNK) vd
  let hs := fMin (fMin t.iSrc (feltW s f R.FELT_I_SRC_MAX)) (perVolt (feltW s f R.FELT_P_SRC_MAX) vd)
  let ls := fMin (fMin t.iSnk (feltW s f R.FELT_I_SNK_MAX)) (perVolt (feltW s f R.FELT_P_SNK_MAX) vd)
  let hs := if m = 6 then fMin hs (fAbs x.iRef) else hs
  let hs := fMin hs (x.portHi.getD fInf)
  let ls := fMin ls (x.portLo.getD fInf)
  let discharge := x.stop == 1 && feltF s f F.FELT_STOP_MODE == 2
  let noSink := ((m == 1 || m == 6) && !discharge) || (x.ramp != 0 && feltF s f F.FELT_LOOP_PREBIAS_SINK == 0) ||
    (x.stop == 1 && !discharge)
  ⟨if m = 3 ∨ m = 7 then 0#32 else fMin hs aSrc, if noSink then 0#32 else fNeg (fMin ls aSnk),
   fLe aSrc hs && m != 3 && m != 7, fLe aSnk ls && !noSink⟩

/-- Coefficient k of the bank in use (R140). -/
def bankW (s : State) (f bank k : Nat) : Word := feltW s f (R.FELT_BANK + 0x20 * bank + 4 * k)

/-- The compensator's output before its clamp (R140, R201). -/
def compensator (s : State) (f bank : Nat) (e : Word) (eh yh : List Word) (iff : Word) : Word :=
  let c := bankW s f bank
  let h := fun (l : List Word) k => l.getD k 0#32
  let a := fAdd (fAdd (fAdd (fMul (c 0) e) (fMul (c 1) (h eh 0))) (fMul (c 2) (h eh 1))) (fMul (c 3) (h eh 2))
  let b := fSub (fSub (fSub a (fMul (c 4) (h yh 0))) (fMul (c 5) (h yh 1))) (fMul (c 6) (h yh 2))
  fAdd b iff

/-- A new set takes effect (R146): MODE, BANK, SET_APPLIED, and the number of a block (R153, R154). -/
def takeSet (s : State) (f : Nat) (t : SpSet) : State :=
  let b := feltB f
  let x := s.felt f
  let s1 := s.setFelt f { x with set := some t, next := none, src := feltSel s f, nextBlk := none, portWant := false, portAt := if x.portWant then some x.vFrames else x.portAt }
  let s2 := (s1.setFld b F.FELT_STATUS_MODE t.mode).setFld b F.FELT_STATUS_BANK t.bank
  let s3 := match x.nextBlk with
    | some m => s2.setFld b F.FELT_STATUS_BLOCK m
    | none => s2
  feltEvent s3 f 11

/-- The set that waits takes effect at an update, unless a hold freezes it (R31, R146). -/
def takeNext (s : State) (f : Nat) : State :=
  match (s.felt f).next with
  | some t => if s.hold then s else takeSet s f t
  | none => s

/-- A target that v_ref or the current target is to reach by a slew starts one at this update: a new set, a moved tracking
reference or the end of a list (R146, R152). -/
def slewStarts (s : State) (f : Nat) (t : SpSet) : Bool :=
  let x := s.felt f
  x.ramp == 0 && x.stop == 0 && !(wfDrives s f) &&
  ((!fIsZero t.slewV && !fEq x.vRef (fMin (trackV s f t.v) (feltW s f R.FELT_V_MAX))) || (!fIsZero t.slewI && !fEq x.iRef t.i))

/-- The region and direction at an update (R149): QUAD at once, its event after 8 updates; a value that comes back counts as new
(DESIGN CHOICE, log entry 187). -/
def quadStep (s : State) (f : Nat) (regionV : Bool) : State :=
  let b := feltB f
  let x := s.felt f
  let h := f256 (feltF s f F.FELT_LOOP_QUAD_HYST) (feltW s f R.FELT_I_RANGE)
  let sink := if fLt h x.iAvg then false else if fLt x.iAvg (fNeg h) then true else x.sink
  let q := b2n sink * 2 + b2n (!regionV)
  let n := if q ≠ s.fld b F.FELT_STATUS_QUAD then 1 else if x.quadN = 0 then 0 else x.quadN + 1
  let s1 := (s.setFld b F.FELT_STATUS_QUAD q).setFelt f { x with sink := sink, regionV := regionV, quadN := if 8 ≤ n then 0 else n }
  if 8 ≤ n then feltEvent s1 f 2 else s1

/-- ALLOW_LIM at an update (R150). -/
def allowStep (s : State) (f : Nat) (lim : Bool) : State :=
  let b := feltB f
  let s1 := s.setFld b F.FELT_STATUS_ALLOW_LIM (b2n lim)
  if lim && s.fld b F.FELT_STATUS_ALLOW_LIM = 0 then feltEvent s1 f 3 else s1

/-- v_ref at an update: v_fb while the source gate of the felt's port is closed (R240), else the start ramp, the stop profile,
the list, or V at its slew (R146, R156, R159, R161, R200). A ramp runs on its own value meanwhile (log entry 168). -/
def vRefStep (s : State) (f dec : Nat) (t : SpSet) : State :=
  let x := s.felt f
  let cap := fun v => fMin v (feltW s f R.FELT_V_MAX)
  let put := fun (s : State) v => s.setFelt f { s.felt f with vRef := cap v }
  if x.stop = 1 then
    let r := cap (slewTo x.rampV (feltW s f R.FELT_V_OFF) (feltW s f R.FELT_STOP_SLEW) dec)
    put (s.setFelt f { x with rampV := r }) (if x.portTrack then x.vFb else r)
  else if x.ramp = 1 then
    let r := slewTo x.rampV t.v (feltW s f R.FELT_START_SLEW) dec
    let s1 := s.setFelt f { x with rampV := r, rampHit := fEq r t.v }
    put s1 (if x.portTrack then x.vFb else if feltTracks s f then fMin r (trackV s f t.v) else r)
  else if x.portTrack then put s x.vFb
  else if wfDrives s f && t.mode != 2 then
    let (v, s1) := wfSupply s f t.v
    put s1 v
  else put s (slewTo x.vRef (trackV s f t.v) t.slewV dec)

/-- The current target at an update: the list in mode 2, else I at its slew (R146, R200). -/
def iRefStep (s : State) (f dec : Nat) (t : SpSet) : State :=
  if wfDrives s f && t.mode == 2 then
    let (v, s1) := wfSupply s f t.i
    s1.setFelt f { s1.felt f with iRef := v }
  else s.setFelt f { s.felt f with iRef := slewTo (s.felt f).iRef t.i t.slewI dec }

/-- i_ref of R148 before clamping, from y(V). -/
def modeIref (t : SpSet) (iRef y vfb vd : Word) : Word :=
  let m := t.mode
  if m = 2 then (if fLt iRef 0#32 then fMax iRef y else fMin iRef y)
  else if m = 3 then fNeg (fDiv vfb t.x)
  else if m = 4 then (if fPos vd then fDiv t.x vd else 0#32)
  else if m = 7 then fNeg (fAbs iRef)
  else y

/-- The target of a start ramp of i_ref: i_ref before clamping, held to the limits of R147 without the ramp's own (R159). -/
def rampGoal (s : State) (f : Nat) (t : SpSet) (vd raw : Word) : Word :=
  let lim := feltLimits (s.setFelt f { s.felt f with ramp := 0 }) f t vd
  fClamp raw lim.lo lim.hi

/-- One compensator update of a switching felt with a valid v_fb (R140 to R150, R163). The stop at FELT_V_MAX leaves EN and
STOP_CAUSE as they are (DESIGN CHOICE, log entry 185). -/
def feltUpdateRun (s : State) (f dec : Nat) (vfb : Word) : State :=
  let b := feltB f
  let s0 := takeNext s f
  match (s0.felt f).set with
  | none => s0
  | some t =>
    let vd := fMax vfb (feltW s0 f R.FELT_CP_VMIN)
    let test := feltState s0 f == 13
    let s0 := if !test && slewStarts s0 f t then s0.setFld b F.FELT_STATUS_IN_REG 0 else s0
    let s1 := if test then s0 else iRefStep (vRefStep s0 f dec t) f dec t
    let x := s1.felt f
    let lim := feltLimits s1 f t vd
    -- in a port's sink role v_ref follows v_fb, and the compensator runs with the set's V (R240, R241; log entry 168)
    let e := fSub (if test || (x.portTrack && x.portSnk) then t.v else x.vRef) vfb
    let useY := !test && [1, 2, 5, 6].contains t.mode && x.stop != 2
    let iff := if wfReaches s1 f (s1.lineNs + wfAdv s1 f + 10 * dec) && (t.mode == 1 || t.mode == 5) then wfFeed s1 f dec t.v else 0#32
    let y := compensator s1 f (s1.fld b F.FELT_STATUS_BANK) e x.eh x.yh iff
    let raw := if test then feltW s1 f R.FELT_TEST_I else modeIref t x.iRef y vfb vd
    -- a ramp of i_ref from 0, or of a stop toward 0, moves the reference at SLEW_I (R159, R161); the start ramp runs to the
    -- target that the limits let pass once it has ended
    let goal := rampGoal s1 f t vd raw
    let rampV := slewTo x.rampV goal t.slewI dec
    let ramped := if x.stop = 2 then (if fIsZero t.slewI then 0#32 else slewTo x.iOut 0#32 t.slewI dec)
      else if x.ramp = 2 then rampV else raw
    let out := fClamp ramped lim.lo lim.hi
    let yc := if useY then fClamp y lim.lo lim.hi else out
    let inV := useY && fEq raw y && fEq out y
    -- i_ref is clamped at the allowance: not where a ramp still keeps it inside (R150)
    let al := (lim.hiAllow && fLt lim.hi raw && fEq out lim.hi) || (lim.loAllow && fLt raw lim.lo && fEq out lim.lo)
    let x := if x.ramp = 2 then { x with rampV := rampV, rampHit := fEq rampV goal } else x
    let s2 := s1.setFelt f { x with eh := (if useY then e else fSub t.v vfb) :: x.eh.take 2, yh := yc :: x.yh.take 2, iRaw := raw, iOut := out }
    let s3 := ((s2.wr (b + R.FELT_IREF) out).wr (b + R.FELT_VREF) x.vRef)
    let s4 := allowStep (quadStep s3 f inV) f al
    if test && fLe (feltW s f R.FELT_V_MAX) vfb then stopEnd s4 f else s4

/-- A felt update (R139): after DEC voltage frames; skipped where none of them had a valid sample. It takes the coherent
registers (R173). -/
def feltUpdate (s : State) (f : Nat) : State :=
  let b := feltB f
  let x := s.felt f
  let dec := max 1 (feltF s f F.FELT_LOOP_DEC)
  if !(feltDefined s f) || decide (x.vCnt < dec) then s
  else if x.vAcc = [] then s.setFelt f { x with vCnt := 0, vfAcc := [] }
  else
    let s := feltLatch s f
    let x := s.felt f
    let vfb := fMean x.vAcc
    let force := match feltVout s f with
      | some v => v
      | none => vfb
    let keep := x.vfbs.filter (fun e => decide (x.vFrames ≤ e.1 + 100))
    let s1 := s.setFelt f { x with vCnt := 0, vAcc := [], vfAcc := [], vFb := vfb, vfbs := (x.vFrames, vfb) :: keep }
    let s2 := ((s1.wr (b + R.FELT_MEAS_VFB) vfb).wr (b + R.FELT_MEAS_VFORCE) force).wr (b + R.FELT_MEAS_I) x.iAvg
    let s3 := s2.wr (b + R.FELT_MEAS_P) (fMul vfb x.iAvg)
    if feltSwitching s f then feltUpdateRun s3 f dec vfb else takeNext s3 f

/-- No start ramp and no setpoint slew runs (R152). -/
def noSlew (s : State) (f : Nat) : Bool :=
  let x := s.felt f
  x.ramp == 0 && x.stop == 0 && (match x.set with
    | none => true
    | some t => wfDrives s f || (fEq x.vRef (fMin (trackV s f t.v) (feltW s f R.FELT_V_MAX)) && fEq x.iRef t.i))

/-- The main quantity lies within its band (R152). -/
def inBand (s : State) (f : Nat) : Bool :=
  let b := feltB f
  let x := s.felt f
  let m := feltMode s f
  if m = 1 ∨ m = 5 ∨ (m = 6 ∧ x.regionV) then
    let v := match x.set with
      | some t => if wfDrives s f then x.vRef else trackV s f t.v
      | none => 0#32
    fLe (fAbs (fSub x.vFb v)) (fRatio (feltF s f F.FELT_PG_BAND_MV) 1000)
  else fLe (fAbs (fSub x.iAvg x.iRaw)) (f256 (feltF s f F.FELT_PG_BAND_I) (feltW s f R.FELT_I_RANGE))

/-- The taper of a charge holds now (R151). -/
def battTaper (s : State) (f : Nat) : Bool :=
  feltSwitching s f && feltMode s f == 6 && (s.felt f).regionV && fLt (s.felt f).iAvg (feltW s f R.FELT_I_TERM)

/-- The voltage condition of a discharge holds now (R151). -/
def battEmpty (s : State) (f : Nat) : Bool :=
  let v := match (s.felt f).set with
    | some t => t.v
    | none => 0#32
  feltSwitching s f && feltMode s f == 7 && fLe (s.felt f).vFb v

/-- A follower's leader is lost (R157). A MON leader may also be lost by 100 µs without a result, which the command states. -/
def leaderLost (s : State) (f : Nat) : Bool :=
  let b := feltB f
  feltTracks s f && feltSwitching s f &&
  (feltF s f F.FELT_TRACK_LEADER_KIND != 0 || [8, 9, 10, 11, 12].contains (feltState s (feltF s f F.FELT_TRACK_LEADER)))

/-- A stop that clears EN as it begins: battery end, tracking, a timetable (R161). -/
def feltStopClear (s : State) (f cause : Nat) : State :=
  feltStopBegin (s.setFld (feltB f) F.FELT_CTRL_EN 0) f cause

/-- SENSE_OPEN latches (R171): the next update takes v_force of all its frames. -/
def senseOpenNow (s : State) (f : Nat) : State :=
  let s1 := s.report 3 f K.FELT_SENSE (feltW s f R.FELT_R_LEAD).toNat
  let s2 := (s1.setFelt f { s1.felt f with senseOpen := true, vAcc := (s1.felt f).vfAcc }).setFld (feltB f) F.FELT_STATUS_SENSE_LOCAL 1
  feltEvent s2 f 6

/-- The breaker's microsecond ends (R164). -/
def breakerTickNow (s : State) (f : Nat) : State :=
  let x := s.felt f
  if !(feltSwitching s f) || x.brkI.isEmpty then s
  else
    let mean := fMean x.brkI.reverse
    let t := if fLt (feltW s f R.FELT_I_BRK) mean then x.brkT + 8 else x.brkT - 1
    let s1 := s.setFelt f { x with brkI := [], brkT := t }
    if 8 * max 1 (feltF s f F.FELT_BRK_T_BRK) ≤ t then breakerTrip s1 f else s1

/-! Waveform lists (R199 to R205). -/

/-- A list is refused (R199). -/
def wfRefuse (s : State) (f code : Nat) : State :=
  wfEvent (s.setFld (feltB f) F.FELT_WF_STAT_CODE code) f 5

/-- Cabinet time at line time t, under the present offset (R177). -/
def cabOf (s : State) (t : Nat) : Nat := (((t : Int) + s.timeOfs) % (cabWrap : Int)).toNat

/-- START = 1 (R199). -/
def wfStart (s : State) (f : Nat) : State :=
  let b := feltB f
  let c := wfCheck s f false
  if c ≠ 0 then wfRefuse s f c
  else
    let s1 := (s.setFld b F.FELT_WF_STAT_STATE 1).setFld b F.FELT_WF_STAT_CODE 0
    let now := s.flag b F.FELT_WF_CTRL_START_MODE
    let org := if now then startRef s s.lineNs + 1000 else 0
    let orgC := if now then cabOf s org else 0
    s1.setWf f { s1.wf f with pts := [], frozen := false, stopping := false, under := false, fed := false, due := now, org := org, orgC := orgC }

/-- Put the origin into FELT_WF_ORG, as cabinet time named it when it was taken (R194, R199). -/
def wfShowOrigin (s : State) (f t : Nat) : State :=
  (s.wr (feltB f + R.FELT_WF_ORG_SEC) (timeW0 t)).wr (feltB f + R.FELT_WF_ORG_NS) (timeW1 t)

/-- ABORT, and a point that is not sound (R203, R204): the target freezes, STATE reads 3. -/
def wfFreeze (s : State) (f : Nat) : State :=
  if [1, 2].contains (s.fld (feltB f) F.FELT_WF_STAT_STATE) then
    let armed := s.fld (feltB f) F.FELT_WF_STAT_STATE == 1
    let v := if feltMode s f = 2 then (s.felt f).iRef else (s.felt f).vRef
    let s1 := s.setWf f { s.wf f with frozen := true, out := v }
    s1.setFld (feltB f) F.FELT_WF_STAT_STATE (if armed then 0 else 3)
  else s

/-- The point in use begins (R203, R205): WF_MARK, or the end by an unsound point. -/
def wfBegin (s : State) (f : Nat) : State :=
  match wfPoint s f (s.fld (feltB f) F.FELT_WF_STAT_POINT) with
  | none => s
  | some p =>
    if p.ok then (if bit p.w0.toNat 25 then wfEvent s f 2 else s)
    else wfEvent ((wfFreeze s f).setFld (feltB f) F.FELT_WF_STAT_CODE 9) f 4

/-- The origin arrives (R199, R205). -/
def wfOrigin (s : State) (f : Nat) : State :=
  let b := feltB f
  if s.fld b F.FELT_WF_STAT_STATE = 1 ∧ (s.wf f).due then
    let c := wfCheck s f true
    if c ≠ 0 then wfRefuse (s.setFld b F.FELT_WF_STAT_STATE 0) f c
    else
      let x := s.wf f
      let set := (s.felt f).set
      let base := match set with
        | some t => if t.mode = 2 then t.i else t.v
        | none => 0#32
      let s1 := s.setWf f { x with t := x.org, prev := base, base := set, due := false }
      let s2 := ((s1.setFld b F.FELT_WF_STAT_STATE 2).setFld b F.FELT_WF_STAT_POINT 0).setFld b F.FELT_WF_LOOP_LOOPS_LEFT (s.fld b F.FELT_WF_CTRL_LOOPS - 1)
      wfBegin (wfEvent (wfShowOrigin s2 f x.orgC) f 0) f
  else s

/-- The end action (R198, R204, R205). -/
def wfEndAction (s : State) (f : Nat) : State :=
  let b := feltB f
  let e := s.fld b F.FELT_WF_CTRL_END
  let s1 := wfEvent s f 1
  if e = 1 then s1.setFld b F.FELT_WF_STAT_STATE 4
  else if e = 2 then feltStopBegin ((s1.setFld b F.FELT_WF_STAT_STATE 4).setFld b F.FELT_CTRL_EN 0) f 1
  else (s1.setWf f { s1.wf f with frozen := true, out := (s1.wf f).prev }).setFld b F.FELT_WF_STAT_STATE 3

/-- The timeline reaches the end of the point in use (R198, R204). -/
def wfPointEnd (s : State) (f : Nat) : State :=
  let b := feltB f
  let k := s.fld b F.FELT_WF_STAT_POINT
  if s.fld b F.FELT_WF_STAT_STATE = 2 then
    match wfPoint s f k with
    | none => s
    | some p =>
      let x := s.wf f
      let s1 := s.setWf f { x with t := x.t + p.dur, prev := p.w1 }
      let loops := s.fld b F.FELT_WF_CTRL_LOOPS
      let left := s.fld b F.FELT_WF_LOOP_LOOPS_LEFT
      if x.stopping then wfEndAction s1 f
      else if k + 1 < s.fld b F.FELT_WF_LEN_LEN then wfBegin (s1.setFld b F.FELT_WF_STAT_POINT (k + 1)) f
      else if (loops = 0 ∨ left ≠ 0) ∧ ¬ s.hold then
        let s2 := (s1.setFld b F.FELT_WF_LOOP_LOOPS_LEFT (left - 1)).setFld b F.FELT_WF_STAT_POINT (s.fld b F.FELT_WF_LEN_LOOP_IDX)
        wfBegin s2 f
      else wfEndAction s1 f
  else s

/-- How many points point n lies ahead of the point in use on the timeline, through LOOP_IDX while passes are left (R198). -/
def wfAhead (s : State) (f n : Nat) : Option Nat :=
  let b := feltB f
  let len := s.fld b F.FELT_WF_LEN_LEN
  let lp := s.fld b F.FELT_WF_LEN_LOOP_IDX
  let armed := s.fld b F.FELT_WF_STAT_STATE == 1
  let k := if armed then 0 else s.fld b F.FELT_WF_STAT_POINT
  let left := if armed then s.fld b F.FELT_WF_CTRL_LOOPS - 1 else s.fld b F.FELT_WF_LOOP_LOOPS_LEFT
  if len ≤ n then none
  else if k ≤ n then some (n - k)
  else if (left ≠ 0 ∨ s.fld b F.FELT_WF_CTRL_LOOPS = 0) ∧ lp ≤ n then some (len - k + (n - lp))
  else none

/-- The list unit reads point n: at most 64 points ahead of the point in use (R202). -/
def wfReads (s : State) (f n : Nat) : Bool :=
  [1, 2].contains (s.fld (feltB f) F.FELT_WF_STAT_STATE) && (match wfAhead s f n with
    | some d => decide (d ≤ 64)
    | none => false)

/-- A point arrives from shared memory (R202): a late one in use is applied from its present position, or skipped where its
whole span has passed. -/
def wfArrive (s : State) (f n : Nat) : State :=
  let b := feltB f
  if wfReads s f n then
    let a := s.fld b F.FELT_WF_BASE_BASE + 8 * n
    let p : WfPoint := ⟨s.memWord a, s.memWord (a + 4)⟩
    let x := s.wf f
    let late := s.fld b F.FELT_WF_STAT_STATE == 2 && s.fld b F.FELT_WF_STAT_POINT == n && (wfPoint s f n).isNone
    let s1 := s.setWf f { x with pts := x.pts.filter (fun e => e.1 != n) ++ [(n, p)], under := if late then false else x.under }
    if late then
      let s2 := wfBegin s1 f
      if s2.fld b F.FELT_WF_STAT_STATE = 2 ∧ x.t + p.dur ≤ s.lineNs then wfPointEnd (s2.bump b F.FELT_WF_CNT_SKIPPED 1) f else s2
    else s1
  else s

/-- The action of a write of FELT_WF_CTRL: v the word written (R199, R204); a stop in the same write wins over a start (R33). -/
def wfCtrlWritten (s : State) (f v : Nat) : State :=
  if bit v 2 then wfFreeze s f
  else if bit v 1 then
    if s.fld (feltB f) F.FELT_WF_STAT_STATE = 2 then s.setWf f { s.wf f with stopping := true } else s
  else if bit v 0 then wfStart s f else s

/-! Sleep (R508). -/

/-- A wake event (R508): the core clock runs again, and a felt whose start has waited for it goes on (R517). -/
def wakeUp (s : State) : State :=
  if s.pwr.asleep then
    (List.range 96).foldl feltProceed
      (({ s with pwr := { s.pwr with asleep := false } }.setFld 0 F.SYS_PWR_SLEEP 0).setFld 0 F.SYS_PWR_AWAKE 1)
  else s

end Sys2Proof.Machine
end

