-- ==== Sys2Proof/Machine/House.lean ====
section
/-! DEFINITION. The house channels (R207 to R214): periods, protection, role control, starts and stops, sampled
operation, and the codes of the threshold DACs. -/
namespace Sys2Proof.Machine

/-- The role STRUCTURE gives a channel (R207): 0 none, 1 BUSIN, 2 SHELF, 3 DUMP, 4 AUX, 5 POL. -/
def houseRole (s : State) (h : Nat) : Nat := s.fld (hseB h) F.HSE_STATUS_ROLE
/-- The channel is AUX or POL: it regulates its own output. -/
def houseLocal (s : State) (h : Nat) : Bool := houseRole s h == 4 || houseRole s h == 5
/-- The channel belongs to the bus: BUSIN, SHELF or DUMP. -/
def houseOfBus (s : State) (h : Nat) : Bool := [1, 2, 3].contains (houseRole s h)
/-- The channel is marked KEEP (R27). -/
def houseKeep (s : State) (h : Nat) : Bool := s.flag (hseB h) F.HSE_STATUS_KEEP
/-- The channel switches. -/
def houseOn (s : State) (h : Nat) : Bool := s.flag (hseB h) F.HSE_STATUS_ON
/-- The first channel of a role, if the device has one. -/
def houseWith (s : State) (role : Nat) : Option Nat := (List.range 8).find? (fun h => houseRole s h == role)
/-- The device has a channel of a role. -/
def houseHas (s : State) (role : Nat) : Bool := (houseWith s role).isSome

/-- The channel is kept off: by a cabinet-safe reaction (R27), a force-off (R410) or an interlock (R408). A KEEP channel
stays in regulation but for a force-off with KEEP_OFF. -/
def houseBlocked (s : State) (h : Nat) : Bool :=
  let keep := houseKeep s h && houseLocal s h
  (s.fc.heldCab && !keep) || (s.forcedOff && !(keep && !s.flag supB F.SUP_PB_CFG_KEEP_OFF)) ||
    (s.ilkHouse.contains h && houseLocal s h && !keep)

/-- The channel may start: AUX and POL always, the bus's own in modes 1 to 3 (R212, R219). -/
def houseStartable (s : State) (h : Nat) : Bool := houseLocal s h || (houseOfBus s h && [1, 2, 3].contains (busMode s))

/-- The channel asks the admission budget for its start (R212). -/
def houseAsk (s : State) (h : Nat) : State :=
  admAsk s 3 h (s.fld (hseB h) F.HSE_ADMIT_CHARGE) (s.fld (hseB h) F.HSE_ADMIT_PRIO) (s.fld (hseB h) F.HSE_ADMIT_WAIT_WAIT)

/-- A channel with EN = 1 that is off, may start and waits for nothing asks for its start (R212, R219); none does
while a load runs (R55). -/
def houseTry (s : State) (h : Nat) : State :=
  if s.flag (hseB h) F.HSE_CTRL_EN ∧ houseOn s h = false ∧ houseStartable s h ∧ houseBlocked s h = false ∧
      admWaits s 3 h = false ∧ loadRuns s = false then (if startBarred s then s.setFld (hseB h) F.HSE_CTRL_EN 0 else houseAsk s h)
  else s

/-- The channel goes off: both outputs low, no request waits. -/
def houseOff (s : State) (h : Nat) : State :=
  let s1 := if admWaits s 3 h then admWithdraw s 3 h else s
  let s2 := s1.setFld (hseB h) F.HSE_STATUS_ON 0
  let x := s2.house h
  s2.setHouse h { x with off := false, ramping := false, ton := 0, duty := 0#32, ocN := 0 }

/-- The channel is to go off in its next period (R212); a start that waits is withdrawn. -/
def houseOffNext (s : State) (h : Nat) : State :=
  let s1 := if admWaits s 3 h then admWithdraw s 3 h else s
  if houseOn s1 h then s1.setHouse h { s1.house h with off := true } else s1

/-- The place of an AUX or POL channel in the timetable's reverse order: 0 where no valid entry names it, else one more than
its STEP (R400, R403); the highest of several entries. -/
def houseRank (s : State) (h : Nat) : Nat :=
  ((List.range 32).filter (fun r => s.flag (supB + 0x10 * r) F.SUP_TTE_A_VALID && s.fld (supB + 0x10 * r) F.SUP_TTE_A_KIND == 1 &&
    s.fld (supB + 0x10 * r) F.SUP_TTE_A_INDEX == h)).foldl (fun m r => max m (s.fld (supB + 0x10 * r) F.SUP_TTE_A_STEP + 1)) 0

/-- An AUX or POL channel that a cabinet-safe reaction alone takes off: in reverse timetable order (R27). -/
def houseOrderly (s : State) (h : Nat) : Bool :=
  houseLocal s h && houseBlocked s h && s.fc.heldCab && !s.forcedOff && !s.ilkHouse.contains h

/-- The channels that a cabinet-safe reaction takes off next (R27): as in R403, those that the timetable does not name, then
those of the highest step; each goes off in its next period, and the next step follows when they are off (DEDUCED, log entry
165). -/
def houseSafeNext (s : State) : State :=
  let l := natsWhere 8 (fun h => houseOrderly s h && houseOn s h)
  let now := if l.any (fun h => houseRank s h == 0) then 0 else l.foldl (fun m h => max m (houseRank s h)) 0
  (l.filter (fun h => houseRank s h == now)).foldl houseOffNext s

/-- What holds the channels has changed: a blocked one goes off, another starts again through admission (R408, R430). -/
def houseApply (s : State) : State :=
  houseSafeNext ((List.range 8).foldl (fun s h =>
    if houseOrderly s h && houseOn s h then s else if houseBlocked s h then houseOff s h else houseTry s h) s)

/-- A channel whose stop has come goes off at the boundary of its period (R212); the next in a reverse order follows (R27). -/
def houseOffDue (s : State) (h : Nat) : State :=
  if (s.house h).off then houseSafeNext (houseTry (houseOff s h) h) else s

/-- The channel is admitted (R212): it switches; AUX and POL ramp from their present output. One that a load keeps off asks again
after it (log entry 178). -/
def houseAdmitted (s : State) (h : Nat) : State :=
  if s.flag (hseB h) F.HSE_CTRL_EN ∧ houseStartable s h ∧ houseBlocked s h = false ∧ loadRuns s = false then
    let s1 := s.setFld (hseB h) F.HSE_STATUS_ON 1
    let x := s1.house h
    s1.setHouse h { x with off := false, integ := 0#32, ref := s1.rd (hseB h + R.HSE_MEAS_V), ramping := houseLocal s h, ocN := 0 }
  else s

/-- The channel's admission request timed out: EN is cleared (R230). -/
def houseAdmitTimeout (s : State) (h : Nat) : State := s.setFld (hseB h) F.HSE_CTRL_EN 0

/-- A write of HSE_CTRL is refused as an access (R207, R212, R213). -/
def houseCtrlRefused (s : State) (h v : Nat) : Bool :=
  let en := v.testBit 0
  let abort := v.testBit 1
  (en && houseRole s h == 0) || (v.testBit 2 && !houseLocal s h) || (abort && houseKeep s h) ||
    (!en && !abort && houseOfBus s h && busMode s != 0)

/-- HSE_CTRL has been written with v (R212, R213); old is its value before. ABORT wins over EN (R33). -/
def houseCtrlWritten (s : State) (h v : Nat) (old : Word) : State :=
  let b := hseB h
  let was := fget old F.HSE_CTRL_EN != 0
  if v.testBit 1 then houseOffNext (s.setFld b F.HSE_CTRL_EN 0) h
  else if v.testBit 0 then houseTry s h
  else if houseKeep s h then s.setFld b F.HSE_CTRL_EN (b2n was)
  else if was then houseOffNext s h
  else s

/-- Millivolts of the current sense that a current DAC code stands for (R209). -/
def curDacMv (code : Nat) : Word := fRatio (code * 15) 100
/-- Volts of the voltage sense that a voltage DAC code stands for (R210). -/
def volDacV (code : Nat) : Word := fRatio (code * 25) 10000

/-- The code a threshold DAC of a channel holds (R214): 0 PK, 1 OC, 2 OV, 3 REG. The OV DAC of DUMP is set from BUS_V_OV
(R217), to the nearest code. -/
def dacCode (s : State) (h dac : Nat) : Nat :=
  let b := hseB h
  if dac = 0 then (s.house h).dac
  else if dac = 1 then s.fld b F.HSE_THR_OC
  else if dac = 2 then
    if houseRole s h = 3 then
      clampNat 0 1023 (fToIntRne (fDiv (fDiv (busW s R.BUS_V_OV) (s.rd (b + R.HSE_SCALE_V))) (fRatio 25 10000))).toNat
    else s.fld b F.HSE_THR_OV
  else s.fld b F.HSE_THR_REG

/-- The OC comparator trips (R210): the outputs are low for the rest of the period; HSE_OC after OC_CYCLES periods in a
row. Nothing is counted or reported while the channel does not switch. -/
def houseOcTrip (s : State) (h : Nat) : State :=
  let b := hseB h
  let x := s.house h
  if houseRole s h = 0 then s
  else
    let s1 := (s.setFld b F.HSE_STATUS_OC 1).setHouse h { x with ocNow := true, ton := if houseOn s h then 0 else x.ton }
    if houseOn s h ∧ x.ocNow = false then
      let s2 := s1.bump b F.HSE_CNT_OC 1
      let n := x.ocN + 1
      if n ≥ max 1 (s.fld b F.HSE_PROT_OC_CYCLES) then
        (s2.setHouse h { s2.house h with ocN := 0 }).report 5 h K.HSE_OC (s2.fld b F.HSE_CNT_OC)
      else s2.setHouse h { s2.house h with ocN := n }
    else s1

/-- The OV comparator trips (R210): the outputs are low until the sense has been good for a whole period; each trip of a
switching channel is counted and reports HSE_OV. That of DUMP is the bus over-voltage detector, which drives nothing low (R217). -/
def houseOvTripped (s : State) (h : Nat) : State :=
  let b := hseB h
  let x := s.house h
  if houseRole s h = 0 then s
  else
    let fresh := s.fld b F.HSE_STATUS_OV = 0
    let s1 := (s.setFld b F.HSE_STATUS_OV 1).setHouse h { x with ovNow := true, ton := if houseOn s h ∧ houseRole s h ≠ 3 then 0 else x.ton }
    if houseOn s h ∧ fresh then
      let s2 := s1.bump b F.HSE_CNT_OV 1
      if houseRole s h = 3 then s2 else s2.report 5 h K.HSE_OV 0
    else s1

/-- HSE_OV_TRIP: in sampled operation OV is judged in the windows alone (R213). -/
def houseOvTrip (s : State) (h : Nat) : State := if (s.house h).sampled then s else houseOvTripped s h

/-- A whole period of the protection comparators ends (R210): one that has been on the good side clears. ocBad and ovBad: what
the period showed besides a trip. DUMP's is good for BUS_OV once it has been so since the load (R217). -/
def houseProtect (s : State) (h : Nat) (ocBad ovBad : Bool) : State :=
  let b := hseB h
  let x := s.house h
  let s1 := if x.ocNow || ocBad then s else s.setFld b F.HSE_STATUS_OC 0
  let s2 := if x.ovNow || ovBad then s1 else s1.setFld b F.HSE_STATUS_OV 0
  let s3 := if houseRole s h = 3 ∧ s.bus.loadOv ∧ ¬ (x.ovNow || ovBad) then { s2 with bus := { s2.bus with dumpGood := true } } else s2
  s3.setHouse h { x with ocNow := false, ovNow := false, ocN := if x.ocNow then x.ocN else 0 }

/-- HSE_PWM.PERIOD as it acts, in ns (R208). -/
def housePer (s : State) (h : Nat) : Nat := clampNat 500 10000 (s.fld (hseB h) F.HSE_PWM_PERIOD)

/-- The next leading edge of a channel (R208): where the line count less HSE_PWM.PHASE is a multiple of PERIOD. -/
def houseEdge (s : State) (h : Nat) : Nat :=
  let base := max s.lineNs ((s.house h).lead + 1)
  base + (((16 * s.fld (hseB h) F.HSE_PWM_PHASE : Nat) : Int) - (base : Int)).emod (housePer s h) |>.toNat

/-- The longest on-time of a period in ns (R208). -/
def houseTonMax (s : State) (h : Nat) : Nat :=
  s.fld (hseB h) F.HSE_PWM_DMAX * clampNat 500 10000 (s.fld (hseB h) F.HSE_PWM_PERIOD) / 256

/-- A pulse of t ns as it acts (R208): at most the longest on-time; one below 20 ns is skipped (log entry 84). -/
def housePulseLen (s : State) (h t : Nat) : Nat :=
  let n := min t (houseTonMax s h)
  if n < 20 then 0 else n

/-- The AUX and POL loop (R211): a PI loop on the voltage sense; the integrator is held while i_cmd is clamped at 0 or at
the OC threshold. -/
def houseLoop (s : State) (h : Nat) : Word × State :=
  let b := hseB h
  let x := s.house h
  let vset := s.rd (b + R.HSE_VSET)
  let step := fMul (s.rd (b + R.HSE_SS)) (fRatio (clampNat 500 10000 (s.fld b F.HSE_PWM_PERIOD)) 1000000)
  let ref := if x.ramping then moveTo x.ref vset step else vset
  let e := fSub ref (s.rd (b + R.HSE_MEAS_V))
  let integ := fAdd x.integ (fMul (s.rd (b + R.HSE_KI)) e)
  let u := fAdd (fMul (s.rd (b + R.HSE_KP)) e) integ
  let top := fMul (curDacMv (s.fld b F.HSE_THR_OC)) (s.rd (b + R.HSE_SCALE_I))
  let clamped := fLt u 0#32 || fLt top u
  (fClamp u 0#32 top,
    s.setHouse h { x with ref := ref, ramping := x.ramping && !fEq ref vset, integ := if clamped then x.integ else integ })

/-- DAC_PK of a commanded current (R211): the nearest code; 1001 to 1023 act as 1000. A quotient that no 10-bit code
holds is a free value of 10 bits (log entry 1). -/
def peakCode (s : State) (h : Nat) (i : Word) : Nat × State :=
  let q := fDiv (fDiv i (s.rd (hseB h + R.HSE_SCALE_I))) (fRatio 15 100)
  if fFinite q && decide (0 ≤ fToIntRne q) && decide (fToIntRne q ≤ 1023) then (min 1000 (fToIntRne q).toNat, s)
  else let r := freeBetween s 0 1023; (min 1000 r.1, r.2)

/-- Set the peak code and start the pulse (R209); a code of 0 asks for no current, and its pulse is skipped (DEDUCED, log entry
84). -/
def housePeak (s : State) (h : Nat) (i : Word) : State :=
  let r := peakCode s h i
  let s1 := r.2.setHouse h { r.2.house h with dac := r.1, ton := if r.1 = 0 then 0 else housePulseLen s h (houseTonMax s h) }
  s1.setFld (hseB h) F.HSE_STATUS_DAC_PK (r.1 / 4)

/-- The duty of DUMP (R211), clamped to [0, DMAX / 256]; its on-time in ns, a pulse under 20 ns skipped (R208). -/
def houseDump (s : State) (h : Nat) : State :=
  let v := s.rd (busB + R.BUS_MEAS_V)
  let d := fClamp (fDiv (fMul (s.rd (busB + R.BUS_P_DUMP)) (busW s R.BUS_R_DUMP)) (fMul v v)) 0#32
    (fRatio (s.fld (hseB h) F.HSE_PWM_DMAX) 256)
  let t := (fToIntRne (fMul d (fOfNat (clampNat 500 10000 (s.fld (hseB h) F.HSE_PWM_PERIOD))))).toNat
  s.setHouse h { s.house h with duty := d, ton := housePulseLen s h t }

/-- The role control and the pulse of a switching channel at its period start (R209, R211). A tripped comparator keeps
the outputs low. -/
def houseControl (s : State) (h : Nat) : State :=
  let b := hseB h
  let role := houseRole s h
  let s1 :=
    if role = 1 then housePeak s h (fMax 0#32 (fDiv (s.rd (busB + R.BUS_P_IN)) s.bus.vSrc))
    else if role = 2 then
      let p := s.rd (busB + R.BUS_P_SHELF)
      (housePeak s h (fDiv (fAbs p) (s.rd (b + R.HSE_MEAS_V)))).setFld b F.HSE_STATUS_DIR (b2n (fPos p))
    else if role = 3 then houseDump s h
    else let r := houseLoop s h; housePeak r.2 h r.1
  if s1.flag b F.HSE_STATUS_OV ∧ role ≠ 3 then s1.setHouse h { s1.house h with ton := 0 } else s1

/-! The outputs of a channel over its running period (R208 to R210, R213, R217). The current sense is a function of the time in
ns since the leading edge, in sampled operation since the tick, in nanovolts. -/

/-- The slope-compensated threshold of the peak comparator dt ns after the leading edge, in nanovolts (R209). -/
def peakThreshold (s : State) (h dt : Nat) : Int :=
  ((150000 * (s.house h).dac : Nat) : Int) - ((250 * s.fld (hseB h) F.HSE_RAMP_RAMP * dt : Nat) : Int)

/-- The length of the running pulse (R208, R209): the peak comparator ends it, after the blanking time, unless its longest
on-time ends it first; a DUMP pulse and a sampled one have no peak comparator, and that of SHELF acts on the magnitude. -/
def housePulse (s : State) (h : Nat) (sense : Nat → Int) : Nat :=
  let x := s.house h
  let peak := houseRole s h != 3 && !x.sampled
  let hit := fun dt => peak && decide (s.fld (hseB h) F.HSE_DEAD_LEB ≤ dt) && decide (peakThreshold s h dt ≤ (if houseRole s h = 2 then ((sense dt).natAbs : Int) else sense dt))
  match (List.range x.ton).find? hit with
  | none => x.ton
  | some dt => max 20 dt

/-- PWMH and PWML dt ns after the leading edge (R208, R209, R213, R217): the controlled switch for the pulse, then after its
dead time the other, until the dead time before the next edge; DUMP has PWMH alone, latched high by BUS_STATUS.OV_LATCH. A period
without a pulse holds both low. -/
def houseGates (s : State) (h : Nat) (sense : Nat → Int) (dt : Nat) : Bool × Bool :=
  let b := hseB h
  let n := housePulse s h sense
  if houseRole s h = 3 then (s.flag busB F.BUS_STATUS_OV_LATCH || (houseOn s h && decide (dt < n)), false)
  else if ¬ houseOn s h ∨ n = 0 then (false, false)
  else
    -- SHELF discharges by PWML; the dead times keep their direction
    let low := houseRole s h == 2 && s.flag b F.HSE_STATUS_DIR
    let after := s.fld b (if low then F.HSE_DEAD_DT_LH else F.HSE_DEAD_DT_HL)
    let before := s.fld b (if low then F.HSE_DEAD_DT_HL else F.HSE_DEAD_DT_LH)
    let main := decide (dt < n)
    let other := decide (n + after ≤ dt) && decide (dt + before < housePer s h) && !(s.house h).sampled
    if low then (other, main) else (main, other)

/-- A change of SAMPLED takes effect at a period boundary at line time t (R213): the ticks count from there. -/
def houseSampled (x : HouseX) (on : Bool) (t : Nat) : HouseX := { x with sampled := on, tick := if on && !x.sampled then t else x.tick }

/-- A period of house channel h begins at its next leading edge (R208 to R212): v and i are the means of its voltage sense (V) and
current sense (mV) over the period that ends; a mean at or beyond a threshold was not on its good side. -/
def housePeriod (s0 : State) (h : Nat) (v i : Word) : State :=
  let b := hseB h
  if houseRole s0 h = 0 then s0
  else
    let t := houseEdge s0 h
    let s := (s0.until t).setHouse h { s0.house h with lead := t }
    let ocBad := fLe (curDacMv (dacCode s h 1)) (fAbs i)
    let ovBad := fLe (volDacV (dacCode s h 2)) v
    let s1 := s.wr (b + R.HSE_MEAS_V) (fMul v (s.rd (b + R.HSE_SCALE_V)))
    let s2 := s1.wr (b + R.HSE_MEAS_I) (fMul i (s.rd (b + R.HSE_SCALE_I)))
    let s3 := if (s2.house h).sampled then s2 else houseProtect s2 h ocBad ovBad
    let s4 := houseOffDue s3 h
    let s5 := s4.setHouse h (houseSampled (s4.house h) (s4.flag b F.HSE_CTRL_SAMPLED && houseLocal s4 h) t)
    if houseOn s5 h ∧ (s5.house h).sampled = false then houseControl s5 h else s5

/-- HSE_SAMP.TICK as it acts, in ns (R213). -/
def houseTickNs (s : State) (h : Nat) : Nat := 1000 * clampNat 1 1024 (s.fld (hseB h) F.HSE_SAMP_TICK)

/-- A tick of sampled operation (R213), TICK after the one before: the window judges the comparators on the voltage sense v (V at
the ball), and a sense below DAC_REG fires one pulse of TON. -/
def houseTick (s : State) (h : Nat) (v : Word) : State :=
  let b := hseB h
  let on := s.flag b F.HSE_CTRL_SAMPLED && houseLocal s h
  if !on then s.setHouse h { s.house h with sampled := false }
  else
    let t := max s.lineNs ((s.house h).tick + houseTickNs s h)
    let s0 := (s.until t).setHouse h { s.house h with sampled := true, tick := t }
    let ovBad := fLe (volDacV (dacCode s0 h 2)) v
    let s1 := houseProtect s0 h false ovBad
    let s2 := if ovBad then houseOvTripped s1 h else s1
    let s3 := houseOffDue s2 h
    if houseOn s3 h then
      let fire := fLt v (volDacV (dacCode s3 h 3)) && !s3.flag b F.HSE_STATUS_OV
      s3.setHouse h { s3.house h with ton := if fire then housePulseLen s3 h (s3.fld b F.HSE_SAMP_TON) else 0 }
    else s3

/-- The threshold DAC that INT7 reads back (R214): channel and DAC. -/
def readbackOf (s : State) : Nat × Nat := (s.fld (hseB 0) F.HSE_DAC_RB_CH, s.fld (hseB 0) F.HSE_DAC_RB_DAC)

/-- A readback result as a code of the DAC is compared with the code the DAC holds (R214). -/
def readbackJudge (s : State) (code : Nat) : State :=
  let k := readbackOf s
  let d := ((code : Int) - (dacCode s k.1 k.2 : Int)).natAbs
  if d > s.fld (hseB 0) F.HSE_DAC_TOL_TOL then
    (s.setFld (hseB 0) F.HSE_DAC_RB_MISMATCH 1).report 5 k.1 K.HSE_DAC (k.1 + 16 * k.2)
  else s

/-- A full scan has ended: with AUTO the routing advances by one DAC (R214). -/
def readbackAdvance (s : State) : State :=
  if s.flag (hseB 0) F.HSE_DAC_RB_AUTO then
    let k := readbackOf s
    let n := (k.1 * 4 + k.2 + 1) % 32
    (s.setFld (hseB 0) F.HSE_DAC_RB_CH (n / 4)).setFld (hseB 0) F.HSE_DAC_RB_DAC (n % 4)
  else s

end Sys2Proof.Machine
end

