-- ==== Sys2Proof/Machine/Digest.lean ====
section
/-! DEFINITION. The terms of the configuration digest (R63) and what a change of a coherent register does to it (R65). -/
namespace Sys2Proof.Machine

/-- The term of a coherent entry (R63). -/
def digTerm (a : Nat) (v : Word) : DWord := crc64 (natLE 4 a ++ wordBytes v)

/-- D after a coherent entry has changed (R65). -/
def digChange (s : State) (a : Nat) (old new : Word) : State :=
  { s with img := { s.img with digest := s.img.digest ^^^ digTerm a old ^^^ digTerm a new } }

/-- A word of the cabinet structure table. -/
def isCst (a : Nat) : Bool := decide (0x4000 ≤ a) && decide (a < 0x10000)

/-- The value with which a coherent register enters the digest (R63): a structure word whole, else its RW and RWL fields. -/
def digValue (a : Nat) (v : Word) : Word :=
  if isCst a then v
  else
    match regRow a with
    | none => 0#32
    | some r => v &&& BitVec.ofNat 32 (r.rw ||| r.rwl)

/-- A coherent register changes from old to new (R65). -/
def cohChange (s : State) (a : Nat) (old new : Word) : State := digChange s a (digValue a old) (digValue a new)

end Sys2Proof.Machine
end

