-- ==== Sys2Proof/Machine/Pass.lean ====
section
/-! DEFINITION. Hall passes: the target an address belongs to, the grant a master has there, and what it allows (R477 to
R479). -/
namespace Sys2Proof.Machine

/-- The hall-pass target that covers a host address (R478); none where no range of R24 lies. -/
def passTarget (a : Nat) : Option Nat :=
  if a < 0xC0000 then some (a / 0x10000)
  else if a < 0xD0000 then some 15
  else if a < 0xE0000 then some 12
  else if a < 0xF0000 then some 13
  else if a < 0x100000 then some 14
  else if a < 0x160000 then some 16
  else if 0x180000 ≤ a ∧ a < 0x1B0000 then some (20 + (a - 0x180000) / 0x800)
  else if 0x1C0000 ≤ a ∧ a < 0x1D8000 then some (116 + (a - 0x1C0000) / 0x800)
  else if 0x200000 ≤ a ∧ a < 0x20C000 then some (164 + (a - 0x200000) / 0x200)
  else if 0x1000000 ≤ a ∧ a < 0x1300000 then some (260 + (a - 0x1000000) / 0x8000)
  else if 0x2000000 ≤ a ∧ a < 0x2400000 then some (356 + (a - 0x2000000) / 0x10000)
  else if 0x3000000 ≤ a ∧ a < 0x3010000 then some 17
  else if 0x3100000 ≤ a ∧ a < 0x3120000 then some 18
  else none

/-- The group HP_GRP assigns to engine e (R477). -/
def engGroup (s : State) (e : Nat) : Nat :=
  bits (s.rd (0x20800 + 4 * (e / 8))).toNat (4 * (e % 8) + 2) (4 * (e % 8))

/-- The master number whose pass table judges an access (R477); none for masters that meet no hall pass. -/
def passMaster (s : State) : Master → Option Nat
  | .spi => some 0
  | .twoWire => some 1
  | .debug => some 2
  | .dma _ => some 3
  | .cascade => some 4
  | .engine e => some (8 + engGroup s e.val)
  | .loader => none
  | .coherent => none

/-- The grant of a pass table for a target: 0 none, 1 read, 2 read-write; 3 acts as 1 (R478). -/
def passGrant (s : State) (m g : Nat) : Nat :=
  let v := bits (s.rd (0x20000 + 0x80 * m + 4 * (g / 16))).toNat (2 * (g % 16) + 1) (2 * (g % 16))
  if v = 3 then 1 else v

/-- The hall pass allows a read, or with write a write, at a host address (R479). -/
def passOk (s : State) (m : Master) (write : Bool) (a : Nat) : Bool :=
  match passMaster s m with
  | none => true
  | some k =>
    match passTarget a with
    | none => false
    | some g =>
      if g = 19 ∨ 420 ≤ g then false
      else if write then passGrant s k g == 2 else passGrant s k g != 0

end Sys2Proof.Machine
end

