-- ==== Sys2Proof/Machine/Recess.lean ====
section
/-! DEFINITION. When recess runs (R429), and FC_STATUS as it reads meanwhile. -/
namespace Sys2Proof.Machine

/-- The held condition of a report still stands (R429). -/
def condStands (s : State) (m : Msg) : Bool :=
  let k := m.kind
  if k = K.SL_LOSS then !laneRun s m.inst
  else if k = K.HUB_TRIP then
    if bit m.arg 16 then !laneRun s m.inst || (s.lane m.inst).tripMask != 0
    else bit (s.lane m.inst).tripMask (bits m.arg 15 12)
  else if k = K.CORE_PLL then !s.pwr.pll
  else if k = K.TIME_HOLDOVER then s.fld timeB F.TIME_STATUS_STATE == 3
  else if k = K.BUS_OV then s.flag busB F.BUS_STATUS_OV_LATCH
  else if k = K.HS_LATCH then s.fld busB F.BUS_HS_STATUS_STATE == 7
  else if k = K.ILK_DISCREPANCY then [3, 4].contains (bits (s.rd (supB + R.SUP_ILK_STAT)).toNat (4 * (m.inst % 4) + 2) (4 * (m.inst % 4)))
  else if k = K.ENGINE_DOUBLE then s.fld (engB m.inst) F.ENG_STATUS_STATE == 3
  else false

/-- Recess may run (R429): something is held, no reaction acts or waits, no condition stands, no latch. -/
def recessRuns (s : State) : Bool :=
  s.fc.wide != 0 && s.fc.running.isNone && s.fc.backlog == [] && s.fld fcB F.FC_STATUS_STATE != 3 &&
    !(s.fc.conds.any (condStands s))

/-- FC_STATUS as it reads: while recess counts, RECESS_LEFT is a free value of 1 to FC_RECESS.MS, as the model does not
follow its milliseconds (log entry 1). -/
def fcStatusRead (s : State) : Word × State :=
  let w := s.rd (fcB + R.FC_STATUS)
  if recessRuns s then
    let r := freeBetween s 1 (max 1 (s.fld fcB F.FC_RECESS_MS))
    (fset w F.FC_STATUS_RECESS_LEFT r.1, r.2)
  else (fset w F.FC_STATUS_RECESS_LEFT 0, s)

end Sys2Proof.Machine
end

