-- ==== Sys2Proof/Machine/Nv.lean ====
section
/-! DEFINITION. The non-volatile unit (15_nonvolatile.md, R438 to R463): slate stores, the record array, report cards,
the boot scan and the wear-spread counters. -/
namespace Sys2Proof.Machine

/-- Base of the slate (R24). -/
def slateB : Nat := 0x3000000
/-- Base of the record array (R24). -/
def recB : Nat := 0x3100000

/-- The bytes of the slate as stored (R439). -/
def slateCells (s : State) : List Host.Cell := s.mem.filter (fun c => decide (slateB ≤ c.1) && decide (c.1 < slateB + 0x10000))

/-- The eight words of a gauge's record (R442). -/
def gaugeRecord (s : State) (g : Nat) : List Word :=
  let b := gauB g
  let en := s.flag b F.GAU_CTRL_EN && s.flag b F.GAU_STATUS_VALID
  let q := unint 64 (s.gauge g).q
  [s.rd (b + R.GAU_SOC_REST), s.rd (b + R.GAU_SOC_REP), BitVec.ofNat 32 q, BitVec.ofNat 32 (q / 2 ^ 32),
   s.rd (b + R.GAU_Q_MAX), s.rd (b + R.GAU_CYCLES), s.rd (b + R.GAU_LEARN_INFO),
   BitVec.ofNat 32 (b2n en + 2 * s.fld b F.GAU_LEARN_INFO_INIT)]

/-- The gauge block: 100 records of 8 words, as a sparse table by word (R441). -/
def gaugeBlock (s : State) : List (Nat × Word) :=
  (List.range 100).foldl (fun t g =>
    (List.range 8).foldl (fun t k => sparseSet (fun _ => 0#32) t (8 * g + k) ((gaugeRecord s g).getD k 0#32)) t) []

/-- The CRC-32 of a copy over bytes +0x00004 to +0x10C9F (R441). -/
def shadowCrc (c : Shadow) : Word :=
  let head := wordsBytes [c.seq, c.format, c.stamp.truncate 32, (c.stamp >>> 32).truncate 32, c.epoch, c.imgId, 0#32]
  let block := wordsBytes ((List.range 800).map (fun k => sparseGet (fun _ => 0#32) c.gauges k))
  let slate := (List.range 0x10000).map (fun k => sparseGet (fun _ => 0#8) c.slate (slateB + k))
  crc32 (head ++ block ++ slate)

/-- The committed value of COMMIT (R441). -/
def commitValue : Word := 0x5C0A11ED#32

/-- A copy is valid (R447). -/
def shadowValid (c : Shadow) : Bool :=
  c.commit == commitValue && c.format == BitVec.ofNat 32 (1 + 800 * 2 ^ 16) && c.crc == shadowCrc c

/-- SEQ a is newer than SEQ b: (a − b) mod 2^32 lies in 1 to 2^31 − 1 (R447). -/
def seqNewer (a b : Word) : Bool :=
  let d := (a - b).toNat
  decide (1 ≤ d) && decide (d < 2 ^ 31)

/-- The copy with the newest valid content: 0 none, 1 A, 2 B (R447). -/
def newestCopy (x : NvX) : Nat :=
  let a := shadowValid x.copyA
  let b := shadowValid x.copyB
  if a && b then (if seqNewer x.copyB.seq x.copyA.seq then 2 else 1)
  else if a then 1 else if b then 2 else 0

/-- A copy by number: 2 is B, else A. -/
def nvCopy (x : NvX) (k : Nat) : Shadow := if k = 2 then x.copyB else x.copyA
/-- Set a copy by number. -/
def nvSetCopy (x : NvX) (k : Nat) (c : Shadow) : NvX := if k = 2 then { x with copyB := c } else { x with copyA := c }

/-- Steps 1 to 5 of a store onto copy k (R444): the content is that of the start (R445), COMMIT is 0, the CRC is
written. The stamp is the time of the start. -/
def storeBegin (s : State) (k : Nat) : State :=
  let seq : Word := if s.nv.newest = 0 then 1#32 else (nvCopy s.nv s.nv.newest).seq + 1#32
  let c : Shadow := ⟨0#32, seq, BitVec.ofNat 32 (1 + 800 * 2 ^ 16), s.stamp, s.rd R.SYS_EPOCH, s.rd R.SYS_IMG_ID, gaugeBlock s, slateCells s, 0#32⟩
  let c := { c with crc := shadowCrc c }
  let s1 := { s with nv := { nvSetCopy s.nv k c with storing := k } }
  s1.setFld nvB F.NV_STATUS_STORE_BUSY 1

/-- The copy a store writes: the one that does not hold the newest valid content; A if neither is valid (R444). -/
def storeTarget (s : State) : Nat := if s.nv.newest = 1 then 2 else 1

/-- A power-fail trigger abandons an erase and a record write in progress (R444, R462): the sector stays ERASING, the
record stays unmarked with RESULT 5. -/
def nvAbandon (s : State) : State :=
  let s1 := match s.nv.recw with
    | none => s
    | some _ => (({ s with nv := { s.nv with recw := none } }).setFld nvB F.NV_REC_CTRL_RESULT 5).setFld nvB F.NV_STATUS_REC_BUSY 0
  if s1.nv.erasing = [] then s1
  else ({ s1 with nv := { s1.nv with erasing := [], clearing := false } }).setFld nvB F.NV_STATUS_ERASE_BUSY 0

/-- A store trigger (R443, R444): a power-fail trigger abandons a running store and restarts it on the same copy; any
other trigger that finds one running is merged into one pending store. Before the boot scan has ended the slate is not
loaded: the store waits for it (log entry 53). -/
def nvStore (s : State) (powerFail : Bool) : State :=
  let s0 := if powerFail then nvAbandon s else s
  if s0.flag nvB F.NV_STATUS_READY = false then s0.setFld nvB F.NV_STATUS_PENDING 1
  else if s0.nv.storing ≠ 0 then
    if powerFail then storeBegin s0 s0.nv.storing else s0.setFld nvB F.NV_STATUS_PENDING 1
  else storeBegin s0 (storeTarget s0)

/-- The value of a wear-spread counter: the largest v among its valid cells, or 0 (R457). -/
def cntValue (cells : List (Nat × Word)) (n : Nat) : Nat :=
  (List.range 32).foldl (fun acc c =>
    let v := sparseGet (fun _ => 0xFFFFFFFF#32) cells (64 * n + 2 * c)
    let w := sparseGet (fun _ => 0xFFFFFFFF#32) cells (64 * n + 2 * c + 1)
    if w = ~~~v then max acc v.toNat else acc) 0

/-- Write one cell of a counter: the value word and its complement (R457). -/
def cntCell (cells : List (Nat × Word)) (n c : Nat) (v : Word) : List (Nat × Word) :=
  sparseSet (fun _ => 0xFFFFFFFF#32) (sparseSet (fun _ => 0xFFFFFFFF#32) cells (64 * n + 2 * c) v) (64 * n + 2 * c + 1) (~~~v)

/-- Increment counter n in its next cell; the value saturates (R457). -/
def cntInc (s : State) (n : Nat) : State :=
  let v := cntValue s.nv.cells n
  if v ≥ 0xFFFFFFFF then s
  else
    let s1 := { s with nv := { s.nv with cells := cntCell s.nv.cells n ((v + 1) % 32) (BitVec.ofNat 32 (v + 1)) } }
    s1.wr (nvB + R.NV_CNT + 4 * n) (BitVec.ofNat 32 (v + 1))

/-- Clear counter n: 0 into every cell (R457). -/
def cntClear (s : State) (n : Nat) : State :=
  let cs := (List.range 32).foldl (fun t c => cntCell t n c 0#32) s.nv.cells
  ({ s with nv := { s.nv with cells := cs } }).wr (nvB + R.NV_CNT + 4 * n) 0#32

/-- BP protects a slate offset (R440). -/
def slateProtected (s : State) (off : Nat) : Bool :=
  let bp := s.fld nvB F.NV_PROT_BP
  if bp = 0 then false else if bp = 1 then decide (0xC000 ≤ off) else if bp = 2 then decide (0x8000 ≤ off) else true

/-- The header of a sector (R449); an unlisted header is erased. -/
def secHeader (s : State) (k : Nat) : Word := sparseGet (fun _ => 0xFFFFFFFF#32) s.nv.headers k
/-- Write the header of a sector and show it in NV_SECHDR (R449). -/
def setHeader (s : State) (k : Nat) (v : Word) : State :=
  ({ s with nv := { s.nv with headers := sparseSet (fun _ => 0xFFFFFFFF#32) s.nv.headers k v } }).wr (nvB + R.NV_SECHDR + 4 * k) v

/-- Header values (R449). -/
def hdrErasing : Word := 0xE5E5#32
/-- Header of an erased body (R449). -/
def hdrBlank : Word := 0xB1B1#32
/-- Header of a written body (R449). -/
def hdrUsed : Word := 0x0A0A#32

/-- Sector k lies in the card ring or is the service sector, in the layout in use (R448). -/
def secHardware (s : State) (k : Nat) : Bool :=
  (decide (s.nv.ring ≤ k) && decide (k < s.nv.ring + 16)) || k == s.nv.svc

/-- REC_WP protects sector k: bit j covers sectors 4j to 4j + 3 (R450). -/
def secProtected (s : State) (k : Nat) : Bool := bit (s.fld nvB F.NV_PROT_REC_WP) (k / 4)

/-- A master may write sector k now: user region, not ERASING, not protected (R450). -/
def secWritable (s : State) (k : Nat) : Bool :=
  !secHardware s k && !secProtected s k && secHeader s k != hdrErasing

/-- Write a word of the record array; the first write into a BLANK sector first writes its header as USED (R449). -/
def recPut (s : State) (off : Nat) (v : Word) : State :=
  let k := off / 0x1000
  let s1 := if secHeader s k = hdrBlank then setHeader s k hdrUsed else s
  s1.setMemWord (recB + off) v

/-- A raw write of a word of the record array, or its refusal (R450). -/
def recRaw (s : State) (off : Nat) (v : Word) : State × Bool :=
  if off % 4 = 0 ∧ secWritable s (off / 0x1000) then (recPut s off v, false) else (s, true)

/-- Erase the body of a sector: every byte becomes 0xFF (R438). -/
def eraseBody (s : State) (k : Nat) : State :=
  { s with mem := s.mem.filter (fun c => !(decide (recB + 0x1000 * k ≤ c.1) && decide (c.1 < recB + 0x1000 * (k + 1)))) }

/-- Start or queue the erase of sectors: the first one's header is written as ERASING (R452). -/
def eraseBegin (s : State) (ks : List Nat) : State :=
  match s.nv.erasing ++ ks with
  | [] => s
  | k :: t =>
    let s1 := ({ s with nv := { s.nv with erasing := k :: t } }).setFld nvB F.NV_STATUS_ERASE_BUSY 1
    if s.nv.erasing = [] then setHeader s1 k hdrErasing else s1

/-- NV_ERASE.GO (R452). -/
def nvEraseGo (s : State) (k : Nat) : State :=
  if secHardware s k || secProtected s k then s.setFld nvB F.NV_STATUS_CMD_ERR 1 else eraseBegin s [k]

/-- Show the ring: valid cards, waiting cards, the card that INDEX names (R460). WAITING holds seven at most; the eighth
waiting card has no code in its three bits and reads as a free value (log entry 6). -/
def cardShow (s : State) : State :=
  let n := s.nv.cards.length
  let (w, s1) := if n ≤ 7 then (n, s) else ((s.takeFree).1.toNat % 8, (s.takeFree).2)
  let s2 := (s1.setFld nvB F.NV_CARD_STAT_WAITING w).setFld nvB F.NV_CARD_STAT_VALID s.nv.valid.length
  s2.setFld nvB F.NV_STATUS_CARD_BUSY (b2n (n != 0))

/-- Insert a card into a list ordered newest first. -/
def insNewest (c : Nat × Nat) : List (Nat × Nat) → List (Nat × Nat)
  | [] => [c]
  | d :: t => if d.2 ≤ c.2 then c :: d :: t else d :: insNewest c t

/-- The valid cards of the ring, newest (largest sequence) first (R460). -/
def cardsNewest (s : State) : List (Nat × Nat) := s.nv.valid.foldl (fun l c => insNewest c l) []

/-- Byte offset from the ring start of the index-th newest valid card; 0xFFFF none (R460, log entry 54). -/
def cardOffset (s : State) (index : Nat) : Nat :=
  match (cardsNewest s)[index]? with
  | none => 0xFFFF
  | some c => 256 * c.1

/-- NV_CARD_RD as it reads: the card that INDEX names (R460). -/
def cardRdWord (s : State) : Word :=
  let w := s.rd (nvB + R.NV_CARD_RD)
  fset w F.NV_CARD_RD_OFFSET (cardOffset s (fget w F.NV_CARD_RD_INDEX))

/-- The cards of an erased sector are gone from the ring (R460). -/
def dropCards (s : State) (k : Nat) : State :=
  { s with nv := { s.nv with valid := s.nv.valid.filter (fun (v : Nat × Nat) => s.nv.ring + v.1 / 16 != k) } }

/-- A sector erase completes (R452). CARD_CLEAR goes on to its next sector and at the end sets the next sequence to
counter 14. -/
def eraseEnd (s : State) : State :=
  match s.nv.erasing with
  | [] => s
  | k :: t =>
    let s1 := dropCards (setHeader (eraseBody s k) k hdrBlank) k
    let s2 := { s1 with nv := { s1.nv with erasing := t } }
    match t with
    | j :: _ => setHeader s2 j hdrErasing
    | [] =>
      let s3 := s2.setFld nvB F.NV_STATUS_ERASE_BUSY 0
      if s3.nv.clearing then
        cardShow (({ s3 with nv := { s3.nv with clearing := false } }).wr (nvB + R.NV_CARD_SEQ)
          (BitVec.ofNat 32 (cntValue s3.nv.cells 14)))
      else s3

/-- NV_CTRL.CARD_CLEAR: the 16 ring sectors are erased in turn (R452). -/
def cardClearGo (s : State) : State :=
  let s1 := eraseBegin s ((List.range 16).map (fun k => s.nv.ring + k))
  { s1 with nv := { s1.nv with clearing := true } }

/-- The felts whose bit p holds, as the three words of words 16 to 18 and 19 to 21 of a card (R459). -/
def feltMask (p : Nat → Bool) : List Word :=
  [0, 1, 2].map (fun k => BitVec.ofNat 32 ((List.range 32).foldl (fun acc m => acc + b2n (p (32 * k + m)) * 2 ^ m) 0))

/-- The 64 bits of a fault message (R415). -/
def msgBits (m : Msg) : Nat :=
  m.cls % 16 * 2 ^ 60 + m.inst % 256 * 2 ^ 52 + m.kind % 256 * 2 ^ 44 + m.sev % 16 * 2 ^ 40 + m.count % 256 * 2 ^ 32 + m.arg % 2 ^ 32

/-- The words of a card taken now, with 0 for its sequence and its CRC (R459). The triggering message is 0 for triggers
2, 3 and 5, and SEV is that of the message; fc is FC_STATUS as it reads. -/
def cardWords (s : State) (trigger : Nat) (msg : Option Msg) (fc : Word) : List Word :=
  let q := s.fc.queue.reverse.take 8
  let mb := match msg with
    | none => 0
    | some m => msgBits m
  let sev := match msg with
    | none => 0
    | some m => m.sev
  let lohi := fun (x : Nat) => [BitVec.ofNat 32 x, BitVec.ofNat 32 (x / 2 ^ 32)]
  let ents := q.flatMap (fun e => lohi (msgBits e.msg) ++ lohi e.stamp.toNat)
  [0xCA4D#32, BitVec.ofNat 32 (1 + trigger * 2 ^ 8 + sev * 2 ^ 12 + s.position * 2 ^ 16 + q.length * 2 ^ 20), 0#32] ++
  lohi s.stamp.toNat ++ lohi mb ++
  [s.rd R.SYS_IMG_ID, s.rd R.SYS_EPOCH, fc, s.rd (supB + R.SUP_STATUS), s.rd (busB + R.BUS_STATUS),
   s.rd (busB + R.BUS_MEAS_V), s.rd (supB + R.SUP_DIE_T), s.rd (busB + R.BUS_HS_STATUS), s.rd (nvB + R.NV_SLATE_SEQ)] ++
  feltMask (fun f => s.fld (feltB f) F.FELT_STATUS_STATE == 6) ++ feltMask (fun f => s.fc.heldFelts.contains f) ++
  [0#32, 0#32] ++ (ents ++ List.replicate 32 0#32).take 32 ++
  (List.range 7).map (fun k => s.rd (nvB + R.NV_CARD_USER + 4 * k)) ++ [0#32]

/-- A card trigger (R458): up to eight cards wait, a ninth is counted in LOST. -/
def nvCard (s : State) (trigger : Nat) (msg : Option Msg) : State :=
  if s.nv.cards.length ≥ 8 then s.bump nvB F.NV_CARD_STAT_LOST 1
  else
    let r := fcStatusRead s
    cardShow { r.2 with nv := { r.2.nv with cards := r.2.nv.cards ++ [cardWords r.2 trigger msg r.1] } }

/-- Write words of the record array from an offset upwards. -/
def recPuts (s : State) (off : Nat) : List Word → State
  | [] => s
  | w :: t => recPuts (recPut s off w) (off + 4) t

/-- A sector whose erase was cut short is erased again before any use (R455). -/
def mendSector (s : State) (k : Nat) : State :=
  if secHeader s k = hdrErasing then dropCards (setHeader (eraseBody s k) k hdrBlank) k else s

/-- The oldest waiting card is written into its ring slot, MARK last (R458, R460); not while a store runs or waits, nor
before the boot scan has ended, nor while its sector is being erased. -/
def cardWritten (s : State) : State :=
  match s.nv.cards with
  | [] => s
  | c :: t =>
    let n := (s.rd (nvB + R.NV_CARD_SEQ)).toNat
    let slot := n % 256
    let k := s.nv.ring + slot / 16
    if s.nv.storing ≠ 0 ∨ s.flag nvB F.NV_STATUS_PENDING ∨ s.flag nvB F.NV_STATUS_READY = false ∨ s.nv.erasing.contains k then s
    else
      let body := (c.set 2 (BitVec.ofNat 32 n)).take 63
      let ws := body ++ [crc32 (wordsBytes (body.drop 1))]
      let s1 := recPuts (mendSector s k) (s.nv.ring * 0x1000 + 256 * slot) ws
      let s2 := { s1 with nv := { s1.nv with cards := t, valid := (s1.nv.valid.filter (fun (v : Nat × Nat) => v.1 != slot)) ++ [(slot, n)] } }
      cardShow (cntInc (s2.wr (nvB + R.NV_CARD_SEQ) (BitVec.ofNat 32 (n + 1))) 14)

/-- The sectors a record of len data words at a byte offset touches (R451). -/
def recSectors (off len : Nat) : List Nat :=
  (List.range 32).filter (fun k => decide (off / 0x1000 ≤ k) && decide (k ≤ (off + 4 * (len + 3) - 1) / 0x1000))

/-- NV_REC_CTRL.GO (R451): refusals, the source read under the DMA master's pass, and the start with MARK written 0. -/
def recGo (s : State) : State :=
  if s.fld nvB F.NV_REC_CTRL_RESULT = 1 then s
  else
    let off := s.fld nvB F.NV_REC_ADDR_ADDR
    let len := s.fld nvB F.NV_REC_LEN_LEN
    let src := s.fld nvB F.NV_REC_SRC_SRC
    let ok := off % 4 = 0 ∧ 1 ≤ len ∧ len ≤ 4093 ∧ off + 4 * (len + 3) ≤ 0x20000 ∧ (recSectors off len).all (secWritable s)
    if ok then
      let addrs := (List.range len).map (fun i => src + 4 * i)
      if src % 4 = 0 ∧ addrs.all (fun a => decide (0x2000000 ≤ a) && decide (a < 0x2400000) && passOk s (.dma 0) false a) then
        let s1 := recPut s off 0#32
        let s2 := { s1 with nv := { s1.nv with recw := some ⟨off, s.fld nvB F.NV_REC_CTRL_TAG, addrs.map s.memWord⟩ } }
        (s2.setFld nvB F.NV_REC_CTRL_RESULT 1).setFld nvB F.NV_STATUS_REC_BUSY 1
      else s.setFld nvB F.NV_REC_CTRL_RESULT 4
    else s.setFld nvB F.NV_REC_CTRL_RESULT 2

/-- A host address in the slate (R24). -/
def inSlate (a : Nat) : Bool := decide (0x3000000 ≤ a) && decide (a < 0x3010000)
/-- A host address in the record array (R24). -/
def inRecord (a : Nat) : Bool := decide (0x3100000 ≤ a) && decide (a < 0x3120000)
/-- An access waits: a slate write while a store runs (R445), a slate access or a record-array write before the boot scan has
ended (R456). -/
def busWaits (s : State) (write : Bool) (a : Nat) : Bool :=
  let ready := s.flag nvB F.NV_STATUS_READY
  (inSlate a && (!ready || (write && s.nv.storing != 0))) || (inRecord a && write && !ready)

/-! What is held (R445, R456). -/

/-- A write is held. -/
def nvHold (s : State) (x : NvHeld) : State := { s with nv := { s.nv with held := s.nv.held ++ [x] } }

/-- A register of the unit commands the record array: NV_ERASE, NV_REC_CTRL, or CARD_CLEAR of NV_CTRL. -/
def nvCommand (s : State) (o v : Nat) : State :=
  if o = R.NV_ERASE then nvEraseGo s (v % 32) else if o = R.NV_REC_CTRL then recGo s else cardClearGo s

/-- Such a command acts, or waits for the boot scan (R456; log entry 42). -/
def nvAsk (s : State) (o v : Nat) : State :=
  if s.flag nvB F.NV_STATUS_READY then nvCommand s o v else nvHold s (.command o v)

/-- A held write lands; one that the record array refuses now is reported (R450). -/
def nvLand (s : State) : NvHeld → State
  | .command o v => nvCommand s o v
  | .word m a v =>
    if inSlate a then s.setMemWord a v
    else if (recRaw s (a - recB) v).2 then s.accessReport m a else (recRaw s (a - recB) v).1

/-- Every held write lands, oldest first. -/
def nvRelease (s : State) : State := s.nv.held.foldl nvLand { s with nv := { s.nv with held := [] } }

/-- A store that has waited begins. -/
def pendingStore (s : State) : State :=
  if s.flag nvB F.NV_STATUS_PENDING then
    let s1 := s.setFld nvB F.NV_STATUS_PENDING 0
    storeBegin s1 (storeTarget s1)
  else s

/-- A store reaches its read-back (R444, R446): COMMIT is written when it agrees. What has been held lands, then a
pending store starts. -/
def storeEnd (s : State) (readback : Bool) : State :=
  let k := s.nv.storing
  if k = 0 then s
  else
    let c := nvCopy s.nv k
    let s1 := ({ s with nv := { s.nv with storing := 0 } }).setFld nvB F.NV_STATUS_STORE_BUSY 0
    let s2 :=
      if readback then
        let s2 := { s1 with nv := { nvSetCopy s1.nv k { c with commit := commitValue } with newest := k } }
        cntInc (s2.wr (nvB + R.NV_SLATE_SEQ) c.seq) 13
      else (s1.setFld nvB F.NV_STATUS_STORE_ERR 1).report 0xC 0 K.NV_STORE_FAIL (k - 1)
    pendingStore (nvRelease s2)

/-- The words of a record after MARK: LEN and TAG, the data, the CRC (R451). -/
def recWords (r : RecWrite) : List Word :=
  let body := BitVec.ofNat 32 (r.data.length % 2 ^ 16 + r.tag * 2 ^ 16) :: r.data
  body ++ [crc32 (wordsBytes body)]

/-- A record write ends (R451): every word, then MARK; or a cell that reads back wrong, and no MARK. -/
def recEnd (s : State) (bad : Option Nat) : State :=
  match s.nv.recw with
  | none => s
  | some r =>
    let s1 := recPuts s (r.addr + 4) (recWords r)
    let s2 := ({ s1 with nv := { s1.nv with recw := none } }).setFld nvB F.NV_STATUS_REC_BUSY 0
    match bad with
    | some k => (s2.setFld nvB F.NV_REC_CTRL_RESULT 3).report 0xC 0 K.NV_WRITE_FAIL (recB + r.addr + 4 * k)
    | none => (recPut s2 r.addr 0xA55A#32).setFld nvB F.NV_REC_CTRL_RESULT 0

/-- The layout NV_MAP names, with the default where SVC_SECT lies inside the ring (R448). CARD_BASE other than 16 acts
as 0. -/
def nvLayout (w : Word) : Nat × Nat :=
  let ring := if fget w F.NV_MAP_CARD_BASE = 16 then 16 else 0
  let svc := fget w F.NV_MAP_SVC_SECT
  if ring ≤ svc ∧ svc < ring + 16 then (0, 16) else (ring, svc)

/-- A write of NV_MAP has been stored (R448): a layout with SVC_SECT inside the ring stores the default, which then enters the
digest in its place (R65), and the layout is recorded in the system rows. -/
def nvMapWritten (s : State) : State :=
  let w := s.rd (nvB + R.NV_MAP)
  let ring := if fget w F.NV_MAP_CARD_BASE = 16 then 16 else 0
  let svc := fget w F.NV_MAP_SVC_SECT
  let w' : Word := if ring ≤ svc ∧ svc < ring + 16 then 0x1000#32 else w
  let s1 := cohChange (s.wr (nvB + R.NV_MAP) w') (nvB + R.NV_MAP) w w'
  { s1 with nv := { s1.nv with mapRec := some w' } }

/-- The body of sector k reads all 0xFF: no listed byte lies in it (R455). -/
def bodyBlank (s : State) (k : Nat) : Bool :=
  s.mem.all (fun c => !(decide (recB + 0x1000 * k ≤ c.1) && decide (c.1 < recB + 0x1000 * (k + 1))))

/-- The boot scan judges one header and re-erases a half-erased sector (R455, R456). -/
def scanSector (s : State) (k : Nat) : State :=
  let h := secHeader s k
  if h = hdrBlank ∨ h = hdrUsed then setHeader s k h
  else if h = 0xFFFFFFFF#32 ∧ bodyBlank s k then setHeader s k hdrBlank
  else
    let s1 := (s.bump nvB F.NV_STATUS_HALF_ERASED 1).report 0xC 0 K.NV_HALF_ERASED k
    setHeader (eraseBody s1 k) k hdrBlank

/-- A ring slot holds a card whose MARK and CRC check: its sequence (R460). -/
def cardAt (s : State) (slot : Nat) : Option Nat :=
  let a := recB + s.nv.ring * 0x1000 + 256 * slot
  if s.memWord a = 0xCA4D#32 then
    let body := (List.range 62).map (fun i => s.memWord (a + 4 + 4 * i))
    if s.memWord (a + 252) = crc32 (wordsBytes body) then some (s.memWord (a + 8)).toNat else none
  else none

/-- The valid cards of the ring (R460). -/
def scanCards (s : State) : List (Nat × Nat) :=
  (List.range 256).filterMap (fun k => (cardAt s k).map (fun n => (k, n)))

/-- The service slot at a byte offset of the array: its sequence and SVC_VDM value when it is a valid record (R459). -/
def svcSlot (s : State) (off : Nat) : Option (Nat × Word) :=
  let a := recB + off
  let body := [s.memWord (a + 4), s.memWord (a + 8), s.memWord (a + 12)]
  if s.memWord a = 0xA55A#32 ∧ s.memWord (a + 4) = 0x53560002#32 ∧ s.memWord (a + 16) = crc32 (wordsBytes body) then
    some ((s.memWord (a + 8)).toNat, s.memWord (a + 12))
  else none

/-- The newest valid service record: slot (0 or 1), sequence, value (R459). -/
def svcRecord (s : State) : Option (Nat × Nat × Word) :=
  let a := svcSlot s (s.nv.svc * 0x1000)
  let b := svcSlot s (s.nv.svc * 0x1000 + 0x100)
  match a, b with
  | some (n, v), some (n', v') => if seqNewer (BitVec.ofNat 32 n') (BitVec.ofNat 32 n) then some (1, n', v') else some (0, n, v)
  | some (n, v), none => some (0, n, v)
  | none, some (n, v) => some (1, n, v)
  | none, none => none

/-- Load a shadow copy into the slate SRAM and offer its gauge records (R298); with none, the slate reads zero (R447). -/
def loadSlate (s : State) (k : Nat) : State :=
  let rest := s.mem.filter (fun c => !(decide (slateB ≤ c.1) && decide (c.1 < slateB + 0x10000)))
  if k = 0 then { s with mem := rest, gauRec := [] }
  else (nvCopy s.nv k).slate.foldl (fun s c => s.setByte c.1 c.2) { s with mem := rest, gauRec := (nvCopy s.nv k).gauges }

/-- The steps of the boot scan in order (R456), with the layout last recorded (R448). It runs once after a reset. -/
def bootScanSteps (s : State) : State :=
  let lay := match s.nv.mapRec with
    | none => (0, 16)
    | some w => nvLayout w
  let s0 := { s with nv := { s.nv with ring := lay.1, svc := lay.2 } }
  let s1 := (List.range 32).foldl scanSector s0
  let k := newestCopy s1.nv
  let s2 := loadSlate { s1 with nv := { s1.nv with newest := k } } k
  let s3 := (s2.setFld nvB F.NV_STATUS_SLATE_SRC k).wr (nvB + R.NV_SLATE_SEQ) (if k = 0 then 0#32 else (nvCopy s2.nv k).seq)
  let v := scanCards s3
  let s4 := { s3 with nv := { s3.nv with valid := v } }
  let next := if v = [] then cntValue s4.nv.cells 14 else v.foldl (fun a c => max a c.2) 0 + 1
  let s5 := s4.wr (nvB + R.NV_CARD_SEQ) (BitVec.ofNat 32 next)
  let s6 := (List.range 16).foldl (fun s n => s.wr (nvB + R.NV_CNT + 4 * n) (BitVec.ofNat 32 (cntValue s.nv.cells n))) s5
  cardShow (cntInc { s6 with nv := { s6.nv with scanned := true } } 12)

/-- The boot scan runs after a core-domain reset (R456). -/
def bootScanRun (s : State) : State := if s.nv.scanned then s else bootScanSteps s

/-- The boot scan has ended (R456): READY; what has waited for it lands, and a store that has waited begins. -/
def bootScanEnded (s : State) : State :=
  if s.nv.scanned = false ∨ s.flag nvB F.NV_STATUS_READY then s
  else pendingStore (nvRelease (s.setFld nvB F.NV_STATUS_READY 1))

end Sys2Proof.Machine
end

