-- ==== Sys2Proof/Machine/BusPower.lean ====
section
/-! DEFINITION. The DC bus (R215 to R227): sense and limits, modes, the balancer cycle, hold-up; and the hot-swap
controller at its input (R232 to R235). -/
namespace Sys2Proof.Machine

/-- The volts of a result in millivolts, to the nearest, as a message argument. -/
def milliArg (v : Word) : Nat := (fToIntRne (fMul v (fOfNat 1000))).toNat

/-- VBUS_SRC selects a channel that the device does not have (R215); 3 acts as 0. -/
def vbusAbsent (s : State) (sel : Nat) : Bool :=
  if sel = 2 then false else if sel = 1 then !houseHas s 3 else !houseHas s 1

/-- A BUS_CFG write that would select an absent channel while the bus is on (R215). -/
def busCfgHeld (s : State) (v : Nat) : Bool := busMode s != 0 && vbusAbsent s (v % 4)

/-- The bus voltage of the balancer (R215): the selected sense, the higher reading while SENSE_ERR is set. -/
def vBusNow (s : State) : Word :=
  if s.flag busB F.BUS_STATUS_SENSE_ERR then fMax s.bus.vIn s.bus.vDump
  else
    let sel := busF s F.BUS_CFG_VBUS_SRC
    if sel = 2 then monVolts (s.rd (supB + R.SUP_MON + 4 * busF s F.BUS_CFG_MON)).toNat
    else if sel = 1 then s.bus.vDump else s.bus.vIn

/-- The bus thresholds stand in their order within 40 to 72 V (R216). -/
def busOrderOk (s : State) : Bool :=
  let vs := [R.BUS_V_UV, R.BUS_V_HOLD_END, R.BUS_V_SHED, R.BUS_V_LO, R.BUS_V_SET, R.BUS_V_HI, R.BUS_V_OV].map (busW s)
  (vs.zip (vs.drop 1)).all (fun p => fLt p.1 p.2) && vs.all (fun v => fLe (fOfNat 40) v && fLe v (fOfNat 72))

/-- Gauges named as the shelf's (R222). -/
def shelfGauges (s : State) : List Nat := ((List.range 4).filter (fun k => bit (busF s F.BUS_CFG_SHELF_GAUGE) k)).map (· + 96)
/-- Some shelf gauge shows a level. -/
def shelfShows (s : State) (f : Fld) : Bool := (shelfGauges s).any (fun g => s.flag (gauB g) f)

/-- The bus enters a mode (R219): the admission queue follows. Outside modes 1 to 3 no allowance applies (R147, R220). -/
def setBusMode (s : State) (m : Nat) : State :=
  let s1 := if m = 1 ∨ m = 2 ∨ m = 3 then s else (List.range 96).foldl noAllowance s
  admShow (s1.setFld busB F.BUS_STATUS_MODE m)

/-- The bus starts when EN = 1 and the hot-swap controller is ON (R219): mode 1, its channels start, v_set ramps from the
present v_bus, eta is 1 (R520). -/
def busTry (s : State) : State :=
  if busMode s = 0 ∧ s.flag busB F.BUS_CTRL_EN ∧ s.fld busB F.BUS_HS_STATUS_STATE = 5 then
    let s1 := setBusMode s 1
    let s2 := { busLatch s1 with bus := { (busLatch s1).bus with eta := fOne, excess := false, vSet := busW s1 R.BUS_MEAS_V, ramp := true, ovN := 0, uvTold := false, uvGood := 0, shedLeft := 0 } }
    (natsWhere 8 (houseOfBus s2)).foldl (fun s h => houseTry (s.setFld (hseB h) F.HSE_CTRL_EN 1) h) s2
  else s

/-- The bus enters power-down (R219): its channels go off in their next period and the allocations are 0. -/
def busDown (s : State) : State :=
  let s1 := ((setBusMode s 4).setFld busB F.BUS_ADM_STAT_FROZEN 0).setFld busB F.BUS_STATUS_CAPPED 0
  let s2 := (natsWhere 8 (houseOfBus s1)).foldl houseOffNext s1
  ((s2.wr (busB + R.BUS_P_IN) 0#32).wr (busB + R.BUS_P_SHELF) 0#32).wr (busB + R.BUS_P_DUMP) 0#32

/-- BUS_CTRL has been written with v (R215 to R217, R219); old is its value before. -/
def busCtrlWritten (s : State) (v : Nat) (old : Word) : State :=
  let was := fget old F.BUS_CTRL_EN != 0
  let clear := v.testBit 1
  let wide := match s.fc.running with
    | none => false
    | some r => decide (4 ≤ r.scope)
  let s1 :=
    if clear then
      if fLt (vBusNow s) (busW s R.BUS_V_HI) && !wide then
        (s.setFld busB F.BUS_STATUS_OV_LATCH 0).setFld busB F.BUS_STATUS_CODE 0
      else s.setFld busB F.BUS_STATUS_CODE 2
    else s
  if v.testBit 0 then
    if was then s1
    else if !busOrderOk s1 then (s1.setFld busB F.BUS_CTRL_EN 0).setFld busB F.BUS_STATUS_CODE 1
    else if vbusAbsent s1 (s1.fld busB F.BUS_CFG_VBUS_SRC) then (s1.setFld busB F.BUS_CTRL_EN 0).setFld busB F.BUS_STATUS_CODE 3
    else busTry s1
  else if was ∧ [1, 2, 3].contains (busMode s1) then busDown s1
  else s1

/-- v_bus has stayed in band for 1 ms (R219). -/
def busStarted (s : State) : State :=
  let v := busW s R.BUS_MEAS_V
  if busMode s = 1 ∧ fLe (busW s R.BUS_V_LO) v ∧ fLe v (busW s R.BUS_V_HI) then setBusMode s 2 else s

/-- Every channel of the bus is off (R219): mode 0, their EN is 0. -/
def busDownEnd (s : State) : State :=
  let l := natsWhere 8 (houseOfBus s)
  if busMode s = 4 ∧ l.all (fun h => !houseOn s h) then
    busTry (l.foldl (fun s h => s.setFld (hseB h) F.HSE_CTRL_EN 0) (setBusMode s 0))
  else s

/-- The BUSIN and DUMP readings have differed by more than BUS_SENSE_TOL for 100 µs (R215). -/
def busSense (s : State) : State :=
  let d := fAbs (fSub s.bus.vIn s.bus.vDump)
  if houseHas s 1 ∧ houseHas s 3 ∧ fLt (busW s R.BUS_SENSE_TOL) d ∧ s.flag busB F.BUS_STATUS_SENSE_ERR = false then
    (s.setFld busB F.BUS_STATUS_SENSE_ERR 1).report 6 0 K.BUS_SENSE (milliArg d)
  else s

/-- Bus over-voltage is detected (R217): by the DUMP comparator once an image has set BUS_V_OV, or without a DUMP channel
by two cycles at or above it. A comparator that has not been good since the load is judged 1 ms after it (log entry 135). -/
def busOv (s0 : State) : State :=
  let s := if (houseWith s0 3).isSome ∧ s0.bus.loadOv ∧ ¬ s0.bus.dumpGood then s0.until (s0.bus.loadAt + 1000000) else s0
  let seen : Bool := match houseWith s 3 with
    | some h => s.bus.loadOv && s.flag (hseB h) F.HSE_STATUS_OV
    | none => decide (2 ≤ s.bus.ovN)
  if seen && !s.flag busB F.BUS_STATUS_OV_LATCH then
    (s.setFld busB F.BUS_STATUS_OV_LATCH 1).report 6 0 K.BUS_OV (milliArg (vBusNow s))
  else s

/-- An image that sets BUS_V_OV has been loaded: from the first such load the DUMP comparator serves (R217). -/
def busOvServes (s : State) : State :=
  if s.bus.loadOv then s else { s with bus := { s.bus with loadOv := true, dumpGood := false, loadAt := s.lineNs } }

/-- v_bus has stayed below BUS_V_UV for 10 µs (R218): once per episode. -/
def busUv (s : State) : State :=
  let v := vBusNow s
  if (busMode s = 2 ∨ busMode s = 3) ∧ fLt v (busW s R.BUS_V_UV) ∧ s.bus.uvTold = false then
    { s with bus := { s.bus with uvTold := true, uvGood := 0 } }.report 6 0 K.BUS_UV (milliArg v)
  else s

/-- Hold-up runs out (R227): the argument is 1 for the shelf's final level, 2 for v_bus; none while neither holds. -/
def holdupOut (s : State) : Option Nat :=
  if busMode s ≠ 3 then none
  else if shelfShows s F.GAU_STATUS_EDF then some 1
  else if fLt (busW s R.BUS_MEAS_V) (busW s R.BUS_V_HOLD_END) then some 2
  else none

/-- Hold-up has run out: BUS_HOLDUP, and mode 4 (R227). -/
def holdupEnd (s : State) (arg : Nat) : State := busDown (s.report 6 0 K.BUS_HOLDUP arg)

/-- The felts of a direction that switch (R149, R220). -/
def feltsOf (s : State) (sink : Bool) : List Nat := natsWhere 96 (fun f => feltSwitching s f && (s.felt f).sink == sink)

/-- eta of this cycle (R224, R520): filtered over 10 ms of cycles, held below 1 W. -/
def etaNext (s : State) (pMeas : Word) : Word :=
  if fLt pMeas fOne || fIsNaN pMeas then s.bus.eta
  else
    let q := fSub (fDiv (busW s R.BUS_P_IN) pMeas) s.bus.eta
    fClamp (fAdd s.bus.eta (fMul q (fRatio 1 10000))) (fRatio 1 2) fOne

/-- cap_top() (R224): the cap on p_in and the new eta; 0 in hold-up (R225). The trim may take it below 0; p_in follows it there and
BUSIN is commanded 0 (DEDUCED, log entry 167). -/
def capTop (s : State) (pMeas : Word) : Word × State :=
  let eta := etaNext s pMeas
  let vin := busW s R.BUS_HS_MEAS_VIN
  let cap := busW s R.BUS_CAP_P
  let p := fMin (fMin (busW s R.BUS_IN_PMAX) (fMul eta cap)) (fMul (fMul eta (busW s R.BUS_CAP_I)) vin)
  let ex := fLt cap pMeas
  let q := if ex && s.bus.excess then fMin p (fSub (busW s R.BUS_P_IN) (fSub pMeas cap)) else p
  let s1 := { s with bus := { s.bus with eta := eta, excess := ex } }
  (if busMode s = 3 then 0#32 else q, s1)

/-- v_set of this cycle: the ramp at BUS_START_SLEW while it runs (R219). -/
def vSetStep (s : State) : Word × State :=
  let t := busW s R.BUS_V_SET
  if s.bus.ramp then
    let v := moveTo s.bus.vSet t (fMul (busW s R.BUS_START_SLEW) (fRatio 1 1000))
    (v, { s with bus := { s.bus with vSet := v, ramp := !fEq v t } })
  else (t, s)

/-- p_pref of this cycle: only while the shelf's state of charge is below BUS_SOC_TGT (R220). -/
def pPref (s : State) : Word :=
  match shelfGauges s with
  | [] => 0#32
  | gs =>
    let soc := fMean (gs.map (fun g => s.rd (gauB g + R.GAU_SOC_REP)))
    if fLt soc (busW s R.BUS_SOC_TGT) then busW s R.BUS_P_PREF else 0#32

/-- The allowance of one felt: its share of a room by its own maximum; at or above that it is shown as infinite (R220).
Where the maxima add up to 0 the share is not stated: a free value (log entry 1). -/
def allowance (s : State) (room pmax total : Word) : Word × State :=
  if fIsZero total then s.takeFree
  else
    let a := fDiv (fMul (fMax 0#32 room) pmax) total
    (if fLt a pmax then a else fInf, s)

/-- The allowances of the felts of a direction. -/
def allowances (s : State) (sink : Bool) (room : Word) : State :=
  let fs := feltsOf s sink
  let off := if sink then R.FELT_P_SNK_MAX else R.FELT_P_SRC_MAX
  let shown := if sink then R.FELT_ALLOW_SNK else R.FELT_ALLOW_SRC
  let other := if sink then R.FELT_ALLOW_SRC else R.FELT_ALLOW_SNK
  let total := fSum (fs.map (fun f => feltW s f off))
  fs.foldl (fun s f =>
    let r := allowance s room (feltW s f off) total
    (r.2.wr (feltB f + shown) r.1).wr (feltB f + other) fInf) s

/-- The hold-up priority of a felt (R226). -/
def shedPrio (s : State) (f : Nat) : Nat :=
  bits (busW s (R.BUS_SHED_PRIO + 4 * (f / 8))).toNat (4 * (f % 8) + 3) (4 * (f % 8))

/-- The shed judgement of a hold-up cycle (R226): short means that stage 1 of the supply order is full and a deficit is
left. -/
def shedJudge (s : State) (short : Bool) : State :=
  if busMode s ≠ 3 then s
  else if s.bus.shedLeft ≠ 0 then { s with bus := { s.bus with shedLeft := s.bus.shedLeft - 1 } }
  else if short || fLt (busW s R.BUS_MEAS_V) (busW s R.BUS_V_SHED) then
    let run := natsWhere 96 (fun f => feltSwitching s f && shedPrio s f != 15)
    match run.map (shedPrio s) with
    | [] => s
    | q :: t =>
      let p := t.foldl min q
      let s1 := (run.filter (fun f => shedPrio s f == p)).foldl feltShed s
      { s1 with bus := { s1.bus with shedLeft := max 1 (busF s F.BUS_SHED_INT) - 1 } }.report 6 0 K.BUS_SHED p
  else s

/-- The dump resistor's energy account (R223). -/
def dumpAccount (s : State) (pDump : Word) : State :=
  let us := fRatio 1 1000000
  let e := fMax 0#32 (fSub (fAdd s.bus.energy (fMul pDump us)) (fMul (busW s R.BUS_DUMP_PAVG) us))
  let lim := busW s R.BUS_DUMP_E
  let hot := if fLe lim e then true else if fLe e (fMul lim (fRatio 1 2)) then false else s.flag busB F.BUS_STATUS_DUMP_HOT
  { s with bus := { s.bus with energy := e } }.setFld busB F.BUS_STATUS_DUMP_HOT (b2n hot)

/-- The results of the stages of a balancer cycle (R220). -/
structure Stages where
  pIn : Word
  pShelf : Word
  pDump : Word
  stage : Nat
  short : Bool
  deriving DecidableEq, Repr

/-- The absorb and supply orders (R220). -/
def balance (pIn r chg dis dump top : Word) : Stages :=
  if fLt r 0#32 then
    let s0 := fNeg r
    let a := fMin s0 chg
    let s1 := fSub s0 a
    let b := fMin s1 pIn
    let s2 := fSub s1 b
    let c := fMin s2 dump
    let s3 := fSub s2 c
    ⟨fSub pIn b, fNeg a, c, if fPos s3 then 4 else if fPos c then 3 else if fPos b then 2 else if fPos a then 1 else 0, false⟩
  else
    let a := fMin r dis
    let r1 := fSub r a
    let b := fMin r1 (fSub top pIn)
    let r2 := fSub r1 b
    ⟨fAdd pIn b, a, 0#32, if fPos r2 then 7 else if fPos b then 6 else if fPos a then 5 else 0, fLe dis a && fPos r1⟩

/-- A bus reading (R215): what both channels read. -/
def busSample (s : State) (vIn vDump : Word) : State :=
  let scaled := fun (role : Nat) (v : Word) => match houseWith s role with
    | some h => fMul v (s.rd (hseB h + R.HSE_SCALE_V))
    | none => 0#32
  { s with bus := { s.bus with vIn := scaled 1 vIn, vDump := scaled 3 vDump } }

/-- The bus reading of a cycle (R215, R217, R218): the readings of both channels, the published mean, the counts of the
limits. Without a DUMP channel BUS_OV counts the cycles of modes 1 to 3 (log entry 135). -/
def busRead (s : State) (vIn vDump : Word) : State :=
  let s1 := busSample s vIn vDump
  let v := vBusNow s1
  let s2 := s1.wr (busB + R.BUS_MEAS_V) v
  let good := if fLe (busW s2 R.BUS_V_UV) v then s2.bus.uvGood + 1 else 0
  let ovN := if fLe (busW s2 R.BUS_V_OV) v && [1, 2, 3].contains (busMode s2) then min 2 (s2.bus.ovN + 1) else 0
  { s2 with bus := { s2.bus with uvGood := if 10 ≤ good then 0 else good, uvTold := s2.bus.uvTold && decide (good < 10), ovN := ovN } }

/-- The balancer's part of a cycle in modes 1 to 3 (R220 to R224). -/
def balancerRun (s : State) : State :=
  let pSrcl := fSum ((feltsOf s false).map (fun f => feltW s f R.FELT_MEAS_P))
  let pSnk := fSum ((feltsOf s true).map (fun f => fAbs (feltW s f R.FELT_MEAS_P)))
  let pHouse := fSum ((natsWhere 8 (houseLocal s)).map (fun h => fMul (s.rd (hseB h + R.HSE_MEAS_V)) (s.rd (hseB h + R.HSE_MEAS_I))))
  let vs := vSetStep s
  let pReq := fAdd (fAdd (fSub pSrcl pSnk) pHouse) (fMul (busW s R.BUS_K) (fSub vs.1 (busW s R.BUS_MEAS_V)))
  let pMeas := fMul (busW s R.BUS_HS_MEAS_VIN) (busW s R.BUS_HS_MEAS_I)
  let ct := capTop vs.2 pMeas
  let top := ct.1
  let s1 := ct.2
  let want := fAdd pReq (pPref s1)
  let hold := fun x => fMin (fMax x 0#32) top
  let pIn := hold (moveTo (busW s1 R.BUS_P_IN) (hold want) (fMul (busW s1 R.BUS_IN_SLEW) (fRatio 1 1000)))
  let shelf := houseHas s1 2
  let full := shelfShows s1 F.GAU_STATUS_ECW || shelfShows s1 F.GAU_STATUS_ECF
  let empty := if busMode s1 = 3 then shelfShows s1 F.GAU_STATUS_EDF else shelfShows s1 F.GAU_STATUS_EDW
  let chg := if shelf && !full then busW s1 R.BUS_SHELF_CHG else 0#32
  let dis := if shelf && !empty then busW s1 R.BUS_SHELF_DIS else 0#32
  let dump := if houseHas s1 3 && !s1.flag busB F.BUS_STATUS_DUMP_HOT then busW s1 R.BUS_DUMP_PMAX else 0#32
  let g := balance pIn (fSub pReq pIn) chg dis dump top
  let g := if s1.flag busB F.BUS_STATUS_OV_LATCH then { g with pIn := 0#32, pShelf := 0#32, pDump := 0#32 } else g
  let roomSnk := fAdd (fAdd (fAdd pSrcl pHouse) chg) dump
  let roomSrc := fSub (fAdd (fAdd top dis) pSnk) pHouse
  let s2 := [(R.BUS_P_REQ, pReq), (R.BUS_P_IN, g.pIn), (R.BUS_P_SHELF, g.pShelf), (R.BUS_P_DUMP, g.pDump), (R.BUS_P_INPUT, pMeas),
    (R.BUS_ROOM_SNK, roomSnk), (R.BUS_ROOM_SRC, roomSrc)].foldl (fun s p => s.wr (busB + p.1) p.2) s1
  let s3 := (s2.setFld busB F.BUS_STATUS_STAGE g.stage).setFld busB F.BUS_STATUS_SHELF_FULL (b2n full)
  let s4 := s3.setFld busB F.BUS_STATUS_CAPPED (b2n (busMode s3 != 3 && fLt top want && fLt top (busW s3 R.BUS_IN_PMAX)))
  shedJudge (allowances (allowances (dumpAccount s4 g.pDump) true roomSnk) false roomSrc) g.short

/-- A balancer cycle (R215, R220): what has been written takes effect (R237), a lower C of the admission budget among it (R228);
vIn and vDump are the means of the voltage senses of BUSIN and DUMP over the cycle, in volts at the ball. -/
def balancerCycle (s : State) (vIn vDump : Word) : State :=
  let s1 := busRead (busLatch s) vIn vDump
  if [1, 2, 3].contains (busMode s1) then balancerRun (admCapWritten s1) else s1

/-! The hot-swap controller. -/

/-- STATE of the hot-swap controller. -/
def hsState (s : State) : Nat := s.fld busB F.BUS_HS_STATUS_STATE

/-- The controller enters a state: HS_PG is high in ON alone, the current limit acts in RAMP alone (R233); a return to OFF
starts the window not-good (R232). -/
def hsEnter (s : State) (st : Nat) : State :=
  let s1 := if admWaits s 2 0 then admWithdraw s 2 0 else s
  let s2 := ((s1.setFld busB F.BUS_HS_STATUS_STATE st).setFld busB F.BUS_HS_STATUS_PG (b2n (st == 5))).setFld busB F.BUS_HS_STATUS_LIMIT 0
  if st = 0 then { s2 with bus := { s2.bus with wGood := 0, wBad := 0, ret := false } }.setFld busB F.BUS_HS_STATUS_WIN_GOOD 0 else s2

/-- The controller is held in step 1 by a cabinet-safe reaction or a force-off (R235, R410). -/
def hsHeld (s : State) : Bool := s.fc.heldCab || s.forcedOff

/-- The judgement of WAIT and DELAY (R233). -/
def hsJudge (s : State) : State :=
  let good := s.flag busB F.BUS_HS_STATUS_WIN_GOOD
  if hsState s = 1 ∧ good ∧ hsHeld s = false then hsEnter s 2
  else if hsState s = 2 ∧ (good = false ∨ hsHeld s) then hsEnter s 1
  else s

/-- What holds the controller has changed: held, the gate goes off and it waits in step 1 (R27, R235). -/
def hsApply (s : State) : State :=
  if hsHeld s ∧ [2, 3, 4, 5].contains (hsState s) then hsEnter s 1 else hsJudge s

/-- A hot-swap fault (R234): gate off, HS_FAULT; a cool-down, or LATCHED when the retries are spent. -/
def hsFault (s : State) (code : Nat) : State :=
  let n := s.fld busB F.BUS_HS_STATUS_RETRIES
  let s1 := s.report 6 1 K.HS_FAULT code
  if n < busF s F.BUS_HS_FLT_RETRIES then (hsEnter s1 6).setFld busB F.BUS_HS_STATUS_RETRIES (n + 1)
  else (hsEnter s1 7).report 6 1 K.HS_LATCH n

/-- Input loss (R225): hold-up from modes 1 and 2, the queue frozen, BUSIN's allocation 0; the slate store and a report
card in every mode (R20, R443, R458). -/
def inputLoss (s : State) : State :=
  let s1 := if busMode s = 1 ∨ busMode s = 2 then
      (setBusMode (s.setFld busB F.BUS_ADM_STAT_FROZEN 1) 3).wr (busB + R.BUS_P_IN) 0#32
    else s
  let s2 := { s1 with bus := { s1.bus with ret := true, shedLeft := 0 } }
  nvCard (nvStore s2 true) 2 none

/-- The input returns (R227): mode 2, the queue is released, shed felts restart through admission. -/
def inputBack (s : State) : State :=
  if busMode s = 3 then
    let s1 := setBusMode (s.setFld busB F.BUS_ADM_STAT_FROZEN 0) 2
    (natsWhere 96 (fun f => feltState s1 f == 12)).foldl feltRelease s1
  else busTry s

/-- The window judges a sample (R232), and keeps by which side it became not-good (R235). -/
def hsWindow (s : State) (v : Word) : State :=
  let uvF := fLt v (busW s R.BUS_HS_UV_FALL)
  let ovR := fLt (busW s R.BUS_HS_OV_RISE) v
  let inside := fLe (busW s R.BUS_HS_UV_RISE) v && fLe v (busW s R.BUS_HS_OV_FALL)
  let good := s.flag busB F.BUS_HS_STATUS_WIN_GOOD
  let g := if inside && !good then s.bus.wGood + 1 else 0
  let w := if (uvF || ovR) && good then s.bus.wBad + 1 else 0
  let s1 := { s with bus := { s.bus with wGood := if 4 ≤ g then 0 else g, wBad := if 2 ≤ w then 0 else w } }
  if 4 ≤ g then s1.setFld busB F.BUS_HS_STATUS_WIN_GOOD 1
  else if 2 ≤ w then { s1 with bus := { s1.bus with wUv := uvF } }.setFld busB F.BUS_HS_STATUS_WIN_GOOD 0
  else s1

/-- A sample of HS_VIN, HS_SRC (volts at the balls) and the shunt (mV) (R232, R233, R235, R520): in ON, a window that is not good
takes the gate off, whenever it became so. -/
def hotswapSample (s : State) (vin src shunt : Word) : State :=
  let sc := busW s R.BUS_HS_SCALE
  let v := fMul vin sc
  let s1 := s.wr (busB + R.BUS_HS_MEAS_VIN) v
  let s2 := s1.wr (busB + R.BUS_HS_MEAS_I) (fDiv (fDiv shunt (fOfNat 1000)) (busW s R.BUS_HS_RSNS))
  let s3 := { s2 with bus := { s2.bus with vSrc := fMul src sc } }
  if hsState s3 = 0 then s3
  else
    let w := hsWindow s3 v
    let s4 := if hsState w = 4 then
        w.setFld busB F.BUS_HS_STATUS_LIMIT (b2n (fLt (fRatio (busF s F.BUS_HS_LIM_ILIM) 10) shunt))
      else w
    if hsState s4 = 5 then
      if s4.flag busB F.BUS_HS_STATUS_WIN_GOOD then s4
      else if s4.bus.wUv then inputLoss (hsEnter s4 1)
      else hsFault s4 5
    else hsJudge s4

/-- BUS_HS_CTRL has been written with v (R233, R234); old is its value before. A CLEAR beside the write that takes EN from 1 to 0
is discarded (R33). -/
def hsCtrlWritten (s : State) (v : Nat) (old : Word) : State :=
  let was := fget old F.BUS_HS_CTRL_EN != 0
  let en := v.testBit 0
  let s1 := if v.testBit 1 ∧ hsState s = 7 ∧ ¬ (was ∧ en = false) then hsEnter s (if en then 1 else 0) else s
  if en ∧ hsState s1 = 0 then hsJudge (hsEnter s1 1)
  else if en = false ∧ was ∧ hsState s1 ≠ 7 then hsEnter s1 0
  else s1

/-- The insertion delay ends: the controller asks admission (R233). -/
def hsDelayEnd (s : State) : State :=
  if hsState s = 2 then
    let s1 := (hsEnter s 3)
    admAsk { s1 with bus := { s1.bus with ret := false } } 2 0 (busF s F.BUS_HS_ADMIT_CHARGE) (busF s F.BUS_HS_ADMIT_PRIO)
      (busF s F.BUS_HS_WAIT_WAIT)
  else s

/-- The controller is admitted: RAMP (R233). -/
def hsAdmitted (s : State) : State := if hsState s = 3 then hsEnter s 4 else s

/-- The controller's request timed out: a hot-swap fault (R230, R234). -/
def hsAdmitTimeout (s : State) : State := if hsState s = 3 then hsFault s 4 else s

/-- Power-good has held for 1 ms (R233): ON; the bus starts or returns (R219, R227). -/
def hsPowerGood (s : State) : State :=
  let drop := fSub (busW s R.BUS_HS_MEAS_VIN) s.bus.vSrc
  if hsState s = 4 ∧ s.flag busB F.BUS_HS_STATUS_LIMIT = false ∧ fLt drop (busW s R.BUS_HS_PG_DROP) then inputBack (hsEnter s 5)
  else s

/-- The cool-down ends (R234). -/
def hsCoolEnd (s : State) : State := if hsState s = 6 then hsJudge (hsEnter s 1) else s

end Sys2Proof.Machine
end

