-- ==== Sys2Proof/Machine/PdPort.lean ====
section
/-! DEFINITION. The PD ports (08_cable_ports.md): usability, Type-C states, gates and sets, messages and their sending,
contracts, Hard Reset and ErrorRecovery. Message types and object layouts are those of USB PD Revision 3.2 (PRESUMED, log
entry 21). -/
namespace Sys2Proof.Machine

/-! Bindings, usability and events. -/

/-- The felt that STRUCTURE binds to port n (R47). -/
def portFelt? (s : State) (n : Nat) : Option Nat := (s.portFelt.find? (fun e => e.1 == n)).map (·.2)

/-- Why the port is not usable (R238): 0 it is, 1 unbound, 2 version 1, 3 not declared, 4 felt not running or SEL not 1. A
lane that is not in RUN has negotiated no version. -/
def portWhy (s : State) (n : Nat) : Nat :=
  let l := n / 4
  match portFelt? s n with
  | none => 1
  | some f =>
    if laneRun s l = false ∨ (n % 4 ≠ 0 ∧ s.fld (slB l) F.SL_STATUS_VERSION ≠ 2) then 2
    else if s.fld (slB l) F.SL_HUB_CAPS_PD_PORTS < n % 4 + 1 then 3
    else if feltState s f ≠ 6 ∨ feltSel s f ≠ 1 then 4
    else 0

/-- PD_STATUS as it reads (R238): TC_STATE 7 and the reason while the port is not usable. -/
def pdStatusWord (s : State) (n : Nat) : Word :=
  let w := s.rd (pdB n + R.PD_STATUS)
  let why := portWhy s n
  if why = 0 then w else fset (fset w F.PD_STATUS_TC_STATE 7) F.PD_STATUS_UNUSABLE why

/-- A W1C event bit of port n (R385). -/
def portEvent (s : State) (n bitNo : Nat) : State :=
  s.event (pdB n) ⟨R.PD_EVT, bitNo, bitNo⟩ ⟨R.PD_EVT_EN, bitNo, bitNo⟩ (224 + n)

/-- Change the port's own record. -/
def State.portMod (s : State) (n : Nat) (g : PortX → PortX) : State := s.setPort n (g (s.port n))

/-- Change the record of the port's felt. -/
def portFeltMod (s : State) (n : Nat) (g : FeltX → FeltX) : State :=
  match portFelt? s n with
  | none => s
  | some f => s.setFelt f (g (s.felt f))

/-- Send a PD_CTL packet to the stage end (R86), while the lane runs. -/
def pdTell (s : State) (n code param : Nat) : State :=
  if laneRun s (n / 4) then sideSend s (n / 4) 5 (n % 4 * 2 ^ 14 + code * 2 ^ 8 + param) [] else s

/-- Send a PD_CTL packet: none while the port is not usable (R238). -/
def pdCtl (s : State) (n code param : Nat) : State := if portWhy s n = 0 then pdTell s n code param else s

/-- Send a PD_CTL packet of a port that is usable, or was at its last judgement: what a port is told as it ceases to be usable
(R247, R267; DEDUCED, log entry 101). -/
def pdCtlLast (s : State) (n code param : Nat) : State :=
  if portWhy s n = 0 ∨ (s.port n).live then pdTell s n code param else s

/-- A field of PD_CFG to PD_TIM as it acts (R276): as it stood at the attach, or as it stands while the port is not attached. -/
def portCo (s : State) (n : Nat) (F : Fld) : Nat :=
  match (s.port n).co with
  | [] => s.fld (pdB n) F
  | ws => fget (ws.getD ((F.off - R.PD_CFG) / 4) 0#32) F

/-- A one-bit field of PD_CFG as it acts (R276). -/
def portOn (s : State) (n : Nat) (F : Fld) : Bool := portCo s n F != 0

/-- The attach latches PD_CFG to PD_TIM (R276). -/
def portLatch (s : State) (n : Nat) : State :=
  s.portMod n (fun x => { x with co := (List.range 8).map (fun k => s.rd (pdB n + R.PD_CFG + 4 * k)) })

/-- TC_STATE as the port keeps it: 0 Disabled, 1 Unattached, 2 Attached.SRC, 3 Attached.SNK, 4 ErrorRecovery. -/
def tcState (s : State) (n : Nat) : Nat := s.fld (pdB n) F.PD_STATUS_TC_STATE
/-- The port is attached as source. -/
def isSrc (s : State) (n : Nat) : Bool := tcState s n == 2
/-- The port is attached as sink. -/
def isSnk (s : State) (n : Nat) : Bool := tcState s n == 3
/-- The port is attached. -/
def attached (s : State) (n : Nat) : Bool := isSrc s n || isSnk s n
/-- The VBUS state last reported (R245). -/
def vbusOf (s : State) (n : Nat) : Nat := s.fld (pdB n) F.PD_STATUS_VBUS
/-- An explicit contract is in force: PD_CONTRACT shows it, and PD_STATUS.PD an explicit contract, a transition or a swap. -/
def explicitNow (s : State) (n : Nat) : Bool :=
  decide (2 ≤ s.fld (pdB n) F.PD_STATUS_PD) && decide (s.fld (pdB n) F.PD_CONTRACT_V ≠ 0)

/-! Contract figures and gates. -/

/-- The Type-C current of the port's own Rp in 10 mA (R244); RP_DEF 3 acts as 2. -/
def rpCurrent (s : State) (n : Nat) : Nat :=
  let r := portCo s n F.PD_CFG_RP_DEF
  if r = 0 then 90 else if r = 1 then 150 else 300

/-- Type-C current in 10 mA (R244), as source by RP_DEF, as sink by the partner's Rp. -/
def typeC (s : State) (n : Nat) : Nat :=
  if s.flag (pdB n) F.PD_STATUS_POWER_ROLE then rpCurrent s n
  else
    let r := s.fld (pdB n) F.PD_STATUS_PARTNER_RP
    if r = 0 then 50 else if r = 1 then 150 else 300

/-- The contract that PD_CONTRACT shows. -/
def dealShown (s : State) (n : Nat) : PdDeal :=
  let b := pdB n
  ⟨s.fld b F.PD_CONTRACT_V, s.fld b F.PD_CONTRACT_I, s.fld b F.PD_CONTRACT_KIND, s.fld b F.PD_CONTRACT_OBJ_POS⟩

/-- V_c in mV (R252): the larger of old and new between Accept and PS_RDY. -/
def dealV (s : State) (n : Nat) : Nat :=
  let v := if explicitNow s n then (dealShown s n).v else 5000
  if (s.port n).moving then max v (s.port n).next.v else v
/-- I_c in 10 mA (R252). -/
def dealI (s : State) (n : Nat) : Nat :=
  let i := if explicitNow s n then (dealShown s n).i else typeC s n
  if (s.port n).moving then max i (s.port n).next.i else i
/-- The contract in force is PPS. -/
def dealPps (s : State) (n : Nat) : Bool := explicitNow s n && (dealShown s n).kind == 1

/-- I_clamp in amperes (R252). -/
def iClamp (s : State) (n : Nat) : Word :=
  let i := fRatio (dealI s n) 100
  if dealPps s n then i else fMul i (fAdd fOne (fRatio (portCo s n F.PD_GUARD_OC_PCT) 256))
/-- V_ov in volts (R252). -/
def vOv (s : State) (n : Nat) : Word :=
  fMul (fRatio (dealV s n) 1000) (fAdd fOne (fRatio (portCo s n F.PD_GUARD_OV_PCT) 256))

/-- The port's limits on its felt follow its gates and figures (R239, R240). -/
def portLimits (s : State) (n : Nat) : State :=
  let src := s.flag (pdB n) F.PD_STATUS_GATE_SRC
  let snk := s.flag (pdB n) F.PD_STATUS_GATE_SNK
  portFeltMod s n (fun x => { x with portHi := some (if src then iClamp s n else 0#32), portLo := some (if snk then fRatio (dealI s n) 100 else 0#32), portTrack := !src, portSnk := snk })

/-- Close both gates. -/
def portClose (s : State) (n : Nat) : State :=
  portLimits ((s.setFld (pdB n) F.PD_STATUS_GATE_SRC 0).setFld (pdB n) F.PD_STATUS_GATE_SNK 0) n

/-- The port writes the felt's engine set (R241). -/
def portSet (s : State) (n : Nat) (v iSrc iSnk : Word) : State :=
  match portFelt? s n with
  | none => s
  | some f =>
    let a := feltB f + R.FELT_SP_ENG
    let ws : List Word := [v, 0#32, iSrc, iSnk, fOne, fOfNat 10, 0#32]
    let s1 := (ws.zip (List.range 7)).foldl (fun s p => s.wr (a + 4 * (p.2 + 1)) p.1) s
    let s2 := s1.wr a (BitVec.ofNat 32 (setBits (s1.rd a).toNat 3 0 5))
    setWritten (s2.setFelt f { s2.felt f with portHold := false }) f true

/-- Turn VCONN on or off. -/
def setVconn (s : State) (n : Nat) (on : Bool) : State :=
  pdCtl (s.setFld (pdB n) F.PD_STATUS_VCONN_SRC (b2n on)) n 3 (b2n on)

/-- The source gate opens with the source set (R239, R241); after a Hard Reset VCONN that was on before comes on again (R265). -/
def openSrc (s : State) (n : Nat) : State :=
  let s1 := portSet s n (fOfNat 5) (fRatio (typeC s n) 100) 0#32
  let back := (s.port n).vconnBack
  let s2 := (s1.setFld (pdB n) F.PD_STATUS_GATE_SRC 1).portMod n (fun x => { x with wantSrc := false, vconnBack := false })
  let s3 := portLimits s2 n
  if back then setVconn s3 n true else s3

/-- The sink gate opens, after an attach or a swap to sink with the sink set (R239, R241). -/
def openSnk (s : State) (n : Nat) : State :=
  let s1 := if (s.port n).snkSet then portSet s n (f256 (portCo s n F.PD_SINK_VFLOOR) (fOfNat 5)) 0#32 (fRatio (typeC s n) 100) else s
  let s2 := (s1.setFld (pdB n) F.PD_STATUS_GATE_SNK 1).portMod n (fun x => { x with wantSnk := false, snkSet := false })
  portLimits s2 n

/-- A gate that waits for its VBUS state opens (R245). -/
def openTry (s : State) (n : Nat) : State :=
  let x := s.port n
  if x.wantSrc ∧ vbusOf s n = 0 then openSrc s n
  else if x.wantSnk ∧ vbusOf s n = 2 then openSnk s n
  else s

/-! Messages. -/

/-- The header of a message. -/
def pdHdr (m : List Byte) : Nat := leNat (m.take 2)
/-- A message's type: a control message its code, a data message 32 + code, an extended message 64 + code. -/
def pdKey (m : List Byte) : Nat :=
  let h := pdHdr m
  if h.testBit 15 then 64 + h % 32 else if bits h 14 12 ≠ 0 then 32 + h % 32 else h % 32
/-- A message's MessageID. -/
def pdId (m : List Byte) : Nat := bits (pdHdr m) 11 9
/-- The words of a list of bytes, the last filled up with zeros. -/
def bytesWords : Nat → List Byte → List Word
  | 0, _ => []
  | _, [] => []
  | n + 1, b => BitVec.ofNat 32 (leNat (b.take 4)) :: bytesWords n (b.drop 4)
/-- The data objects of a data message; of an extended message its data as words. -/
def pdObjs (m : List Byte) : List Word := bytesWords 66 (m.drop (if 64 ≤ pdKey m then 4 else 2))
/-- A control message. -/
def ctlMsg (t : Nat) : List Byte := natLE 2 t
/-- A data message. -/
def dataMsg (t : Nat) (objs : List Word) : List Byte := natLE 2 (t + objs.length * 2 ^ 12) ++ objs.flatMap wordBytes
/-- An extended message that carries the bytes d whole. -/
def extMsg (t : Nat) (d : List Byte) : List Byte := natLE 2 (t + 2 ^ 15) ++ natLE 2 d.length ++ d

/-- The next MessageID of a SOP* kind. -/
def idOf (l : List (Nat × Nat)) (sop : Nat) : Option Nat := (l.find? (fun e => e.1 == sop)).map (·.2)
/-- Record a MessageID of a SOP* kind. -/
def idPut (l : List (Nat × Nat)) (sop v : Nat) : List (Nat × Nat) := (sop, v) :: l.filter (fun e => e.1 != sop)

/-- Unchunked Extended Messages Supported, set from PD_CFG.UNCHUNKED in what the port sends (R248): bit 24 of the first object
of capabilities, bit 23 of a Request's. -/
def pdUnchunked (s : State) (n : Nat) (m : List Byte) : List Byte :=
  let key := pdKey m
  let flag := portCo s n F.PD_CFG_UNCHUNKED
  let put := fun (at_ bitNo : Nat) =>
    m.take at_ ++ natLE 4 (setBits (leNat ((m.drop at_).take 4)) bitNo bitNo flag) ++ m.drop (at_ + 4)
  if m.length < 6 then m
  else if key = 33 then put 2 24
  else if key = 34 ∨ key = 41 then put 2 23
  else if key = 81 ∧ 8 ≤ m.length ∧ bits (leNat ((m.drop 2).take 2)) 14 11 = 0 then put 4 24
  else m

/-- A message with the fields that the port fills in: Specification Revision 3.x, MessageID and, on SOP, the roles and
Unchunked Extended Messages Supported (R248). -/
def pdFill (s : State) (n : Nat) (sop : Nat) (m : List Byte) : List Byte :=
  let h := setBits (setBits (pdHdr m) 7 6 2) 11 9 ((idOf (s.port n).txId sop).getD 0)
  let role := fun (F : Fld) => if sop = 0 then s.fld (pdB n) F else 0
  let body := if sop = 0 then pdUnchunked s n m else m
  natLE 2 (setBits (setBits h 8 8 (role F.PD_STATUS_POWER_ROLE)) 5 5 (role F.PD_STATUS_DATA_ROLE)) ++ body.drop 2

/-- Send a message in segments of 32 bytes (R85). -/
def pdSegments (s : State) (n sop : Nat) : Nat → Nat → List Byte → State
  | 0, _, _ => s
  | k + 1, seg, m =>
    let part := m.take 32
    let rest := m.drop 32
    let s1 := sideSend s (n / 4) 4 (n % 4 * 2 ^ 14 + sop * 2 ^ 12 + seg * 2 ^ 8 + b2n (rest = []) * 2 ^ 7 + part.length) (bytesWords 8 part)
    if rest = [] then s1 else pdSegments s1 n sop k (seg + 1) rest

/-- Chunk k of an extended message, 26 bytes of data, filled up to whole objects (R248). -/
def pdChunk (m : List Byte) (k : Nat) : List Byte :=
  let d := m.drop 4
  let part := (d.drop (26 * k)).take 26
  let objs := (2 + part.length + 3) / 4
  natLE 2 (setBits (pdHdr m) 14 12 objs) ++ natLE 2 (d.length + k * 2 ^ 11 + 2 ^ 15) ++ part ++ List.replicate (4 * objs - 2 - part.length) 0#8

/-- The responses that tSenderResponse awaits: those to messages that start an exchange (R266). -/
def wantsAnswer (s : State) (n key : Nat) : Bool :=
  [7, 8, 10, 11, 13, 17, 18, 20, 22, 23, 33, 34, 41, 69, 70, 81].contains key || (key == 80 && isSnk s n)

/-- The message starts an AMS (R244): it asks for an answer, is an Alert, or enters or leaves EPR mode, or goes to the cable. -/
def opensAms (s : State) (n sop : Nat) (m : List Byte) : Bool :=
  let key := pdKey m
  let act := bits ((pdObjs m).getD 0 0#32).toNat 31 24
  sop != 0 || wantsAnswer s n key || key == 38 || (key == 42 && (act == 1 || act == 5))

/-- A PD 3.x source port presents SinkTxNG before a message that starts an AMS, once an explicit contract has been made (R244). -/
def sinkTxNg (s : State) (n : Nat) (t : PdTx) : State :=
  let x := s.port n
  if isSrc s n && x.explicit && decide (s.fld (pdB n) F.PD_STATUS_SPEC = 2) && decide (x.rp ≠ 1) && opensAms s n t.sop t.bytes then
    pdCtl (s.setPort n { x with rp := 1 }) n 0 1
  else s

/-- SinkTxOk again at the end of the AMS (R244): no message is under way or to be sent, no answer, transition, swap or entry is
outstanding. -/
def sinkTxOk (s : State) (n : Nat) : State :=
  let x := s.port n
  let idle := x.cur.isNone && x.outq.isEmpty && x.held.isNone && x.chunkTx.isNone && x.expect == 0 && x.req != 1 && !x.moving &&
    x.swap == 0 && x.vswap == 0 && !x.entering
  if isSrc s n && x.explicit && x.rp == 1 && decide (s.fld (pdB n) F.PD_STATUS_SPEC = 2) && idle then
    pdCtl (s.setPort n { x with rp := 2 }) n 0 2
  else s

/-- A sink port may start an AMS (R244): while its PD 3.x partner presents SinkTxOk; before the first explicit contract always. -/
def sinkMay (s : State) (n : Nat) : Bool :=
  !(s.port n).explicit || decide (s.fld (pdB n) F.PD_STATUS_SPEC ≠ 2) || decide (s.fld (pdB n) F.PD_STATUS_PARTNER_RP = 2)

/-- A Source_Capabilities that is sent is kept for the repetition and counted (R250). -/
def capsSent (s : State) (n : Nat) (t : PdTx) : State :=
  if t.sop = 0 ∧ pdKey t.bytes = 33 then s.portMod n (fun x => { x with capsMsg := some t, capsN := x.capsN + 1 }) else s

/-- The port sends its next message if none is under way: the whole message, or its first chunk where the partner takes
chunks only (R248). A message that finds the lane down is lost (PD_TX_STAT.RESULT 7); a port that is not usable sends none (R238). -/
def portPump (s : State) (n : Nat) : State :=
  let x := s.port n
  match (if portWhy s n = 0 then x.cur else some ⟨0, [], false⟩), x.outq with
  | none, t :: rest =>
    let s1 := capsSent ((sinkTxNg s n t).portMod n (fun y => { y with outq := rest, cur := some t })) n t
    let chunked := decide (64 ≤ pdKey t.bytes) && !s.flag (pdB n) F.PD_STATUS_UNCHUNKED
    let m := if chunked then pdChunk t.bytes 0 else t.bytes
    let s2 := if chunked && decide (26 < t.bytes.length - 4) then s1.portMod n (fun x => { x with chunkTx := some (t, 1) }) else s1
    pdSegments s2 n t.sop 9 0 (pdFill s2 n t.sop m)
  | _, _ => s

/-- Queue a message and send it as soon as the port is free. -/
def portSend (s : State) (n sop : Nat) (m : List Byte) (policy : Bool) : State :=
  portPump (s.portMod n (fun x => { x with outq := x.outq ++ [⟨sop, m, policy⟩] })) n
/-- The port hardware sends a message on SOP. -/
def portSay (s : State) (n : Nat) (m : List Byte) : State := portSend s n 0 m false

/-- The policy's message ends with a result (PD_TX_STAT, TX_DONE). -/
def txResult (s : State) (n r : Nat) : State :=
  portEvent ((s.setFld (pdB n) F.PD_TX_STAT_BUSY 0).setFld (pdB n) F.PD_TX_STAT_RESULT r) n 3

/-- PD_RX_STAT and PD_RX_BUF show the oldest message of the policy's queue (R249). -/
def showRx (s : State) (n : Nat) : State :=
  let b := pdB n
  let q := (s.port n).rxq
  let s1 := (s.setFld b F.PD_RX_STAT_FULL (b2n (q != []))).setFld b F.PD_RX_STAT_QUEUED (q.length - 1)
  match q with
  | [] => s1
  | (sop, m) :: _ =>
    let s2 := (s1.setFld b F.PD_RX_STAT_SOP sop).setFld b F.PD_RX_STAT_LEN m.length
    let ws := bytesWords 66 m
    (List.range 66).foldl (fun s k => s.wr (b + R.PD_RX_BUF + 4 * k) (ws.getD k 0#32)) s2

/-! Forgetting, ErrorRecovery, Unattached. -/

/-- Discard any contract, EPR mode, message, admission request and what the partner has set (R246, R247, R248, R265). -/
def portForget (s : State) (n : Nat) : State :=
  let b := pdB n
  let x := s.port n
  let s1 := if x.admFor ≠ 0 then admWithdraw s 1 n else s
  let busy := s1.flag b F.PD_TX_STAT_BUSY
  let s2 := ((((s1.wr (b + R.PD_CONTRACT) 0#32).setFld b F.PD_STATUS_EPR 0).setFld b F.PD_STATUS_HOLD_WAIT 0).setFld b F.PD_STATUS_UNCHUNKED 0).wr (b + R.PD_ADM_STAT) 0#32
  let s3 := s2.setPort n { x with txId := [], rxId := [], inbox := [], rxq := [], outq := [], cur := none, held := none, req := 0, admFor := 0, admW := 0, lateW := 0, moving := false, waited := false, expect := 0, swap := 0, vswap := 0, disc := false, entering := false, chunkTx := none, chunkRx := none, wantSrc := false, wantSnk := false, hr := 0, detaching := false, vconnBack := false, reqDue := false, aliveDue := false, answering := false }
  let s4 := portFeltMod s3 n (fun x => { x with portHold := false, portSet := none, portWant := false })
  let s5 := showRx s4 n
  if busy then txResult s5 n 1 else s5

/-- The role's Present or Toggle command (R247): the port is Unattached. -/
def portPresent (s : State) (n : Nat) : State :=
  let b := pdB n
  let role := s.fld b F.PD_CFG_ROLE
  let rp := min 2 (s.fld b F.PD_CFG_RP_DEF)
  let s1 := (s.setFld b F.PD_STATUS_TC_STATE 1).setFld b F.PD_STATUS_PD 0
  let s2 := s1.portMod n (fun x => { x with co := [], rp := rp, explicit := false, hrSeen := false, caps := [], capsMsg := none, capsN := 0, theirs := [], lastReq := none })
  if role = 0 then pdCtl s2 n 0 rp
  else if role = 1 then pdCtl s2 n 1 (s.fld b F.PD_CFG_DB_RD)
  else pdCtl s2 n 2 (if role = 3 then 1 else 0)

/-- ErrorRecovery (R247) with a cause: the stage end is told, both gates close, VCONN is off. With free the port does not
wait for vSafe0V (R267). -/
def portError (s : State) (n cause : Nat) (free : Bool) : State :=
  let b := pdB n
  let s1 := portForget s n
  let s2 := ((s1.setFld b F.PD_STATUS_TC_STATE 4).setFld b F.PD_STATUS_CAUSE cause).setFld b F.PD_STATUS_PD 0
  let s3 := ((s2.setFld b F.PD_STATUS_VCONN_SRC 0).bump b F.PD_CNT_ERROR_RECOVERIES 1).portMod n (fun x => { x with er := if free then 2 else 1, co := [] })
  portEvent (pdCtlLast (portClose s3 n) n 7 0) n 13

/-- tErrorRecovery has passed, and vSafe0V is reported (R247): Unattached, or Disabled with EN = 0. -/
def portErrorEnd (s : State) (n : Nat) : State :=
  let x := s.port n
  if tcState s n = 4 ∧ x.er ≠ 0 ∧ (x.er = 2 ∨ vbusOf s n = 0) then
    let s1 := s.setPort n { x with er := 0 }
    if s1.flag (pdB n) F.PD_CTRL_EN ∧ portWhy s1 n = 0 then portPresent s1 n
    else (s1.setFld (pdB n) F.PD_STATUS_TC_STATE (b2n (s1.flag (pdB n) F.PD_CTRL_EN)))
  else s

/-- Back to Unattached after a Detach (R246). -/
def detachEnd (s : State) (n : Nat) : State :=
  portPresent ((pdCtl s n 6 0).portMod n (fun x => { x with detaching := false })) n

/-- A PD_EVT Detach (R246); discarded where the port is not usable (R238). -/
def portDetach (s : State) (n : Nat) : State :=
  if attached s n ∧ portWhy s n = 0 then
    let src := isSrc s n
    let s1 := portEvent (setVconn (portClose (portForget s n) n) n false) n 1
    if src then
      let s2 := pdCtl s1 n 6 1
      if vbusOf s2 n = 0 then detachEnd s2 n else s2.portMod n (fun x => { x with detaching := true })
    else portPresent s1 n
  else s

/-! Admission (R19, R229, R253). -/

/-- Power in 10 µW of a voltage in mV and a current in 10 mA. -/
def powerOf (v i : Nat) : Nat := v * i
/-- P_NOW (R253). -/
def powerNow (s : State) (n : Nat) : Nat := powerOf (if explicitNow s n then (dealShown s n).v else 5000) (if explicitNow s n then (dealShown s n).i else typeC s n)

/-- The request of the port is granted (R253, R265): the contract's grant is shown, default power is supplied once VBUS allows
the gate to open (R245). -/
def portGranted (s : State) (n : Nat) : State :=
  let x := s.port n
  let b := pdB n
  let s1 := s.setPort n { x with admFor := 0 }
  if x.admFor = 1 then
    portEvent ((s1.setFld b F.PD_ADM_STAT_GRANT_W x.admW).setFld b F.PD_ADM_STAT_STATE 2) n 7
  else if x.admFor = 2 ∨ x.admFor = 3 then
    openTry (s1.portMod n (fun y => { y with wantSrc := true, hr := 0 })) n
  else s1

/-- Ask admission for a power of p in 10 µW above what is in force (R229, R253); a zero charge is granted at once. -/
def portAsk (s : State) (n why watts p : Nat) : State :=
  let q := portCo s n F.PD_ADMIT_Q_PER_W * p / 100000
  let s0 := if (s.port n).admFor ≠ 0 then admWithdraw s 1 n else s
  let s1 := s0.portMod n (fun x => { x with admFor := why, admW := watts })
  if q = 0 then portGranted s1 n
  else admAsk s1 1 n q (portCo s n F.PD_ADMIT_PRIO) (portCo s n F.PD_ADMIT_WAIT_WAIT)

/-- Ask admission for 5 V at the Type-C current (R265, worked example of R267). -/
def portAskDefault (s : State) (n why : Nat) : State := portAsk s n why 0 (powerOf 5000 (typeC s n))

/-! Hard Reset (R265) and Soft_Reset (R266). -/

/-- Hard Reset, sent or received (R265), where the port is usable (R238). A second one without an explicit contract in between is ErrorRecovery. -/
def hardReset (s : State) (n : Nat) (send : Bool) : State :=
  if attached s n ∧ portWhy s n = 0 then
    let b := pdB n
    let again := (s.port n).hrSeen
    let src := isSrc s n
    let s1 := (portForget s n).bump b F.PD_CNT_HARD_RESETS 1
    let s2 := portEvent (if send then pdCtl s1 n 4 0 else s1) n 5
    if again then portError s2 n 6 false
    else
      let s3 := (s2.setFld b F.PD_STATUS_PD 1).portMod n (fun x => { x with hrSeen := true, explicit := false, hr := if src then 1 else 5 })
      let rp := min 2 (portCo s n F.PD_CFG_RP_DEF)
      if src then
        let s4 := portLimits s3 n
        if (s.port n).rp = rp then s4 else pdCtl (s4.portMod n (fun x => { x with rp := rp })) n 0 rp
      else
        let s4 := portClose s3 n
        if vbusOf s4 n = 0 then s4.portMod n (fun x => { x with hr := 6 }) else s4
  else s

/-- tPSHardReset has passed (R265): the gate closes, VBUS is discharged, VCONN is off, to come on again if it was on. -/
def hardResetGate (s : State) (n : Nat) : State :=
  if (s.port n).hr = 1 then
    let s1 := setVconn (pdCtl (portClose s n) n 6 1) n false
    s1.portMod n (fun x => { x with hr := if vbusOf s n = 0 then 3 else 2, vconnBack := s.flag (pdB n) F.PD_STATUS_VCONN_SRC })
  else s

/-- tSrcRecover has passed (R265): admission for default power. -/
def hardResetRecover (s : State) (n : Nat) : State :=
  if (s.port n).hr = 3 then
    portAskDefault ((pdCtl s n 6 0).portMod n (fun x => { x with hr := 4 })) n 3
  else s

/-- Soft_Reset discards the queued messages (R266), and a PR_Swap that has been asked and not accepted ends: a message of the policy that still waited to be sent, or for its next
chunk, ends as discarded. -/
def softClear (s : State) (n : Nat) : State :=
  let x := s.port n
  let lost := x.outq.any (fun t => t.policy) || (x.cur.isNone && x.chunkTx.any (fun e => e.1.policy))
  let s1 := s.setPort n { x with txId := idPut x.txId 0 0, inbox := [], outq := [], rxq := [], chunkTx := none, chunkRx := none, expect := 0, req := 0, swap := if x.swap = 10 ∨ x.swap = 11 then 0 else x.swap }
  let s2 := showRx s1 n
  if lost then txResult s2 n 1 else s2

/-- The port's own VCONN_Swap has failed (R257): the cable counts as 3 A SPR. -/
def vconnSwapFails (s : State) (n : Nat) : State :=
  if (s.port n).vswap = 2 then
    let s1 := (s.setFld (pdB n) F.PD_CABLE_CABLE_5A 0).setFld (pdB n) F.PD_CABLE_CABLE_EPR 0
    (s1.setFld (pdB n) F.PD_CABLE_VALID 1).portMod n (fun x => { x with vswap := 0 })
  else s

/-- The port is between Accept and PS_RDY (R266): of a contract change, of a PR_Swap or VCONN_Swap, or with a PS_RDY still to be
sent. -/
def betweenAccept (s : State) (n : Nat) : Bool :=
  let x := s.port n
  x.moving || (decide (1 ≤ x.swap) && decide (x.swap ≤ 5)) || x.vswap == 1 ||
    (x.cur.toList ++ x.outq ++ x.held.toList).any (fun t => t.sop == 0 && pdKey t.bytes == 6)

/-- A Soft_Reset is sent; between Accept and PS_RDY a Hard Reset instead (R266). -/
def softResetSend (s : State) (n : Nat) : State :=
  if betweenAccept s n then hardReset s n true
  else
    let s1 := (vconnSwapFails s n).portMod n (fun x => { x with rxId := x.rxId.filter (fun e => e.1 != 0) })
    portSay (softClear s1 n) n (ctlMsg 13)

/-- The source sends its capabilities again (R250, R266): those the policy last sent. -/
def resendCaps (s : State) (n : Nat) : State :=
  match (s.port n).capsMsg with
  | none => s
  | some t => portSend s n t.sop t.bytes false

/-- Capabilities of a port whose policy has sent none: 5 V at the Type-C current (R259; DESIGN CHOICE, log entry 169). -/
def defaultCaps (s : State) (n : Nat) : List Byte :=
  dataMsg 1 [BitVec.ofNat 32 (100 * 2 ^ 10 + rpCurrent s n + b2n (decide (2 ≤ portCo s n F.PD_CFG_ROLE)) * 2 ^ 29)]

end Sys2Proof.Machine
end

