-- ==== Sys2Proof/Machine/PdMsg.lean ====
section
/-! DEFINITION. What PD ports do with messages and timers (R246 to R268): contracts, swaps, cable discovery, EPR mode, the
policy's messages and the commands of the stage end. -/
namespace Sys2Proof.Machine

/-! Contracts. -/

/-- The contract that a Request names among the offered objects (R253): none where it names none, or an object of a kind that
is not offered (R251). -/
def dealOf (objs : List Word) (rdo : Word) : Option PdDeal :=
  let r := rdo.toNat
  let pos := bits r 31 28
  match (if pos = 0 then none else objs[pos - 1]?) with
  | none => none
  | some o =>
    let t := bits o.toNat 31 28
    if t / 4 = 0 then (if o = 0#32 then none else some ⟨50 * bits o.toNat 19 10, bits r 19 10, 0, pos⟩)
    else if t = 12 then some ⟨20 * bits r 20 9, 5 * bits r 6 0, 1, pos⟩
    else if t = 13 then some ⟨25 * bits r 20 9, 5 * bits r 6 0, 2, pos⟩
    else none

/-- A contract lies within R251, PD_LIM and the felt's limits, with a Revision 2.0 partner within the SPR fixed ones (R248). -/
def dealOk (s : State) (n : Nat) (d : PdDeal) : Bool :=
  let b := pdB n
  let cable5 := d.i ≤ 300 || s.flag b F.PD_CABLE_CABLE_5A
  let epr := s.flag b F.PD_STATUS_EPR && s.flag b F.PD_CABLE_CABLE_EPR
  let kind :=
    if d.kind = 0 then
      (([5000, 9000, 15000, 20000].contains d.v && cable5) || ([28000, 36000, 48000].contains d.v && portOn s n F.PD_CFG_EPR_EN && epr))
    else if d.kind = 1 then portOn s n F.PD_CFG_PPS_EN && cable5 && decide (3300 ≤ d.v ∧ d.v ≤ 21000)
    else portOn s n F.PD_CFG_AVS_EN && epr && decide (15000 ≤ d.v ∧ d.v ≤ 48000 ∧ d.v % 100 = 0)
  let rev := s.fld b F.PD_STATUS_SPEC ≠ 1 || (d.kind == 0 && d.v ≤ 20000)
  let lim := decide (d.v ≤ 10 * portCo s n F.PD_LIM_V_MAX ∧ d.i ≤ portCo s n F.PD_LIM_I_MAX ∧ powerOf d.v d.i ≤ 100000 * portCo s n F.PD_LIM_P_MAX)
  let felt := match portFelt? s n with
    | none => false
    | some f => fLe (fRatio d.v 1000) (feltW s f R.FELT_V_MAX) &&
        fLe (fRatio d.i 100) (feltW s f (if s.flag b F.PD_STATUS_POWER_ROLE then R.FELT_I_SRC_MAX else R.FELT_I_SNK_MAX))
  kind && rev && lim && felt

/-- An offered object lies within R251 and PD_LIM at its greatest voltage and current (RESULT 3); a Revision 2.0 partner is
offered SPR fixed supplies only (R248). -/
def offerOk (s : State) (n : Nat) (o : Word) : Bool :=
  let w := o.toNat
  let t := bits w 31 28
  let b := pdB n
  let vm := 10 * portCo s n F.PD_LIM_V_MAX
  let im := portCo s n F.PD_LIM_I_MAX
  let rev2 := s.fld b F.PD_STATUS_SPEC = 1
  if o = 0#32 then true
  else if rev2 ∧ (t / 4 ≠ 0 ∨ 20000 < 50 * bits w 19 10) then false
  else if t / 4 = 0 then
    let v := 50 * bits w 19 10
    [5000, 9000, 15000, 20000, 28000, 36000, 48000].contains v && decide (v ≤ vm ∧ bits w 9 0 ≤ im ∧ v * bits w 9 0 ≤ 100000 * portCo s n F.PD_LIM_P_MAX) &&
      (decide (bits w 9 0 ≤ 300) || s.flag b F.PD_CABLE_CABLE_5A) && (decide (v ≤ 20000) || (portOn s n F.PD_CFG_EPR_EN && s.flag b F.PD_CABLE_CABLE_EPR))
  else if t = 12 then
    portOn s n F.PD_CFG_PPS_EN && decide (100 * bits w 24 17 ≤ min vm 21000 ∧ 5 * bits w 6 0 ≤ im) && (decide (5 * bits w 6 0 ≤ 300) || s.flag b F.PD_CABLE_CABLE_5A)
  else if t = 13 then
    portOn s n F.PD_CFG_AVS_EN && s.flag b F.PD_CABLE_CABLE_EPR && decide (100 * bits w 25 17 ≤ min vm 48000 ∧ bits w 7 0 ≤ portCo s n F.PD_LIM_P_MAX)
  else false

/-- PS_RDY: the contract that was being made is in force (R252, R254, R255). -/
def dealDone (s : State) (n : Nat) : State :=
  let b := pdB n
  let x := s.port n
  let d := x.next
  let w := d.v % 2 ^ 16 + d.i % 2 ^ 10 * 2 ^ 16 + d.kind * 2 ^ 26 + d.pos % 16 * 2 ^ 28
  let s1 := ((s.wr (b + R.PD_CONTRACT) (BitVec.ofNat 32 w)).setFld b F.PD_STATUS_PD 2).wr (b + R.PD_ADM_STAT) 0#32
  let s2 := s1.setPort n { x with moving := false, explicit := true, hrSeen := false, lateW := 0, waited := false }
  let s3 := portEvent (portLimits (portFeltMod s2 n (fun y => { y with portHold := false })) n) n 4
  if isSrc s3 n ∧ s3.fld b F.PD_STATUS_SPEC = 2 then pdCtl (s3.portMod n (fun x => { x with rp := 2 })) n 0 2 else s3

/-- Accept of a contract change: the figures widen (R252); as source the policy's sets are held (R253). -/
def dealMove (s : State) (n : Nat) : State :=
  let s1 := (s.setFld (pdB n) F.PD_STATUS_PD 3).portMod n (fun x => { x with moving := true, req := 0 })
  let s2 := if isSrc s1 n then portFeltMod s1 n (fun x => { x with portHold := true, portSet := none, portWant := true, portAt := none }) else s1
  portLimits s2 n

/-- tSrcTransition has passed (R253, R259): the held set applies, or a swap to sink closes the source gate. -/
def srcTransition (s : State) (n : Nat) : State :=
  let x := s.port n
  if x.swap = 1 then
    -- the contract ends with the power role (R252)
    (pdCtl (portClose (s.wr (pdB n + R.PD_CONTRACT) 0#32) n) n 6 1).portMod n (fun x => { x with swap := 2 })
  else if x.moving ∧ isSrc s n then
    match portFelt? s n with
    | none => s
    | some f =>
      let y := s.felt f
      let s1 := s.setFelt f { y with portHold := false, portSet := none }
      match y.portSet with
      | none => s1
      | some t =>
        let s2 := s1.setFelt f { s1.felt f with eng := some t }
        if feltSel s2 f = 1 then sourceApply s2 f else s2
  else s

/-- A held PS_RDY may be sent (R254): the contract's set has been applied, and IN_REG stands at an update at least
FELT_PG.TIME × 10 µs after. -/
def psRdyReady (s : State) (n : Nat) : Bool :=
  match portFelt? s n, (s.port n).held with
  | some f, some _ =>
    let y := s.felt f
    (match y.portAt with
     | none => false
     | some k => decide (k + 1000 * s.fld (feltB f) F.FELT_PG_TIME ≤ y.vFrames)) && s.flag (feltB f) F.FELT_STATUS_IN_REG && !y.portHold
  | _, _ => false

/-- Release a held PS_RDY where R254 holds. -/
def psRdyRelease (s : State) (n : Nat) : State :=
  match (s.port n).held with
  | some t =>
    if psRdyReady s n then
      portPump (s.portMod n (fun x => { x with held := none, outq := x.outq ++ [t] })) n
    else s
  | none => s

/-- The ports whose felt is f. -/
def portsOf (s : State) (f : Nat) : List Nat := natsWhere 48 (fun n => portFelt? s n == some f)

/-! Transmission. -/

/-- A PR_Swap has been accepted (R259): a source waits tSrcTransition, a sink closes its gate and its contract ends (R252). -/
def swapBegins (s : State) (n : Nat) : State :=
  let s1 := s.setFld (pdB n) F.PD_STATUS_PD 4
  if isSrc s1 n then s1.portMod n (fun x => { x with swap := 1 })
  else (portClose (s1.wr (pdB n + R.PD_CONTRACT) 0#32) n).portMod n (fun x => { x with swap := 4 })

/-- What a message does once its GoodCRC has come (R252 to R261). -/
def portSent (s : State) (n : Nat) (t : PdTx) : State :=
  let key := pdKey t.bytes
  let b := pdB n
  let x := s.port n
  let s := if wantsAnswer s n key ∧ t.sop = 0 then s.portMod n (fun x => { x with expect := key }) else s
  if t.sop ≠ 0 then s
  else if key = 33 ∨ key = 81 then s.portMod n (fun x => { x with caps := pdObjs t.bytes })
  else if key = 34 ∨ key = 41 then
    let d := (dealOf x.theirs ((pdObjs t.bytes).getD 0 0#32)).getD ⟨0, 0, 0, 0⟩
    s.portMod n (fun x => { x with lastReq := some t, waited := false, reqDue := false, answering := false, next := d })
  else if key = 3 ∧ t.policy then
    if x.swap = 10 then swapBegins s n
    else if x.req ≠ 0 then dealMove s n
    else s
  else if (key = 4 ∨ key = 12) ∧ t.policy then s.portMod n (fun x => { x with req := 0, swap := if x.swap = 10 then 0 else x.swap })
  else if key = 6 ∧ t.policy ∧ x.moving then dealDone s n
  else if key = 10 then s.portMod n (fun x => { x with swap := 11 })
  else if key = 11 then s.portMod n (fun x => { x with vswap := 2 })
  else if key = 42 then
    let act := bits ((pdObjs t.bytes).getD 0 0#32).toNat 31 24
    if act = 3 then portEvent ((s.setFld b F.PD_STATUS_EPR 1).portMod n (fun x => { x with entering := false })) n 12
    else if act = 1 ∨ act = 2 then s.portMod n (fun x => { x with entering := true })
    else if act = 5 ∨ act = 4 then (s.setFld b F.PD_STATUS_EPR (if act = 5 then 0 else s.fld b F.PD_STATUS_EPR)).portMod n (fun x => { x with entering := false })
    else s
  else s

/-- A failed transmission: a Soft_Reset, or between Accept and PS_RDY a Hard Reset (R266); a Soft_Reset that fails is a Hard
Reset (PRESUMED, log entry 21). A message to a cable only fails. -/
def txFailed (s : State) (n : Nat) (t : PdTx) (r : Nat) : State :=
  let s1 := s.bump (pdB n) F.PD_CNT_TX_FAILS 1
  let s2 := if t.policy then txResult s1 n r else s1
  -- a VCONN_Swap of the port that is not heard is a failed swap (R257)
  let s2 := if t.sop = 0 ∧ pdKey t.bytes = 11 then vconnSwapFails (s2.portMod n (fun x => { x with vswap := 2 })) n else s2
  if t.sop ≠ 0 then portPump s2 n
  else if pdKey t.bytes = 13 ∨ pdKey t.bytes = 6 then hardReset s2 n true
  else softResetSend s2 n

/-- A PD_EVT gives the result of a transmission (R86): 0 GoodCRC, 1 discarded, 2 no GoodCRC. Discarded where the port is not
usable (R238). -/
def transmitResult (s : State) (n r : Nat) : State :=
  let x := s.port n
  match (if portWhy s n = 0 then x.cur else none) with
  | none => s
  | some t =>
    let id := (idOf x.txId t.sop).getD 0
    let s1 := s.setPort n { x with cur := none }
    if r = 0 then
      let s2 := s1.portMod n (fun x => { x with txId := idPut x.txId t.sop ((id + 1) % 8) })
      match x.chunkTx with
      | some _ => s2
      | none =>
        let s3 := portSent s2 n t
        portPump (if t.policy then txResult s3 n 0 else s3) n
    else if r = 1 then
      let s2 := s1.portMod n (fun x => { x with chunkTx := none })
      portPump (if t.policy then txResult s2 n 1 else s2) n
    else txFailed (s1.portMod n (fun x => { x with chunkTx := none })) n t 2

/-- An outbound message was lost with the side channel (R92, R266). -/
def txLost (s : State) (n : Nat) : State :=
  let x := s.port n
  match x.cur with
  | none => s
  | some t => txFailed (s.setPort n { x with cur := none, chunkTx := none }) n t 7

/-! Reception. -/

/-- A whole message enters the port's inbox. -/
def portIn (s : State) (n sop : Nat) (m : List Byte) : State := s.portMod n (fun x => { x with inbox := x.inbox ++ [(sop, m)] })

/-- A chunk of an extended message (R248): a requested one is sent, a received one is joined and the next asked for. -/
def chunkIn (s : State) (n sop : Nat) (m : List Byte) : State :=
  let eh := leNat ((m.drop 2).take 2)
  let k := bits eh 14 11
  let size := bits eh 8 0
  if eh.testBit 10 then
    match (s.port n).chunkTx with
    | none => s
    | some (t, _) =>
      let last := decide (t.bytes.length - 4 ≤ 26 * (k + 1))
      let s1 := s.portMod n (fun x => { x with cur := some t, chunkTx := if last then none else some (t, k + 1) })
      pdSegments s1 n t.sop 9 0 (pdFill s1 n t.sop (pdChunk t.bytes k))
  else
    let part := (m.drop 4).take (min 26 (size - 26 * k))
    let got := if k = 0 then part else ((s.port n).chunkRx.map (·.2)).getD [] ++ part
    if size ≤ got.length then
      let whole := natLE 2 (setBits (pdHdr m) 14 12 0) ++ natLE 2 size ++ got
      portIn (s.portMod n (fun x => { x with chunkRx := none })) n sop whole
    else
      let s1 := s.portMod n (fun x => { x with chunkRx := some (sop, got) })
      portSend s1 n sop (natLE 2 (2 ^ 15 + 2 ^ 12 + pdHdr m % 32) ++ natLE 2 ((k + 1) * 2 ^ 11 + 2 ^ 10 + 2 ^ 15) ++ [0#8, 0#8]) false

/-- A whole PD message has arrived (R85, R238, R249): discarded where the port is not usable or not attached, or where it
repeats the MessageID of the last on the same SOP*, unless it is Soft_Reset. The partner's revision is taken from it: 01b is 2.0, every
other code 3.x (DESIGN CHOICE, log entry 180). -/
def portArrive (s : State) (n sop : Nat) (m : List Byte) : State :=
  let x := s.port n
  if portWhy s n ≠ 0 ∨ attached s n = false then s
  else if idOf x.rxId sop = some (pdId m) ∧ pdKey m ≠ 13 then s
  else
    let s1 := s.setPort n { x with rxId := idPut x.rxId sop (pdId m) }
    let s2 := if sop = 0 then s1.setFld (pdB n) F.PD_STATUS_SPEC (if bits (pdHdr m) 7 6 = 1 then 1 else 2) else s1
    if 64 ≤ pdKey m ∧ (leNat ((m.drop 2).take 2)).testBit 15 then chunkIn s2 n sop m else portIn s2 n sop m

/-- A PD_MSG segment (R85): in order it is joined, and LAST completes the message. -/
def pdSegment (s : State) (l : Nat) (p : SidePkt) : State :=
  let q := bits p.arg 15 14
  let sop := bits p.arg 13 12
  let seg := bits p.arg 11 8
  let len := bits p.arg 5 0
  if q ≠ 0 ∧ s.fld (slB l) F.SL_STATUS_VERSION ≠ 2 then s.bump (slB l) F.SL_CNT_RETX_DISCARDED 1
  else
    let x := s.lane l
    let old := x.pdIn.find? (fun e => e.port == q)
    let rest := x.pdIn.filter (fun e => e.port != q)
    let part := (p.body.flatMap wordBytes).take len
    let joined := match old with
      | some e => if e.seg = seg ∧ e.sop = sop ∧ seg ≠ 0 then some (e.bytes ++ part) else if seg = 0 then some part else none
      | none => if seg = 0 then some part else none
    match joined with
    | none => s.setLane l { x with pdIn := rest }
    | some m =>
      if bit p.arg 7 then portArrive (s.setLane l { x with pdIn := rest }) (4 * l + q) sop m
      else s.setLane l { x with pdIn := rest ++ [⟨q, sop, seg + 1, m⟩] }

/-- Take the head of the inbox where it is accepted; an answer ends what tSenderResponse awaits. -/
def inboxTake (s : State) (n : Nat) (p : Nat → List Byte → Bool) : Option (Nat × List Byte × State) :=
  match (s.port n).inbox with
  | [] => none
  | (sop, m) :: t =>
    if p sop m then
      let x := s.port n
      some (sop, m, s.setPort n { x with inbox := t, expect := if sop = 0 then 0 else x.expect })
    else none

/-- A message for the policy (R249): the queue holds four; a fifth is lost, with OVR and a Soft_Reset. -/
def toPolicy (s : State) (n sop : Nat) (m : List Byte) : State :=
  let x := s.port n
  if 4 ≤ x.rxq.length then softResetSend (s.setFld (pdB n) F.PD_RX_STAT_OVR 1) n
  else portEvent (showRx (s.setPort n { x with rxq := x.rxq ++ [(sop, m)] }) n) n 2

/-- Wait in an explicit contract, Reject otherwise (R253, R268). -/
def waitOrReject (s : State) (n : Nat) : State := portSay s n (ctlMsg (if explicitNow s n then 12 else 4))

/-- Hold answers in the policy's place (R268). -/
def holdAnswer (s : State) (n : Nat) : State :=
  portEvent (waitOrReject (s.setFld (pdB n) F.PD_STATUS_HOLD_WAIT 1) n) n 14

/-- A Request reaches a source port (R253, steps 1 and 2; R268). -/
def pdRequest (s : State) (n : Nat) (m : List Byte) : State :=
  let rdo := (pdObjs m).getD 0 0#32
  let x := s.port n
  let s0 := s.setFld (pdB n) F.PD_STATUS_UNCHUNKED (b2n (rdo.toNat.testBit 23 && portOn s n F.PD_CFG_UNCHUNKED))
  let s0 := s0.setFld (pdB n) F.PD_STATUS_HOLD_WAIT 0
  match dealOf x.caps rdo with
  | none => portSay s0 n (ctlMsg 4)
  | some d =>
    if s0.hold ∧ ¬ (explicitNow s0 n ∧ dealShown s0 n = d) then holdAnswer s0 n
    else if x.lateW ≠ 0 ∧ powerOf d.v d.i = x.lateW then
      -- the port answers it; the policy sees it too, and its answer is refused
      toPolicy (portSay (s0.portMod n (fun x => { x with lateW := 0, req := 3, reqType := pdKey m % 32, next := d })) n (ctlMsg 4)) n 0 m
    else toPolicy (s0.portMod n (fun x => { x with req := 1, reqType := pdKey m % 32, next := d })) n 0 m

/-- The partner's PS_RDY (R255, R259, R261). -/
def partnerReady (s : State) (n : Nat) : State :=
  let x := s.port n
  let b := pdB n
  if x.swap = 3 then
    let s1 := (s.setFld b F.PD_STATUS_PD 1).portMod n (fun x => { x with swap := 0, wantSnk := true, snkSet := true, explicit := false })
    portEvent (openTry s1 n) n 11
  else if x.swap = 4 then
    let rp := min 2 (portCo s n F.PD_CFG_RP_DEF)
    let s1 := ((s.setFld b F.PD_STATUS_POWER_ROLE 1).setFld b F.PD_STATUS_TC_STATE 2).portMod n (fun x => { x with swap := 5, wantSrc := true, rp := rp, explicit := false })
    openTry (pdCtl s1 n 0 rp) n
  else if x.vswap = 1 then portEvent ((setVconn s n false).portMod n (fun x => { x with vswap := 0 })) n 11
  else if x.moving ∧ isSnk s n then dealDone s n
  else s

/-- Accept of something this end asked for: a Request, PR_Swap or VCONN_Swap (R255, R257, R259). -/
def partnerAccept (s : State) (n was : Nat) : State :=
  let x := s.port n
  if x.swap = 11 then swapBegins s n
  else if x.vswap = 2 then
    portEvent (portSay (setVconn (s.portMod n (fun x => { x with vswap := 0 })) n true) n (ctlMsg 6)) n 11
  else if (was = 34 ∨ was = 41) ∧ isSnk s n then dealMove s n
  else s

/-- Reject, Wait or Not_Supported of something this end asked for (R255, R257, R259). -/
def partnerRefuse (s : State) (n key was : Nat) : State :=
  let x := s.port n
  if x.swap = 11 then s.portMod n (fun x => { x with swap := 0 })
  else if x.vswap = 2 then vconnSwapFails s n
  else if key = 12 ∧ (was = 34 ∨ was = 41) then s.portMod n (fun x => { x with waited := true })
  else s

/-- Discover Identity is answered on SOP′ (R257): the cable VDO of a passive or active cable. -/
def cableAnswer (s : State) (n : Nat) (m : List Byte) : State :=
  let o := pdObjs m
  let vh := (o.getD 0 0#32).toNat
  let ty := bits (o.getD 1 0#32).toNat 29 27
  let v := (o.getD 4 0#32).toNat
  let b := pdB n
  if (s.port n).disc ∧ bits vh 7 6 = 1 ∧ bits vh 4 0 = 1 then
    let known := ty = 3 ∨ ty = 4
    let s1 := s.setFld b F.PD_CABLE_CABLE_5A (b2n (decide known && decide (bits v 6 5 = 2)))
    let s2 := s1.setFld b F.PD_CABLE_CABLE_EPR (b2n (decide known && v.testBit 17))
    let s3 := (s2.setFld b F.PD_CABLE_MAXV (if known then bits v 10 9 else 0)).setFld b F.PD_CABLE_VALID 1
    portEvent (s3.portMod n (fun x => { x with disc := false })) n 6
  else s

/-- Messages that are passed to the policy (R249). -/
def forPolicy (key : Nat) : Bool :=
  [3, 4, 12, 6, 16, 7, 8, 10, 18, 20, 23, 17, 22].contains key ||
  [33, 34, 36, 41, 42, 38, 43, 44].contains key || [65, 66, 70, 71, 76, 79, 81, 82].contains key

/-- A message of the cable, on SOP′ or SOP″ (R249): GoodCRC and Ping are ignored, an answer to Discover Identity is judged, a
listed message goes to the policy, and every other one, those that R249 gives the port hardware on SOP among them, is answered
with Not_Supported (DEDUCED, log entry 190). -/
def cableMessage (s : State) (n sop : Nat) (m : List Byte) : State :=
  let key := pdKey m
  if key = 1 ∨ key = 5 then s
  else if key = 47 ∧ bits ((pdObjs m).getD 0 0#32).toNat 4 0 = 1 then cableAnswer s n m
  else if forPolicy key then toPolicy s n sop m
  else portSend s n sop (ctlMsg 16) false

/-- Messages with a command of their own: Request at a source, DR_Swap, VCONN_Swap, Soft_Reset, Get_Revision and the
keep-alives. -/
def ownRow (s : State) (n sop : Nat) (m : List Byte) : Bool :=
  let key := pdKey m
  sop == 0 && ([9, 11, 13, 24].contains key || ([34, 41].contains key && isSrc s n) ||
    (key == 80 && (leNat ((m.drop 4).take 1)) == 3))

/-- A received message without a command of its own (R249): for the policy, ignored, or answered with Not_Supported. -/
def pdMessage (s : State) (n sop : Nat) (m : List Byte) (was : Nat) : State :=
  let key := pdKey m
  let b := pdB n
  let x := s.port n
  if sop ≠ 0 then cableMessage s n sop m
  else if key = 1 ∨ key = 5 ∨ key = 35 then s
  else if key = 3 ∧ was = 13 then (if isSrc s n then resendCaps s n else s)
  else if key = 3 ∨ key = 4 ∨ key = 12 ∨ key = 6 ∨ key = 16 then
    let s1 := if key = 3 then partnerAccept s n was else if key = 6 then partnerReady s n else partnerRefuse s n key was
    -- what answers the port's own VCONN_Swap, or ends one it has accepted, is not for the policy (R249, R257, R261)
    let own := x.swap ≠ 11 ∧ ((x.vswap = 2 ∧ key ≠ 6) ∨ (x.vswap = 1 ∧ key = 6 ∧ x.swap ≠ 3 ∧ x.swap ≠ 4))
    if own then s1 else toPolicy s1 n 0 m
  else if key = 10 ∧ s.hold then holdAnswer s n
  else if key = 10 then toPolicy (s.portMod n (fun x => { x with swap := 10 })) n 0 m
  else if key = 42 then
    let act := bits ((pdObjs m).getD 0 0#32).toNat 31 24
    if act = 1 ∧ s.hold then holdAnswer s n
    else if act = 5 then toPolicy (portEvent (s.setFld b F.PD_STATUS_EPR 0) n 12) n 0 m
    else if act = 3 then toPolicy (portEvent ((s.setFld b F.PD_STATUS_EPR 1).portMod n (fun x => { x with entering := false })) n 12) n 0 m
    else if act = 1 then toPolicy (s.portMod n (fun x => { x with entering := true })) n 0 m
    else toPolicy s n 0 m
  else if key = 33 ∨ key = 81 then
    let o := pdObjs m
    let s1 := s.setFld b F.PD_STATUS_UNCHUNKED (b2n ((o.getD 0 0#32).toNat.testBit 24 && portOn s n F.PD_CFG_UNCHUNKED))
    toPolicy (s1.portMod n (fun x => { x with theirs := o, answering := isSnk s n })) n 0 m
  else if key = 80 then
    let t := leNat ((m.drop 4).take 1)
    if t = 1 ∨ t = 2 then toPolicy s n 0 m else if t = 4 then s else portSay s n (ctlMsg 16)
  else if forPolicy key then toPolicy s n 0 m
  else portSay s n (ctlMsg 16)

/-- Take a message without a command of its own. -/
def pdMessageTake (s : State) (n : Nat) : State :=
  match inboxTake s n (fun sop m => !ownRow s n sop m) with
  | none => s
  | some (sop, m, s1) => pdMessage s1 n sop m (s.port n).expect

/-- DR_Swap is accepted in any contract state (R260). -/
def drSwap (s : State) (n : Nat) : State :=
  let b := pdB n
  portEvent (portSay (s.setFld b F.PD_STATUS_DATA_ROLE (1 - s.fld b F.PD_STATUS_DATA_ROLE)) n (ctlMsg 3)) n 11

/-- VCONN_Swap (R261). -/
def vconnSwap (s : State) (n : Nat) : State :=
  if portOn s n F.PD_CFG_VCONN_EN then
    let s1 := portSay s n (ctlMsg 3)
    if s.flag (pdB n) F.PD_STATUS_VCONN_SRC then s1.portMod n (fun x => { x with vswap := 1 })
    else portEvent (portSay (setVconn s1 n true) n (ctlMsg 6)) n 11
  else portSay s n (ctlMsg 4)

/-- A received Soft_Reset (R266): counters and queues are reset, the contract stays, a source sends its capabilities. -/
def softReset (s : State) (n : Nat) : State :=
  let s2 := portSay (softClear (vconnSwapFails s n) n) n (ctlMsg 3)
  if isSrc s2 n then resendCaps s2 n else s2

/-- Get_Revision is answered with Revision 3.2, Version 1.0 (R248). -/
def getRevision (s : State) (n : Nat) : State := portSay s n (dataMsg 12 [0x32100000#32])

/-- EPR_KeepAlive is answered by a source in EPR mode (R256). -/
def eprKeepAlive (s : State) (n : Nat) : State :=
  if isSrc s n ∧ s.flag (pdB n) F.PD_STATUS_EPR then portSay s n (extMsg 16 [4#8, 0#8]) else portSay s n (ctlMsg 16)

/-! The policy's registers. -/

/-- The bytes of PD_TX_BUF. -/
def txBytes (s : State) (n len : Nat) : List Byte :=
  (((List.range 66).map (fun k => s.rd (pdB n + R.PD_TX_BUF + 4 * k))).flatMap wordBytes).take len

/-- EPR entry may be acknowledged (R258). -/
def eprMayEnter (s : State) (n : Nat) : Bool :=
  let b := pdB n
  portOn s n F.PD_CFG_EPR_EN && s.flag b F.PD_CABLE_CABLE_EPR && explicitNow s n && !s.flag b F.PD_STATUS_EPR && !s.hold

/-- A grant of at least w is held (R253, R259). -/
def grantHeld (s : State) (n p : Nat) : Bool :=
  s.fld (pdB n) F.PD_ADM_STAT_STATE == 2 && decide (p ≤ 100000 * s.fld (pdB n) F.PD_ADM_STAT_GRANT_W)

/-- A sink's fixed 5 V object advertises a fast-swap current (R262). -/
def fastSwap (o : Word) : Bool := bits o.toNat 24 23 != 0

/-- The check of the policy's message (R248, R251, R253, R258, R259, R262, R268): 0 it is sent,
else the result. -/
def txCheck (s : State) (n sop : Nat) (m : List Byte) : Nat :=
  let key := pdKey m
  let x := s.port n
  let src := isSrc s n
  let act := bits ((pdObjs m).getD 0 0#32).toNat 31 24
  if portWhy s n ≠ 0 ∨ attached s n = false ∨ m.length < 2 then 6
  else if sop ≠ 0 then 0
  else if [1, 5, 9, 11, 13, 19, 14, 15, 24, 35, 47].contains key then 6
  else if s.fld (pdB n) F.PD_STATUS_SPEC = 1 ∧ (64 ≤ key ∨ key = 41 ∨ key = 42) then 6
  else if src = false ∧ sinkMay s n = false ∧ opensAms s n 0 m ∧ ¬ ((key = 34 ∨ key = 41) ∧ x.answering) then 6
  else if (key = 3 ∨ key = 4 ∨ key = 12) ∧ x.req = 3 then 4
  else if key = 3 ∧ x.req = 1 then
    let p := powerOf x.next.v x.next.i
    if (powerNow s n < p ∧ grantHeld s n p = false) ∨ dealOk s n x.next = false then 4 else 0
  else if (key = 3 ∧ x.swap = 10) ∨ key = 10 then
    if s.hold then 5
    else if src = false ∧ grantHeld s n (powerOf 5000 (rpCurrent s n)) = false then 4
    else 0
  else if key = 3 then 6
  else if key = 33 ∨ key = 81 then (if src ∧ (pdObjs m).all (offerOk s n) then 0 else if src then 3 else 6)
  else if key = 34 ∨ key = 41 then
    if src then 6
    else match dealOf x.theirs ((pdObjs m).getD 0 0#32) with
      | none => 3
      | some d => if s.hold ∧ ¬ (explicitNow s n ∧ dealShown s n = d) then 5 else if dealOk s n d then 0 else 3
  else if key = 36 ∨ key = 82 then (if fastSwap ((pdObjs m).getD 0 0#32) then 3 else 0)
  else if key = 6 then (if x.moving ∧ src then 0 else 6)
  else if key = 42 ∧ act = 2 then (if eprMayEnter s n then 0 else 6)
  else if key = 42 ∧ act = 1 ∧ s.hold then 5
  else 0

/-- A write of PD_TX_CTRL.GO (R253, R254, R258): the policy's message is sent, held or refused. A write while one is being
sent does nothing. -/
def pdTxGo (s : State) (n : Nat) : State :=
  let b := pdB n
  if s.flag b F.PD_TX_STAT_BUSY then s
  else
    let sop := s.fld b F.PD_TX_CTRL_SOP
    let m := txBytes s n (min 264 (s.fld b F.PD_TX_CTRL_LEN))
    let key := pdKey m
    let x := s.port n
    let r := txCheck s n sop m
    if r ≠ 0 then
      let s1 := txResult s n r
      if r = 4 ∧ x.req = 3 then s1.portMod n (fun x => { x with req := 0 })
      else if r = 4 ∧ key = 3 ∧ x.req = 1 then portSay (s1.portMod n (fun x => { x with req := 0 })) n (ctlMsg 4)
      else if r = 6 ∧ key = 42 ∧ bits ((pdObjs m).getD 0 0#32).toNat 31 24 = 2 ∧ attached s n ∧ portWhy s n = 0 then portSay s1 n (dataMsg 10 [0x04000000#32])
      else s1
    else
      let s1 := s.setFld b F.PD_TX_STAT_BUSY 1
      if key = 6 ∧ sop = 0 then psRdyRelease (s1.portMod n (fun x => { x with held := some ⟨sop, m, true⟩ })) n
      else portSend s1 n sop m true

/-- A write of PD_ADM_REQ.GO (R253): the charge for the new power. -/
def pdAdmReq (s : State) (n : Nat) : State :=
  let b := pdB n
  let w := s.fld b F.PD_ADM_REQ_P_NEW
  let s1 := (s.setFld b F.PD_ADM_STAT_STATE 1).setFld b F.PD_ADM_STAT_GRANT_W 0
  portAsk s1 n 1 w (100000 * w - powerNow s n)

/-- The policy's answer of these types to the Request in progress has been handed to the stage end and waits for its GoodCRC. -/
def answerSent (s : State) (n : Nat) (keys : List Nat) : Bool :=
  let x := s.port n
  x.req == 1 && (x.cur.toList ++ x.outq).any (fun t => t.policy && t.sop == 0 && keys.contains (pdKey t.bytes))

/-- The admission request of the port timed out (R19, R253, R265): after Accept a Hard Reset; a Request that has not been
answered is rejected; where the port has answered it with Wait, the next Request for that power will be. -/
def portAdmTimeout (s : State) (n : Nat) : State :=
  let x := s.port n
  let s1 := s.setPort n { x with admFor := 0 }
  if x.admFor = 1 then
    let s2 := portEvent (s1.setFld (pdB n) F.PD_ADM_STAT_STATE 3) n 8
    if x.moving ∨ answerSent s n [3] then hardReset s2 n true
    else if x.req = 1 ∧ answerSent s n [4, 12] = false then portSay (s2.portMod n (fun x => { x with req := 3 })) n (ctlMsg 4)
    else if x.req = 2 then s2.portMod n (fun x => { x with req := 0, lateW := powerOf x.next.v x.next.i })
    else s2
  else if x.admFor = 2 ∨ x.admFor = 3 then portError s1 n 7 false
  else s1

/-- The policy has not answered a Request in time (R253, step 4). -/
def policyTimeout (s : State) (n : Nat) : State :=
  let x := s.port n
  if x.req = 1 then
    let s1 := waitOrReject (s.portMod n (fun x => { x with req := if explicitNow s n then 2 else 0 })) n
    (portEvent s1 n 10).report 7 n K.PD_POLICY_TMO x.reqType
  else s

/-- A write of 1 to PD_RX_STAT.FULL (R249). -/
def rxRelease (s : State) (n : Nat) : State := showRx (s.portMod n (fun x => { x with rxq := x.rxq.drop 1 })) n

/-- PD_CTRL has been written with v (R265, R267); old is its value before. -/
def pdCtrlWritten (s : State) (n v : Nat) (old : Word) : State :=
  let b := pdB n
  let was := fget old F.PD_CTRL_EN != 0
  if v.testBit 1 then
    let s1 := s.setFld b F.PD_CTRL_EN 0
    if tcState s1 n = 0 then s1 else portError (setVconn s1 n false) n 1 true
  else
    let s1 := if v.testBit 0 ∧ tcState s n = 0 then (if portWhy s n = 0 then portPresent s n else s.setFld b F.PD_STATUS_TC_STATE 1)
      else if v.testBit 0 = false ∧ was ∧ tcState s n ≠ 4 then portError s n 1 false
      else s
    if v.testBit 2 then hardReset s1 n true else s1

/-! Timers and the stage end's events. -/

/-- The sink sends its last Request again (R255, R256), once its partner presents SinkTxOk (R244). -/
def requestAgain (s : State) (n : Nat) : State :=
  match (s.port n).lastReq with
  | none => s
  | some t =>
    if sinkMay s n then portSend (s.portMod n (fun x => { x with waited := false, reqDue := false })) n 0 t.bytes false
    else s.portMod n (fun x => { x with waited := false, reqDue := true })

/-- The sink sends EPR_KeepAlive (R256), once its partner presents SinkTxOk (R244). -/
def keepAliveNow (s : State) (n : Nat) : State :=
  if sinkMay s n then portSay (s.portMod n (fun x => { x with aliveDue := false })) n (extMsg 16 [3#8, 0#8])
  else s.portMod n (fun x => { x with aliveDue := true })

/-- The partner's Rp has changed: what a sink has waited to send with SinkTxOk goes out (R244). -/
def sinkDue (s : State) (n : Nat) : State :=
  let x := s.port n
  if sinkMay s n then
    let s1 := if x.reqDue then requestAgain s n else s
    if x.aliveDue then keepAliveNow s1 n else s1
  else s

/-- A PD_EVT Attach (R243 to R246): the port is attached as source or sink; again while attached it tells the partner's Rp. -/
def portAttach (s : State) (n : Nat) (cc : PartnerCc) (cc2 : Bool) : State :=
  let b := pdB n
  let role := s.fld b F.PD_CFG_ROLE
  let rp := match cc with
    | .rp1A5 => 1
    | .rp3A0 => 2
    | _ => 0
  let sinkSide := cc = .rd ∨ cc = .rdRa
  if portWhy s n ≠ 0 then s
  else if cc = .accessory then s.bump b F.PD_CNT_IGNORED 1
  else if attached s n then
    if isSnk s n ∧ ¬ sinkSide then sinkDue (portLimits (s.setFld b F.PD_STATUS_PARTNER_RP rp) n) n else s
  else if tcState s n ≠ 1 then s
  else if sinkSide ∧ role ≠ 1 then
    let s1 := ((s.setFld b F.PD_STATUS_TC_STATE 2).setFld b F.PD_STATUS_POWER_ROLE 1).setFld b F.PD_STATUS_DATA_ROLE 1
    let s2 := ((s1.setFld b F.PD_STATUS_ORIENT (b2n cc2)).setFld b F.PD_STATUS_PD 1).setFld b F.PD_STATUS_SPEC 0 |>.setFld b F.PD_STATUS_UNCHUNKED 0
    let s3 := portLatch (s2.wr (b + R.PD_CABLE) 0#32) n
    let s4 := if cc = .rdRa ∧ s.flag b F.PD_CFG_VCONN_EN then setVconn s3 n true else s3
    portAskDefault (portEvent s4 n 0) n 2
  else if ¬ sinkSide ∧ role ≠ 0 then
    let s1 := ((s.setFld b F.PD_STATUS_TC_STATE 3).setFld b F.PD_STATUS_POWER_ROLE 0).setFld b F.PD_STATUS_DATA_ROLE 0
    let s2 := ((s1.setFld b F.PD_STATUS_ORIENT (b2n cc2)).setFld b F.PD_STATUS_PD 1).setFld b F.PD_STATUS_SPEC 0 |>.setFld b F.PD_STATUS_UNCHUNKED 0
    let s3 := (portLatch (s2.setFld b F.PD_STATUS_PARTNER_RP rp) n).portMod n (fun x => { x with wantSnk := true, snkSet := true })
    openTry (portEvent s3 n 0) n
  else s

/-- A PD_EVT VBUS state (R245, R246, R259, R265): the port's view of VBUS follows it always, also while the port is not usable
(DEDUCED, log entry 168); what the port does with it needs a usable port (R238). -/
def portVbus (s : State) (n v : Nat) : State :=
  let s1 := s.setFld (pdB n) F.PD_STATUS_VBUS v
  let x := s1.port n
  if portWhy s n ≠ 0 then s1
  else if x.detaching ∧ v = 0 then detachEnd s1 n
  else if x.hr = 2 ∧ v = 0 then s1.portMod n (fun x => { x with hr := 3 })
  else if x.hr = 5 ∧ v = 0 then s1.portMod n (fun x => { x with hr := 6 })
  else if x.hr = 6 ∧ v = 2 then openTry (s1.portMod n (fun x => { x with hr := 0, wantSnk := true })) n
  else if x.swap = 2 ∧ v = 0 then
    let s2 := pdCtl (pdCtl s1 n 6 0) n 1 (portCo s1 n F.PD_CFG_DB_RD)
    let s3 := ((s2.setFld (pdB n) F.PD_STATUS_POWER_ROLE 0).setFld (pdB n) F.PD_STATUS_TC_STATE 3).portMod n (fun x => { x with swap := 3 })
    portSay s3 n (ctlMsg 6)
  else if x.swap = 5 ∧ v = 2 then
    let s2 := (s1.setFld (pdB n) F.PD_STATUS_PD 1).portMod n (fun x => { x with swap := 6 })
    portEvent (portSay s2 n (ctlMsg 6)) n 11
  else if isSnk s1 n ∧ v ≠ 2 ∧ x.moving = false ∧ s1.flag (pdB n) F.PD_STATUS_GATE_SNK then
    (portClose s1 n).portMod n (fun x => { x with wantSnk := true })
  else openTry s1 n

/-- A PD_EVT VCONN fault (R261). -/
def vconnFault (s : State) (n : Nat) : State :=
  let b := pdB n
  let s1 := ((setVconn s n false).setFld b F.PD_CABLE_CABLE_5A 0).setFld b F.PD_CABLE_CABLE_EPR 0
  if portWhy s n ≠ 0 then s
  else if explicitNow s1 n ∧ dealOk s1 n (dealShown s1 n) = false then hardReset s1 n true else s1

/-- A received Cable Reset: the MessageIDs toward the cable start again; discarded where the port is not usable (R238). -/
def cableReset (s : State) (n : Nat) : State :=
  if portWhy s n ≠ 0 then s else s.portMod n (fun x => { x with txId := x.txId.filter (fun e => e.1 == 0), rxId := x.rxId.filter (fun e => e.1 == 0) })

/-- Discover Identity on SOP′ (R257). -/
def discoverSend (s : State) (n : Nat) : State :=
  let b := pdB n
  let s1 := s.setFld b F.PD_CABLE_TRIES (s.fld b F.PD_CABLE_TRIES + 1)
  portSend (s1.portMod n (fun x => { x with disc := true })) n 1 (dataMsg 15 [0xFF00A001#32]) false

/-- tVCONNStable has passed (R257): discovery, a VCONN_Swap first, or the cable counts as 3 A SPR. -/
def discoverStart (s : State) (n : Nat) : State :=
  let b := pdB n
  if isSrc s n ∧ s.flag b F.PD_CABLE_VALID = false ∧ (s.port n).disc = false ∧
      (portOn s n F.PD_CFG_EPR_EN ∨ 300 < portCo s n F.PD_LIM_I_MAX) then
    if s.flag b F.PD_STATUS_VCONN_SRC then discoverSend s n
    else if portOn s n F.PD_CFG_VCONN_EN then portSay s n (ctlMsg 11)
    else s.setFld b F.PD_CABLE_VALID 1
  else s

/-- tDiscoverIdentity has passed without an ACK (R257). -/
def discoverRetry (s : State) (n : Nat) : State :=
  if (s.port n).disc then
    if s.fld (pdB n) F.PD_CABLE_TRIES < 20 then discoverSend s n
    else ((s.setFld (pdB n) F.PD_CABLE_VALID 1).portMod n (fun x => { x with disc := false }))
  else s

/-- The source transition limit has passed without PS_RDY (R254). -/
def transitionLimit (s : State) (n : Nat) : State :=
  if isSrc s n ∧ (s.port n).moving then (hardReset s n true).report 7 n K.PD_TRANSITION 0 else s

/-- tPSTransition has passed without PS_RDY (R255). -/
def psTransition (s : State) (n : Nat) : State := if isSnk s n ∧ (s.port n).moving then hardReset s n true else s

/-- No response within tSenderResponse (R266). -/
def senderTimeout (s : State) (n : Nat) : State :=
  let e := (s.port n).expect
  if e = 0 then s
  else
    let s1 := (vconnSwapFails s n).portMod n (fun x => { x with expect := 0, swap := if x.swap = 11 then 0 else x.swap })
    if e = 13 then hardReset s1 n true else softResetSend s1 n

/-- EPR mode entry has not completed in time: it fails (R250, R258). -/
def enterEprTimeout (s : State) (n : Nat) : State :=
  if (s.port n).entering then
    let s1 := s.portMod n (fun x => { x with entering := false })
    if isSrc s1 n then portSay s1 n (dataMsg 10 [0x04000000#32]) else s1
  else s

/-- A microsecond of the felt's current ends (R263): its mean joins the runs that the port's OC and reverse guards judge. A
microsecond without a valid frame leaves them. -/
def portMicro (s : State) (n f : Nat) : State :=
  match (s.felt f).sumsUs with
  | [] => s
  | l =>
    let i := fMean l.reverse
    let src := s.flag (pdB n) F.PD_STATUS_GATE_SRC
    let snk := s.flag (pdB n) F.PD_STATUS_GATE_SNK
    let rc := fRatio (portCo s n F.PD_GUARD2_RC_MA) 1000
    let run := fun (met : Bool) (k : Nat) => if met then k + 1 else 0
    s.portMod n (fun x => { x with
      ocN := run (src && !dealPps s n && fLe (fMul (fRatio 95 100) (iClamp s n)) i) x.ocN
      revSrcN := run (src && fLe i (fNeg rc)) x.revSrcN
      revSnkN := run (snk && fLe rc i) x.revSnkN })

/-- A guard's condition (R263) has held for as long as it must, with its gate open: OV in OV_CNT + 1 voltage frames, the others
over OC_T × 100 or RC_US means of 1 µs (0 acts as 1). -/
def guardHolds (s : State) (n : Nat) (g : PdGuard) : Bool :=
  match portFelt? s n with
  | none => false
  | some f =>
    let src := s.flag (pdB n) F.PD_STATUS_GATE_SRC
    let snk := s.flag (pdB n) F.PD_STATUS_GATE_SNK
    let x := s.port n
    match g with
    | .ov =>
      let k := portCo s n F.PD_GUARD_OV_CNT + 1
      let vs := (s.felt f).vForces.take k
      (src || snk) && vs.length == k && vs.all (fun e => match e with
        | some v => fLe (vOv s n) v
        | none => false)
    | .oc => src && !dealPps s n && decide (100 * max 1 (portCo s n F.PD_GUARD_OC_T) ≤ x.ocN)
    | .revSource => src && decide (max 1 (portCo s n F.PD_GUARD2_RC_US) ≤ x.revSrcN)
    | .revSink => snk && decide (max 1 (portCo s n F.PD_GUARD2_RC_US) ≤ x.revSnkN)

/-- The number of a guard in PD_GUARD's argument (R417). -/
def guardCode : PdGuard → Nat
  | .ov => 1
  | .oc => 2
  | .revSource => 3
  | .revSink => 4

/-- A power-path guard trips (R264): OFF at every gate as for a trip, until the reaction has ended; ErrorRecovery. -/
def pdGuardTrip (s : State) (n : Nat) (g : PdGuard) : State :=
  match portFelt? s n with
  | none => s
  | some f =>
    if guardHolds s n g then
      let code := guardCode g
      let s1 := portError s n (min 5 (code + 2)) false
      let s2 := ((portEvent s1 n 9).portMod n (fun x => { x with blamed := true })).report 7 n K.PD_GUARD code
      (feltPhases s2 f).foldl (fun s p => s.setFld (phsB p) F.PHS_STATUS_TRIPPED 1) s2
    else s

/-! Usability. -/

/-- The felt sends OFF (R174): it neither starts, runs nor stops by its profile. -/
def feltIsOff (s : State) (f : Nat) : Bool := !([5, 6, 7].contains (feltState s f))

/-- What a guard or a lost lane has begun is over (R264, R267): no phase of the felt is held OFF and every lane runs. -/
def blameOver (s : State) (n f : Nat) : Bool :=
  laneRun s (n / 4) && (feltLanes s f).all (laneRun s) && (feltPhases s f).all (fun p => s.fld (phsB p) F.PHS_STATUS_TRIPPED == 0)

/-- A port ceases to be usable without an OFF of its felt: gates closed, contract and messages gone, VCONN off, CC open,
Unattached (R238; DEDUCED, log entry 101). -/
def portLeave (s : State) (n : Nat) : State :=
  let b := pdB n
  let s1 := (portForget s n).portMod n (fun x => { x with co := [], explicit := false })
  let s2 := ((s1.setFld b F.PD_STATUS_VCONN_SRC 0).setFld b F.PD_STATUS_PD 0).setFld b F.PD_STATUS_TC_STATE 1
  pdCtlLast (portClose s2 n) n 7 0

/-- The port is judged again (R238, R267). A port that is no longer usable leaves; where its felt sends OFF it enters
ErrorRecovery with CAUSE 2, but not where a guard or a lost lane has brought that OFF and its own ErrorRecovery; a felt that
stops by its profile is awaited. A port that becomes usable begins. -/
def portJudge (s : State) (n : Nat) : State :=
  match portFelt? s n with
  | none => s
  | some f =>
    let x := s.port n
    let why := portWhy s n
    if x.live then
      if why = 0 then sinkTxOk (if x.blamed && blameOver s n f then s.setPort n { x with blamed := false } else s) n
      else if why = 4 ∧ feltState s f = 7 ∧ feltSel s f = 1 then s
      else
        let s1 := if tcState s n = 0 ∨ tcState s n = 4 then s
          else if feltIsOff s f && !x.blamed then portError s n 2 false
          else portLeave s n
        s1.portMod n (fun x => { x with live := false, blamed := false })
    else if why = 0 then
      let s1 := portLimits (s.setPort n { x with live := true }) n
      if s1.flag (pdB n) F.PD_CTRL_EN ∧ tcState s1 n ≠ 4 then portPresent s1 n else s1
    else s

/-- Every port is judged again. -/
def portSweep (s : State) : State := (List.range 48).foldl portJudge s

/-- SL_LOSS of lane l (R267): its own ports, and those whose felt has a phase on it, enter ErrorRecovery with CAUSE 9. -/
def portsLost (s : State) (l : Nat) : State :=
  (List.range 48).foldl (fun s n =>
    match portFelt? s n with
    | none => s
    | some f =>
      if (n / 4 = l ∨ (feltLanes s f).contains l) ∧ tcState s n ≠ 0 ∧ (s.port n).live then
        (portError s n 9 false).portMod n (fun x => { x with blamed := true })
      else s) s

/-- A lane has been trained: its ports take VBUS to be between (R245). -/
def portsTrained (s : State) (l : Nat) : State :=
  (List.range 4).foldl (fun s k => s.setFld (pdB (4 * l + k)) F.PD_STATUS_VBUS 1) s

/-- The side channel of a lane has lost its outbound messages (R92, R266). -/
def portsResync (s : State) (l : Nat) : State := (List.range 4).foldl (fun s k => txLost s (4 * l + k)) s

end Sys2Proof.Machine
end

