-- ==== Sys2Proof/Machine/Fault.lean ====
section
/-! DEFINITION. The fault collector (R415 to R437): the queue, the decision of a reaction, the scopes, recess, recovery and
the status outputs. -/
namespace Sys2Proof.Machine

/-- An entry is the overflow marker (R421). -/
def QEntry.marker (e : QEntry) : Bool := e.msg.kind == K.OVERFLOW && e.msg.cls == 15 && e.msg.inst == 0

/-- Show the depth of the queue and the marker (FC_STATUS). -/
def fcShow (s : State) : State :=
  (s.setFld fcB F.FC_STATUS_DEPTH ((s.fc.queue.filter (fun e => !e.marker)).length)).setFld fcB F.FC_STATUS_MARKER
    (b2n (s.fc.queue.any (fun e => e.marker)))

/-- A report and an entry are of the same source and kind (R420). -/
def sameSource (a b : Msg) : Bool := a.cls == b.cls && a.inst == b.inst && a.kind == b.kind

/-- The first entry that a report coalesces into, by its place in the queue (R420). -/
def coalesceAt (s : State) (m : Msg) : Option Nat :=
  s.fc.queue.findIdx? (fun e => sameSource e.msg m && !e.read && !e.marker)

/-- The entry's severity starts a slate store and a report card (R432): the store first. -/
def sevActions (s : State) (m : Msg) : State :=
  let s1 := if s.fld fcB F.FC_CFG_STORE_SEV ≤ m.sev then nvStore s false else s
  if s.fld fcB F.FC_CFG_CARD_SEV ≤ m.sev then nvCard s1 1 (some m) else s1

/-- A report enters the queue, coalesces into an entry, or is counted into the overflow marker (R418, R420, R421). A new entry wakes a
sleeping device (R508). -/
def queueEnter (s : State) (m : Msg) : State :=
  match coalesceAt s m with
  | some k =>
    match s.fc.queue[k]? with
    | none => s
    | some e =>
      if e.msg.count ≥ 255 then s.bump fcB F.FC_CNT_COAL_SAT 1
      else { s with fc := { s.fc with queue := s.fc.queue.set k { e with msg := { e.msg with count := e.msg.count + 1 } } } }
  | none =>
    if s.fc.queue.any (fun e => e.marker) then
      let q := s.fc.queue.map (fun (e : QEntry) => if e.marker then
        { e with msg := { e.msg with arg := satAdd 0xFFFFFFFF e.msg.arg 1, sev := max e.msg.sev m.sev } } else e)
      ({ s with fc := { s.fc with queue := q } }).bump fcB F.FC_CNT_LOST 1
    else if s.fc.queue.length < 63 then
      sevActions (fcShow ((wakeUp { s with fc := { s.fc with queue := s.fc.queue ++ [QEntry.mk m s.stamp false] } }).pulse 375)) m
    else
      let mk : Msg := ⟨15, 0, K.OVERFLOW, m.sev, 0, 1⟩
      let s1 := (wakeUp { s with fc := { s.fc with queue := s.fc.queue ++ [QEntry.mk mk s.stamp false] } }).pulse 375
      sevActions (fcShow ((s1.bump fcB F.FC_CNT_LOST 1).setFld fcB F.FC_INT_STATUS_OVERFLOW 1)) mk

/-- The oldest report on its way reaches the collector (R418). -/
def faultArrive (s : State) : State :=
  match s.reports with
  | [] => s
  | m :: t =>
    let s1 := queueEnter { s with reports := t } m
    { s1 with fc := { s1.fc with undecided := s1.fc.undecided ++ [⟨m, false⟩] } }

/-! The decision (R423 to R428). -/

/-- A field of the reaction table entry of kind k (R424). -/
def reactFld (s : State) (k : Nat) (G : Fld) : Nat := s.fld (fcB + 4 * k) G

/-- The felts of a source, by class (R424). -/
def sourceFelts (s : State) (m : Msg) : List Nat :=
  let def? := fun l => l.filter (fun f => decide (f < 96) && feltDefined s f)
  if m.cls = 1 then laneFelts s m.inst
  else if m.cls = 2 then (phaseFelt s m.inst).toList
  else if m.cls = 3 then def? [m.inst]
  else if m.cls = 7 then (if m.inst < 48 then (portFelt? s m.inst).toList else [])
  else if m.cls = 8 then def? [m.inst]
  else if m.cls = 9 then natsWhere 96 (fun f => feltDefined s f && feltOwner s f == m.inst)
  else if m.cls = 11 then
    if 0x10 ≤ m.inst ∧ m.inst < 0x14 then
      natsWhere 96 (fun f => bit (s.rd (supB + 0x404 + 0x20 * (m.inst - 0x10) + 4 * (f / 32))).toNat (f % 32) && feltDefined s f)
    else if 0x20 ≤ m.inst ∧ m.inst < 0x40 then
      let b := supB + 0x10 * (m.inst - 0x20)
      if s.flag b F.SUP_TTE_A_VALID ∧ s.fld b F.SUP_TTE_A_KIND = 2 then def? [s.fld b F.SUP_TTE_A_INDEX] else []
    else []
  else []

/-- The felts whose group a mask names (R423). -/
def groupFelts (s : State) (mask : Nat) : List Nat :=
  natsWhere 96 (fun f => feltDefined s f && bit mask (bits (s.rd (fcB + 0x110 + 4 * (f / 8))).toNat (4 * (f % 8) + 3) (4 * (f % 8))))

/-- The engine of a report is halted by a fault, or will be as it has no fault context (R345, R435). -/
def engDown (s : State) (e : Nat) : Bool :=
  s.fld (engB e) F.ENG_STATUS_STATE == 3 || ((s.engine e).due && !s.flag (engB e) F.ENG_CFG_FV_EN)

/-- The scope a report is decided with, and the felts it covers (R423, R424, R435). -/
def scopeOf (s : State) (m : Msg) : Nat × List Nat :=
  let raw := min 5 (reactFld s m.kind F.FC_REACT_SCOPE)
  let n := if m.cls = 9 ∧ engDown s m.inst then max 2 raw else raw
  let src := sourceFelts s m
  if n ≤ 1 then (n, [])
  else if n = 2 then (if src = [] then (1, []) else (2, src))
  else if n = 3 then (3, setUnion src (groupFelts s (reactFld s m.kind F.FC_REACT_GRPMASK)))
  else (n, natsWhere 96 (feltDefined s))

/-- The device is in the fault state: a reaction of scope 2 or wider holds some output (R429). -/
def faultState (s : State) : Bool := s.fc.wide != 0

/-- Show STATE and SCOPE (FC_STATUS): latched stays until cleared (R431). -/
def fcState (s : State) : State :=
  let st := s.fld fcB F.FC_STATUS_STATE
  let n := if st = 3 then 3 else if s.fc.running.isSome then 1 else if s.fc.wide ≠ 0 then 2 else 0
  let sc := match s.fc.running with
    | some r => r.scope
    | none => s.fc.wide
  (s.setFld fcB F.FC_STATUS_STATE n).setFld fcB F.FC_STATUS_SCOPE sc

/-- The cabinet goes safe: every channel but KEEP, the hot-swap gate, and the bus to MODE 0 with EN kept (R27, R423). -/
def cabinetSafe (s : State) : State :=
  let s1 := { s with fc := { s.fc with heldCab := true } }
  let s2 := hsApply (houseApply s1)
  let s3 := ((setBusMode s2 0).setFld busB F.BUS_ADM_STAT_FROZEN 0).setFld busB F.BUS_STATUS_CAPPED 0
  ((s3.wr (busB + R.BUS_P_IN) 0#32).wr (busB + R.BUS_P_SHELF) 0#32).wr (busB + R.BUS_P_DUMP) 0#32

/-- A reaction acts on what it covers and holds it (R423): felts OFF without a profile, EN kept, STOP_CAUSE 4; the card of a reset
scope carries the message m that was decided, none where a waiting reaction runs (R459). Last-fault records show the state under the reaction (DESIGN CHOICE, log entry 182). -/
def reactionAct (s : State) (r : Reaction) (m : Option Msg) : State :=
  let s1 := { s with fc := { s.fc with running := some r, heldFelts := setUnion s.fc.heldFelts r.felts, wide := if r.felts = [] ∧ r.scope < 4 then s.fc.wide else max s.fc.wide r.scope } }
  let s2 := r.felts.foldl feltSafe s1
  let s3 := if 4 ≤ r.scope ∧ s2.fc.heldCab = false then cabinetSafe s2 else s2
  let s4 := if 5 ≤ r.scope ∧ s3.fc.resetWait = false then
      let s5 := nvCard (nvStore (fcState s3) true) 4 m
      { s5 with fc := { s5.fc with resetWait := true } }
    else s3
  fcState s4

/-- Two reactions of the backlog with one scope are merged (R426). -/
def backlogAdd (r : Reaction) : List Reaction → List Reaction
  | [] => [r]
  | q :: t => if q.scope = r.scope then { q with felts := setUnion q.felts r.felts, conds := q.conds ++ r.conds } :: t
              else q :: backlogAdd r t

/-- A report holds conditions of its own: not an injected one (R437). -/
def ownConds (m : Msg) (spread : Bool) : List Msg := if spread || m.cls == 15 then [] else [m]

/-- The reaction to a trip has ended: the phases it held send again (R134, R264). -/
def tripRelease (s : State) (m : Msg) : State :=
  if m.kind = K.HUB_TRIP ∧ m.cls = 1 then
    if bit m.arg 16 then (List.range 16).foldl (fun s j => s.setFld (phsB (16 * m.inst + j)) F.PHS_STATUS_TRIPPED 0) s
    else s.setFld (phsB (16 * m.inst + bits m.arg 15 12)) F.PHS_STATUS_TRIPPED 0
  else if m.kind = K.PD_GUARD ∧ m.cls = 7 then
    (sourceFelts s m).foldl (fun s f => (feltPhases s f).foldl (fun s p => s.setFld (phsB p) F.PHS_STATUS_TRIPPED 0) s) s
  else s

/-- A decided scope takes effect (R425 to R427): it runs, pre-empts a narrower reaction, or waits in the backlog. Its condition is
kept where the device is in the fault state or the reaction holds some output (R429). -/
def reactDecide (s : State) (m : Msg) (spread : Bool) (scope : Nat) (felts : List Nat) : State :=
  let s1 := if 1 ≤ scope then s.setFld fcB F.FC_INT_STATUS_ENTRY 1 else s
  if scope ≤ 1 then
    let s2 := if faultState s1 then { s1 with fc := { s1.fc with conds := s1.fc.conds ++ ownConds m spread } } else s1
    if spread then s2 else tripRelease s2 m
  else
    let s2 := s1.setFld fcB F.FC_INT_STATUS_SAFE 1
    let s3 := if faultState s2 || felts != [] || decide (4 ≤ scope) then { s2 with fc := { s2.fc with conds := s2.fc.conds ++ ownConds m spread } } else s2
    let r : Reaction := ⟨scope, felts, if spread then [] else [m]⟩
    match s3.fc.running with
    | none => reactionAct s3 r (some m)
    | some q =>
      if q.scope < scope then reactionAct s3 ⟨scope, setUnion q.felts felts, q.conds ++ r.conds⟩ (some m)
      else { s3 with fc := { s3.fc with backlog := backlogAdd r s3.fc.backlog } }

/-- HOLD of an entry on a brim (R428, R434). -/
def holdBegin (s : State) : State :=
  if s.isBrim ∧ s.hold = false then (s.setFld fcB F.FC_STATUS_HOLD 1).setFld fcB F.FC_INT_STATUS_HOLD 1 else s

/-- The low and high words of a message (R415). -/
def msgWords (m : Msg) : Word × Word := (BitVec.ofNat 32 m.arg, BitVec.ofNat 32 (msgBits m / 2 ^ 32))

/-- The collector decides the oldest report that has arrived (R419, R425). -/
def reactNext (s : State) : State :=
  match s.fc.undecided with
  | [] => s
  | r :: t =>
    let s1 := { s with fc := { s.fc with undecided := t } }
    let sc := scopeOf s1 r.msg
    let s2 := if reactFld s1 r.msg.kind F.FC_REACT_HOLD = 1 then holdBegin s1 else s1
    let s3 := if reactFld s1 r.msg.kind F.FC_REACT_SPREAD = 1 ∧ 4 ≤ sc.1 then
        casSend s2 5 0 0 true [BitVec.ofNat 32 sc.1, (msgWords r.msg).1, (msgWords r.msg).2]
      else s2
    reactDecide s3 r.msg r.spread sc.1 sc.2

/-- The widest reaction of the backlog and the rest of it. -/
def backlogTake : List Reaction → Option (Reaction × List Reaction)
  | [] => none
  | r :: t =>
    match backlogTake t with
    | none => some (r, [])
    | some (q, u) => if q.scope ≤ r.scope then some (r, t) else some (q, r :: u)

/-- The outputs of a waiting reaction are already held (R426). -/
def alreadyHeld (s : State) (q : Reaction) : Bool :=
  q.felts.all s.fc.heldFelts.contains && (decide (q.scope < 4) || (s.fc.heldCab && decide (q.scope < 5)))

/-- The backlog after a reaction (R426): the widest that still has something to hold runs; one whose outputs are held has
ended, as its conditions stand in the list of R429 since its decision. At most n are looked at. -/
def backlogRun (s : State) : Nat → State
  | 0 => fcState s
  | n + 1 =>
    match backlogTake s.fc.backlog with
    | none => fcState s
    | some (q, rest) =>
      let s1 := { s with fc := { s.fc with backlog := rest } }
      if alreadyHeld s1 q then backlogRun (q.conds.foldl tripRelease s1) n else reactionAct s1 q none

/-- Every house channel that a cabinet-safe reaction covers drives both outputs low (R425); KEEP channels stay in regulation (R27). -/
def housesSafe (s : State) : Bool := (List.range 8).all (fun h => !houseOn s h || (houseKeep s h && houseLocal s h))

/-- The running reaction finishes and the widest one of the backlog runs (R425, R426); one of scope 4 not before its house channels
are off, and one of scope 5 runs until the reset. -/
def reactionFinish (s : State) : State :=
  match s.fc.running with
  | none => s
  | some r =>
    if 5 ≤ r.scope || (decide (r.scope = 4) && !housesSafe s) then s
    else
      let s1 := r.conds.foldl tripRelease { s with fc := { s.fc with running := none } }
      backlogRun s1 s1.fc.backlog.length

/-! Recess and recovery (R429 to R431). -/

/-- Every held output is released together (R429, R430): felts, channels, hot-swap, bus. -/
def releaseAll (s : State) : State :=
  let held := s.fc.heldFelts
  let cab := s.fc.heldCab
  let s1 := fcState { s with fc := { s.fc with heldFelts := [], heldCab := false, conds := [], wide := 0 } }
  let s2 := held.foldl feltRelease s1
  let s3 := (List.range 96).foldl feltProceed s2
  if cab then hsApply (busTry (houseApply s3)) else s3

/-- Recess ends (R429, R431): a recovery, counted also in counter 15 (R457); or the device latches. -/
def recessFinish (s : State) : State :=
  if recessRuns s then
    let n := s.fld fcB F.FC_RECOV_STAT_COUNT
    if n ≥ max 1 (s.fld fcB F.FC_RECOV_MAX) then
      (s.setFld fcB F.FC_STATUS_STATE 3).setFld fcB F.FC_INT_STATUS_LATCHED 1
    else
      let s1 := (s.bump fcB F.FC_RECOV_STAT_COUNT 1).bump fcB F.FC_RECOV_STAT_TOTAL 1
      let s2 := { cntInc s1 15 with fc := { (cntInc s1 15).fc with window := true } }
      releaseAll (s2.setFld fcB F.FC_INT_STATUS_RECOVERED 1)
  else s

/-- The recovery window closes (R431). -/
def windowClose (s : State) : State :=
  if s.fc.window then ({ s with fc := { s.fc with window := false } }).setFld fcB F.FC_RECOV_STAT_COUNT 0 else s

/-- FC_CTRL.CLEAR (R431, R435): dropped unless latched. -/
def fcClear (s : State) : State :=
  if s.fld fcB F.FC_STATUS_STATE = 3 then
    fcState ((({ s with fc := { s.fc with window := false } }).setFld fcB F.FC_RECOV_STAT_COUNT 0).setFld fcB F.FC_STATUS_STATE 2)
  else s

/-! Registers of the collector. -/

/-- The message and stamp words of the head entry, 0 with the queue empty (R422): k 0 MSG_LO to 3 TS_HI. -/
def fqWord (s : State) (k : Nat) : Word :=
  match s.fc.queue with
  | [] => 0#32
  | e :: _ =>
    if k = 0 then (msgWords e.msg).1
    else if k = 1 then (msgWords e.msg).2
    else if k = 2 then BitVec.ofNat 32 e.stamp.toNat
    else BitVec.ofNat 32 (e.stamp.toNat / 2 ^ 32)

/-- A read of FC_Q_MSG_LO latches the other three words for the reading master and marks the head as read (R420, R422). -/
def fqRead (s : State) (m : Master) : Word × State :=
  let s1 := ((s.setSnap m 0 (fqWord s 1)).setSnap m 1 (fqWord s 2)).setSnap m 2 (fqWord s 3)
  let q := match s1.fc.queue with
    | [] => []
    | e :: t => { e with read := true } :: t
  (fqWord s 0, { s1 with fc := { s1.fc with queue := q } })

/-- FC_Q_POP (R422): the head entry is removed; a pop of an empty queue is dropped. -/
def queuePop (s : State) : State := fcShow { s with fc := { s.fc with queue := s.fc.queue.drop 1 } }

/-- A write to FC_INJ_HI injects a message (R437). -/
def faultInject (s : State) (kind : Nat) : State :=
  { s with reports := s.reports ++ [⟨15, 1, kind % 256, 0, 0, s.fld fcB F.FC_INJ_LO_ARG⟩] }

/-- The value FC_REACTk takes from a write: a scope below the floor stores the floor; the entries of reserved kinds and of
OVERFLOW take no writes (R424). -/
def reactWord (k : Nat) (old v : Word) : Word :=
  match kindRow k with
  | none => old
  | some (_, _, fl, _) => if fget v F.FC_REACT_SCOPE < fl then fset v F.FC_REACT_SCOPE fl else v

/-- A spread fault arrives (R427): a report of class CAS with the origin's position enters, and its scope is decided in the
same cycle; it holds no condition here. -/
def spreadArrive (s : State) (src scope : Nat) (lo hi : Word) : State :=
  let m : Msg := ⟨14, src, bits hi.toNat 19 12, bits hi.toNat 11 8, 0, lo.toNat⟩
  let s1 := queueEnter s m
  if scope ≤ 3 then reactDecide s1 m true scope [] else reactDecide s1 m true (min 5 scope) (natsWhere 96 (feltDefined s1))

/-! Status outputs (R433): all three are low throughout a system reset, and released while the main supplies are off (R506). -/

/-- FAULT_N is low: the fault state, which a reset-scope reaction brings with it, or latched. -/
def faultLow (s : State) : Bool := s.pwr.main && (!s.pwr.core || faultState s || s.fld fcB F.FC_STATUS_STATE == 3)
/-- SAFE_N is low. -/
def safeLow (s : State) : Bool :=
  s.pwr.main && (!s.pwr.core || faultState s || (List.range 96).any (fun f => feltState s f == 11) ||
    s.flag busB F.BUS_STATUS_OV_LATCH || !s.img.loaded)
/-- FC_INT_STATUS AND FC_INT_EN is not zero, for which ALERT_N is low out of reset. -/
def alertLow (s : State) : Bool := (s.rd (fcB + R.FC_INT_STATUS)).toNat &&& (s.rd (fcB + R.FC_INT_EN)).toNat != 0
/-- ALERT_N is low. -/
def alertPin (s : State) : Bool := s.pwr.main && (!s.pwr.core || alertLow s)

/-- RSTOUT_N is low: throughout every system reset (R411), and from the rise of the main supplies until the core domain leaves reset
(R506); before that rise too (DESIGN CHOICE, log entry 194). -/
def rstoutLow (s : State) : Bool := !s.pwr.core

/-- SPI_RDY is high (R506, R508): the boot scan of a core out of reset has ended, and the device is awake. -/
def spiReady (s : State) : Bool := s.pwr.main && s.pwr.core && s.flag nvB F.NV_STATUS_READY && !s.pwr.asleep

end Sys2Proof.Machine
end

