-- ==== Sys2Proof/Machine/Timer.lean ====
section
/-! DEFINITION. The 64 timers and the event matrix (12_timers_events.md, R373 to R391): what a count tick, a compare, a
start, a stop, an edge and a pulse of an event line do. -/
namespace Sys2Proof.Machine

/-- The RELOAD in force: the one before a staged write, else the register (R376). -/
def activeReload (s : State) (n : Nat) : Nat :=
  match (s.timer n).active with
  | some r => r.toNat
  | none => s.fld (tmrB n) F.TMR_RELOAD_RELOAD

/-- The timer counts (TMR_STATUS.STATE 2). -/
def tmrCounting (s : State) (n : Nat) : Bool := s.fld (tmrB n) F.TMR_STATUS_STATE == 2

/-- The judgement of R380: (count − C) mod M < H with H = max(1, floor(M / 2)). -/
def compareDue (s : State) (n : Nat) : Bool :=
  let m := activeReload s n + 1
  let d := (((s.fld (tmrB n) F.TMR_COUNT_COUNT : Int) - (s.fld (tmrB n) F.TMR_CMP_CMP : Int)) % (m : Int)).toNat
  decide (d < max 1 (m / 2))

/-- How far the count lies past the compare value, modulo M (R380). -/
def comparePast (s : State) (n : Nat) : Nat :=
  (((s.fld (tmrB n) F.TMR_COUNT_COUNT : Int) - (s.fld (tmrB n) F.TMR_CMP_CMP : Int)) %
    ((activeReload s n + 1 : Nat) : Int)).toNat

/-- Arm the compare of timer n (R381): its fire is late where the count has already passed the compare value then (R380). -/
def armCompare (s : State) (n : Nat) : State :=
  (s.setFld (tmrB n) F.TMR_STATUS_ARMED 1).setTimer n
    { s.timer n with fresh := compareDue s n && decide (comparePast s n ≠ 0), stored := false, atOverflow := false }

/-- Drive the timer's output level (R382). -/
def tmrDrive (s : State) (n : Nat) (v : Bool) : State := s.setTimer n { s.timer n with out := v }

/-- What an overflow does beside the count (R373, R376, R381, R382): the flag, the line, the staged RELOAD, the output
and the REARM 2 arming. -/
def overflowEffects (s : State) (n : Nat) : State :=
  let b := tmrB n
  let s1 := s.setFld b F.TMR_STATUS_OVF_FLAG 1
  let s2 := if s.flag b F.TMR_EVT_EN_OVF then s1.pulse (64 + n) else s1
  let s3 := s2.setTimer n { s2.timer n with active := none }
  let s4 := if s.fld b F.TMR_CFG_OUT = 2 then tmrDrive s3 n false
            else if s.fld b F.TMR_CFG_OUT = 3 then tmrDrive s3 n true else s3
  if (s4.timer n).atOverflow then armCompare s4 n else s4

/-- A source tick of timer n (R375), with the count tick it may make and, through an overflow, the source tick of the
neighbour that counts it in the same core cycle (R379). The fuel bounds the chain by the 64 timers. -/
def tmrSourceTick : Nat → State → Nat → State
  | 0, s, _ => s
  | fuel + 1, s, n =>
    if tmrCounting s n then
      let b := tmrB n
      let d := max 0x10000 (s.fld b F.TMR_DIV_DIV)
      let a := (s.timer n).acc + 0x10000
      if a < d then s.setTimer n { s.timer n with acc := a }
      else
        let s1 := s.setTimer n { s.timer n with acc := a - d }
        let c := s1.fld b F.TMR_COUNT_COUNT
        let s2 :=
          if c = activeReload s1 n then
            let s3 := overflowEffects (s1.setFld b F.TMR_COUNT_COUNT 0) n
            let nb := (n + 1) % 64
            if s3.fld (tmrB nb) F.TMR_CFG_SRC = 7 then tmrSourceTick fuel s3 nb else s3
          else s1.setFld b F.TMR_COUNT_COUNT (c + 1)
        if s2.flag b F.TMR_STATUS_ARMED && !(compareDue s2 n) then
          s2.setTimer n { s2.timer n with fresh := false } else s2
    else s

/-- A tick of the clock that timer n counts (R374): SRC 4 to 6 tick with the edges of their pin, SRC 7 with the overflows of the
neighbour. -/
def tmrClockTick (s : State) (n : Nat) : State :=
  if s.fld (tmrB n) F.TMR_CFG_SRC < 4 then tmrSourceTick 64 s n else s

/-- The source tick that makes a count tick is due (R375). -/
def tickDue (s : State) (n : Nat) : Bool :=
  decide (max 0x10000 (s.fld (tmrB n) F.TMR_DIV_DIV) ≤ (s.timer n).acc + 0x10000)

/-- The clock's tick whose count tick passes RELOAD to 0, with the neighbours that count it (R373, R375, R379). -/
def tmrOverflow (s : State) (n : Nat) : State :=
  if tmrCounting s n ∧ s.fld (tmrB n) F.TMR_COUNT_COUNT = activeReload s n ∧ tickDue s n then tmrClockTick s n else s

/-- What follows a fire, as REARM says (R381). -/
def rearmCompare (s : State) (n : Nat) : State :=
  let b := tmrB n
  let i := s.fld b F.TMR_INTERVAL_INTERVAL
  if s.fld b F.TMR_CFG_REARM = 1 ∧ i ≠ 0 then
    armCompare (s.setFld b F.TMR_CMP_CMP ((s.fld b F.TMR_CMP_CMP + i) % (activeReload s n + 1))) n
  else if s.fld b F.TMR_CFG_REARM = 2 then s.setTimer n { s.timer n with atOverflow := true }
  else s

/-- Judge the armed compare of timer n in one core cycle and fire it when it is due (R380 to R382). -/
def fireCompare (s : State) (n : Nat) : State :=
  let b := tmrB n
  if tmrCounting s n && s.flag b F.TMR_STATUS_ARMED then
    if compareDue s n then
      let late := (s.timer n).fresh && decide (comparePast s n ≠ 0)
      let s1 := (s.setFld b F.TMR_STATUS_ARMED 0).setFld b F.TMR_STATUS_CMP_FLAG 1
      let s2 := if late then s1.bump b F.TMR_CNT_LATE 1 else s1
      let s3 := if s.flag b F.TMR_EVT_EN_CMP then s2.pulse n else s2
      let s4 := if s.fld b F.TMR_CFG_OUT = 1 then tmrDrive s3 n (!(s3.timer n).out)
                else if s.fld b F.TMR_CFG_OUT = 2 then tmrDrive s3 n true
                else if s.fld b F.TMR_CFG_OUT = 3 then tmrDrive s3 n false else s3
      rearmCompare s4 n
    else s.setTimer n { s.timer n with fresh := false }
  else s

/-- Timer n begins to count; a compare stored while it did not is armed (R377, R381). -/
def tmrBegin (s : State) (n : Nat) : State :=
  let s1 := s.setFld (tmrB n) F.TMR_STATUS_STATE 2
  if (s1.timer n).stored then armCompare s1 n else s1

/-- A release by EVT_TSTART or by the bell: only a waiting timer is affected (R377). -/
def tmrRelease (s : State) (n : Nat) : State :=
  if s.fld (tmrB n) F.TMR_STATUS_STATE = 1 then tmrBegin s n else s

/-- EN = 0 and EVT_TSTOP: the count and A hold, the compare is disarmed, a lone rising edge is forgotten (R378). -/
def tmrStop (s : State) (n : Nat) : State :=
  ((s.setFld (tmrB n) F.TMR_STATUS_STATE 0).setFld (tmrB n) F.TMR_STATUS_ARMED 0).setTimer n
    { s.timer n with rise := false, fresh := false, stored := false, atOverflow := false }

/-- ABORT: as a stop, and the count and A go to 0 (R378). -/
def tmrAbort (s : State) (n : Nat) : State :=
  let s1 := tmrStop s n
  (s1.setFld (tmrB n) F.TMR_COUNT_COUNT 0).setTimer n { s1.timer n with acc := 0 }

/-- The action of a write of TMR_CTRL whose stored fields stand in the register: v is the word written (R377, R378). -/
def tmrCtrlWritten (s : State) (n v : Nat) : State :=
  if bit v 3 then tmrAbort s n
  else if bit v 0 then
    if s.fld (tmrB n) F.TMR_STATUS_STATE = 2 then s
    else if bit v 2 then s.setFld (tmrB n) F.TMR_STATUS_STATE 1
    else tmrBegin s n
  else tmrStop s n

/-- The action of a write of TMR_RELOAD: staged while the timer counts (R376). The old word is the one in force. -/
def tmrReloadWritten (s : State) (n : Nat) (old : Word) : State :=
  if tmrCounting s n then
    match (s.timer n).active with
    | some _ => s
    | none => s.setTimer n { s.timer n with active := some old }
  else s.setTimer n { s.timer n with active := none }

/-- The action of a write of TMR_CMP: armed while the timer counts, else stored (R381). -/
def tmrCmpWritten (s : State) (n : Nat) : State :=
  if tmrCounting s n then armCompare s n else s.setTimer n { s.timer n with stored := true }

/-- Apply f to every timer whose bit is set in a 32-bit mask whose bit 0 is timer k (R377). -/
def forMask (f : State → Nat → State) (s : State) (mask k : Nat) : State :=
  (List.range 32).foldl (fun s i => if bit mask i then f s (k + i) else s) s

/-- One timer takes an edge at a pin as a capture (R383, R384). -/
def tmrCapture (s : State) (pin : Nat) (rising : Bool) (n : Nat) : State :=
  let b := tmrB n
  if tmrCounting s n && s.flag b F.TMR_CFG_CAP_EN && s.fld b F.TMR_CFG_CPIN == pin then
    let capv := s.flag b F.TMR_CFG_CAPV
    let v : Nat := if capv then (timeW1 s.cabNs).toNat else s.fld b F.TMR_COUNT_COUNT
    if rising then
      let s1 := if s.flag b F.TMR_STATUS_CAP_R_NEW then s.bump b F.TMR_CNT_CAP_OVR 1 else s
      let s2 := (s1.setFld b F.TMR_CAP_R_VALUE v).setFld b F.TMR_STATUS_CAP_R_NEW 1
      s2.setTimer n { s2.timer n with rise := true }
    else
      let s1 := if s.flag b F.TMR_STATUS_CAP_F_NEW then s.bump b F.TMR_CNT_CAP_OVR 1 else s
      let s2 := (s1.setFld b F.TMR_CAP_F_VALUE v).setFld b F.TMR_STATUS_CAP_F_NEW 1
      if (s.timer n).rise then
        let r := s.fld b F.TMR_CAP_R_VALUE
        let w : Int := if capv then (((v % 2 ^ 30 : Nat) : Int) - ((r % 2 ^ 30 : Nat) : Int)) % 1000000000
                       else ((v : Int) - (r : Int)) % ((activeReload s n + 1 : Nat) : Int)
        let s3 := s2.setFld b F.TMR_WIDTH_VALUE w.toNat
        s3.setTimer n { s3.timer n with rise := false }
      else s2
  else s

/-- One timer takes an edge at a pin as a tick of its source (R374, SRC 4 to 6). -/
def tmrPinTick (s : State) (pin : Nat) (rising : Bool) (n : Nat) : State :=
  let src := s.fld (tmrB n) F.TMR_CFG_SRC
  if s.fld (tmrB n) F.TMR_CFG_PIN = pin ∧ (src = 6 ∨ (src = 4 ∧ rising) ∨ (src = 5 ∧ ¬ rising)) then tmrSourceTick 64 s n
  else s

/-- An edge at pin TIO(pin): captures first, with the count of the cycle, then counting, then the event line of a rising
edge (R383, R374, R385). -/
def tioEdge (s : State) (pin : Nat) (rising : Bool) : State :=
  let s1 := (List.range 64).foldl (fun s n => tmrCapture s pin rising n) s
  let s2 := (List.range 64).foldl (fun s n => tmrPinTick s pin rising n) s1
  let s3 := { s2 with tio := if rising then s2.tio ||| (1#8 <<< pin) else s2.tio &&& ~~~(1#8 <<< pin) }
  if rising then s3.pulse (376 + pin) else s3

/-- Pin TIO(pin) is driven by the supervisor alone: a valid KIND 3 entry of the timetable names it (R400). -/
def tioOfSup (s : State) (pin : Nat) : Bool :=
  (List.range 32).any (fun r => s.flag (supB + 0x10 * r) F.SUP_TTE_A_VALID && s.fld (supB + 0x10 * r) F.SUP_TTE_A_KIND == 3 &&
    s.fld (supB + 0x10 * r) F.SUP_TTE_A_INDEX == pin)

/-- The level at pin TIO(pin): the supervisor's where a timetable entry names it (R400); else the lowest-numbered timer with
OUT not 0 that names it drives it, else the ball's level (R382). -/
def tioLevel (s : State) (pin : Nat) : Bool :=
  if tioOfSup s pin then s.sup.pins.contains pin else
  match (natsWhere 64 (fun n => s.fld (tmrB n) F.TMR_CFG_OUT != 0 && s.fld (tmrB n) F.TMR_CFG_OPIN == pin)).head? with
  | some n => (s.timer n).out
  | none => s.tio.getLsbD pin

/-- The flag of task input i: a latch for KIND 0, COUNT above 0 for KIND 1 (R387). -/
def tinFlag (s : State) (i : Nat) : Bool :=
  if s.fld (evtB + 16 * i) F.EVT_TIN_CFG_KIND = 1 then s.fld (evtB + 16 * i) F.EVT_TIN_CNT_COUNT != 0
  else s.tinFlags.contains i

/-- The enabled lines of task input i, each once; lines 384 to 511 act as disabled (R386). -/
def tinLines (s : State) (i : Nat) : List Nat :=
  let b := evtB + 16 * i
  let one := fun (En Sel : Fld) => if s.flag b En && decide (s.fld b Sel < 384) then [s.fld b Sel] else []
  (one F.EVT_TIN_SEL_EN0 F.EVT_TIN_SEL_SEL0 ++ one F.EVT_TIN_SEL_EN1 F.EVT_TIN_SEL_SEL1 ++
   one F.EVT_TIN_SEL2_EN0 F.EVT_TIN_SEL2_SEL0 ++ one F.EVT_TIN_SEL2_EN1 F.EVT_TIN_SEL2_SEL1).eraseDups

/-- The gate of task input i passes events (R386). -/
def tinGate (s : State) (i : Nat) : Bool :=
  let b := evtB + 16 * i
  let g := s.fld b F.EVT_TIN_CFG_GATE
  let c := if g = 1 then bit (s.rd (evtB + 0x1000 + 4 * (i / 32))).toNat (i % 32)
           else if g = 2 then tioLevel s (s.fld b F.EVT_TIN_CFG_GSEL % 8)
           else tmrCounting s (s.fld b F.EVT_TIN_CFG_GSEL)
  if g = 0 then true else c != s.flag b F.EVT_TIN_CFG_INV

/-- DMA channels and capture units take n events of task input i (R388, R361, R365). -/
def tinDeliver (s : State) (i n : Nat) : State :=
  let s1 := (List.range 32).foldl (fun s c =>
    if s.flag (dmaB c) F.DMA_TRIG_EN ∧ s.fld (dmaB c) F.DMA_TRIG_INPUT = i then
      { s with dmaArr := sparseSet (fun _ => 0) s.dmaArr c (sparseGet (fun _ => 0) s.dmaArr c + n) } else s) s
  (List.range 8).foldl (fun s u =>
    if s.fld (capB u) F.CAP_STATUS_STATE = 1 ∧ s.fld (capB u) F.CAP_CTRL_START = 2 ∧ s.fld (capB u) F.CAP_CTRL_INPUT = i
    then s.setFld (capB u) F.CAP_STATUS_STATE 2 else s) s1

/-- Task input i takes k > 0 events that pass its gate in one core cycle (R387, R388); kind is its KIND. -/
def tinEvents (s : State) (i k kind : Nat) (coincEv : Bool) : State :=
  let b := evtB + 16 * i
  if kind = 1 then
    let c := s.fld b F.EVT_TIN_CNT_COUNT
    let s1 := s.setFld b F.EVT_TIN_CNT_COUNT (satAdd 0xFFFF c k)
    let s2 := if c + k > 0xFFFF then s1.bump b F.EVT_TIN_CNT_OVR (c + k - 0xFFFF) else s1
    tinDeliver s2 i k
  else
    let s1 := if s.tinFlags.contains i then s.bump b F.EVT_TIN_CNT_OVR 1 else { s with tinFlags := setAdd s.tinFlags i }
    let s2 := if k > 1 then s1.bump b F.EVT_TIN_CNT_COINC (k - 1) else s1
    let s3 := if k > 1 ∧ coincEv then s2.pulse 374 else s2
    tinDeliver s3 i 1

/-- Task input i judges the lines that pulsed in a cycle; gate and routing are those of s0, the cycle before (R386). -/
def tinJudge (s0 : State) (lines : List Nat) (s : State) (i : Nat) : State :=
  let k := ((tinLines s0 i).filter (fun l => lines.contains l)).length
  if k = 0 then s
  else if tinGate s0 i then
    tinEvents s i k (s0.fld (evtB + 16 * i) F.EVT_TIN_CFG_KIND) (s0.flag (evtB + 16 * i) F.EVT_TIN_CFG_COINC_EV)
  else s

/-- The matrix takes the pulses of one cycle: every task input judges them. -/
def matrixCycle (s0 s : State) : State :=
  match s.pulses with
  | [] => s
  | lines => (List.range 256).foldl (tinJudge s0 lines) { s with pulses := [] }

/-- Where a report stands among those that arrive in one core cycle: bits [63:44] of its message (R418). -/
def reportKey (m : Msg) : Nat := (m.cls * 256 + m.inst) * 256 + m.kind

/-- Insert a report behind those of the same or a lower key. -/
def reportIns (m : Msg) : List Msg → List Msg
  | [] => [m]
  | q :: t => if reportKey m < reportKey q then m :: q :: t else q :: reportIns m t

/-- The reports a command has made arrive in ascending order of source and kind (R418). -/
def reportsSort (s0 s : State) : State :=
  let n := s0.reports.length
  { s with reports := s.reports.take n ++ (s.reports.drop n).foldl (fun l m => reportIns m l) [] }

/-- End of a command: the lines it pulsed reach the task inputs, and line 374, if it pulsed so, reaches them in the next
cycle, whose gates and routing are those of the command's own (R385 to R387). s0 is the state before the command. -/
def settle (s0 s : State) : State :=
  let s1 := reportsSort s0 s
  match s1.pulses with
  | [] => s1
  | _ => { matrixCycle s1 (matrixCycle s0 s1) with pulses := [] }

end Sys2Proof.Machine
end

