-- ==== Sys2Proof/Machine/Engine.lean ====
section
/-! DEFINITION. Achal engines (R304 to R349): contexts, the issue of an instruction, faults, products, the data and
instruction spaces under the memory protection unit, calls, and what starts, halts and switches an engine. -/
namespace Sys2Proof.Machine

/-- What an instruction does: it completes, it faults with a cause and FADDR (R337), or it stalls and is tried again. -/
inductive EngRes where
  /-- The instruction completes. -/
  | done (s : State)
  /-- It raises a fault: FCAUSE and FADDR. -/
  | fault (cause arg : Nat)
  /-- It waits (R445): nothing has changed. -/
  | stall

/-- A context that has never run. -/
def ctx0 : EngCtx := ⟨[], 0, 0#32, 0#32, 0#32, 0#32, false, false⟩
/-- Context c of engine e: 0 to 7 tasks, 8 the fault context. -/
def State.ctx (s : State) (e c : Nat) : EngCtx := sparseGet (fun _ => ctx0) (s.engine e).ctxs c
/-- Write a context. -/
def State.setCtx (s : State) (e c : Nat) (x : EngCtx) : State :=
  s.setEngine e { s.engine e with ctxs := sparseSet (fun _ => ctx0) (s.engine e).ctxs c x }
/-- A general register; g0 reads as zero (R304). -/
def EngCtx.reg (x : EngCtx) (r : BitVec 5) : Word := if r = 0#5 then 0#32 else sparseGet (fun _ => 0#32) x.g r.toNat
/-- Write a general register; a write to g0 is discarded (R304). -/
def EngCtx.setReg (x : EngCtx) (r : BitVec 5) (v : Word) : EngCtx :=
  if r = 0#5 then x else { x with g := sparseSet (fun _ => 0#32) x.g r.toNat v }
/-- The PC of a context set, modulo 4096 (R305). -/
def EngCtx.goto (x : EngCtx) (pc : Nat) : EngCtx := { x with pc := pc % 4096 }

/-- ENG_STATUS.STATE. -/
def engState (s : State) (e : Nat) : Nat := s.fld (engB e) F.ENG_STATUS_STATE
/-- The context whose instructions issue now; none while the engine does not run, waits, or has a fault due. -/
def engRuns (s : State) (e : Nat) : Option Nat :=
  if s.pwr.core && !s.pwr.asleep && engState s e == 1 && !(s.engine e).due then (s.engine e).cur else none
/-- TASKk_STAT.STATE. -/
def taskState (s : State) (e k : Nat) : Nat := s.fld (engB e + 0x10 * k) ⟨R.ENG_TASK_STAT, 2, 0⟩
/-- Set TASKk_STAT.STATE; the fault context has none. -/
def setTask (s : State) (e k st : Nat) : State :=
  if k < 8 then s.setFld (engB e + 0x10 * k) ⟨R.ENG_TASK_STAT, 2, 0⟩ st else s
/-- TASKk_CFG. -/
def taskCfg (s : State) (e k : Nat) : Nat := (s.rd (engB e + 0x40 + 0x10 * k)).toNat
/-- TASKk_CFG.EN. -/
def taskEn (s : State) (e k : Nat) : Bool := bit (taskCfg s e k) 15
/-- The defined felts that engine e owns. -/
def ownFelts (s : State) (e : Nat) : List Nat := natsWhere 96 (fun f => feltDefined s f && feltOwner s f == e)

/-! Products. -/

/-- A product becomes visible (R327). -/
def EngCtx.product (x : EngCtx) (p : EngProd) : EngCtx :=
  { x with pl := p.pl, ph := if p.wide then p.ph else x.ph, fps := x.fps ||| BitVec.ofNat 32 p.flags }
/-- Every product in flight completes (R329). -/
def engDrain (s : State) (e c : Nat) : State :=
  match (s.engine e).prods with
  | [] => s
  | l =>
    let s1 := s.setCtx e c (l.foldl EngCtx.product (s.ctx e c))
    s1.setEngine e { s1.engine e with prods := [] }
/-- PH:PL as the product instruction before the next one leaves them (R328). -/
def prodInput (s : State) (e c : Nat) : Word × Word :=
  match (s.engine e).prods.getLast? with
  | some p => (p.pl, p.ph)
  | none => ((s.ctx e c).pl, (s.ctx e c).ph)
/-- A product instruction issues (R327). -/
def prodIssue (s : State) (e : Nat) (p : EngProd) : State := s.setEngine e { s.engine e with prods := (s.engine e).prods ++ [p] }
/-- The oldest product in flight becomes visible. -/
def prodComplete (s : State) (e : Nat) : State :=
  match (s.engine e).prods, (s.engine e).cur with
  | p :: t, some c =>
    let s1 := s.setCtx e c ((s.ctx e c).product p)
    s1.setEngine e { s1.engine e with prods := t }
  | _, _ => s

/-! Faults. -/

/-- The kind a cause is reported with (R337). -/
def causeKind (cause : Nat) : Nat :=
  if cause = 1 then K.ILLEGAL else if cause = 2 then K.ALIGN else if cause = 3 ∨ cause = 4 then K.ACCESS
  else if cause = 5 ∨ cause = 6 then K.STACK else K.TRAP

/-- The felts of an engine that has halted by a fault go safe and stay held (R35). -/
def engFeltsSafe (s : State) (e : Nat) : State :=
  let fs := ownFelts s e
  let s1 := { s with fc := { s.fc with heldFelts := setUnion s.fc.heldFelts fs, wide := if fs = [] then s.fc.wide else max 2 s.fc.wide } }
  fcState (fs.foldl feltSafe s1)

/-- An engine halts by a fault (R35, R345, R348). -/
def engFaultHalt (s : State) (e : Nat) : State :=
  let s1 := s.setFld (engB e) F.ENG_STATUS_STATE 3
  engFeltsSafe (s1.setEngine e { s1.engine e with due := false }) e

/-- An instruction of context c faults (R336, R337, R345, R348). -/
def engFault (s : State) (e c cause arg : Nat) : State :=
  let b := engB e
  let s0 := engDrain s e c
  let s1 := s0.setEngine e { s0.engine e with fcause := cause, fpc := (s0.ctx e c).pc, faddr := arg % 2 ^ 32 }
  let s2 := (s1.bump b F.ENG_STATUS_FAULTS 1).setFld b F.ENG_STATUS_FTASK c
  if c = 8 then engFaultHalt (s2.report 9 e K.ENGINE_DOUBLE cause) e
  else
    let s3 := (setTask (s2.report 9 e (causeKind cause) arg) e c 4).setFld b F.ENG_FSTAT_FTASK c
    s3.setEngine e { s3.engine e with due := true }

/-- Engine e issues an instruction: the PC goes on, op does the rest; a fault leaves everything else as it was (R336). -/
def engIssue (s : State) (e : Nat) (op : State → Nat → EngRes) : State :=
  match engRuns s e with
  | none => s
  | some c =>
    match op (s.setCtx e c ((s.ctx e c).goto ((s.ctx e c).pc + 1))) c with
    | .done t => t
    | .fault cause arg => engFault s e c cause arg
    | .stall => s

/-- An instruction that only changes its context's registers. -/
def engReg (s : State) (e : Nat) (f : EngCtx → EngCtx) : State :=
  engIssue s e (fun s c => .done (s.setCtx e c (f (s.ctx e c))))

/-- The word of an Achal instruction; 0 of any other command. -/
def achalWord (i : Instr) : Nat := ((achalEncode i).map (fun p => p.2.toNat)).getD 0

/-- A reserved encoding issues (R313). -/
def engIllegal (s : State) (e : Nat) (w : Nat) : State := engIssue s e (fun _ _ => .fault 1 w)

/-! Integer results. -/

/-- Sign extension to 32 bits. -/
def sx {w : Nat} (v : BitVec w) : Word := v.signExtend 32
/-- Zero extension to 32 bits. -/
def zx {w : Nat} (v : BitVec w) : Word := v.zeroExtend 32
/-- 1 or 0. -/
def boolWord (b : Bool) : Word := if b then 1#32 else 0#32
/-- Leading zero bits (CLZ). -/
def clzWord (v : Word) : Word := if v = 0#32 then 32#32 else BitVec.ofNat 32 (31 - Nat.log2 v.toNat)
/-- Rotate right. -/
def rorWord (v : Word) (n : Nat) : Word := v.rotateRight n
/-- The bit field of w bits at pos, zero-extended (BFXU). -/
def fieldU (v : Word) (pos w : Nat) : Word := BitVec.ofNat 32 (v.toNat / 2 ^ pos % 2 ^ w)
/-- The bit field of w bits at pos, sign-extended (BFXS). -/
def fieldS (v : Word) (pos w : Nat) : Word := BitVec.ofInt 32 (sint w (v.toNat / 2 ^ pos))
/-- d with its field of w bits at pos taken from the low bits of v (BFI). -/
def fieldIns (d v : Word) (pos w : Nat) : Word := BitVec.ofNat 32 (setBits d.toNat (pos + w - 1) pos v.toNat)
/-- PERM: byte i of the result is byte sel[2i+1:2i] (R317). -/
def permWord (v : Word) (sel : BitVec 8) : Word :=
  let k := fun i => byteOf v (bits sel.toNat (2 * i + 1) (2 * i))
  leWord (k 0) (k 1) (k 2) (k 3)
/-- The conditions of BR and BRI (R320); none where reserved. -/
def brCond (cond : Nat) (a b : Word) : Option Bool :=
  match cond with
  | 0 => some (a == b)
  | 1 => some (a != b)
  | 2 => some (a.slt b)
  | 3 => some (!(a.slt b))
  | 4 => some (a.ult b)
  | 5 => some (!(a.ult b))
  | _ => none
/-- The conditions of FBR with the flags they raise (R320); none where reserved. -/
def fbrCond (cond : Nat) (a b : Word) : Option (Bool × Nat) :=
  let sn := fSnan2 a b
  let nan := if fIsNaN a || fIsNaN b then FNV else 0
  match cond with
  | 0 => some (fEq a b, sn)
  | 1 => some (!(fEq a b), sn)
  | 2 => some (fLt a b, nan)
  | 3 => some (fLe a b, nan)
  | 4 => some (fIsNaN a || fIsNaN b, sn)
  | _ => none
/-- Raise FPS flags: an operation sets a flag and never clears one (R332). -/
def EngCtx.flags (x : EngCtx) (n : Nat) : EngCtx := { x with fps := x.fps ||| BitVec.ofNat 32 n }
/-- rd takes a floating-point result with its flags. -/
def EngCtx.setF (x : EngCtx) (rd : BitVec 5) (r : Word × Nat) : EngCtx := (x.flags r.2).setReg rd r.1
/-- A taken branch: PC, already past the branch, becomes the branch's own address plus the offset (R305, R312). -/
def EngCtx.branch (x : EngCtx) (off : BitVec 13) : EngCtx := x.goto ((x.pc : Int) + 4095 + off.toInt + 4096).toNat

/-- A branch that a condition decides: none faults as ILLEGAL with the word. -/
def engBranch (s : State) (e : Nat) (w : Nat) (off : BitVec 13) (cond : EngCtx → Option (Bool × Nat)) : State :=
  engIssue s e (fun s c =>
    match cond (s.ctx e c) with
    | none => .fault 1 w
    | some (t, fl) =>
      let x := (s.ctx e c).flags fl
      .done (s.setCtx e c (if t then x.branch off else x)))

/-- A signed 64-bit product as PH:PL, added to an input (R327). -/
def prodWide (acc : Nat) (p : Int) : EngProd :=
  let v := unint 64 ((acc : Int) + p)
  ⟨true, BitVec.ofNat 32 v, BitVec.ofNat 32 (v / 2 ^ 32), 0⟩

/-- An integer product instruction (R327). -/
def engProduct (s : State) (e : Nat) (ra rb : BitVec 5) (signed add : Bool) : State :=
  engIssue s e (fun s c =>
    let x := s.ctx e c
    let (pl, ph) := prodInput s e c
    let p : Int := if signed then (x.reg ra).toInt * (x.reg rb).toInt else (((x.reg ra).toNat * (x.reg rb).toNat : Nat) : Int)
    .done (prodIssue s e (prodWide (if add then ph.toNat * 2 ^ 32 + pl.toNat else 0) p)))

/-- A floating product instruction (R327): PL alone. -/
def engFProduct (s : State) (e : Nat) (ra rb : BitVec 5) (add : Bool) : State :=
  engIssue s e (fun s c =>
    let x := s.ctx e c
    let (pl, ph) := prodInput s e c
    let r := if add then fMacF (x.reg ra) (x.reg rb) pl else fMulF (x.reg ra) (x.reg rb)
    .done (prodIssue s e ⟨false, r.1, ph, r.2⟩))

/-! The data space. -/

/-- Where a data address lies for a context (R308, R346): in the fault context's stack, or at a host address. -/
def engLoc (e c a : Nat) : Option (Bool × Nat) :=
  if a < 0x4000 then some (false, 0x1004000 + 0x8000 * e + a)
  else if c = 8 ∧ a < 0x4100 then some (true, a - 0x4000)
  else if 0x2000000 ≤ a ∧ a < 0x2400000 then some (false, a)
  else if 0x3000000 ≤ a ∧ a < 0x3010000 then some (false, a)
  else none

/-- The MPU allows an access of bytes [lo, hi] of a space (R355, R356): the highest enabled region that contains it, is of its
space and names the context decides. -/
def mpuOk (s : State) (e c : Nat) (instr : Bool) (lo hi : Nat) (write : Bool) : Bool :=
  let b := engB e
  if s.flag b F.ENG_MPU_CTRL_EN then
    let hit := fun r =>
      let a := (s.rd (b + R.ENG_MPU_ATTR + 0x10 * r)).toNat
      bit a 0 && (bit a 3 == instr) && bit a (8 + c) &&
        decide ((s.rd (b + R.ENG_MPU_BASE + 0x10 * r)).toNat / 32 ≤ lo / 32 ∧ hi / 32 ≤ (s.rd (b + R.ENG_MPU_LIM + 0x10 * r)).toNat / 32)
    match (natsWhere 8 hit).getLast? with
    | none => false
    | some r => bit (s.rd (b + R.ENG_MPU_ATTR + 0x10 * r)).toNat (if write then 2 else 1)
  else true

/-- The checks of R356 after alignment, for n bytes at a: FCAUSE of the first that fails. -/
def engCheck (s : State) (e : Fin 96) (c a n : Nat) (write : Bool) : Option Nat :=
  match engLoc e c a with
  | none => some 4
  | some (true, _) => none
  | some (false, h) =>
    if !(mpuOk s e c false a (a + n - 1) write) then some 3
    else if a < 0x4000 then none
    else if !(passOk s (.engine e) write h) then some 4
    else if write && decide (0x3000000 ≤ h) && slateProtected s (h - 0x3000000) then some 4
    else none

/-- An access there waits: a write for a store of the slate (R445), any for the boot scan (R456). -/
def engWaits (s : State) (write : Bool) (a : Nat) : Bool := busWaits s write a

/-- A byte of the data space. -/
def engByte (s : State) (e c a : Nat) : Byte :=
  match engLoc e c a with
  | some (true, o) => sparseGet (fun _ => 0#8) (s.engine e).stack o
  | some (false, h) => s.byte h
  | none => 0#8
/-- Write a byte of the data space. -/
def engSetByte (s : State) (e c a : Nat) (v : Byte) : State :=
  match engLoc e c a with
  | some (true, o) => s.setEngine e { s.engine e with stack := sparseSet (fun _ => 0#8) (s.engine e).stack o v }
  | some (false, h) => s.setByte h v
  | none => s
/-- n bytes of the data space, little-endian (R308). -/
def engLoad (s : State) (e c a n : Nat) : Nat := leNat ((List.range n).map (fun i => engByte s e c (a + i)))
/-- Write n bytes of the data space, little-endian (R308). -/
def engStore (s : State) (e c a n v : Nat) : State :=
  (List.range n).foldl (fun s i => engSetByte s e c (a + i) (BitVec.ofNat 8 (v / 2 ^ (8 * i)))) s

/-- An aligned, allowed access, or its fault (R308, R356); it may wait. -/
def engAccess (s : State) (e : Fin 96) (c a n : Nat) (write : Bool) (act : EngRes) : EngRes :=
  if a % n ≠ 0 then .fault 2 a
  else
    match engCheck s e c a n write with
    | some k => .fault k a
    | none => if engWaits s write a then .stall else act

/-- The address of a format I access (R318). -/
def engAddr (x : EngCtx) (ra : BitVec 5) (imm : BitVec 16) : Nat := (x.reg ra + sx imm).toNat

/-- A load of n bytes; ext extends what is read (R318). -/
def engLd (s : State) (e : Fin 96) (rd ra : BitVec 5) (imm : BitVec 16) (n : Nat) (ext : Nat → Word) : State :=
  engIssue s e (fun s c =>
    let x := s.ctx e c
    let a := engAddr x ra imm
    engAccess s e c a n false (.done (s.setCtx e c (x.setReg rd (ext (engLoad s e c a n))))))

/-- A store of n bytes (R318). -/
def engSt (s : State) (e : Fin 96) (rs ra : BitVec 5) (imm : BitVec 16) (n : Nat) : State :=
  engIssue s e (fun s c =>
    let x := s.ctx e c
    let a := engAddr x ra imm
    engAccess s e c a n true (.done (engStore s e c a n (x.reg rs).toNat)))

/-- XCHG (R318): a read and a write of one word. -/
def engXchg (s : State) (e : Fin 96) (rs ra : BitVec 5) (imm : BitVec 16) : State :=
  engIssue s e (fun s c =>
    let x := s.ctx e c
    let a := engAddr x ra imm
    let t := BitVec.ofNat 32 (engLoad s e c a 4)
    engAccess s e c a 4 false
      (engAccess s e c a 4 true (.done ((engStore s e c a 4 (x.reg rs).toNat).setCtx e c (((engStore s e c a 4 (x.reg rs).toNat).ctx e c).setReg rs t)))))

/-- The word address of LDC and STC (R319). -/
def engCodeAddr (x : EngCtx) (ra : BitVec 5) (imm : BitVec 16) : Nat := (x.reg ra + sx imm).toNat % 4096
/-- The host address of a word of an engine's instruction space (R24). -/
def imemAt (e k : Nat) : Nat := 0x1000000 + 0x8000 * e + 4 * (k % 4096)

/-- LDC (R319); the MPU sees byte address 4 × word address (R355). -/
def engLdc (s : State) (e : Fin 96) (rd ra : BitVec 5) (imm : BitVec 16) : State :=
  engIssue s e (fun s c =>
    let x := s.ctx e c
    let k := engCodeAddr x ra imm
    if mpuOk s e c true (4 * k) (4 * k + 3) false then .done (s.setCtx e c (x.setReg rd (s.memWord (imemAt e k))))
    else .fault 3 (4 * k))

/-- STC (R319). -/
def engStc (s : State) (e : Fin 96) (rs ra : BitVec 5) (imm : BitVec 16) : State :=
  engIssue s e (fun s c =>
    let x := s.ctx e c
    let k := engCodeAddr x ra imm
    if mpuOk s e c true (4 * k) (4 * k + 3) true then .done (s.setMemWord (imemAt e k) (x.reg rs))
    else .fault 3 (4 * k))

/-! Calls (R323 to R326). -/

/-- The registers that a mask saves, ascending: bit k names g(4 + 2k) and g(5 + 2k). -/
def maskRegs (mask : BitVec 14) : List (BitVec 5) :=
  (List.range 14).flatMap (fun k => if mask.getLsbD k then [BitVec.ofNat 5 (4 + 2 * k), BitVec.ofNat 5 (5 + 2 * k)] else [])
/-- The size of a frame in bytes. -/
def frameSize (mask : BitVec 14) : Nat := 8 + 4 * (maskRegs mask).length
/-- The first word of a frame that is refused, with FCAUSE. -/
def frameRefused (s : State) (e : Fin 96) (c base n : Nat) (write : Bool) : Option (Nat × Nat) :=
  (List.range n).findSome? (fun i => let a := (base + 4 * i) % 2 ^ 32; (engCheck s e c a 4 write).map (fun k => (k, a)))
/-- Some word of a frame waits for a store of the slate or the boot scan. -/
def frameWaits (s : State) (write : Bool) (base n : Nat) : Bool := (List.range n).any (fun i => engWaits s write ((base + 4 * i) % 2 ^ 32))
/-- Store words upwards. -/
def frameStore (s : State) (e c base : Nat) (ws : List Word) : State :=
  (ws.zipIdx).foldl (fun s p => engStore s e c ((base + 4 * p.2) % 2 ^ 32) 4 p.1.toNat) s

/-- CALL and CALLR (R324); tgt reads the target before anything is pushed. -/
def engCall (s : State) (e : Fin 96) (mask : BitVec 14) (tgt : EngCtx → Nat) : State :=
  engIssue s e (fun s c =>
    let x := s.ctx e c
    let g2 := (x.reg 2#5).toNat
    let new := (x.reg 2#5 - BitVec.ofNat 32 (frameSize mask)).toNat
    let n := frameSize mask / 4
    if g2 % 8 ≠ 0 then .fault 2 g2
    else if new < x.sl.toNat ∨ g2 < new then .fault 5 new
    else
      match frameRefused s e c new n true with
      | some (k, a) => .fault k a
      | none =>
        if frameWaits s true new n then .stall
        else
          let s1 := frameStore s e c new (x.reg 1#5 :: zx mask :: (maskRegs mask).map x.reg)
          .done (s1.setCtx e c ((((s1.ctx e c).setReg 2#5 (BitVec.ofNat 32 new)).setReg 1#5 (BitVec.ofNat 32 x.pc)).goto (tgt x))))

/-- RET (R325). -/
def engRet (s : State) (e : Fin 96) (mask : BitVec 14) : State :=
  engIssue s e (fun s c =>
    let x := s.ctx e c
    let g2 := (x.reg 2#5).toNat
    let n := frameSize mask / 4
    let w := fun i => engLoad s e c ((g2 + 4 * i) % 2 ^ 32) 4
    if g2 % 8 ≠ 0 then .fault 2 g2
    else
      match frameRefused s e c g2 n false with
      | some (k, a) => .fault k a
      | none =>
        if frameWaits s false g2 n then .stall
        else if w 1 ≠ mask.toNat then .fault 6 (w 1)
        else
          let x1 := ((maskRegs mask).zipIdx).foldl (fun x p => x.setReg p.1 (BitVec.ofNat 32 (w (2 + p.2)))) x
          let x2 := (x1.setReg 1#5 (BitVec.ofNat 32 (w 0))).setReg 2#5 (BitVec.ofNat 32 (g2 + frameSize mask))
          .done (s.setCtx e c (x2.goto (x.reg 1#5).toNat)))

/-! Special registers. -/

/-- CYCLE is read (R306): the core cycles since START, low 32 bits. At least the cycle of the MFS itself has passed since the last
read, and at least those of 1.25 ns that the line count has gone on since START; how many more the stalls have taken is free (log
entry 30). -/
def cycleRead (s : State) (e : Nat) : Word × State :=
  let (n, s1) := s.takeFree
  let y := s.engine e
  let now := max (y.cycle + 1) (4 * (s.lineNs - y.startNs) / 5) + n.toNat
  (BitVec.ofNat 32 now, s1.setEngine e { s1.engine e with cycle := now })

/-- A special register as MFS reads it, with the state after (R306); none where reserved. -/
def sprRead (s : State) (e c : Nat) (sr : Nat) : Option (Word × State) :=
  let x := s.ctx e c
  let y := s.engine e
  match sr with
  | 0 => some (x.pl, s)
  | 1 => some (x.ph, s)
  | 2 => some (x.fps, s)
  | 3 => some (x.sl, s)
  | 4 => some (BitVec.ofNat 32 ((x.pc + 4095) % 4096), s)
  | 5 => some (cycleRead s e)
  | 6 => some (BitVec.ofNat 32 (e + s.position * 2 ^ 8), s)
  | 7 => some (1#32, s)
  | 8 => some (BitVec.ofNat 32 (s.fld (engB e) F.ENG_STATUS_TASK), s)
  | 9 => some (BitVec.ofNat 32 y.fcause, s)
  | 10 => some (BitVec.ofNat 32 y.fpc, s)
  | 11 => some (BitVec.ofNat 32 y.faddr, s)
  | _ => none

/-- MFS (R306). -/
def engMfs (s : State) (e : Nat) (w : Nat) (g sr : BitVec 5) : State :=
  engIssue s e (fun s c =>
    match sprRead s e c sr.toNat with
    | none => .fault 1 w
    | some (v, s1) => .done (s1.setCtx e c ((s1.ctx e c).setReg g v)))

/-- MTS (R306, R329): PL, PH and FPS wait until every product in flight has completed. -/
def engMts (s : State) (e : Nat) (w : Nat) (g sr : BitVec 5) : State :=
  engIssue s e (fun s c =>
    let v := (s.ctx e c).reg g
    let s1 := engDrain s e c
    let x1 := s1.ctx e c
    match sr.toNat with
    | 0 => .done (s1.setCtx e c { x1 with pl := v })
    | 1 => .done (s1.setCtx e c { x1 with ph := v })
    | 2 => .done (s1.setCtx e c { x1 with fps := v &&& 0x1F#32 })
    | 3 => .done (s.setCtx e c { s.ctx e c with sl := v &&& 0xFFFFFFF8#32 })
    | _ => .fault 1 w)

/-! Starting, halting, switching (R341 to R349). -/

/-- The entry state that R343 gives: PC, g2 and SL; the other registers keep their values. -/
def taskEntry (s : State) (e k : Nat) : State :=
  let x := (s.ctx e k).goto (taskCfg s e k)
  s.setCtx e k { x.setReg 2#5 (s.rd (engB e + 0x44 + 0x10 * k)) with sl := s.rd (engB e + 0x48 + 0x10 * k) &&& 0xFFFFFFF8#32, reenter := false }

/-- The state in which a context begins after START (R307, R341). -/
def taskFirst (s : State) (e k : Nat) : State := taskEntry (s.setCtx e k { ctx0 with ran := true }) e k

/-- START (R341, R307, R357). -/
def engStart (s : State) (e : Nat) : State :=
  let b := engB e
  let s1 := s.wr (b + R.ENG_TASK0_CFG) (fset (s.rd (b + R.ENG_TASK0_CFG)) F.ENG_TASK0_CFG_ENTRY (s.fld b F.ENG_ENTRY_ENTRY))
  let s2 := (s1.wr (b + R.ENG_TASK_SP) 0x4000#32).wr (b + R.ENG_TASK_SL) 0#32
  let s3 := ((s2.setFld b F.ENG_STATUS_STATE 1).setFld b F.ENG_STATUS_TASK 0).setFld b F.ENG_STATUS_IN_FAULT 0
  let s4 := s3.setFld b F.ENG_MPU_CTRL_LOCK 0
  let s5 := s4.setEngine e { s4.engine e with cur := some 0, due := false, prods := [], bits := [], cycle := 0, startNs := s.lineNs }
  let s6 := (List.range 7).foldl (fun s k =>
    (setTask s e (k + 1) (b2n (taskEn s e (k + 1)))).setCtx e (k + 1) { s.ctx e (k + 1) with ran := false }) s5
  taskFirst (setTask s6 e 0 3) e 0

/-- A dispatch (R342): the context of highest priority among those READY or RUNNING; among equals the running one, else the
lowest-numbered. -/
def pickTask (s : State) (e : Nat) : Option Nat :=
  let ready := natsWhere 8 (fun k => taskState s e k == 2 || taskState s e k == 3)
  let pri := fun k => bits (taskCfg s e k) 14 12
  let top := (ready.map pri).foldl max 0
  let best := ready.filter (fun k => pri k == top)
  match best.find? (fun k => taskState s e k == 3) with
  | some k => some k
  | none => best.head?

/-- Context k runs now; its first dispatch since START is from its entry state (R341, R344). -/
def dispatchTask (s : State) (e k : Nat) : State :=
  let s1 := (setTask s e k 3).setFld (engB e) F.ENG_STATUS_TASK k
  let s2 := s1.setEngine e { s1.engine e with cur := some k }
  if (s2.ctx e k).ran then s2 else taskFirst s2 e k

/-- WAIT and RETI end the turn of task context k: it waits, or is DISABLED where EN is 0 (R343). -/
def taskEndTurn (s : State) (e k : Nat) : State :=
  let s1 := setTask (engDrain s e k) e k (b2n (taskEn s e k))
  s1.setEngine e { s1.engine e with cur := none }

/-- WAIT (R343). In the fault context, which no trigger wakes, it acts as NOP (DESIGN CHOICE, log entry 31). -/
def engWait (s : State) (e : Nat) : State :=
  engIssue s e (fun s c => .done (if c < 8 then taskEndTurn s e c else s))

/-- RETI (R343, R347). -/
def engReti (s : State) (e : Nat) : State :=
  engIssue s e (fun s c =>
    if c < 8 then .done (taskEntry (taskEndTurn s e c) e c)
    else
      let b := engB e
      let s0 := engDrain s e 8
      let s1 := (s0.setEngine e { s0.engine e with cur := none }).setFld b F.ENG_STATUS_IN_FAULT 0
      let k := s1.fld b F.ENG_FSTAT_FTASK
      let fpc := (s1.engine e).fpc
      match s1.fld b F.ENG_FSTAT_ACTION with
      | 1 => .done (taskEntry (setTask s1 e k (b2n (taskEn s1 e k))) e k)
      | 2 => .done (setTask (s1.setCtx e k { (s1.ctx e k).goto fpc with reenter := false }) e k 2)
      | 3 => .done (setTask (s1.setCtx e k { (s1.ctx e k).goto (fpc + 1) with reenter := false }) e k 2)
      | _ => .done s1)

/-- An intentional halt (R349): products drain, STATE 2. -/
def engHaltNow (s : State) (e : Nat) : State :=
  if engState s e = 1 then
    let s1 := match (s.engine e).cur with
      | some c => engDrain s e c
      | none => s
    s1.setFld (engB e) F.ENG_STATUS_STATE 2
  else s

/-- The HALT instruction (R322, R349). -/
def engHaltInstr (s : State) (e : Nat) : State := engIssue s e (fun s _ => .done (engHaltNow s e))

/-- RESUME (R349): only of an intentionally halted engine. -/
def engResumeNow (s : State) (e : Nat) : State :=
  if engState s e = 2 then s.setFld (engB e) F.ENG_STATUS_STATE 1 else s

/-- ABORT (R349): products in flight are discarded. An engine that does not run or is not halted on purpose has nothing to
stop (DEDUCED, log entry 32). -/
def engAbortNow (s : State) (e : Nat) : State :=
  if engState s e = 1 ∨ engState s e = 2 then
    let s1 := s.setFld (engB e) F.ENG_STATUS_STATE 4
    s1.setEngine e { s1.engine e with prods := [], due := false }
  else s

/-- The action of a write of ENG_CTRL: v the word written. ABORT wins over HALT, HALT over RESUME and START (R33). A sleeping device
refuses a start (R517). -/
def engCtrlWritten (s : State) (e v : Nat) : State :=
  if bit v 3 then engAbortNow s e
  else if bit v 2 then engHaltNow s e
  else if s.pwr.asleep then s
  else if bit v 0 then engStart s e
  else if bit v 1 then engResumeNow s e
  else s

/-- A write of TASKk_CFG has stored its fields: what its EN does (R341, R343, R347). EN = 0 of a FAULTED context releases it,
and the EN = 1 that follows makes it wait at its entry state, by ENTRY, SP and SL as they then stand. -/
def taskCfgWritten (s : State) (e k : Nat) : State :=
  let st := taskState s e k
  let x := s.ctx e k
  if engState s e = 0 then s
  else if taskEn s e k then
    (if st = 0 then (if x.reenter then taskEntry (setTask s e k 1) e k else setTask s e k 1) else s)
  else if st = 1 then setTask s e k 0
  else if st = 4 then (setTask s e k 0).setCtx e k { x with reenter := true }
  else s

/-- The fault context starts after a task fault, or the engine halts by the fault (R345). -/
def faultContextStart (s : State) (e : Nat) : State :=
  let b := engB e
  if engState s e = 1 ∧ (s.engine e).due then
    if s.flag b F.ENG_CFG_FV_EN then
      let x := (((s.ctx e 8).setReg 1#5 0#32).setReg 2#5 0x4100#32).goto (s.fld b F.ENG_CFG_FAULT_VEC)
      let s1 := s.setCtx e 8 { x with sl := 0x4000#32, pl := 0#32, ph := 0#32, fps := 0#32 }
      (s1.setEngine e { s1.engine e with cur := some 8, due := false }).setFld b F.ENG_STATUS_IN_FAULT 1
    else engFaultHalt s e
  else s

/-- Capture unit u: unread bytes in its ring (R367). -/
def capUnread (s : State) (u : Nat) : Nat :=
  let size := 2 ^ (11 + s.fld (capB u) F.CAP_RING_SIZE_K)
  ((s.fld (capB u) F.CAP_WR_WR : Int) - (s.fld (capB u) F.CAP_RD_RD : Int)).emod (size : Int) |>.toNat

/-- A mailbox FIFO of engine e: k inbound, 4 + k outbound (R353). -/
def mbxFifo (s : State) (e k : Nat) : List Word := sparseGet (fun _ => []) (s.engine e).mbx k
/-- Write a mailbox FIFO. -/
def setMbx (s : State) (e k : Nat) (l : List Word) : State :=
  s.setEngine e { s.engine e with mbx := sparseSet (fun _ => []) (s.engine e).mbx k l }
/-- Push into a mailbox FIFO of 16 words; into a full one the word is dropped and OVF set (R353). -/
def mbxPush (s : State) (e k : Nat) (v : Word) : State :=
  if (mbxFifo s e k).length < 16 then setMbx s e k (mbxFifo s e k ++ [v])
  else s.setFld (engB e) ⟨R.ENG_MBX_STAT, 24 + k, 24 + k⟩ 1
/-- Pop from a mailbox FIFO; an empty one gives 0 and does not change (R353). -/
def mbxPop (s : State) (e k : Nat) : Word × State :=
  match mbxFifo s e k with
  | [] => (0#32, s)
  | v :: t => (v, setMbx s e k t)

/-- Bits 0x800 to 0xBFF of the bit space (R352). -/
def trigBit (s : State) (e b : Nat) : Bool :=
  if b < 0x900 then tinFlag s (b - 0x800)
  else if b < 0x904 then !(mbxFifo s e (b - 0x900)).isEmpty
  else if b < 0x908 then decide ((mbxFifo s e (b - 0x904 + 4)).length < 16)
  else if b < 0x910 then bit (s.engine e).sw (b - 0x908)
  else if b < 0x930 then s.dmaDone.contains (b - 0x910)
  else if b < 0x938 then decide (s.fld (capB (b - 0x930)) F.CAP_WM_WM ≤ capUnread s (b - 0x930))
  else false

/-- The trigger of task k reads 1 (R341). -/
def taskTrig (s : State) (e k : Nat) : Bool :=
  bit (taskCfg s e k) 28 && decide (0x800 ≤ bits (taskCfg s e k) 27 16 ∧ bits (taskCfg s e k) 27 16 < 0xC00) &&
    trigBit s e (bits (taskCfg s e k) 27 16)

/-- An instruction boundary of engine e (R342, R344): waiting contexts whose trigger reads 1 become READY, and the context to
run is dispatched; products drain before a switch (R329). No task runs while the fault context runs or is due. -/
def taskSwitch (s : State) (e : Nat) : State :=
  if engState s e = 1 ∧ (s.engine e).due = false ∧ (s.engine e).cur ≠ some 8 then
    let s1 := (List.range 8).foldl (fun s k => if taskState s e k = 1 ∧ taskTrig s e k then setTask s e k 2 else s) s
    match pickTask s1 e, (s1.engine e).cur with
    | none, _ => s1
    | some k, none => dispatchTask s1 e k
    | some k, some c =>
      if k = c then s1 else dispatchTask (setTask (engDrain s1 e c) e c 2) e k
  else s

end Sys2Proof.Machine
end

