-- ==== Sys2Proof/Machine/DmaCap.lean ====
section
/-! DEFINITION. DMA channels and capture units (R358 to R370), but for the move of an element, which is a register or
memory access (DmaRun.lean). -/
namespace Sys2Proof.Machine

/-- Change one DMA channel's own record. -/
def State.dmaMod (s : State) (c : Nat) (g : DmaX → DmaX) : State := s.setDma c (g (s.dma c))
/-- DMA_STATUS.STATE. -/
def dmaState (s : State) (c : Nat) : Nat := s.fld (dmaB c) F.DMA_STATUS_STATE
/-- Set DMA_STATUS.STATE. -/
def setDmaState (s : State) (c st : Nat) : State := s.setFld (dmaB c) F.DMA_STATUS_STATE st
/-- The channel runs by triggers (R361). -/
def dmaTriggered (s : State) (c : Nat) : Bool := s.flag (dmaB c) F.DMA_TRIG_EN

/-- A triggered channel is ready for its next trigger: a pending one is served, else it is armed (R361). -/
def dmaReady (s : State) (c : Nat) : State :=
  let b := dmaB c
  let p := s.fld b F.DMA_STATUS_PEND
  if p = 0 then setDmaState s c 1 else setDmaState (s.setFld b F.DMA_STATUS_PEND (p - 1)) c 2

/-- EN = 1 starts afresh at DMA_DESC (R361, R362). -/
def dmaStart (s : State) (c : Nat) : State :=
  let b := dmaB c
  let s1 := s.dmaMod c (fun x => { x with desc := [], next := some (s.rd (b + R.DMA_DESC)).toNat, fresh := false, mid := false })
  let s2 := (s1.setFld b F.DMA_STATUS_ERR 0).setFld b F.DMA_REMAIN_REMAIN 0
  if dmaTriggered s2 c then dmaReady s2 c else setDmaState s2 c 2

/-- EN = 1 resumes a stopped channel at its next element, or a faulted one at the faulting element (R362, R363). -/
def dmaResume (s : State) (c : Nat) : State :=
  let s1 := s.setFld (dmaB c) F.DMA_STATUS_ERR 0
  if (s.dma c).mid || !dmaTriggered s1 c then setDmaState s1 c 2 else dmaReady s1 c

/-- The action of a write of DMA_CTRL: v the word written (R361 to R363). ABORT acts alone (R33, R34). A sleeping device refuses a
start (R517): EN reads 0 again (DESIGN CHOICE, log entry 9). -/
def dmaCtrlWritten (s : State) (c v : Nat) : State :=
  let b := dmaB c
  let st := dmaState s c
  if bit v 1 then
    let s1 := (setDmaState s c 0).setFld b F.DMA_STATUS_PEND 0
    s1.dmaMod c (fun x => { x with desc := [], next := none, fresh := true, mid := false })
  else if bit v 0 then
    if st = 1 ∨ st = 2 then s
    else if s.pwr.asleep then s.setFld b F.DMA_CTRL_EN 0
    else if (st = 3 ∨ st = 4) ∧ (s.dma c).fresh = false then dmaResume s c
    else dmaStart s c
  else if st = 1 ∨ st = 2 then (setDmaState s c 3).dmaMod c (fun x => { x with mid := st == 2 })
  else s

/-- A trigger that has reached the channel is taken (R361): it runs an armed channel, a busy one counts it. -/
def dmaTrigger (s : State) (c : Nat) : State :=
  let b := dmaB c
  let n := sparseGet (fun _ => 0) s.dmaArr c
  if n = 0 then s
  else
    let s1 := { s with dmaArr := sparseSet (fun _ => 0) s.dmaArr c (n - 1) }
    let st := dmaState s1 c
    if !dmaTriggered s1 c then s1
    else if st = 1 then setDmaState s1 c 2
    else if st = 2 ∨ st = 3 ∨ st = 4 then
      (if s1.fld b F.DMA_STATUS_PEND < 255 then s1.bump b F.DMA_STATUS_PEND 1 else s1.bump b F.DMA_STATUS_LOST 1)
    else s1

/-- The channel stops with state FAULT (R359, R362). -/
def dmaFail (s : State) (c err : Nat) : State :=
  ((setDmaState s c 4).setFld (dmaB c) F.DMA_STATUS_ERR err).dmaMod c (fun x => { x with mid := true })

/-- The size of an element in bytes. -/
def dmaSize (desc : List Word) : Nat := 2 ^ bits (desc.getD 2 0#32).toNat 17 16

/-- The checks of R359 on a fetched descriptor. -/
def descOk (w : List Word) : Bool :=
  let w2 := (w.getD 2 0#32).toNat
  let sz := dmaSize w
  let ring := bits w2 27 24
  decide (bits w2 31 28 = 0) && decide (bits (w.getD 3 0#32).toNat 31 24 = 0) && (w.getD 6 0#32 == 0#32) && (w.getD 7 0#32 == 0#32) &&
    decide (ring < 12) && decide ((w.getD 0 0#32).toNat % sz = 0 ∧ (w.getD 1 0#32).toNat % sz = 0)

/-- Channel c fetches and checks its next descriptor (R358, R359). -/
def dmaFetch (s : State) (c : Fin 32) : State :=
  match (s.dma c).next with
  | none => s
  | some a =>
    if dmaState s c = 2 then
      let ok := decide (a % 32 = 0 ∧ 0x2000000 ≤ a ∧ a < 0x2400000) && passOk s (.dma c) false a
      if !ok then (dmaFail s c 3).report 0xA c K.DMA_DESC a
      else
        let w := (List.range 8).map (fun k => s.memWord (a + 4 * k))
        let s1 := s.wr (dmaB c + R.DMA_CUR) (BitVec.ofNat 32 a)
        if !(descOk w) then (dmaFail s1 c 2).report 0xA c K.DMA_DESC a
        else
          let s2 := s1.setFld (dmaB c) F.DMA_REMAIN_REMAIN (bits (w.getD 2 0#32).toNat 15 0 + 1)
          s2.dmaMod c (fun x => { x with desc := w, next := none, src := (w.getD 0 0#32).toNat, dst := (w.getD 1 0#32).toNat })
    else s

/-- The next address after an element: fixed, linear, or within the ring whose base is the address with its low 11 + RING bits
cleared (R358, R359). -/
def dmaNext (a sz ring : Nat) (fixed ringed : Bool) : Nat :=
  if fixed then a
  else if ringed && decide (ring ≠ 0) then
    let n := 2 ^ (11 + ring)
    a / n * n + (a % n + sz) % n
  else (a + sz) % 2 ^ 32

/-- The ringed address's offset advances across a multiple of WM (R359). -/
def dmaCrosses (a sz ring wm : Nat) (fixed : Bool) : Bool :=
  let o := a % 2 ^ (11 + ring)
  !fixed && decide (ring ≠ 0 ∧ wm ≠ 0 ∧ o / wm < (o + sz) / wm)

/-- A channel completes its descriptor (R358, R361). -/
def dmaDescDone (s : State) (c : Nat) : State :=
  let b := dmaB c
  let x := s.dma c
  let w2 := (x.desc.getD 2 0#32).toNat
  let s1 := s.wr (b + R.DMA_TAG) (x.desc.getD 5 0#32)
  let s2 := if bit w2 20 then { s1.dmaMod c (fun x => { x with doneN := x.doneN + 1 }) with dmaDone := setAdd s1.dmaDone c } else s1
  if bit w2 21 then
    let s3 := s2.dmaMod c (fun y => { y with desc := [], next := some (x.desc.getD 4 0#32).toNat })
    if dmaTriggered s3 c then dmaReady s3 c else s3
  else setDmaState (s2.dmaMod c (fun y => { y with desc := [] })) c 5

/-- An element of channel c has moved (R358 to R361). -/
def dmaMoved (s : State) (c : Nat) : State :=
  let b := dmaB c
  let x := s.dma c
  let w2 := (x.desc.getD 2 0#32).toNat
  let wm := bits (x.desc.getD 3 0#32).toNat 23 0
  let sz := dmaSize x.desc
  let ring := bits w2 27 24
  let onDst := bit w2 23
  let sf := bit w2 18
  let df := bit w2 19
  let cross := if onDst then dmaCrosses x.dst sz ring wm df else dmaCrosses x.src sz ring wm sf
  let left := s.fld b F.DMA_REMAIN_REMAIN - 1
  let s1 := s.setDma c { x with src := dmaNext x.src sz ring sf (!onDst), dst := dmaNext x.dst sz ring df onDst, wmN := if cross then x.wmN + 1 else x.wmN }
  let s2 := s1.setFld b F.DMA_REMAIN_REMAIN left
  if left = 0 then dmaDescDone s2 c
  else if bit w2 22 && dmaTriggered s2 c then dmaReady s2 c
  else s2

/-- The channel whose element moves next (R360): the highest priority first, equals in turn after the one last served. -/
def dmaTurn (s : State) : Option Nat :=
  let can := natsWhere 32 (fun c => dmaState s c == 2 && (s.dma c).next == none && !(s.dma c).desc.isEmpty)
  let pri := fun c => s.fld (dmaB c) F.DMA_CTRL_PRI
  let top := (can.map pri).foldl max 0
  let best := can.filter (fun c => pri c == top)
  match best.find? (fun c => decide (sparseGet (fun _ => 32) s.dmaLast top < c)) with
  | some c => some c
  | none => best.head?

/-! Capture. -/

/-- Change one capture unit's own record. -/
def State.capMod (s : State) (u : Nat) (g : CapX → CapX) : State := s.setCap u (g (s.cap u))
/-- CAP_STATUS.STATE. -/
def capState (s : State) (u : Nat) : Nat := s.fld (capB u) F.CAP_STATUS_STATE
/-- Set CAP_STATUS.STATE. -/
def setCapState (s : State) (u st : Nat) : State := s.setFld (capB u) F.CAP_STATUS_STATE st
/-- The selected slots, ascending. -/
def capSlots (mask : Nat) : List Nat := natsWhere 16 (fun j => bit mask j)
/-- The ring's size in bytes (R367). -/
def capSize (s : State) (u : Nat) : Nat := 2 ^ (11 + s.fld (capB u) F.CAP_RING_SIZE_K)
/-- The words of a record of n kept frames with k slots (R366). -/
def recLen (n k : Nat) : Nat := 6 + (n * k + 1) / 2
/-- The words of a record. -/
def CapRec.len (r : CapRec) : Nat := recLen r.frames (capSlots r.slots).length
/-- The ring is valid (R367): K 1 to 11, aligned, within shared memory. -/
def capRingOk (s : State) (u : Nat) : Bool :=
  let k := s.fld (capB u) F.CAP_RING_SIZE_K
  let a := (s.rd (capB u + R.CAP_RING_BASE)).toNat
  decide (1 ≤ k ∧ k ≤ 11 ∧ a % capSize s u = 0 ∧ 0x2000000 ≤ a ∧ a + capSize s u ≤ 0x2400000)
/-- The checks of R365: 0 passes. -/
def capCheck (s : State) (u : Nat) : Nat :=
  let b := capB u
  let slots := s.fld b F.CAP_SRC_SLOTS
  let q := s.fld b F.CAP_SRC_QTY
  let n := s.fld b F.CAP_REC_FRAMES + 1
  if !(capRingOk s u) then 1
  else if capSize s u < 8 * recLen n (capSlots slots).length then 2
  else if slots = 0 ∨ q = 0 ∨ (q = 3 ∧ n % 2 = 1) then 3 else 0

/-- The record in progress closes early (R369). -/
def capStop (s : State) (u : Nat) : State :=
  let x := s.cap u
  match x.cur with
  | some r => setCapState (s.setCap u { x with cur := none, closed := x.closed ++ [{ r with trunc := true }] }) u 3
  | none => setCapState s u (if x.closed = [] then 0 else 3)

/-- The action of a write of CAP_CTRL: v the word written (R365, R369). ABORT acts alone (R33, R34). -/
def capCtrlWritten (s : State) (u v : Nat) : State :=
  let st := capState s u
  if bit v 1 then setCapState (s.capMod u (fun x => { x with cur := none, begun := false })) u 0
  else if bit v 0 then
    if st = 1 ∨ st = 2 then s
    else
      let k := capCheck s u
      let s1 := s.setFld (capB u) F.CAP_STATUS_CODE k
      if k ≠ 0 then s1
      else
        let start := s.fld (capB u) F.CAP_CTRL_START
        setCapState (s1.capMod u (fun x => { x with pair := 0, keep := false, begun := false, cur := none })) u (if start = 1 ∨ start = 2 then 1 else 2)
  else if st = 1 then setCapState s u 0
  else if st = 2 then capStop s u
  else s

/-- The stamp of L_k of the uplink frame that arrives now on lane l (R72, R366): 5 k ns by its index k. Of a lane that is not in
RUN no frame has an index: there it is the multiple of 5 ns nearest to the present time less M_NOW (DEDUCED, log entry 34). -/
def capStamp (s : State) (l : Nat) : DWord :=
  if laneRun s l then stampOf ((5 * (s.lane l).idx + s.timeOfs) % (cabWrap : Int)).toNat
  else
    let t : Int := (s.cabNs : Int) * 64 - (s.fld (slB l) F.SL_LAT_TRACK_M_NOW : Int)
    stampOf (((t + 160) / 320 * 5) % (cabWrap : Int)).toNat

/-- A record begins (R366, R367): dropped where the staging buffer cannot take it whole. -/
def capBegin (s : State) (u : Nat) : CapRec :=
  let b := capB u
  let slots := s.fld b F.CAP_SRC_SLOTS
  let l := s.fld b F.CAP_SRC_LANE
  let need := recLen (s.fld b F.CAP_REC_FRAMES + 1) (capSlots slots).length
  let used := ((s.cap u).closed.filter (fun r => !r.lost)).foldl (fun n r => n + r.len) 0
  ⟨s.fld b F.CAP_SRC_QTY, l, slots, capStamp s l, 0, 0, false, decide (16384 < used + need), []⟩

/-- A kept frame enters unit u's record (R364, R366). -/
def capTake (s : State) (u : Nat) (fr : Option UpFrame) : State :=
  let x := s.cap u
  let r := x.cur.getD (capBegin s u)
  let vals := (capSlots r.slots).map (fun j => match fr with
    | some f => unint 16 (sint 14 (f.slot j))
    | none => 0xE000)
  let r1 := { r with frames := r.frames + 1, bad := r.bad + b2n fr.isNone, samples := if r.lost then [] else r.samples ++ vals }
  if r1.frames = s.fld (capB u) F.CAP_REC_FRAMES + 1 then s.setCap u { x with cur := none, closed := x.closed ++ [r1] }
  else s.setCap u { x with cur := some r1 }

/-- A frame time of stage lane l passes capture unit u (R364): frames of even SEQ open a pair, good or bad; where the lane has
lost its SEQ the pair's order goes on. -/
def capUnitFrame (s : State) (u l : Nat) (seq : Option Nat) (fr : Option UpFrame) : State :=
  let b := capB u
  if capState s u = 2 ∧ s.fld b F.CAP_SRC_LANE = l then
    let x := s.cap u
    let q := s.fld b F.CAP_SRC_QTY
    let even : Bool := match seq with
      | some n => n % 2 == 0
      | none => !x.begun
    if even then
      let keep := x.pair == 0
      let s1 := s.setCap u { x with pair := (x.pair + 1) % (s.fld b F.CAP_DEC_DEC + 1), keep := keep, begun := true }
      if keep && bit q 0 then capTake s1 u fr else s1
    else if x.begun then
      let s1 := s.setCap u { x with begun := false }
      if x.keep && bit q 1 then capTake s1 u fr else s1
    else s
  else s

/-- A frame time of stage lane l passes the capture units: seq its SEQ where the lane knows it, fr the frame where it is good. -/
def capFrame (s : State) (l : Nat) (seq : Option Nat) (fr : Option UpFrame) : State :=
  (List.range 8).foldl (fun s u => capUnitFrame s u l seq fr) s

/-- The bytes of a record (R366). -/
def recBytes (r : CapRec) (u : Nat) (sq : Word) : List Byte :=
  let w0 := 1 + u * 2 ^ 8 + b2n r.trunc * 2 ^ 11 + r.qty % 4 * 2 ^ 12 + r.len * 2 ^ 16
  let head := wordsBytes [BitVec.ofNat 32 w0, sq, BitVec.ofNat 32 r.stamp.toNat, BitVec.ofNat 32 (r.stamp.toNat / 2 ^ 32),
    BitVec.ofNat 32 (r.lane % 16 + r.slots * 2 ^ 4), BitVec.ofNat 32 (r.frames + r.bad * 2 ^ 16)]
  let body := head ++ r.samples.flatMap (natLE 2)
  body ++ List.replicate (4 * r.len - body.length) 0#8

/-- A record is dropped: CAP_DROP counts it (R367). -/
def capDrop (s : State) (u : Nat) : State := s.wr (capB u + R.CAP_DROP) (BitVec.ofNat 32 (satAdd (2 ^ 32 - 1) (s.rd (capB u + R.CAP_DROP)).toNat 1))

/-- A cascade lane that exports: CL2 or CL3, enabled, MODE 2 (R492). -/
def exportLane (s : State) (l : Nat) : Bool :=
  let w := (s.rd (casB + 0x10 + 4 * l)).toNat
  decide (2 ≤ l) && bit w 0 && decide (bits w 2 1 = 2)

/-- The record goes to the ring (R367), or is dropped; a refusal by the DMA hall pass is reported (log entry 35). -/
def capToRing (s : State) (u : Nat) (bs : List Byte) : State :=
  let b := capB u
  let size := capSize s u
  let wr := s.fld b F.CAP_WR_WR
  let base := (s.rd (b + R.CAP_RING_BASE)).toNat
  if size - 4 - capUnread s u < bs.length then capDrop s u
  else
    let addr := fun i => base + (wr + i) % size
    match (List.range (bs.length / 4)).find? (fun k => !(passOk s (.dma 0) true (addr (4 * k)))) with
    | some k => (capDrop s u).report 0xA (32 + u) K.DMA_ACCESS (addr (4 * k))
    | none =>
      let s1 := bs.zipIdx.foldl (fun s p => s.setByte (addr p.2) p.1) s
      s1.setFld b F.CAP_WR_WR ((wr + bs.length) % size)

/-- The record goes to the queue of an export lane (R370, R492), or is dropped and counted. -/
def capToExport (s : State) (u : Nat) (bs : List Byte) : State :=
  let l := 2 + s.fld (capB u) F.CAP_CTRL_XLANE
  let q := sparseGet (fun _ => []) s.expQ l
  if exportLane s l && decide (q.length + bs.length ≤ 65536) then { s with expQ := sparseSet (fun _ => []) s.expQ l (q ++ bs) }
  else
    let s1 := capDrop s u
    if l = 2 then s1.bump casB F.CAS_EXP_STAT_DROP2 1 else s1.bump casB F.CAS_EXP_STAT_DROP3 1

/-- The oldest closed record of unit u is written whole or dropped; its SEQ is consumed (R367). -/
def capWriteOut (s : State) (u : Nat) : State :=
  let b := capB u
  let x := s.cap u
  match x.closed with
  | [] => s
  | r :: t =>
    let sq := s.rd (b + R.CAP_SEQ)
    let s1 := (s.setCap u { x with closed := t }).wr (b + R.CAP_SEQ) (sq + 1#32)
    let s2 := if r.lost then capDrop s1 u
      else if s.flag b F.CAP_CTRL_DEST then capToExport s1 u (recBytes r u sq)
      else capToRing s1 u (recBytes r u sq)
    if capState s2 u = 3 ∧ t = [] then setCapState s2 u 0 else s2

/-- A write of CAP_RD that would pass CAP_WR, or lies outside the ring, is refused (R368). -/
def capRdRefused (s : State) (u v : Nat) : Bool :=
  let size := capSize s u
  let d := ((v : Int) - (s.fld (capB u) F.CAP_RD_RD : Int)).emod (size : Int)
  decide (size ≤ v) || decide ((capUnread s u : Int) < d)

end Sys2Proof.Machine
end

