-- ==== Sys2Proof/Machine/Edge.lean ====
section
/-! DEFINITION. Edges on the link (R78 to R80, R116 to R126): the rounds of a felt, the on-time of a pulse, the slots of a
downlink frame, and SYNC_IN (R120 to R123). -/
namespace Sys2Proof.Machine

/-- round(d × p) in ticks, an exact half up (R118, R519). -/
def tOn (d : Word) (p : Nat) : Nat :=
  if fFinite d then ((2 * fVal d * (p : Int) + ((2 ^ 149 : Nat) : Int)) / ((2 ^ 150 : Nat) : Int)).toNat else 0

/-- The limit of rotation: (n − 1) / n − TOFF_MIN / p (R126). -/
def rotationLimit (s : State) (f : Nat) : Word :=
  let ps := feltPhases s f
  let n := ps.length
  let toff := ps.foldl (fun m p => max m (toffMin s p)) 0
  fSub (fRatio (n - 1) n) (fRatio toff (s.felt f).period)

/-- Whether the round that begins is fulling (R126). -/
def fullingNow (s : State) (f : Nat) : Bool × Bool :=
  let x := s.felt f
  let n := (feltPhases s f).length
  let lim := rotationLimit s f
  let fd := if x.fullD then !(fLt x.d (fSub lim 0x3CA3D70A#32)) else fLt lim x.d
  (decide (2 ≤ n) && (x.ramp != 0 || x.stop != 0 || feltState s f == 13 || decide (0 < x.fullN) || fd), fd)

/-- The period of the next round: a running glide moves it linearly, else the source gives it (R116, R122, R123). -/
def periodStep (s : State) (f : Nat) : State :=
  let p := leadPhase s f
  let x := s.felt f
  let st := s.fld (phsB p) F.PHS_SYNC_STAT_STATE
  if 0 < x.glide then
    let g := x.glide
    let dp : Int := ((x.glideP : Int) - (x.period : Int)) / (g : Int)
    let de : Int := x.glideE / (g : Int)
    s.setFelt f { x with period := ((x.period : Int) + dp).toNat, glide := g - 1, glideE := x.glideE - de, roundT := x.roundT + de }
  else if st = 0 ∨ st = 1 then
    s.setFelt f { x with period := pwmPeriod s p }
  else s

/-- The correction of a locked round (R122): the next part of ε, at most 1 % of the period; the rest is carried on. -/
def syncCorrect (s : State) (f : Nat) : State :=
  let x := s.felt f
  if x.syncN = 0 then s
  else
    let lim : Int := ((x.period / 100 : Nat) : Int)
    let c := max (-lim) (min lim (x.syncE / (x.syncN : Int)))
    s.setFelt f { x with roundT := x.roundT + c, syncE := x.syncE - c, syncN := if x.syncN = 1 then (if x.syncE - c = 0 then 0 else 1) else x.syncN - 1 }

/-- A changed SYNC_DLY moves the schedule of a felt on cabinet time at its next round (R117, R137); to a felt that follows
SYNC_IN it belongs to the edge (R122). -/
def dlyStep (s : State) (f : Nat) : State :=
  let p := leadPhase s f
  let x := s.felt f
  let d := phsCo s p F.PHS_SYNC_SYNC_DLY
  let follows := [2, 3].contains (s.fld (phsB p) F.PHS_SYNC_STAT_STATE)
  s.setFelt f { x with dly := d, roundT := if follows then x.roundT else x.roundT + ((d : Int) - (x.dly : Int)) }

/-- The next round of a felt begins (R117, R124, R126): coefficients, period, fulling or rotation, its leading edges. -/
def nextRound (s : State) (f : Nat) : State :=
  let x := s.felt f
  let lp := leadPhase s f
  let s1 := s.setFelt f { x with round := x.round + 1, roundT := x.roundT + (x.period : Int), fullN := x.fullN - 1, newRound := true }
  let s2 := dlyStep (latchCoefs s1 f) f
  -- a change of SRC is a glide (R123)
  let st := s2.fld (phsB lp) F.PHS_SYNC_STAT_STATE
  let s3 := if phsCo s2 lp F.PHS_PWM_SRC = 0 ∧ (st = 2 ∨ st = 3) then glideToCabinet s2 f
    else if phsCo s2 lp F.PHS_PWM_SRC = 0 ∧ st = 1 then s2.setFld (phsB lp) F.PHS_SYNC_STAT_STATE 0
    else if phsCo s2 lp F.PHS_PWM_SRC = 1 ∧ st = 0 then s2.setFld (phsB lp) F.PHS_SYNC_STAT_STATE 1 else s2
  let s4 := syncCorrect (periodStep s3 f) f
  let s5 := s4.setFld (phsB lp) F.PHS_SYNC_STAT_PERIOD_NOW (s4.felt f).period
  let r := fullingNow s5 f
  let was := (s5.felt f).full
  let s6 := s5.setFelt f { s5.felt f with full := r.1, fullD := r.2 }
  let s7 := if was && !r.1 then (feltPhases s6 f).foldl (fun s p => s.wr (phsB p + R.PHS_TRIM) 0#32) s6 else s6
  scheduleRound s7 f

/-- The rounds that begin before a time, in ticks, each at its corrected start (R122, R123); fuel bounds them. -/
def roundsTo (s : State) (f : Nat) (t : Int) : Nat → State
  | 0 => s
  | n + 1 =>
    let u := nextRound s f
    if (u.felt f).roundT < t then roundsTo u f t n else s

/-- The phase's own next leading edge after the pulse that is on (R118). -/
def nextOwnLead (s : State) (f p : Nat) : Int :=
  let x := s.felt f
  let n := (feltPhases s f).length
  match (s.phase p).leads with
  | t :: _ => t
  | [] => x.roundT + (x.period : Int) + (slotTime (posIn x.full n (phsCo s p F.PHS_ORDER_POS) (x.round + 1)) x.period n : Nat)

/-- The duty of a phase: d in rotation, d with its trim in fulling (R125). -/
def phaseDuty (s : State) (f p : Nat) : Word :=
  let lp := leadPhase s f
  let d := (s.felt f).d
  if (s.felt f).full then
    fClamp (fAdd d (s.rd (phsB p + R.PHS_TRIM))) (fRatio (phsCo s lp F.PHS_DUTY_LIM_D_MIN) 65536) (fRatio (phsCo s lp F.PHS_DUTY_LIM_D_MAX) 65536)
  else d

/-- A phase's cycle ends at its own leading edge (R125, R131, R132): the average of its period, its trim in fulling, its
limited state. -/
def cycleEnd (s : State) (f p : Nat) : State :=
  let b := phsB p
  let x := s.phase p
  let n := (feltPhases s f).length
  let iAvg := fMean x.iPer.reverse
  let sAvg := fMean x.sPer.reverse
  let s1 := if x.iPer = [] then s else s.wr (b + R.PHS_MEAS_I) iAvg
  let s2 := if (s.felt f).full && decide (2 ≤ n) && !x.limited && !x.iPer.isEmpty then
      let tmax := phsCoW s p R.PHS_TRIM_MAX
      let e := fSub (fDiv sAvg (fOfNat n)) iAvg
      s1.wr (b + R.PHS_TRIM) (fClamp (fAdd (s.rd (b + R.PHS_TRIM)) (fMul (phsCoW s p R.PHS_FULL) e)) (fNeg tmax) tmax)
    else s1
  let s3 := s2.setFld b F.PHS_STATUS_LIMITED (b2n x.limited)
  s3.setPhase p { x with iPer := [], sPer := [], cyc := !x.limited && !x.iPer.isEmpty, lim := if x.limited then x.lim else 0, limited := false, cut := 0 }

/-- The 14 bits of a slot (R78). -/
def slotBits (gate offset : Nat) : Nat := gate * 2 ^ 11 + offset * 2 ^ 2

/-- A slot whose gate state does not come from the schedule: it changes at offset 0 of this frame, or holds (R79, R80). -/
def slotForce (s : State) (p g : Nat) : Nat × State :=
  if (s.phase p).gate = g then (slotBits g 0x1FF, s) else (slotBits g 0, s.setPhase p { s.phase p with gate := g, lead := none })

/-- A slot that holds the present state. -/
def slotHold (s : State) (p : Nat) : Nat × State := (slotBits (s.phase p).gate 0x1FF, s)

/-- Start of window k of lane l, in ticks of the line count (R97). -/
def windowStart (s : State) (l k : Nat) : Int := ((320 * k + 320 + laneTdn s l : Nat) : Int)

/-- A scheduled edge at time t in frame k whose window begins at w: its offset; an edge of an earlier window goes to offset
0 and is counted as late (R119). -/
def slotEdge (s : State) (p g : Nat) (w t : Int) : Nat × State :=
  let s1 := s.setPhase p { s.phase p with gate := g }
  if t < w then (slotBits g 0, s1.bump (phsB p) F.PHS_CNT_LIMIT_LATE 1) else (slotBits g (t - w).toNat, s1)

/-- LOW, or LOW_ZC in diode emulation (R119, R127). -/
def lowCode (s : State) (p : Nat) : Nat := if s.flag (phsB p) F.PHS_STATUS_DE then 6 else 2

/-- The slot of a switching phase (R117 to R119, R128, R130, R131). A phase that is OFF keeps OFF at a position without a pulse, and
a pulse that TOFF_MIN leaves no on-time is sent with its trailing edge in the earliest frame after its leading one (DESIGN CHOICE,
log entry 181). -/
def slotRun (s : State) (f p : Nat) (w : Int) : Nat × State :=
  let x := s.phase p
  let fx := s.felt f
  if fx.surge then
    let s1 := s.setPhase p { x with leads := x.leads.filter (fun t => decide (w + 320 ≤ t)) }
    slotForce s1 p (if x.cut = 2 then 0 else if x.cut = 1 then lowCode s p else 1)
  else if fx.burst = 1 then
    slotForce (s.setPhase p { x with leads := x.leads.filter (fun t => decide (w + 320 ≤ t)) }) p 0
  else if x.gate = 1 then
    match x.lead with
    | none => slotForce s p (lowCode s p)
    | some t0 =>
      if x.cut = 1 then
        let r := slotForce s p (lowCode s p)
        (r.1, r.2.setFld (phsB p) F.PHS_ON_ON_TICKS (w - t0).toNat)
      else
        let on := max (tonMin s p) (tOn (phaseDuty s f p) fx.period)
        let t := min (t0 + (on : Int)) (nextOwnLead s f p - (toffMin s p : Int))
        if t < w + 320 then
          let r := slotEdge s p (lowCode s p) w t
          (r.1, (r.2.setPhase p { r.2.phase p with lead := none }).setFld (phsB p) F.PHS_ON_ON_TICKS (t - t0).toNat)
        else slotHold s p
  else if x.cut = 2 ∧ x.gate ≠ 0 then slotForce s p 0
  else
    match x.leads with
    | [] => slotHold s p
    | t :: rest =>
      if t < w + 320 then
        let s1 := cycleEnd (s.setPhase p { x with leads := rest }) f p
        let on := tOn (phaseDuty s1 f p) fx.period
        if on < tonMin s1 p then slotHold (s1.setFld (phsB p) F.PHS_ON_ON_TICKS 0) p
        else slotEdge (s1.setPhase p { s1.phase p with lead := some t }) p 1 w t
      else slotHold s p

/-- The slot of phase p in frame k of its lane (R78 to R81, R110, R133 to R135). The positions of a phase that a trip holds
OFF stay empty: they pass (R134). -/
def slotOf (s : State) (l k j : Nat) : Nat × State :=
  let p := 16 * l + j
  if (s.lane l).off then slotForce s p (if (s.phase p).latchTx then 3 else 0)
  else if (s.phase p).latchTx then slotForce s p 3
  else
    match phaseFelt s p with
    | none => slotForce s p 0
    | some f =>
      let w := windowStart s l k
      if feltSwitching s f && !phsTripped s p && !phsLatched s p then slotRun s f p w
      else slotForce (s.setPhase p { s.phase p with leads := (s.phase p).leads.filter (fun t => decide (w + 320 ≤ t)) }) p 0

/-- All 16 slots of frame k as one number, slot 0 first. -/
def buildSlots (s : State) (l k : Nat) : Nat × State :=
  (List.range 16).foldl (fun (a : Nat × State) j =>
    let r := slotOf a.2 l k j
    (a.1 * 2 ^ 14 + r.1, r.2)) (0, s)

/-- 16 slots of OFF and hold. -/
def offSlots : Nat := slotsOf (List.replicate 16 (slotBits 0 0x1FF))

/-- The words of a TRAIN_B frame of lane l as the 256 payload bits (R100, R101). -/
def trainB (s : State) (l : Nat) : Nat :=
  let w0 := 0x534C * 2 ^ 16 + versionsOffered s l * 2 ^ 8 + l
  ((w0 * 2 ^ 32 + 0x71920000) * 2 ^ 32 + (s.lane l).chosen) * 2 ^ 160

/-- The earliest frame not yet built whose launch lies at or after now (R72, R119). -/
def nextFrame (s : State) (l : Nat) : Nat := max (s.lane l).built ((s.lineNs + 4) / 5)

/-- Send frame k. -/
def laneSend (s : State) (l k : Nat) (fr : Option (BitVec 280)) : State :=
  s.setLane l { s.lane l with tx := fr, built := k + 1 }

/-- Whether frame k, which is about to be built, is one of the 32 RUN frames with all slots OFF: after SL_LOSS every frame
is (R104); after EN = 0 those that follow the packet in progress (R106). -/
def closeCounts (x : LaneX) : Bool :=
  match x.closing with
  | none => false
  | some (_, halt) => halt || x.txBody.isEmpty

/-- One of the 32 closing frames has been sent (R104, R106). -/
def closeStep (s : State) (l : Nat) : State :=
  match (s.lane l).closing with
  | none => s
  | some (n, halt) => s.setLane l { s.lane l with closing := some (n - 1, halt) }

/-- The state in which a closing lane stops once its 32 frames have been sent: 8 HALTED after SL_LOSS, 0 disabled after
EN = 0 (R104, R106). -/
def closeDone (x : LaneX) : Option Nat :=
  match x.closing with
  | some (0, halt) => some (if halt then 8 else 0)
  | _ => none

/-- A downlink frame is built and sent (R72 to R80, R99, R100). A lane that an EN = 0 has closed with a trip pending is lost to it
(R106; DEDUCED, log entry 130). -/
def frameBuild (s : State) (l : Nat) : State :=
  let k := nextFrame s l
  let st := laneState s l
  let seq := k % 16
  if st = 2 then laneSend s l k (some (frameOf 2 seq 0 0))
  else if st = 3 then
    let w := trainB s l
    laneSend s l k (some (frameOf 3 seq (w / 2 ^ 32) (w % 2 ^ 32)))
  else if st = 4 then laneSend s l k (some (frameOf 4 seq 0 0))
  else if st = 5 then laneSend s l k (some (frameOf 0 seq offSlots 0x000F0000))
  else if st = 6 then
    match closeDone (s.lane l) with
    | some e => laneSend (laneStop (tripUnknown s l) l e) l k none
    | none =>
    let s1 := (laneFelts s l).foldl (fun s f => if feltSwitching s f then roundsTo s f (windowStart s l k + 320) 4 else s) s
    let r := if (s.lane l).closing.isSome then
        (List.range 16).foldl (fun (a : Nat × State) j => let r := slotForce a.2 (16 * l + j) (if (a.2.phase (16 * l + j)).latchTx then 3 else 0); (a.1 * 2 ^ 14 + r.1, r.2)) (0, s1)
      else buildSlots s1 l k
    let w := sideWord r.2 l k
    let s2 := laneSend w.2 l k (some (frameOf 0 seq r.1 w.1))
    if closeCounts (s.lane l) then closeStep s2 l else s2
  else laneSend s l k none

/-! SYNC_IN (R120 to R123). -/

/-- The mean of the last 16 intervals of SYNC_IN (R121, R122). -/
def syncMean (l : List Nat) : Nat := if l = [] then 0 else (2 * l.sum + l.length) / (2 * l.length)
/-- SYNC_IN qualifies for a felt (R121): 16 intervals within 1 % of their mean, and the period it gives in range. -/
def syncQualifies (s : State) (f : Nat) : Bool :=
  let l := s.sync.ivals
  let p := leadPhase s f
  let per := l.sum * (phsCo s p F.PHS_PWM_DIV + 1)
  let unit := 16 * (phsCo s p F.PHS_PWM_MUL + 1)
  l.length == 16 && l.all (fun v => decide ((16 * v - l.sum) * 100 ≤ l.sum) && decide ((l.sum - 16 * v) * 100 ≤ l.sum)) &&
  decide (16000 * unit ≤ per) && decide (per ≤ 640000 * unit)
/-- p = P_sync × DIV / MUL in ticks, rounded by R519 (R122; log entry 15). -/
def syncPeriod (s : State) (f : Nat) : Nat :=
  let p := leadPhase s f
  let unit := 16 * (phsCo s p F.PHS_PWM_MUL + 1)
  (2 * s.sync.ivals.sum * (phsCo s p F.PHS_PWM_DIV + 1) + unit) / (2 * unit)

/-- SYNC_IN is lost for a felt that follows it (R121, R123): SYNC_LOST and a glide to its own period. -/
def syncLost (s : State) (f interval : Nat) : State :=
  let p := leadPhase s f
  if [2, 3].contains (s.fld (phsB p) F.PHS_SYNC_STAT_STATE) then
    glideToCabinet (s.report 2 p K.SYNC_LOST interval) f
  else s

/-- The length of n more rounds of a glide that is at period p (R123): the period moves in equal parts to q. -/
def glideSpan (p q : Int) : Nat → Int
  | 0 => 0
  | n + 1 => p + glideSpan (p + (q - p) / ((n : Int) + 1)) q n

/-- The error of an edge at t against the nearest start of a round with r mod MUL = 0, when round r starts at b and its period is p
(R122). -/
def syncError (t b : Int) (r mul p : Nat) : Int :=
  let span : Int := ((mul * p : Nat) : Int)
  let raw := (t - (b - ((r % mul * p : Nat) : Int))) % span
  if 2 * raw > span then raw - span else raw

/-- An edge at SYNC_IN as one felt takes it; t is its time, d the interval, lost whether it fell outside 5 % (R121 to R123). -/
def syncFelt (t : Int) (d : Nat) (lost : Bool) (s : State) (f : Nat) : State :=
  let p := leadPhase s f
  if !(feltSwitching s f) || phsCo s p F.PHS_PWM_SRC != 1 then s
  else
    let st := s.fld (phsB p) F.PHS_SYNC_STAT_STATE
    if lost then syncLost s f d
    else
      let x := s.felt f
      let dly : Int := (phsCo s p F.PHS_SYNC_SYNC_DLY : Nat)
      let mul := phsCo s p F.PHS_PWM_MUL + 1
      let err := syncError (t + dly) x.roundT x.round mul x.period
      if st = 2 then
        let k := x.syncK + 1
        let x1 := { x with period := syncPeriod s f, syncK := if k ≥ phsCo s p F.PHS_PWM_DIV + 1 then 0 else k }
        if k ≥ phsCo s p F.PHS_PWM_DIV + 1 then s.setFelt f { x1 with syncE := err, syncN := mul } else s.setFelt f x1
      else if (st = 0 ∨ st = 1 ∨ st = 4) ∧ syncQualifies s f then
        -- the error that stands at the end of the 64 cycles, whose period moves meanwhile (R123)
        let q := syncPeriod s f
        let endE := syncError (t + dly) (x.roundT + glideSpan x.period q 64) (x.round + 64) mul q
        (s.setFelt f { x with glide := 64, glideP := q, glideE := endE, syncK := 0 }).setFld (phsB p) F.PHS_SYNC_STAT_STATE 3
      else if st = 0 then s.setFld (phsB p) F.PHS_SYNC_STAT_STATE 1
      else s

/-- SYNC_OUT repeats a rising edge of SYNC_IN at tick t, at most 5 ns later: the delay is free (R196, log entry 1). -/
def syncRepeat (s : State) (t : Int) : State :=
  if s.fld timeB F.TIME_SYNC_OUT_MODE = 2 then
    let p := freeBetween s 0 320
    { p.2 with time := { s.time with syncRise := some (t + (p.1 : Int)) } }
  else s

/-- A rising edge at SYNC_IN, d ticks after the one before (R120 to R123). -/
def syncEdge (s : State) (d : Nat) : State :=
  let t := match s.sync.last with
    | some t => t + (d : Int)
    | none => ((64 * s.lineNs : Nat) : Int)
  let m := syncMean s.sync.ivals
  let lost := decide (s.sync.ivals.length = 16) && (decide (m + m / 20 < d) || decide (d + m / 20 < m))
  let iv := if s.sync.last.isNone then [] else if lost then [d] else (d :: s.sync.ivals).take 16
  let s1 := syncRepeat { s with sync := ⟨some t, iv⟩ } t
  (List.range 96).foldl (syncFelt t d lost) s1

/-- No edge within 1.5 times the expected interval (R121). -/
def syncTimeout (s : State) : State :=
  let d := s.sync.ivals.headD 0
  let s1 := { s with sync := ⟨none, []⟩ }
  (List.range 96).foldl (fun s f => if feltSwitching s f then syncLost s f d else s) s1

/-- A glide has run its 64 cycles (R123). -/
def glideEnd (s : State) (f : Nat) : State :=
  let p := leadPhase s f
  let x := s.felt f
  let st := s.fld (phsB p) F.PHS_SYNC_STAT_STATE
  if feltSwitching s f ∧ (st = 3 ∨ st = 4) then
    let s1 := s.setFelt f { x with period := x.glideP, glide := 0, roundT := x.roundT + x.glideE, glideE := 0 }
    (s1.setFld (phsB p) F.PHS_SYNC_STAT_STATE (if st = 3 then 2 else 0)).setFld (phsB p) F.PHS_SYNC_STAT_PERIOD_NOW x.glideP
  else s

end Sys2Proof.Machine
end

