-- ==== Sys2Proof/Machine/Gauge.lean ====
section
/-! DEFINITION. The battery gauges (09_gauge.md): counting, OCV tables, rests and the estimate, learning, levels, swap and
restore, and the shelf cell taps. -/
namespace Sys2Proof.Machine

/-- The gauge of a felt, not of a shelf string (R277). -/
def gauIsFelt (g : Nat) : Bool := decide (g < 96)
/-- A register of gauge g as it acts: a coherent one as the running integration step took it (R303). -/
def gauW (s : State) (g off : Nat) : Word :=
  match (s.gauge g).co with
  | [] => s.rd (gauB g + off)
  | ws => if 0x80 ≤ off ∧ off < 0x100 then ws.getD ((off - 0x80) / 4) 0#32 else s.rd (gauB g + off)
/-- A field of a register of gauge g as it acts (R303). -/
def gauF (s : State) (g : Nat) (F : Fld) : Nat := fget (gauW s g F.off) F
/-- Change the gauge's own record. -/
def State.gaugeMod (s : State) (g : Nat) (k : GaugeX → GaugeX) : State := s.setGauge g (k (s.gauge g))
/-- The next integration step uses the coherent registers as they stand (R303). -/
def gauLatch (s : State) (g : Nat) : State :=
  s.gaugeMod g (fun x => { x with co := (List.range 32).map (fun k => s.rd (gauB g + 0x80 + 4 * k)) })
/-- A W1C event bit of gauge g (R385). -/
def gauEvent (s : State) (g bitNo : Nat) : State :=
  s.event (gauB g) ⟨R.GAU_EVT, bitNo, bitNo⟩ ⟨R.GAU_EVT_EN, bitNo, bitNo⟩ (272 + g)

/-- A MON input's last result in volts (R392). -/
def monNow (s : State) (k : Nat) : Word := monVolts (s.rd (supB + R.SUP_MON + 4 * k)).toNat

/-- The temperature of a gauge (R277). -/
def gauTemp (s : State) (g : Nat) : Word :=
  let src := gauF s g F.GAU_TEMP_SRC
  if src = 1 then fAdd (fMul (gauW s g R.GAU_T_A) (monNow s (gauF s g F.GAU_TEMP_MON))) (gauW s g R.GAU_T_B)
  else if src = 2 ∧ gauIsFelt g then fMul (fOfInt (sint 16 (s.lane (phaseLane (leadPhase s g))).temp)) (fRatio 1 16)
  else if src = 3 then gauW s g R.GAU_T_EXT
  else gauW s g R.GAU_T_B

/-- v_b (R277): the felt's v_fb, or the voltage sense of SHELF. -/
def gauVb (s : State) (g : Nat) : Word :=
  if gauIsFelt g then (s.felt g).vFb
  else match houseWith s 2 with
    | some h => s.rd (hseB h + R.HSE_MEAS_V)
    | none => 0#32

/-- The microsecond's mean of i_b, if it has a valid sample (R277, R279). -/
def gauIb (s : State) (g : Nat) : Option Word :=
  if gauIsFelt g then (if (s.felt g).gauI = [] then none else some (fMean (s.felt g).gauI.reverse))
  else if gauF s g F.GAU_CFG_ISRC ≠ 0 then
    some (fAdd (fMul (gauW s g R.GAU_I_A) (monNow s (gauF s g F.GAU_CFG_IMON))) (gauW s g R.GAU_I_B))
  else match houseWith s 2 with
    | some h => some (s.rd (hseB h + R.HSE_MEAS_I))
    | none => none

/-! OCV tables (R283 to R285). -/

/-- A halfword of shared memory. -/
def memHalf (s : State) (a : Nat) : Nat := (s.byte a).toNat + 256 * (s.byte (a + 1)).toNat

/-- Temperature t of a table, in 1/16 °C. -/
def ocvT (s : State) (base t : Nat) : Int := sint 16 (memHalf s (base + 4 + 2 * t))
/-- The OCV at temperature t and point j, in 0.1 mV. -/
def ocvAt (s : State) (base t j : Nat) : Nat := memHalf s (base + 0x14 + 64 * t + 2 * j)

/-- A table passes its checks (R283, R284). -/
def tableOk (s : State) (base : Nat) : Bool :=
  base % 4 == 0 && decide (0x2000000 ≤ base ∧ base + 0x218 ≤ 0x2400000) && s.memWord base == 0x00082001#32 &&
  (List.range 7).all (fun t => decide (ocvT s base t < ocvT s base (t + 1))) &&
  (List.range 8).all (fun t => (List.range 31).all (fun j => decide (ocvAt s base t j ≤ ocvAt s base t (j + 1)))) &&
  crc32 (s.getBytes base 0x214) == s.memWord (base + 0x214)

/-- A temperature clamped to the table's range, and the pair of rows around it (R285). -/
def ocvRow (s : State) (base : Nat) (temp : Word) : Nat × Word :=
  let t16 := fun t => fMul (fOfInt (ocvT s base t)) (fRatio 1 16)
  let c := fClamp temp (t16 0) (t16 7)
  let k := ((List.range 7).filter (fun t => fLe (t16 t) c)).getLastD 0
  (k, fDiv (fSub c (t16 k)) (fSub (t16 (k + 1)) (t16 k)))

/-- The SOC at cell voltage v in 0.1 mV (R285), from the points of the present temperature. -/
def socAt (pts : List Word) (v : Word) : Word :=
  let p := fun j => pts.getD j 0#32
  if fLe v (p 0) then 0#32
  else if fLe (p 31) v then (match (List.range 32).find? (fun j => fLe v (p j)) with
    | some j => if fEq (p j) v then fDiv (fOfNat (100 * j)) (fOfNat 31) else fOfNat 100
    | none => fOfNat 100)
  else match (List.range 32).find? (fun j => fLe v (p j)) with
    | none => fOfNat 100
    | some j =>
      if fEq (p j) v then fDiv (fOfNat (100 * j)) (fOfNat 31)
      else fDiv (fMul (fOfNat 100) (fAdd (fOfNat (j - 1)) (fDiv (fSub v (p (j - 1))) (fSub (p j) (p (j - 1)))))) (fOfNat 31)

/-- A lookup of the pack voltage v (R284, R285): none where the table fails a check. -/
def ocvLookup (s : State) (g : Nat) (v : Word) : Option Word :=
  let base := (gauW s g R.GAU_OCV_BASE).toNat
  if tableOk s base then
    let row := ocvRow s base (gauTemp s g)
    let pts := (List.range 32).map (fun j =>
      let a := fOfNat (ocvAt s base row.1 j)
      fAdd a (fMul (fSub (fOfNat (ocvAt s base (row.1 + 1) j)) a) row.2))
    some (socAt pts (fMul (fDiv v (fOfNat (max 1 (gauF s g F.GAU_CFG_SERIES)))) (fOfNat 10000)))
  else none

/-! Learning (R290, R291). -/

/-- A disqualifier of code 3, 4, 6 or 7 ends the learning cycle in progress (R290, R291). -/
def gauDisq (s : State) (g code : Nat) : State :=
  let b := gauB g
  if s.fld b F.GAU_STATUS_LEARN = 1 then
    gauEvent ((s.setFld b F.GAU_STATUS_LEARN 0).setFld b F.GAU_LEARN_INFO_CODE code) g 7
  else s

/-- The phases of felt f have changed in the structure table (R61, R518): its gauge's learning cycle ends (R291, R302). -/
def refelted (s : State) (f : Nat) : State := gauDisq (adoptLatch s f) f 6

/-- A failed lookup (R284): learning is disqualified and GAU_TABLE is reported once, with the address of the table. -/
def tableFail (s : State) (g base : Nat) : State :=
  let s1 := gauDisq s g 7
  if (s1.gauge g).tableTold then s1
  else (s1.gaugeMod g (fun x => { x with tableTold := true })).report 8 g K.GAU_TABLE base

/-- The table is checked at enable and at RELOAD (R284). -/
def tableCheck (s : State) (g : Nat) : State :=
  let base := (gauW s g R.GAU_OCV_BASE).toNat
  if tableOk s base then s else tableFail s g base

/-- Ampere-hours in nC. -/
def ahNc : Word := fOfNat 3600000000000

/-- The judgement of a learning cycle at its second anchor (R290, R291): q2 is the charge passed, soc2 the new point. -/
def learnJudge (s : State) (g : Nat) (q2 : Int) (soc2 : Word) : State :=
  let b := gauB g
  let x := s.gauge g
  let dsoc := fAbs (fSub soc2 x.soc1)
  let dq := fOfNat q2.natAbs
  let qNew := fDiv (fDiv dq (fDiv dsoc (fOfNat 100))) ahNc
  let qMax := gauW s g R.GAU_Q_MAX
  let des := gauW s g R.GAU_Q_DESIGN
  let hours := (s.lineNs - x.at1) > gauF s g F.GAU_LEARN_HOURS * 3600000000000
  let code := if fLt dsoc (fOfNat (gauF s g F.GAU_LEARN_SPAN)) then 1
    else if hours then 2
    else if 100 * x.suppr > q2.natAbs * 2 ^ 149 then 5
    else if fLt qNew (fMul (fRatio 1 2) des) || fLt (fMul (fRatio 12 10) des) qNew then 8
    else 0
  let span := (fToIntRne (fMul dsoc (fOfNat 100))).toNat
  let s1 := (s.setFld b F.GAU_LEARN_INFO_SPAN (min 65535 span)).setFld b F.GAU_LEARN_INFO_CODE code
  if code ≠ 0 then gauEvent s1 g 7
  else
    let step := max 1 (gauF s g F.GAU_LEARN_STEP)
    let lim := fDiv (fMul (fOfNat step) qMax) (fOfNat 100)
    let s2 := s1.wr (b + R.GAU_Q_MAX) (fAdd qMax (fClamp (fSub qNew qMax) (fNeg lim) lim))
    gauEvent (s2.bump b F.GAU_LEARN_INFO_ACCEPTED 1) g 6

/-- A qualified rest or fall-back point (R286, R290, R292): an anchor of learning, then SOC_REST and Q_PASS. -/
def gauPoint (s : State) (g : Nat) (soc : Word) : State :=
  let b := gauB g
  let x := s.gauge g
  let s1 := if s.fld b F.GAU_STATUS_LEARN = 1 then learnJudge s g (x.q - x.q1) soc else s.setFld b F.GAU_STATUS_LEARN 1
  let t := gauTemp s g
  let s2 := (s1.wr (b + R.GAU_SOC_REST) soc).setFld b F.GAU_LEARN_INFO_INIT 0
  let s3 := s2.gaugeMod g (fun y => { y with q := 0, q1 := 0, frac := 0, est := soc, soc1 := soc, at1 := s.lineNs, tLo := t, tHi := t, suppr := 0, based := true })
  gauEvent (s3.wr (b + R.GAU_SOC_EST) (fClamp soc 0#32 (fOfNat 100))) g 5

/-- A rest qualifies (R286): v is the mean of v_b over the last second, dv the change of v_b over the last 60 s, in volts. The
REST_S seconds run from the microsecond that last had a current. -/
def gauRest (s0 : State) (g : Nat) (v dv : Word) : State :=
  let x := s0.gauge g
  let s := s0.until (x.quietAt + 1000000000 * max 1 (gauF s0 g F.GAU_REST_REST_S))
  let base := (gauW s g R.GAU_OCV_BASE).toNat
  let t := gauTemp s g
  let t16 := fun k => fMul (fOfInt (ocvT s base k)) (fRatio 1 16)
  if x.run ∧ x.rested = false ∧ fLt (fAbs (gauW s0 g R.GAU_I)) (gauW s0 g R.GAU_REST_I) ∧
      fLt (fMul (fAbs dv) (fOfNat 1000)) (fOfNat (gauF s0 g F.GAU_REST_DV)) then
    if tableOk s base ∧ ¬ (fLe (t16 0) t ∧ fLe t (t16 7)) then s0
    else match ocvLookup s g v with
      | none => tableFail (s.gaugeMod g (fun y => { y with rested := true })) g base
      | some soc => gauPoint (s.gaugeMod g (fun y => { y with rested := true, tableTold := false })) g soc
  else s0

/-- The gauge becomes VALID (R288, R299): a shelf gauge needs every cell judged good once. -/
def gauValidate (s : State) (g : Nat) : State :=
  let x := s.gauge g
  let cells := gauF s g F.GAU_TAP_CFG_CELLS
  if x.started && (gauIsFelt g || (List.range cells).all (fun k => x.once.contains (k + 1))) then s.setFld (gauB g) F.GAU_STATUS_VALID 1
  else s

/-- The initial point (R288), which leaves the anchor of a learning cycle where it was (R290): |i_b| has stayed below GAU_REST_I for 100 ms; v is the mean of v_b over the last 10 ms. -/
def gauInit (s : State) (g : Nat) (v : Word) : State :=
  let b := gauB g
  let x := s.gauge g
  if x.run ∧ x.started = false ∧ fLt (fAbs (gauW s g R.GAU_I)) (gauW s g R.GAU_REST_I) then
    match ocvLookup s g v with
    | none => tableFail s g (gauW s g R.GAU_OCV_BASE).toNat
    | some soc =>
      let s1 := s.gaugeMod g (fun y => { y with q := 0, q1 := y.q1 - y.q, frac := 0, est := soc, started := true, based := true, tableTold := false })
      let s2 := ((s1.wr (b + R.GAU_SOC_REST) soc).wr (b + R.GAU_SOC_REP) soc).wr (b + R.GAU_SOC_EST) (fClamp soc 0#32 (fOfNat 100))
      gauValidate (s2.setFld b F.GAU_LEARN_INFO_INIT 1) g
  else s

/-! Counting (R279 to R282, R287, R289). -/

/-- SOC_REP after a step (R289). us is the step's length. -/
def repStep (s : State) (g : Nat) (dir : Nat) (est new : Word) (us : Nat) : Word :=
  let rep := gauW s g R.GAU_SOC_REP
  let full := fOfNat 100
  let four := fOfNat 4
  if dir = 2 then
    if fLe new 0#32 then 0#32
    else fMax 0#32 (fAdd rep (fMul (fSub new est) (fClamp (fDiv rep est) 0#32 four)))
  else if dir = 1 then
    if fLe full new then full
    else fMin full (fAdd rep (fMul (fSub new est) (fClamp (fDiv (fSub full rep) (fSub full est)) 0#32 four)))
  else moveTo rep new (fMul (fRatio (gauF s g F.GAU_CFG_REST_SLEW) 10) (fRatio us 60000000))

/-- An integration step of mean current i over us microseconds (R280, R282, R287, R289). Where est is 0 or 100 the factor of
R289 has no value: the clamp holds whatever comes of it (log entry 1: a NaN is a free value). -/
def gauIntegrate (s : State) (g : Nat) (i : Word) (us : Nat) : State :=
  let b := gauB g
  let x := s.gauge g
  let units : Int := (x.frac : Int) + fVal i * ((us * 1000 : Nat) : Int)
  let one : Int := ((2 ^ 149 : Nat) : Int)
  let dq := units / one
  let q := sint 64 (unint 64 (x.q + dq))
  let db := gauW s g R.GAU_DEADBAND
  let dir := if fLt i (fNeg db) then 2 else if fLt db i then 1 else 0
  let qMax := gauW s g R.GAU_Q_MAX
  let disch := if dir = 2 then x.disch + dq.natAbs else x.disch
  let wrap := fPos qMax && fLe (fMul qMax ahNc) (fOfNat disch)
  let s1 := s.setGauge g { x with q := q, frac := (units % one).toNat, disch := if wrap then 0 else disch }
  let s2 := (s1.setFld b F.GAU_STATUS_DIR dir).wr (b + R.GAU_Q_PASS_LO) (BitVec.ofNat 32 (unint 64 q))
  let s3 := if wrap then s2.wr (b + R.GAU_CYCLES) (s2.rd (b + R.GAU_CYCLES) + 1#32) else s2
  if x.based then
    let new := fAdd (gauW s g R.GAU_SOC_REST) (fDiv (fMul (fOfNat 100) (fOfInt q)) (fMul ahNc qMax))
    let s4 := (s3.gaugeMod g (fun y => { y with est := new })).wr (b + R.GAU_SOC_EST) (fClamp new 0#32 (fOfNat 100))
    if s4.flag b F.GAU_STATUS_VALID then
      let rep := repStep s4 g dir x.est new us
      if fIsNaN rep then let r := s4.takeFree; r.2.wr (b + R.GAU_SOC_REP) r.1 else s4.wr (b + R.GAU_SOC_REP) rep
    else s4
  else s3

/-- A low-current step closes (R281): a mean within the dead band counts as zero and is suppressed. -/
def gauLowClose (s : State) (g : Nat) : State :=
  let x := s.gauge g
  if x.lowN = 0 then s
  else
    let m := (fRoundZ (x.lowSum / (x.lowN : Int)) 149 false).1
    let s1 := s.setGauge g { x with lowSum := 0, lowN := 0 }
    if fLe (fAbs m) (gauW s g R.GAU_DEADBAND) then
      gauIntegrate (s1.gaugeMod g (fun y => { y with suppr := y.suppr + 1000 * x.lowSum.natAbs })) g 0#32 x.lowN
    else gauIntegrate s1 g m x.lowN

/-- The temperature rule of a learning cycle (R291, code 3). -/
def gauTempJudge (s : State) (g : Nat) : State :=
  let b := gauB g
  let t := gauTemp s g
  let s1 := s.wr (b + R.GAU_T) t
  if s1.fld b F.GAU_STATUS_LEARN = 1 then
    let x := s1.gauge g
    let lo := fMin x.tLo t
    let hi := fMax x.tHi t
    let s2 := s1.setGauge g { x with tLo := lo, tHi := hi }
    let out := fLt t (fOfInt (sint 8 (gauF s g F.GAU_LEARN2_TMIN))) || fLt (fOfInt (sint 8 (gauF s g F.GAU_LEARN2_TMAX))) t
    if out || fLt (fOfNat (gauF s g F.GAU_LEARN_DT)) (fSub hi lo) then gauDisq s2 g 3 else s2
  else s1

/-- Between two steps EN = 0 stops the gauge, and the next step takes the coherent registers as they stand (R296, R303). -/
def gauBoundary (s : State) (g : Nat) : State :=
  if s.flag (gauB g) F.GAU_CTRL_EN then gauLatch s g else s.gaugeMod g (fun y => { y with run := false, co := [] })

/-- A microsecond of gauge g ends (R277 to R282): the mean of its samples, or the previous mean and a MISS. -/
def gauStep (s : State) (g : Nat) : State :=
  let b := gauB g
  let x := s.gauge g
  if x.run = false then s
  else
    let m := gauIb s g
    let sat := gauIsFelt g && (s.felt g).gauSat
    let s0 := if gauIsFelt g then s.setFelt g { s.felt g with gauI := [], gauSat := false } else s
    let s1 := match m with
      | some i => (s0.wr (b + R.GAU_I) i).setFld b F.GAU_STATUS_BLIND 0
      | none => s0.bump b F.GAU_CNT_MISS 1
    let s2 := (gauTempJudge (if sat then gauDisq s1 g 4 else s1) g).wr (b + R.GAU_V) (gauVb s g)
    let i := if s2.flag b F.GAU_STATUS_BLIND then 0#32 else s2.rd (b + R.GAU_I)
    let s3 := if fLe (gauW s g R.GAU_REST_I) (fAbs i) then s2.gaugeMod g (fun y => { y with rested := false, quietAt := s2.lineNs }) else s2
    let s4 :=
      if s3.flag b F.GAU_STATUS_LOW then
        if fLt (fMul (fOfNat 4) (gauW s g R.GAU_LOW_I)) (fAbs i) then
          -- the period closes, and the microsecond is a step of its own
          let s5 := gauBoundary ((gauLowClose s3 g).setFld b F.GAU_STATUS_LOW 0) g
          if (s5.gauge g).run then gauIntegrate s5 g i 1 else s5
        else
          let s5 := s3.gaugeMod g (fun y => { y with lowSum := y.lowSum + fVal i, lowN := y.lowN + 1 })
          if 1000 * clampNat 1 1000 (gauF s g F.GAU_LOW_PERIOD) ≤ (s5.gauge g).lowN then gauLowClose s5 g else s5
      else gauIntegrate s3 g i 1
    if (s4.gauge g).lowN ≠ 0 then s4 else gauBoundary s4 g

/-- 1 s within ±GAU_LOW_I (R281). -/
def gauLowEntry (s : State) (g : Nat) : State :=
  if (s.gauge g).run ∧ s.flag (gauB g) F.GAU_STATUS_LOW = false ∧ fLe (fAbs (gauW s g R.GAU_I)) (gauW s g R.GAU_LOW_I) then
    (s.setFld (gauB g) F.GAU_STATUS_LOW 1).gaugeMod g (fun x => { x with lowSum := 0, lowN := 0 })
  else s

/-- 1 ms without a valid sample (R279). -/
def gauBlind (s : State) (g : Nat) : State :=
  if (s.gauge g).run ∧ gauIb s g = none ∧ s.flag (gauB g) F.GAU_STATUS_BLIND = false then
    (gauDisq ((s.setFld (gauB g) F.GAU_STATUS_BLIND 1).wr (gauB g + R.GAU_I) 0#32) g 4).report 8 g K.GAU_BLIND 0
  else s

/-! Levels (R293 to R295). -/

/-- The level fields EDW, EDF, ECW, ECF. -/
def levelFld (k : Nat) : Fld := ⟨R.GAU_STATUS, 4 + k, 4 + k⟩
/-- The percentage and voltage of a level. -/
def levelAt (s : State) (g k : Nat) : Word × Word :=
  (fOfNat (bits (gauW s g R.GAU_WARN_PCT).toNat (8 * k + 7) (8 * k)), gauW s g (R.GAU_EDV_W + 4 * k))

/-- One level at a judgement (R293, R294): it changes when its condition has held for lim judgements in a row. -/
def levelStep (lim g : Nat) (s : State) (k : Nat) : State :=
  let b := gauB g
  let x := s.gauge g
  let rep := gauW s g R.GAU_SOC_REP
  let v := gauVb s g
  let th := levelAt s g k
  let low := decide (k < 2)
  let hp := fOfNat (gauF s g F.GAU_WARN_T_HYST)
  let hv := fRatio (gauF s g F.GAU_WARN_T_HYST_MV) 1000
  let byV := if low then fLe v th.2 else fLe th.2 v
  let set := byV || (if low then fLe rep th.1 else fLe th.1 rep)
  let clr := if low then fLe (fAdd th.1 hp) rep && fLe (fAdd th.2 hv) v else fLe rep (fSub th.1 hp) && fLe v (fSub th.2 hv)
  let n := if set then x.setN.getD k 0 + 1 else 0
  let m := if clr then x.clrN.getD k 0 + 1 else 0
  let s1 := s.setGauge g { x with setN := x.setN.set k (min lim n), clrN := x.clrN.set k (min lim m) }
  let on := s.flag b (levelFld k)
  if lim ≤ n ∧ on = false then
    let s2 := gauEvent (s1.setFld b (levelFld k) 1) g k
    if byV ∧ k = 1 then s2.wr (b + R.GAU_SOC_REP) (fMin rep th.1)
    else if byV ∧ k = 3 then s2.wr (b + R.GAU_SOC_REP) (fMax rep th.1)
    else s2
  else if lim ≤ m ∧ on then gauEvent (s1.setFld b (levelFld k) 0) g 4
  else s1

/-- The four levels are judged (R293); first after VALID becomes 1 (R295). -/
def levelJudge (s : State) (g : Nat) : State :=
  if (s.gauge g).run ∧ s.flag (gauB g) F.GAU_STATUS_VALID then (List.range 4).foldl (levelStep (max 1 (gauF s g F.GAU_WARN_T_T)) g) s
  else s

/-! Enable, swap, restore (R295 to R298). -/

/-- Start afresh under R288: no estimate, every level set. GAU_TABLE is not reported again before a lookup succeeds (R284). -/
def gauFresh (s : State) (g : Nat) : State :=
  let b := gauB g
  let x := s.gauge g
  let s1 := ((s.wr (b + R.GAU_SOC_REST) 0#32).wr (b + R.GAU_SOC_EST) 0#32).wr (b + R.GAU_SOC_REP) 0#32
  let s2 := ((s1.wr (b + R.GAU_Q_PASS_LO) 0#32).wr (b + R.GAU_STATUS) 0xF0#32).setFld b F.GAU_LEARN_INFO_INIT 0
  s2.setGauge g { x with q := 0, q1 := 0, quietAt := s.lineNs, frac := 0, lowSum := 0, lowN := 0, est := 0#32, rested := false, started := false, suppr := 0, setN := [0, 0, 0, 0], clrN := [0, 0, 0, 0], once := [], good := [], cellN := [], held := [], heldTap := [], based := false, kept := false }

/-- The saved state of a gauge, taken up (R298, R442): learning is IDLE, and the levels are judged at once, by their conditions
as they stand. -/
def gauRestore (s : State) (g : Nat) : State :=
  let b := gauB g
  let w := fun k => sparseGet (fun _ => 0#32) s.gauRec (8 * g + k)
  if s.flag b F.GAU_CFG_RESTORE && (w 7).toNat.testBit 0 then
    let q := sint 64 ((w 2).toNat + (w 3).toNat * 2 ^ 32)
    let s1 := ((((s.wr (b + R.GAU_SOC_REST) (w 0)).wr (b + R.GAU_SOC_REP) (w 1)).wr (b + R.GAU_Q_MAX) (w 4)).wr (b + R.GAU_CYCLES) (w 5)).wr (b + R.GAU_LEARN_INFO) (w 6)
    let est := fAdd (w 0) (fDiv (fMul (fOfNat 100) (fOfInt q)) (fMul ahNc (w 4)))
    let s2 := s1.gaugeMod g (fun x => { x with q := q, q1 := 0, frac := 0, est := est, started := true, based := true, kept := true })
    let s3 := (s2.wr (b + R.GAU_SOC_EST) (fClamp est 0#32 (fOfNat 100))).wr (b + R.GAU_Q_PASS_LO) (w 2)
    (List.range 4).foldl (levelStep 1 g) (((s3.setFld b F.GAU_STATUS_VALID 1).setFld b F.GAU_STATUS_RESTORED 1).setFld b F.GAU_STATUS_LEARN 0)
  else s

/-- EN = 1 of a gauge that is off (R296): it starts afresh, or with the state that it has taken up at boot (R298). -/
def gauEnable (s : State) (g : Nat) : State :=
  let s1 := if (s.gauge g).kept then s else gauFresh s g
  tableCheck (gauLatch (s1.gaugeMod g (fun x => { x with run := true, kept := false })) g) g

/-- GAU_CTRL has been written with v (R284, R296, R297); old is its value before. A blind gauge stays blind over SWAP (R279). -/
def gauCtrlWritten (s : State) (g v : Nat) (old : Word) : State :=
  let b := gauB g
  let was := fget old F.GAU_CTRL_EN != 0
  let s1 := if v.testBit 0 ∧ ¬ (was ∧ (s.gauge g).run) then gauEnable s g
    else if v.testBit 0 = false ∧ was then gauDisq s g 6 else s
  let s2 := if v.testBit 1 then gauEvent ((gauFresh (gauDisq s1 g 6) g).setFld b F.GAU_STATUS_BLIND (s1.fld b F.GAU_STATUS_BLIND)) g 8 else s1
  let s3 := if v.testBit 2 then tableCheck s2 g else s2
  if v.testBit 3 then ((gauDisq s3 g 6).wr (b + R.GAU_Q_MAX) (gauW s3 g R.GAU_Q_DESIGN)).setFld b F.GAU_STATUS_LEARN 0 else s3

/-- A fall-back point (R292): a full or an empty battery. -/
def gauFallback (s : State) (g : Nat) (full : Bool) : State :=
  if (s.gauge g).run then gauPoint s g (if full then fOfNat 100 else 0#32) else s

/-! Shelf cell taps (R299 to R301). -/

/-- A count held by tap or cell number. -/
def cntOf (l : List (Nat × Nat)) (k : Nat) : Nat := ((l.find? (fun e => e.1 == k)).map (·.2)).getD 0
/-- Put a count. -/
def cntPut (l : List (Nat × Nat)) (k n : Nat) : List (Nat × Nat) := (k, n) :: l.filter (fun e => e.1 != k)

/-- The scale of tap k (R299). -/
def tapScale (s : State) (g k : Nat) : Word :=
  let w := (gauW s g (R.GAU_TAP_SCALE + 4 * ((k - 1) / 2))).toNat
  fRatio (if k % 2 = 1 then w % 2 ^ 16 else w / 2 ^ 16) 1024
/-- The voltage of tap k from its last unpulsed reading; tap 0 is 0. -/
def tapV (s : State) (g k : Nat) : Word :=
  if k = 0 then 0#32
  else fMul (((((s.gauge g).taps.find? (fun e => e.1 == k)).map (·.2))).getD 0#32) (tapScale s g k)
/-- The tap is open (R300). -/
def tapOpen (s : State) (g k : Nat) : Bool := bit (s.rd (gauB g + R.GAU_TAP_STAT)).toNat k && decide (1 ≤ k ∧ k ≤ 16)
/-- The voltage of cell k in whole mV, as it is shown (R299). -/
def cellMv (s : State) (g k : Nat) : Int := fToIntRne (fMul (fSub (tapV s g k) (tapV s g (k - 1))) (fOfNat 1000))
/-- The voltage of cell k in mV as it is judged (R299). -/
def cellMvF (s : State) (g k : Nat) : Word := fMul (fSub (tapV s g k) (tapV s g (k - 1))) (fOfNat 1000)
/-- The cell lies beside an open tap (R301). -/
def cellPaired (s : State) (g n k : Nat) : Bool := (tapOpen s g k) || (decide (2 ≤ k) && tapOpen s g (k - 1)) || decide (n < k)

/-- The shown voltage of a cell: half the sum of the pair beside an open tap (R301). -/
def cellShown (s : State) (g n k : Nat) : Nat :=
  let mv := fun j => cellMv s g j
  let half := fun j => (mv j + mv (j + 1)) / 2
  unint 16 (if tapOpen s g k && decide (k < n) then half k
    else if decide (2 ≤ k) && tapOpen s g (k - 1) && decide (k - 1 < n) then half (k - 1) else mv k)

/-- Show every cell and the pairs (R301). -/
def cellsShow (s : State) (g : Nat) : State :=
  let b := gauB g
  let n := gauF s g F.GAU_TAP_CFG_CELLS
  let word := fun m => BitVec.ofNat 32 (cellShown s g n (2 * m + 1) + (if 2 * m + 2 ≤ n then cellShown s g n (2 * m + 2) else 0) * 2 ^ 16)
  let s1 := ((List.range 8).filter (fun m => decide (2 * m + 1 ≤ n))).foldl (fun s' m => s'.wr (b + R.GAU_CELL + 4 * m) (word m)) s
  let pair := ((List.range 16).filter (fun k => decide (k + 1 < n) && tapOpen s g (k + 1))).foldl (fun a k => a + 2 ^ (k + 1)) 0
  s1.setFld b F.GAU_TAP_STAT_PAIR (pair / 2)

/-- The tap signature of R301: the tap across which a neighbour deviates from the string mean by the opposite amount, to
within 10 %. -/
def tapSignature (s : State) (g n k : Nat) : Option Nat :=
  let mean := ((List.range n).foldl (fun a j => a + cellMv s g (j + 1)) 0) / (n : Int)
  let dev := fun j => cellMv s g j - mean
  ([k - 1, k + 1].find? (fun j => decide (1 ≤ j ∧ j ≤ n) && decide (10 * (dev j + dev k).natAbs ≤ (dev k).natAbs) && dev k != 0)).map
    (fun j => min j k)

/-- GAU_CELL of cell k (R299). -/
def cellReport (s : State) (g k : Nat) : State := (gauEvent s g 10).report 8 g K.GAU_CELL k

/-- The judgement of cell k at a reading of its upper tap (R299, R301): an invalid one ends the run of readings. -/
def cellJudge (s : State) (g k : Nat) : State :=
  let n := gauF s g F.GAU_TAP_CFG_CELLS
  let x := s.gauge g
  if cellPaired s g n k then s
  else if x.badTaps.contains k || x.badTaps.contains (k - 1) then s.setGauge g { x with cellN := cntPut x.cellN k 0 }
  else
    let mv := cellMvF s g k
    let inside := fLt (fOfNat (gauF s g F.GAU_CELL_LIM_UV)) mv && fLt mv (fOfNat (gauF s g F.GAU_CELL_LIM_OV))
    let good := x.good.contains k
    let c := if inside != good then cntOf x.cellN k + 1 else 0
    if c < 8 then s.setGauge g { x with cellN := cntPut x.cellN k c }
    else if inside then
      gauValidate (s.setGauge g { x with cellN := cntPut x.cellN k 0, good := setAdd x.good k, once := setAdd x.once k }) g
    else
      let s1 := s.setGauge g { x with cellN := cntPut x.cellN k 0, good := setDel x.good k }
      match tapSignature s g n k with
      | some t =>
        if gauF s g F.GAU_TAP_CFG_TEST ≠ 0 then
          s1.gaugeMod g (fun y => { y with held := cntPut y.held k (max 1 (gauF s g F.GAU_TAP_CFG_CNT)), heldTap := cntPut y.heldTap k t })
        else cellReport s1 g k
      | none => cellReport s1 g k

/-- A held-back GAU_CELL report of cell k after a pulsed scan of its tap (R301): a tap found connected lets it go, and so does
the CNT-th scan. -/
def heldStep (connected : Bool) (g : Nat) (s : State) (k : Nat) : State :=
  let x := s.gauge g
  let c := cntOf x.held k
  if c = 0 then s
  else if connected || c == 1 then
    cellReport (s.setGauge g { x with held := x.held.filter (fun e => e.1 != k), heldTap := x.heldTap.filter (fun e => e.1 != k) }) g k
  else s.setGauge g { x with held := cntPut x.held k (c - 1) }

/-- The shift of tap k over a pulsed scan is judged when the unpulsed reading after it comes (R300): an open tap is reported in
place of the cells that it has held back (R301). -/
def tapShift (s : State) (g k : Nat) (before pulsed after : Word) : State :=
  let x := s.gauge g
  let mean := fMul (fAdd before after) (fRatio 1 2)
  let mv := fMul (fMul (fSub pulsed mean) (tapScale s g k)) (fOfNat 1000)
  let c := if fLt (fOfNat (gauF s g F.GAU_TAP_CFG_THR)) (fAbs mv) then cntOf x.openN k + 1 else 0
  let cells := (x.heldTap.filter (fun e => e.2 == k)).map (·.1)
  if max 1 (gauF s g F.GAU_TAP_CFG_CNT) ≤ c ∧ tapOpen s g k = false then
    let keep := fun (e : Nat × Nat) => !cells.contains e.1
    let s1 := s.setGauge g { x with openN := cntPut x.openN k 0, held := x.held.filter keep, heldTap := x.heldTap.filter keep }
    (gauEvent (s1.setFld (gauB g) ⟨R.GAU_TAP_STAT, k, k⟩ 1) g 9).report 8 g K.GAU_TAP k
  else cells.foldl (heldStep (c == 0) g) (s.setGauge g { x with openN := cntPut x.openN k c })

/-- A result of the MON input of tap k reaches the gauge (R299, R300). -/
def tapReading (s : State) (g k : Nat) (w : Nat) (pulsed : Bool) : State :=
  let x := s.gauge g
  let bad := w.testBit 16 || w.testBit 17
  let v := monVolts w
  if pulsed then s.setGauge g { x with pulsed := (k, v) :: x.pulsed.filter (fun e => e.1 != k) }
  else
    let before := ((x.taps.find? (fun e => e.1 == k)).map (·.2)).getD v
    let was := (x.pulsed.find? (fun e => e.1 == k)).map (·.2)
    let s1 := s.setGauge g { x with taps := (k, v) :: x.taps.filter (fun e => e.1 != k), badTaps := if bad then setAdd x.badTaps k else setDel x.badTaps k, pulsed := x.pulsed.filter (fun e => e.1 != k) }
    let s2 := match was with
      | none => s1
      | some p => if gauF s g F.GAU_TAP_CFG_TEST ≠ 0 then tapShift s1 g k before p v else s1
    cellsShow (cellJudge s2 g k) g

/-- Gauge g names MON input k as a tap (R299). -/
def tapNamed (s : State) (g k : Nat) : Bool :=
  decide (gauF s g F.GAU_TAP_CFG_FIRST ≤ k ∧ k < gauF s g F.GAU_TAP_CFG_FIRST + gauF s g F.GAU_TAP_CFG_CELLS)

/-- The enabled gauges that name MON input k as a tap, with the tap's number (R299). -/
def tapsOn (s : State) (k : Nat) : List (Nat × Nat) :=
  ([96, 97, 98, 99].filter (fun g => (s.gauge g).run && tapNamed s g k)).map (fun g => (g, k - gauF s g F.GAU_TAP_CFG_FIRST + 1))

/-- A write of 1 to bits of GAU_TAP_STAT.OPEN (R301): the taps are judged afresh. -/
def tapsCleared (s : State) (g mask : Nat) : State :=
  cellsShow (s.gaugeMod g (fun x => { x with openN := x.openN.filter (fun e => !bit mask e.1) })) g

end Sys2Proof.Machine
end

