-- ==== Sys2Proof/Machine/Sup.lean ====
section
/-! DEFINITION. The supervisor (R392 to R413): the monitor scan and its windows, the timetable, the interlocks, and the
push-button with the power enable. -/
namespace Sys2Proof.Machine

/-- Set a W1C bit of SUP_EVT. -/
def supEvent (s : State) (F1 : Fld) : State := s.setFld supB F1 1

/-! The monitor scan (R392 to R397). -/

/-- The code of a voltage at the converter with OVR in bit 16 and UNR in bit 17 (R392); v is the voltage in volts. A NaN is no
voltage and counts as 0 V. -/
def monCode (v : Word) : Nat :=
  if fIsNaN v then 0
  else if fIsInf v then (if fSign v then 2 ^ 17 else 2 ^ 16 + 0xFFFF)
  else
    -- 5 × v / 131072 V in units of 2^-149 V, so that one LSB is 5 × 2^132
    let x : Int := 131072 * fVal v
    let u : Int := 5 * ((2 ^ 149 : Nat) : Int)
    if x < 0 then (if x < -2 * u then 2 ^ 17 else 0)
    else if 65536 * u ≤ x then 0xFFFF + (if 65538 * u < x then 2 ^ 16 else 0)
    else (x / u).toNat

/-- The running scan is a pulsed one: COUNT is odd (R396). -/
def scanPulsed (s : State) : Bool := s.fld supB F.SUP_SCAN_STAT_COUNT % 2 == 1

/-- The tap current is sunk from MON input k on pulsed scans (R396): a gauge with TEST = 1 names it, enabled or not. -/
def monTapped (s : State) (k : Nat) : Bool :=
  [96, 97, 98, 99].any (fun g => gauF s g F.GAU_TAP_CFG_TEST != 0 && tapNamed s g k)

/-- Write a result register (R397): code, flags, PULSED, FRESH and SEQ change together. -/
def resultWrite (s : State) (a code : Nat) : State :=
  let seq := (bits (s.rd a).toNat 31 24 + 1) % 256
  s.wr a (BitVec.ofNat 32 (code % 2 ^ 18 + 2 ^ 18 + b2n (scanPulsed s) * 2 ^ 19 + seq * 2 ^ 24))


/-- Window n is good. -/
def winGood (s : State) (n : Nat) : Bool := bit (s.rd (supB + R.SUP_WIN_STAT)).toNat n
/-- Set a bit of a register of the supervisor. -/
def supBit (s : State) (off n : Nat) (v : Bool) : State :=
  s.wr (supB + off) (BitVec.ofNat 32 (setBits (s.rd (supB + off)).toNat n n (b2n v)))

/-- Window n changes its judgement (R399). -/
def winChange (s : State) (n : Nat) (good : Bool) : State := supEvent (supBit s R.SUP_WIN_STAT n good) F.SUP_EVT_WINDOW

/-- Window n judges a result (R398). -/
def winJudge (s : State) (n code : Nat) : State :=
  let b := supB + 8 * n
  let lf := s.fld b F.SUP_WIN_LO_FALL
  let lr := s.fld b F.SUP_WIN_LO_RISE
  let hf := s.fld b F.SUP_WIN2_HI_FALL
  let hr := s.fld b F.SUP_WIN2_HI_RISE
  let need := bits (s.rd (supB + R.SUP_WIN_CNT + 4 * (n / 8))).toNat (4 * (n % 8) + 3) (4 * (n % 8)) + 1
  let flags := code / 2 ^ 16 % 4 != 0
  let c := code % 2 ^ 16
  let good := winGood s n
  if lf < lr ∧ lr < hf ∧ hf < hr then
    let up := !good && !flags && decide (lr ≤ c ∧ c ≤ hf)
    let dn := good && (flags || decide (c < lf) || decide (hr < c))
    let k := if up || dn then cntOf s.sup.winN n + 1 else 0
    let s1 := { s with sup := { s.sup with winN := cntPut s.sup.winN n (if need ≤ k then 0 else k) } }
    if need ≤ k then winChange s1 n (!good) else s1
  else s

/-- SUP_WINn or SUP_WIN2n has been written (R398): the window starts not-good. -/
def winWritten (s : State) (n : Nat) : State :=
  let b := supB + 8 * n
  let ok := decide (s.fld b F.SUP_WIN_LO_FALL < s.fld b F.SUP_WIN_LO_RISE ∧ s.fld b F.SUP_WIN_LO_RISE < s.fld b F.SUP_WIN2_HI_FALL ∧
    s.fld b F.SUP_WIN2_HI_FALL < s.fld b F.SUP_WIN2_HI_RISE)
  let s1 := supBit { s with sup := { s.sup with winN := cntPut s.sup.winN n 0 } } R.SUP_WIN_ERR n (!ok)
  if winGood s1 n then winChange s1 n false else s1

/-- A result of MON input k (R396 to R399, R155, R299): the register, the window, tracking and the taps. -/
def monResult (s : State) (k code : Nat) : State :=
  let pulsed := scanPulsed s
  let skip := pulsed && monTapped s k
  let s1 := resultWrite s (supB + R.SUP_MON + 4 * k) code
  let s2 := if skip then s1 else winJudge { s1 with monTrk := sparseSet (fun _ => 0) s1.monTrk k code } k code
  (tapsOn s2 k).foldl (fun s e => tapReading s e.1 e.2 code (pulsed && gauF s e.1 F.GAU_TAP_CFG_TEST != 0)) s2

/-- INT0, the die temperature (R394): its code is a free value, as the spec relates no code to °C (log entry 1). -/
def dieResult (s : State) (t : Word) : State :=
  let r := freeBetween s 0 0xFFFF
  let s1 := (resultWrite r.2 (supB + R.SUP_INT) r.1).wr (supB + R.SUP_DIE_T) t
  let lim := s.rd (supB + R.SUP_DIE_LIM)
  let n := if fLt lim t then s1.sup.hotN + 1 else 0
  let again := s1.sup.hotTold && !fLe t (fSub lim (fOfNat 5))
  let s2 := { s1 with sup := { s1.sup with hotN := min 16 n, hotTold := again || decide (16 ≤ n) } }
  if 16 ≤ n ∧ again = false then s2.report 11 0 K.SUP_HOT (unint 32 (fToIntRne (fMul t (fOfNat 16)))) else s2

/-- INT6, the check reference (R394): a reading (R392) outside 1.25 V ± 5 mV on 4 consecutive scans reports SUP_REF, once an episode. -/
def refResult (s : State) (code : Nat) : State :=
  let off := !(fLe (fRatio 1245 1000) (monVolts code) && fLe (monVolts code) (fRatio 1255 1000))
  let n := if off then min 5 (s.sup.refN + 1) else 0
  let s1 := { s with sup := { s.sup with refN := n } }
  if n = 4 then s1.report 11 0 K.SUP_REF code else s1

/-- INT3, half of VDD_IO33 (R394, R443): below NV_CFG.PF_MV on two consecutive scans is a power fail, a store trigger. -/
def io33Result (s : State) (v : Word) : State :=
  let low := fLt (fMul (fMul v (fOfNat 2)) (fOfNat 1000)) (fOfNat (s.fld nvB F.NV_CFG_PF_MV))
  let n := if low then min 3 (s.sup.pfN + 1) else 0
  let s1 := { s with sup := { s.sup with pfN := n } }
  if n = 2 then nvStore s1 true else s1

/-- INT7, the threshold DAC readback (R214): 2.4 mV a code of a current DAC at its gain of 16, 2.5 mV of a voltage DAC. -/
def dacResult (s : State) (code : Nat) : State :=
  let d := (readbackOf s).2
  let lsb := if d ≤ 1 then fRatio 24 10000 else fRatio 25 10000
  readbackJudge s (fToIntRne (fDiv (monVolts code) lsb)).toNat

/-- A result of internal point k (R394); v is the voltage at the converter, of INT0 the temperature. -/
def intResult (s : State) (k : Nat) (v : Word) : State :=
  if k = 0 then dieResult s v
  else
    let code := monCode v
    let s1 := resultWrite s (supB + R.SUP_INT + 4 * k) code
    if k = 3 then io33Result s1 v
    else if k = 6 then refResult s1 (code % 2 ^ 16)
    else if k = 7 then dacResult s1 (code % 2 ^ 16)
    else s1

/-- A full scan has ended (R394, R395, R214): each out-of-range result has cost one recovery slot. -/
def scanEnd (s : State) : State :=
  let s1 := (s.setFld supB F.SUP_SCAN_STAT_LAST_NS (500 * (40 + s.sup.outN))).setFld supB F.SUP_SCAN_STAT_COUNT
    ((s.fld supB F.SUP_SCAN_STAT_COUNT + 1) % 2 ^ 16)
  readbackAdvance { s1 with sup := { s1.sup with pos := 0, outN := 0 } }

/-- A scan slot ends with a voltage at the converter (R394, R397). -/
def monConversion (s : State) (v : Word) : State :=
  let k := s.sup.pos
  let out := if k = 32 then 0 else b2n (monCode v / 2 ^ 16 != 0)
  let s1 := if k < 32 then monResult s k (monCode v) else intResult s (k - 32) v
  let s2 := { s1 with sup := { s1.sup with pos := k + 1, outN := s1.sup.outN + out } }
  if k + 1 < 40 then s2 else scanEnd s2

/-! The timetable (R400 to R406). -/

/-- Base of timetable entry r. -/
def ttB (r : Nat) : Nat := supB + 0x10 * r
/-- What entry r runs. -/
def State.rail (s : State) (r : Nat) : RailX := sparseGet (fun _ => ⟨0, 0⟩) s.sup.rails r
/-- Change what entry r runs. -/
def State.setRail (s : State) (r : Nat) (x : RailX) : State :=
  { s with sup := { s.sup with rails := sparseSet (fun _ => ⟨0, 0⟩) s.sup.rails r x } }
/-- Move entry r to a state. -/
def railTo (s : State) (r st : Nat) : State := s.setRail r { s.rail r with st := st }
/-- KIND of entry r; 0 where the entry is not valid (R400). -/
def ttKind (s : State) (r : Nat) : Nat :=
  let k := s.fld (ttB r) F.SUP_TTE_A_KIND
  if s.flag (ttB r) F.SUP_TTE_A_VALID ∧ 1 ≤ k ∧ k ≤ 5 then k else 0
/-- INDEX of entry r. -/
def ttIndex (s : State) (r : Nat) : Nat := s.fld (ttB r) F.SUP_TTE_A_INDEX
/-- STEP of entry r. -/
def ttStep (s : State) (r : Nat) : Nat := s.fld (ttB r) F.SUP_TTE_A_STEP
/-- GROUP of entry r. -/
def ttGroup (s : State) (r : Nat) : Nat := s.fld (ttB r) F.SUP_TTE_A_GROUP
/-- The valid entries. -/
def ttValid (s : State) : List Nat := natsWhere 32 (fun r => ttKind s r != 0)
/-- An entry of a kind with an index exists: the timetable names the rail. -/
def ttNames (s : State) (kind i : Nat) : Bool := (ttValid s).any (fun r => ttKind s r == kind && ttIndex s r == i)

/-- PG_SRC of entry r where its KIND has what it judges, else 0: at once (R401). -/
def ttSrc (s : State) (r : Nat) : Nat :=
  let p := s.fld (ttB r) F.SUP_TTE_C_PG_SRC
  let k := ttKind s r
  if p = 1 ∨ (p = 2 ∧ k = 2 ∧ ttIndex s r < 96) ∨ (p = 3 ∧ k = 1 ∧ ttIndex s r < 8) ∨ (p = 4 ∧ (k = 4 ∨ k = 5)) then p else 0

/-- The rail of entry r is good (R401). -/
def railGood (s : State) (r : Nat) : Bool :=
  let p := ttSrc s r
  let i := ttIndex s r
  if p = 1 then winGood s (s.fld (ttB r) F.SUP_TTE_C_MON_SEL)
  else if p = 2 then feltState s i == 6 && s.flag (feltB i) F.FELT_STATUS_IN_REG
  else if p = 3 then houseOn s i && !s.flag (hseB i) F.HSE_STATUS_OC && !s.flag (hseB i) F.HSE_STATUS_OV
  else if p = 4 then (if ttKind s r = 5 then hsState s == 5 else busMode s == 2)
  else true

/-- The rail of entry r is off (R401). -/
def railOff (s : State) (r : Nat) : Bool :=
  let p := ttSrc s r
  let i := ttIndex s r
  if p = 1 then decide (bits (s.rd (supB + R.SUP_MON + 4 * s.fld (ttB r) F.SUP_TTE_C_MON_SEL)).toNat 15 0 < s.fld (ttB r) F.SUP_TTE_D_OFF_CODE)
  else if p = 2 then feltState s i == 1
  else if p = 3 then !houseOn s i
  else if p = 4 then (if ttKind s r = 5 then hsState s == 0 else busMode s == 0)
  else true

/-- A good rail has faulted (R401); new are the reports the running command has made. -/
def railBad (s : State) (new : List Msg) (r : Nat) : Bool :=
  let p := ttSrc s r
  let i := ttIndex s r
  let told := fun c n k => new.any (fun m => m.cls == c && m.inst == n && m.kind == k)
  if p = 1 then !winGood s (s.fld (ttB r) F.SUP_TTE_C_MON_SEL)
  else if p = 2 then [9, 10, 11].contains (feltState s i)
  else if p = 3 then told 5 i K.HSE_OC || told 5 i K.HSE_OV
  else if p = 4 then told 6 1 K.HS_FAULT || told 6 0 K.BUS_UV || told 6 0 K.BUS_OV
  else false

/-- A register of a unit takes EN = 1 or 0 from the supervisor, and its unit acts on it. -/
def ttEnable (s : State) (a : Nat) (v : Bool) (act : State → Nat → Word → State) : State :=
  let old := s.rd a
  let w := BitVec.ofNat 32 (setBits old.toNat 0 0 (b2n v))
  act (s.wr a w) w.toNat old

/-- The power-up action of entry r (R400). -/
def railUp (s : State) (r : Nat) : State :=
  let i := ttIndex s r
  let k := ttKind s r
  if k = 1 then
    if i < 8 ∧ houseRole s i ≠ 0 then ttEnable s (hseB i) true (fun s v old => houseCtrlWritten s i v old) else s
  else if k = 2 then
    if i < 96 then ttEnable s (feltB i) true (fun s v old => feltCtrlWritten s i v old) else s
  else if k = 3 then { s with sup := { s.sup with pins := setAdd s.sup.pins i } }
  else if k = 4 then ttEnable s (busB + R.BUS_CTRL) true busCtrlWritten
  else if k = 5 then ttEnable s (busB + R.BUS_HS_CTRL) true hsCtrlWritten
  else s

/-- REACT 2 powers the entry down for its own fault (R404). -/
def railOwn (s : State) (r : Nat) : Bool := s.sup.ownFault.contains r

/-- The power-down action of entry r (R400); own: its own entry has the fault, which takes a KEEP channel down too (R404). -/
def railDown (s : State) (r : Nat) (own : Bool) : State :=
  let i := ttIndex s r
  let k := ttKind s r
  if k = 1 then
    if i < 8 ∧ houseRole s i ≠ 0 then
      if houseKeep s i then (if own then houseOffNext (s.setFld (hseB i) F.HSE_CTRL_EN 0) i else s)
      else if houseCtrlRefused s i (setBits (s.rd (hseB i)).toNat 0 0 0) then s
      else ttEnable s (hseB i) false (fun s v old => houseCtrlWritten s i v old)
    else s
  else if k = 2 then (if i < 96 then feltStopClear s i 9 else s)
  else if k = 3 then { s with sup := { s.sup with pins := setDel s.sup.pins i } }
  else if k = 4 then ttEnable s (busB + R.BUS_CTRL) false busCtrlWritten
  else if k = 5 then ttEnable s (busB + R.BUS_HS_CTRL) false hsCtrlWritten
  else s

/-- A skipped rail counts as off: a KEEP channel in a power-down (R400). -/
def railDone (s : State) (r : Nat) (own : Bool) : Bool :=
  railOff s r || (ttKind s r == 1 && !own && houseKeep s (ttIndex s r))

/-- An entry that has not gone off is forced off (R403). -/
def railForce (s : State) (r : Nat) : State :=
  let i := ttIndex s r
  let k := ttKind s r
  if k = 1 then (if i < 8 ∧ houseRole s i ≠ 0 ∧ (houseKeep s i = false ∨ railOwn s r = true) then houseOffNext (s.setFld (hseB i) F.HSE_CTRL_EN 0) i else s)
  else if k = 2 then (if i < 96 then feltAbortNow s i else s)
  else railDown s r false

/-- The cabinet state (SUP_STATUS.CAB). -/
def setCab (s : State) (v : Nat) : State := s.setFld supB F.SUP_STATUS_CAB v
/-- SEQ_FLT_N is pulled low for a reason, or no longer; SUP_STATUS shows it (R405). -/
def seqFlt (s : State) (why : Nat) (on : Bool) : State :=
  let l := if on then setAdd s.sup.flt why else setDel s.sup.flt why
  ({ s with sup := { s.sup with flt := l } }).setFld supB F.SUP_STATUS_SEQ_FLT (b2n (l != []))

/-- PWR_EN is driven (R412). -/
def setPwrEn (s : State) (v : Bool) : State := s.setFld supB F.SUP_STATUS_PWR_EN (b2n v)

/-- The next step with valid entries at or above k (R402). -/
def nextStep (s : State) (k : Nat) : Option Nat := (natsWhere 32 (fun j => decide (k ≤ j))).find? (fun j => (ttValid s).any (fun r => ttStep s r == j))

/-- The state with which entry r enters its step (R402): an entry whose rail is already good takes no action; one that a
power-up has started before starts again only if its rail is off, as PG_SRC judges it, and else goes on as it is. -/
def stepEntry (s : State) (r : Nat) : Nat :=
  let st := (s.rail r).st
  if ttSrc s r ≠ 0 ∧ railGood s r then 3
  else if st = 0 ∨ (railOff s r ∧ st ≠ 3) ∨ (railOff s r ∧ ttSrc s r ≠ 0) then 1
  else st

/-- The entries of step k begin to wait for UP_DLY (R402), but for those of a group that REACT 2 has shut down (R404). -/
def stepBegin (s : State) (k : Nat) : State :=
  ((ttValid s).filter (fun r => ttStep s r == k && !s.sup.shut.contains (ttGroup s r))).foldl (fun s r => railTo s r (stepEntry s r))
    (s.setFld supB F.SUP_STATUS_STEP k)

/-- The power-up ends (R402, R413): ON and SEQ_OUT high, or FAILED. -/
def upEnd (s : State) : State :=
  let s1 := supEvent { s with sup := { s.sup with seq := 0 } } F.SUP_EVT_PU_DONE
  if s.sup.broken then setCab s1 4 else (setCab s1 2).setFld supB F.SUP_STATUS_SEQ_OUT 1

/-- The steps from k on run (R402). -/
def upFrom (s : State) (k : Nat) : State :=
  match nextStep s k with
  | none => upEnd s
  | some j => stepBegin s j

/-- A power-up runs (R402). It lets the groups start again that REACT 2 has shut down (R404); one whose power-down still goes
on stays shut down (DESIGN CHOICE, log entry 33). -/
def upBegin (s : State) : State :=
  upFrom (setCab { s with sup := { s.sup with seq := 2, broken := false, shut := s.sup.groups } } 1) 0

/-- SUP_TT_CTRL.UP or AUTO (R402, R403): dropped in a power-down; with CHAIN_IN the power-up waits for SEQ_IN, CAB showing
POWER_UP (DEDUCED, log entry 57). The crown sends it on
to the brims (R482). -/
def ttUp (s : State) : State :=
  if s.sup.seq = 3 ∨ s.sup.seq = 4 then s.setFld supB F.SUP_TT_STAT_UP_DROP 1
  else if s.forcedOff then s
  else
    let s1 := if s.isCrown then casSend s 9 0 0 true [] else s
    if s1.flag supB F.SUP_TT_CFG_CHAIN_IN ∧ s1.sup.seq ≠ 2 then setCab { s1 with sup := { s1.sup with seq := 1 } } 1 else upBegin s1

/-- The highest step among the entries that have not gone off. -/
def topStep (s : State) (rs : List Nat) : Nat := (rs.map (ttStep s)).foldl max 0

/-- The entries of a shutdown take their steps in descending order (R403, R404): those of the highest step that is not off
wait for DN_DLY, the lower ones are queued. -/
def downAdvance (s : State) (rs : List Nat) : State :=
  let live := rs.filter (fun r => (s.rail r).st != 0)
  let top := topStep s live
  (live.filter (fun r => ttStep s r == top && (s.rail r).st == 9)).foldl (fun s r => railTo s r 5) s

/-- The named steps of a power-down begin (R403). -/
def stepsDown (s : State) : State :=
  let s1 := (ttValid s).foldl (fun s r => railTo s r 9) { s with sup := { s.sup with seq := 4 } }
  downAdvance (s1.setFld supB F.SUP_STATUS_STEP (topStep s1 (ttValid s1))) (ttValid s1)

/-- The running felts that the timetable does not name, and the AUX and POL channels without KEEP (R403). -/
def unnamedFelts (s : State) : List Nat := natsWhere 96 (fun f => !ttNames s 2 f && [2, 3, 4, 5, 6, 7, 8, 13].contains (feltState s f))
/-- The channels of the first stage of a power-down (R403): those that run, or with EN = 1 wait to. -/
def unnamedHouses (s : State) : List Nat :=
  natsWhere 8 (fun h => houseLocal s h && !houseKeep s h && !ttNames s 1 h && (houseOn s h || s.flag (hseB h) F.HSE_CTRL_EN))

/-- No entry runs any more; the retries stay counted, until 60 s of the rail good clear them (R404). -/
def railsIdle (s : State) : State :=
  (List.range 32).foldl (fun s r => railTo s r 0) s

/-- A power-down starts (R403): SEQ_OUT goes low at once, the unnamed outputs stop first; the crown sends it on (R406). A group
shutdown that runs goes on in it, with its hold on SEQ_FLT_N (R405). -/
def ttDown (s : State) : State :=
  if s.sup.seq = 3 ∨ s.sup.seq = 4 then s
  else
    let s0 := if s.isCrown then casSend s 9 0 1 true [timeW0 s.cabNs, timeW1 s.cabNs] else s
    let s1 := (setCab { s0 with sup := { s0.sup with seq := 3, broken := false, ownFault := [] } } 3).setFld supB F.SUP_STATUS_SEQ_OUT 0
    let s2 := (unnamedFelts s1).foldl (fun s f => feltStopClear s f 9) s1
    (unnamedHouses s2).foldl (fun s h => houseOffNext (s.setFld (hseB h) F.HSE_CTRL_EN 0) h) s2

/-- The power-down ends (R403): CAB OFF, PD_DONE, and PWR_EN low with PWR_OFF. -/
def downEnd (s : State) : State :=
  let s1 := supEvent (setCab { railsIdle s with sup := { (railsIdle s).sup with seq := 0 } } 0) F.SUP_EVT_PD_DONE
  let s2 := (seqFlt s1 3 false).setFld supB F.SUP_STATUS_STEP 0
  if s2.flag supB F.SUP_TT_CFG_PWR_OFF then setPwrEn s2 false else s2

/-- The timetable is abandoned (R403, R413): the running sequence ends where it stands, and with it the shutdowns and the
power-down for which SEQ_FLT_N was held low (R405). -/
def ttAbandon (s : State) (cab : Nat) : State :=
  let s1 := seqFlt (seqFlt (railsIdle s) 0 false) 3 false
  setCab { s1 with sup := { s1.sup with seq := 0, groups := [], broken := false, chain := false, ownFault := [] } } cab

/-- Entries that failed show in FAILED, the low 16 as a mask (SUP_TT_STAT). -/
def failShow (s : State) (r : Nat) : State :=
  if r < 16 then s.setFld supB F.SUP_TT_STAT_FAILED (s.fld supB F.SUP_TT_STAT_FAILED ||| 2 ^ r) else s

/-- REACT 2 (R404): the entries of the group power down in descending order of steps. -/
def groupDown (s : State) (r : Nat) : State :=
  let g := ttGroup s r
  let rs := (ttValid s).filter (fun q => ttGroup s q == g && (s.rail q).st != 0)
  let s1 := (s.report 11 (0x20 + r) K.RAIL_GROUP (r + g * 2 ^ 8))
  let s2 := if s1.flag (ttB r) F.SUP_TTE_A_CHAIN then seqFlt s1 0 true else s1
  let s3 := { s2 with sup := { s2.sup with
    groups := setAdd s2.sup.groups g
    shut := setAdd s2.sup.shut g
    ownFault := setAdd s2.sup.ownFault r
    broken := s2.sup.broken || s2.sup.seq == 2 } }
  downAdvance (rs.foldl (fun s q => railTo s q 9) s3) rs

/-- A rail fault or a missed power-good of entry r: REACT (R404). -/
def railFault (s : State) (r : Nat) (never : Bool) : State :=
  let s1 := (supEvent s F.SUP_EVT_RAIL).setFld supB F.SUP_TT_STAT_LAST_FAULT r
  let react := s.fld (ttB r) F.SUP_TTE_A_REACT
  let x := s.rail r
  if react = 0 then
    let s2 := s1.report 11 (0x20 + r) K.RAIL_LOG r
    if never then failShow (railTo s2 r 4) r else railTo s2 r 8
  else if react = 1 ∧ x.retries < s.fld (ttB r) F.SUP_TTE_A_N_RETRY then
    (railDown (s1.report 11 (0x20 + r) K.RAIL_RETRY r) r true).setRail r ⟨7, x.retries + 1⟩
  else if react ≤ 2 then groupDown s1 r
  else
    let s2 := seqFlt (s1.report 11 (0x20 + r) K.RAIL_RESET r) 1 true
    let s3 := railTo s2 r 8
    if s3.sup.seq = 2 then upEnd { s3 with sup := { s3.sup with broken := true } } else s3

/-- DN_DLY or UP_DLY of entry r has passed since its step start (R402, R403): it takes its action. -/
def ttAction (s : State) (r : Nat) : State :=
  let x := s.rail r
  if x.st = 1 ∧ s.sup.seq = 2 then railTo (railUp s r) r 2
  else if x.st = 5 then railTo (railDown s r (railOwn s r)) r 6
  else s

/-- PG_TMO of entry r has passed since its action (R402). -/
def ttPgTimeout (s : State) (r : Nat) : State :=
  if (s.rail r).st = 2 ∧ railGood s r = false then railFault s r true else s

/-- OFF_TMO of entry r has passed since its action (R403): forced off and reported; the step goes on. -/
def ttOffTimeout (s : State) (r : Nat) : State :=
  if (s.rail r).st = 6 ∧ railDone s r (railOwn s r) = false then
    railTo ((railForce s r).report 11 (0x20 + r) K.RAIL_OFF_TMO r) r 0
  else s

/-- UNNAMED_TMO ends the first stage (R403). -/
def ttUnnamedTimeout (s : State) : State := if s.sup.seq = 3 then stepsDown s else s

/-- RETRY_DLY of entry r has passed (R404): its power-up action again. -/
def ttRetry (s : State) (r : Nat) : State := if (s.rail r).st = 7 then railTo (railUp s r) r 2 else s

/-- 60 s with the rail of entry r good (R404). -/
def ttRetryClear (s : State) (r : Nat) : State :=
  if (s.rail r).st = 3 then s.setRail r { s.rail r with retries := 0 } else s

/-- SEQ_IN has read high for 1 ms with SEQ_FLT_N high (R402), which it does not while this device pulls it low (R405). -/
def seqInOk (s : State) : State :=
  if s.sup.flt ≠ [] then s
  else
    let s1 := (s.setFld supB F.SUP_STATUS_SEQ_IN 1).setFld supB F.SUP_STATUS_SEQ_FLT 0
    if s1.sup.seq = 1 then upBegin s1 else s1

/-- SEQ_FLT_N has read low for 100 µs (R406). -/
def seqFltLow (s : State) : State :=
  let s1 := s.setFld supB F.SUP_STATUS_SEQ_FLT 1
  if s1.flag supB F.SUP_TT_CFG_FLT_IN ∧ s1.sup.seq ≠ 3 ∧ s1.sup.seq ≠ 4 then { s1 with sup := { s1.sup with chain := true } } else s1

/-- CHAIN_DN_DLY has passed (R406): one power-down for both the pin chain and the crown's packet. -/
def chainDown (s : State) : State :=
  if s.sup.chain then ttDown { s with sup := { s.sup with chain := false } } else s

/-- One entry is judged at the end of a command (R401 to R404). -/
def railJudge (new : List Msg) (s : State) (r : Nat) : State :=
  let st := (s.rail r).st
  if st = 2 ∧ railGood s r then railTo s r 3
  else if st = 3 ∧ railBad s new r then railFault s r false
  else if st = 8 ∧ ttSrc s r ≠ 0 ∧ railGood s r ∧ railBad s new r = false then railTo s r 3
  else if st = 6 ∧ railDone s r (railOwn s r) then railTo s r 0
  else s

/-- A group shutdown goes on, or has ended (R404); in a power-down its entries keep to the order of that (R403). -/
def groupStep (s : State) (g : Nat) : State :=
  let rs := (ttValid s).filter (fun q => ttGroup s q == g && [5, 6, 9].contains (s.rail q).st)
  if rs = [] then
    let s1 := { s with sup := { s.sup with groups := setDel s.sup.groups g, ownFault := s.sup.ownFault.filter (fun r => ttGroup s r != g) } }
    if s1.sup.groups = [] then seqFlt s1 0 false else s1
  else if s.sup.seq = 4 then s
  else downAdvance s rs

/-- Entry r lets the next step start (R402): its rail is good or marked failed, or its group has been shut down (R404). -/
def railPast (s : State) (r : Nat) : Bool := [0, 3, 4].contains (s.rail r).st || s.sup.shut.contains (ttGroup s r)

/-- The sequence goes on when what it waits for has come (R402, R403). -/
def seqStep (s : State) : State :=
  if s.sup.seq = 2 then
    let k := s.fld supB F.SUP_STATUS_STEP
    if ((ttValid s).filter (fun r => decide (ttStep s r ≤ k))).all (railPast s) then upFrom s (k + 1) else s
  else if s.sup.seq = 3 then (if unnamedFelts s = [] ∧ unnamedHouses s = [] then stepsDown s else s)
  else if s.sup.seq = 4 then
    let live := (ttValid s).filter (fun r => (s.rail r).st != 0)
    if live = [] then downEnd s else downAdvance (s.setFld supB F.SUP_STATUS_STEP (topStep s live)) live
  else s

/-- What the timetable makes of a command's effects (R401 to R404, R37): a force-off abandons it, a cabinet-wide reaction
pre-empts a power-down. new are the reports the command has made. -/
def ttSweep (new : List Msg) (s : State) : State :=
  let wide : Bool := match s.fc.running with
    | none => false
    | some r => decide (4 ≤ r.scope)
  if s.forceOff ∧ s.sup.seq ≠ 0 then ttAbandon s 6
  else if wide ∧ (s.sup.seq = 3 ∨ s.sup.seq = 4) then ttAbandon s 6
  else if s.sup.rails = [] ∧ s.sup.seq ≤ 1 then s
  else
    let s1 := (List.range 32).foldl (railJudge new) s
    let s2 := s1.sup.groups.foldl groupStep s1
    seqStep s2

/-! Interlocks (R407, R408). -/

/-- The state nibble of interlock n: 0 stop, 1 run, 2 stop_wait_ack, 3 latched, 4 latched and armed; bit 3 counting. -/
def ilkNib (s : State) (n : Nat) : Nat := bits (s.rd (supB + R.SUP_ILK_STAT)).toNat (4 * n + 3) (4 * n)
/-- Write the state and counting of interlock n. -/
def ilkPut (s : State) (n st : Nat) (counting : Bool) : State :=
  let a := supB + R.SUP_ILK_STAT
  s.wr a (BitVec.ofNat 32 (setBits (s.rd a).toNat (4 * n + 3) (4 * n) (st + 8 * b2n counting)))
/-- Interlock n says stop (R408). -/
def ilkStop (s : State) (n : Nat) : Bool := ilkNib s n % 8 != 1
/-- The felts interlock n names (R408). -/
def ilkFelts (s : State) (n : Nat) : List Nat :=
  natsWhere 96 (fun f => bit (s.rd (supB + R.SUP_ILK_FELT0 + 0x20 * n + 4 * (f / 32))).toNat (f % 32))
/-- The channels interlock n names. -/
def ilkHouses (s : State) (n : Nat) : List Nat := natsWhere 8 (fun h => bit (s.fld (supB + 0x20 * n) F.SUP_ILK_CFG_HOUSE) h)

/-- A felt comes under an interlock stop (R408): OFF at once, or by its stop profile with ACTION 1; one that already stops by
its profile goes on with that. -/
def ilkStopFelt (s : State) (profile : Bool) (f : Nat) : State :=
  if profile && [5, 6, 13].contains (feltState s f) then feltStopBegin s f 10
  else if profile && feltState s f == 7 then s.setFld (feltB f) F.FELT_STATUS_STOP_CAUSE 10
  else feltHoldOff s f 10

/-- A felt leaves an interlock stop (R408): it starts again if EN is still 1, one that still stops by its profile at the end of
that, as a write of EN = 1 then would make it (R161). -/
def ilkFreeFelt (s : State) (f : Nat) : State :=
  if s.flag (feltB f) F.FELT_CTRL_EN = false then feltProceed s f
  else if feltState s f = 1 then feltBegin s f false
  else if feltState s f = 7 then s.setFelt f { s.felt f with again := true }
  else feltProceed s f

/-- The stops in force act on what they name, and what no stop names is let go (R408). A stop with ACTION 0 also sends OFF a
felt that one with ACTION 1 has left in its profile. -/
def ilkApply (s : State) : State :=
  let stops := (List.range 4).filter (ilkStop s)
  let felts := stops.foldl (fun l n => setUnion l (ilkFelts s n)) []
  let houses := stops.foldl (fun l n => setUnion l (ilkHouses s n)) []
  let old := s.ilkHold
  let profile := fun f => !(stops.any (fun n => (ilkFelts s n).contains f && !s.flag (supB + 0x20 * n) F.SUP_ILK_CFG_ACTION))
  let s1 := { s with ilkHold := felts, ilkHouse := houses }
  let fresh := fun f => !old.contains f || (feltState s f == 7 && !profile f)
  let s2 := (felts.filter fresh).foldl (fun s f => ilkStopFelt s (profile f) f) s1
  let s3 := (old.filter (fun f => !felts.contains f)).foldl ilkFreeFelt s2
  if s.ilkHouse = houses then s3 else houseApply s3

/-- The discrepancy time of interlock n in samples (R407). -/
def ilkDisc (s : State) (n : Nat) : Nat := 10 * clampNat 1 500 (s.fld (supB + 0x20 * n) F.SUP_ILK_CFG_DISC_MS)

/-- One interlock at one sample (R407); run inputs a and b. -/
def ilkSample (s : State) (n : Nat) (a b : Bool) : State :=
  let nib := ilkNib s n
  let st := nib % 8
  let counting := decide (8 ≤ nib)
  let wait := s.flag (supB + 0x20 * n) F.SUP_ILK_CFG_RESTART
  if st = 3 ∨ st = 4 then
    if !a && !b then ilkPut s n 4 counting
    else if st = 4 ∧ a ∧ b then ilkPut s n (if wait then 2 else 1) false
    else s
  else if a != b then
    let k := if counting then cntOf s.sup.ilkN n + 1 else 0
    let s1 := { s with sup := { s.sup with ilkN := cntPut s.sup.ilkN n k } }
    if k ≥ ilkDisc s n then (ilkPut s1 n 3 true).report 11 (0x10 + n) K.ILK_DISCREPANCY n else ilkPut s1 n 0 true
  else if a then ilkPut s n (if st = 0 ∧ wait then 2 else if st = 2 then 2 else 1) false
  else ilkPut s n 0 false

/-- What an interlock's change brings (R408): its event, and ILK_STOP as it enters stop from run. -/
def ilkTell (s0 s : State) (n : Nat) : State :=
  if !ilkStop s0 n && ilkStop s n then (supEvent s F.SUP_EVT_ILK_STOP).report 11 (0x10 + n) K.ILK_STOP n
  else if ilkStop s0 n && !ilkStop s n then supEvent s F.SUP_EVT_ILK_RUN
  else s

/-- All interlocks are sampled together (R407): the levels at the inputs A and B, bit n for interlock n. -/
def interlockSample (s : State) (a b : BitVec 4) : State :=
  let raw := (List.range 4).foldl (fun w n => w + (b2n (a.getLsbD n) + 2 * b2n (b.getLsbD n)) * 2 ^ (4 * n)) 0
  let s1 := (List.range 4).foldl (fun s n =>
    ilkSample s n (a.getLsbD n) (b.getLsbD n != s.flag (supB + 0x20 * n) F.SUP_ILK_CFG_B_ANTI)) (s.setFld supB F.SUP_ILK_STAT_RAW raw)
  ilkApply ((List.range 4).foldl (ilkTell s) s1)

/-- SUP_ILK_CTRL.ACK (R407): stop_wait_ack becomes run while both inputs still say run. -/
def ilkAck (s : State) (mask : Nat) : State :=
  let raw := s.fld supB F.SUP_ILK_STAT_RAW
  let s1 := (List.range 4).foldl (fun s n =>
    let a := bit raw (4 * n)
    let b := bit raw (4 * n + 1) != s.flag (supB + 0x20 * n) F.SUP_ILK_CFG_B_ANTI
    if bit mask n ∧ ilkNib s n % 8 = 2 ∧ a ∧ b then ilkPut s n 1 false else s) s
  ilkApply ((List.range 4).foldl (ilkTell s) s1)

/-! Push-button and power enable (R409 to R412). -/

/-- The cabinet is off with PWR_EN low (R409). -/
def cabOff (s : State) : Bool :=
  [0, 5].contains (s.fld supB F.SUP_STATUS_CAB) && !s.flag supB F.SUP_STATUS_PWR_EN

/-- A press begins (R409); one that begins in a force-off is ignored until its release. -/
def pbBegin (s : State) : State :=
  if s.flag supB F.SUP_PB_STAT_PRESSED then s
  else ({ s with sup := { s.sup with pbDone := s.forceOff } }).setFld supB F.SUP_PB_STAT_PRESSED 1

/-- A press that has not yet been judged is in progress. -/
def pbLive (s : State) : Bool := s.flag supB F.SUP_PB_STAT_PRESSED && !s.sup.pbDone

/-- A press held for ON_MS with the cabinet off raises PWR_EN (R409, R412). -/
def pbOn (s : State) : State :=
  if pbLive s ∧ cabOff s then setPwrEn ({ s with sup := { s.sup with pbDone := true } }) true else s

/-- A short press (R409). -/
def pbShort (s : State) : State :=
  if pbLive s ∧ cabOff s = false then
    let s1 := supEvent { s with sup := { s.sup with pbDone := true } } F.SUP_EVT_PB_SHORT
    let s2 := s1.report 11 0x40 K.PB_SHORT 0
    if s2.flag supB F.SUP_PB_CFG_SHORT_ACT then ttDown s2 else s2
  else s

/-- The long-press time in milliseconds (R409). -/
def longMs (s : State) : Nat := 1000 * clampNat 2 16 (s.fld supB F.SUP_PB_CFG_LONG_S)

/-- A press held for LONG_S (R410): every output off, SEQ_FLT_N low, a store and a card. -/
def pbForceOff (s : State) : State :=
  if pbLive s ∧ cabOff s = false then
    let s1 := supEvent { s with sup := { s.sup with pbDone := true }, forceOff := true } F.SUP_EVT_PB_LONG
    let s2 := (List.range 96).foldl (fun s f => feltHoldOff s f 11) s1
    let s3 := seqFlt (hsApply (houseApply s2)) 2 true
    nvCard (nvStore (s3.report 11 0x40 K.PB_FORCE_OFF (longMs s3)) true) 3 none
  else s

/-- The card after a force-off has been written, or 20 ms have passed (R410): PWR_EN goes low, the force-off ends, and with it
its hold on SEQ_FLT_N (R405). -/
def forceOffEnd (s : State) : State :=
  if s.forceOff then
    let s1 := seqFlt (setCab (setPwrEn s false) 5) 2 false
    { s1 with forceOff := false }
  else s

/-- PB_N has been high for 983 samples (R409); ms is how long the press lasted. -/
def pbEnd (s : State) (ms : Nat) : State :=
  if s.flag supB F.SUP_PB_STAT_PRESSED then
    ({ s with sup := { s.sup with pbDone := false } }.setFld supB F.SUP_PB_STAT_PRESSED 0).setFld supB F.SUP_PB_STAT_PRESS_MS (min 0xFFFF ms)
  else s

end Sys2Proof.Machine
end

