-- ==== Sys2Proof/Machine/Lane.lean ====
section
/-! DEFINITION. What a stage lane's frames, packets and register writes do across the units: the uplink frame time, the
packets taken from the side channel, the loss of a lane and the writes of SL_CTRL (R77, R88 to R94, R104 to R106). -/
namespace Sys2Proof.Machine

/-- Change one lane's own record. -/
def State.laneMod (s : State) (l : Nat) (g : LaneX → LaneX) : State := s.setLane l (g (s.lane l))

/-- SL_CTRL.LOSS_LIMIT as it acts. -/
def lossLimit (s : State) (l : Nat) : Nat := clampNat 16 399 (s.fld (slB l) F.SL_CTRL_LOSS_LIMIT)

/-- An uplink frame is bad (R77, R104): it is counted, and in RUN the limit of consecutive bad frames makes SL_LOSS due. -/
def laneBad (s : State) (l : Nat) (slip : Bool) : State :=
  let b := slB l
  let s1 := s.bump b F.SL_CNT_CRC_COUNT 1
  let s2 := if slip then s1.bump b F.SL_CNT_SEQ_COUNT 1 else s1
  let n := (s2.lane l).bad + 1
  let s3 := s2.setFld b F.SL_MAX_BAD_RUN (min 0xFFFF (max n (s2.fld b F.SL_MAX_BAD_RUN)))
  s3.laneMod l (fun x =>
    { x with bad := n, loss := if laneRun s l && decide (lossLimit s l ≤ n) && x.loss == 0 && x.closing.isNone then 1 else x.loss })

/-- A good RUN frame of a lane in RUN (R94); HUB_SAFE makes SL_LOSS due (R104). -/
def laneGoodRun (s : State) (l typ : Nat) : State :=
  let s1 := tripSeen s l typ
  let s2 := if typ = 5 then s1.setFld (slB l) F.SL_STATUS_HUB_SAFE 1 else s1
  s2.laneMod l (fun x => { x with loss := if typ = 5 ∧ x.loss = 0 ∧ x.closing.isNone then 2 else x.loss })

/-- The index of an uplink frame of this SEQ that ends a time mm, in ticks, after its downlink frame was launched: the one
nearest to the frames sent so far (R72, R96, R97). -/
def frameIndex (s : State) (l seq mm : Nat) : Int :=
  let est : Int := (nextFrame s l : Int) - ((mm / 320 : Nat) : Int)
  est + (((seq : Int) - est + 8) % 16 - 8)

/-- An uplink frame time ends on lane l (R77 to R98): mm is the time from L_k to the last symbol, in ticks. In LOCK a bad
frame also gives up the alignment, which is found anew (DEDUCED, log entry 36); a good frame of a training type in RUN
carries no samples (DEDUCED, log entry 37). The frame times of a lane that is disabled or in IDLE, BACKOFF or HALTED are
not counted as bad frames (DESIGN CHOICE, log entry 157; unsafe). -/
def uplinkFrame (s : State) (l : Nat) (frame : Option (BitVec 280)) (mm : Nat) : State :=
  let st := laneState s l
  if st < 2 ∨ 6 < st then capFrame s l none none
  else
    let x := s.lane l
    let (u, slip) := judgeFrame x.seq frame
    let seqNow := match u with
      | some u => some u.seq
      | none => x.seq.map (fun q => (q + 1) % 16)
    let s1 := s.setLane l { x with seq := if st = 2 ∧ u.isNone then none else seqNow }
    let s2 := match u with
      | some _ => s1.laneMod l (fun x => { x with bad := 0 })
      | none => laneBad s1 l slip
    if st ≠ 6 then
      let s3 := laneTrainFrame s2 l u mm
      let s4 := if laneRun s3 l then portsTrained (s3.laneMod l (fun x => { x with idx := frameIndex s l (seqNow.getD 0) mm })) l else s3
      capFrame s4 l seqNow none
    else
      let seq := seqNow.getD 0
      let s2 := s2.laneMod l (fun x => { x with idx := x.idx + 1 })
      match u with
      | none => capFrame (laneSamples (dropPart s2 l) l none seq) l seqNow none
      | some u =>
        if runType u.typ then
          let s3 := trackMeasure (laneGoodRun s2 l u.typ) l mm
          capFrame (takeSide (laneSamples s3 l (some u) seq) l u.side) l seqNow (some u)
        else capFrame (laneSamples (dropPart s2 l) l none seq) l seqNow none

/-- The SL_LOSS that is due is reported (R104), with what it means for a trip still pending (R106) and for the PD ports
(R267). -/
def slLossDue (s : State) (l : Nat) : State :=
  if laneRun s l ∧ (s.lane l).loss ≠ 0 then portsLost (tripUnknown (laneLoss s l) l) l else s

/-- A lane leaves RUN by a write or at the stage end's request (R89, R106): a trip still pending counts as unknown, the
outbound PD messages are lost. -/
def laneLeave (s : State) (l : Nat) (next : State → State) : State :=
  if laneRun s l then next (portsResync (tripUnknown s l) l) else next s

/-- The RETRAIN_REQ packet at the head is taken (R89): training starts. -/
def retrainReqTaken (s : State) (l : Nat) : State :=
  match rxTake s l (fun p => p.cls == 9 && p.arg / 2 ^ 12 == 2) with
  | none => s
  | some (_, s1) => laneLeave s1 l (fun s => laneIdle s l)

/-- The RESYNC packet at the head is taken (R92). The ports hear of their lost messages after the reset, so that what they
send in answer (R266) is not discarded with it. -/
def resyncTaken (s : State) (l : Nat) : State :=
  match rxTake s l (fun p => p.cls == 9 && p.arg / 2 ^ 12 == 0) with
  | none => s
  | some (_, s1) => portsResync (sideResync s1 l false) l

/-- 128 frames have passed without an acknowledgement (R91, R92). -/
def sideRetx (s : State) (l : Nat) : State :=
  let (s1, dead) := retxTimeout s l
  if dead then portsResync (sideResync s1 l true) l else s1

/-- The STATUS packet at the head is taken (R88). -/
def statusTaken (s : State) (l : Nat) : State :=
  match rxTake s l (fun p => p.cls == 6) with
  | none => s
  | some (p, s1) =>
    let page := p.arg % 16
    if page ≠ 0 then s1.laneMod l (fun x => { x with pages := (x.pages.filter (fun q => q.1 != page)) ++ [(page, p.body)] })
    else
      let w1 := (p.word 1).toNat
      let errs := (p.word 3).toNat % 2 ^ 16
      let more := (errs + 2 ^ 16 - (s1.lane l).slotErrs) % 2 ^ 16
      let s2 := (s1.wr (slB l + R.SL_CNT_DN) (p.word 0)).bump (slB l) F.SL_CNT_SAMPLE_COUNT more
      (s2.setFld (slB l) F.SL_STATUS_HUB_LATCH (b2n (w1 % 2 ^ 16 != 0))).laneMod l (fun x =>
        { x with latchMask := w1 % 2 ^ 16, tripMask := w1 / 2 ^ 16, temp := (p.word 2).toNat % 2 ^ 16, slotErrs := errs })

/-- The TRIP packet at the head is taken (R87, R94, R134). -/
def tripTaken (s : State) (l : Nat) : State :=
  match rxTake s l (fun p => p.cls == 8) with
  | none => s
  | some (p, s1) => tripPhase (s1.setFld (slB l) F.SL_STATUS_TRIP_PENDING 0) (16 * l + bits p.arg 15 12) (bits p.arg 11 8)

/-- The LATCH_STATE packet at the head is taken (R89, R167, R518). -/
def latchTaken (s : State) (l : Nat) : State :=
  match rxTake s l (fun p => p.cls == 9 && p.arg / 2 ^ 12 == 3) with
  | none => s
  | some (p, s1) => latchReported s1 l ((p.word 0).toNat % 2 ^ 16)

/-- The REG_RSP packet at the head is taken (R84, R102). -/
def regRspTaken (s : State) (l : Nat) : State :=
  match rxTake s l (fun p => p.cls == 3) with
  | none => s
  | some (p, s1) => regRsp s1 l p

/-- A packet that this end discards and counts (R84, R89): a reserved class, a class or a LINK subtype that only this end
sends, a PD_EVT of a reserved code, a PD packet for a port above 0 under version 1 (R85). -/
def discarded (s : State) (l : Nat) (p : SidePkt) : Bool :=
  decide (10 ≤ p.cls) || p.cls == 1 || p.cls == 2 || p.cls == 7 ||
  (p.cls == 9 && (p.arg / 2 ^ 12 == 1 || decide (4 ≤ p.arg / 2 ^ 12))) ||
  (p.cls == 5 && decide (7 ≤ bits p.arg 11 8)) ||
  ((p.cls == 4 || p.cls == 5) && s.fld (slB l) F.SL_STATUS_VERSION == 1 && decide (0 < bits p.arg 15 14))

/-- The reserved-class packet at the head is discarded and counted (R84, R85). -/
def reservedTaken (s : State) (l : Nat) : State :=
  match rxTake s l (discarded s l) with
  | none => s
  | some (_, s1) => s1.bump (slB l) F.SL_CNT_RETX_DISCARDED 1

/-- The summary of the last uplink IDLE packet is taken (R84). -/
def idleTaken (s : State) (l : Nat) : State :=
  match (s.lane l).idle with
  | none => s
  | some a =>
    ((s.laneMod l (fun x => { x with idle := none })).setFld (slB l) F.SL_STATUS_HUB_SAFE (a % 2)).setFld (slB l) F.SL_STATUS_HUB_LATCH (a / 2 % 2)

/-- The PD_MSG segment at the head is taken (R85). -/
def pdMsgTaken (s : State) (l : Nat) : State :=
  match rxTake s l (fun p => p.cls == 4 && !(discarded s l p)) with
  | none => s
  | some (p, s1) => pdSegment s1 l p

/-- The PD_EVT packet of a code at the head is taken (R86): act gets the port and PARAM. -/
def pdEvtTaken (s : State) (l code : Nat) (act : State → Nat → Nat → State) : State :=
  match rxTake s l (fun p => p.cls == 5 && bits p.arg 11 8 == code && !(discarded s l p)) with
  | none => s
  | some (p, s1) => act s1 (4 * l + bits p.arg 15 14) (p.arg % 256)

/-- The 10 µs of IDLE have passed (R99). -/
def idleEnd (s : State) (l : Nat) : State := if laneState s l = 1 then laneEnter s l 2 else s

/-- The 100 ms of BACKOFF have passed (R99). -/
def backoffDone (s : State) (l : Nat) : State := if laneState s l = 7 then laneIdle s l else s

/-- A TIME packet is due (R95). -/
def timePacket (s : State) (l : Nat) : State := if laneRun s l then sideSend s l 7 0 [] else s

/-- Some phase of the lane lies in a felt whose phases switch (R106). -/
def laneSwitches (s : State) (l : Nat) : Bool := (laneFelts s l).any (feltSwitching s)

/-- A write of SL_CTRL would disable, retrain or abort a lane of a switching felt (R106). -/
def slCtrlRefused (s : State) (l v : Nat) : Bool := (!(bit v 0) || bit v 2 || bit v 3) && laneSwitches s l

/-- SL_CTRL has been written with v (R99, R106); old is its value before. ABORT acts alone (R34). -/
def slCtrlWritten (s : State) (l v : Nat) (old : Word) : State :=
  let en := bit v 0
  let was := bit old.toNat 0
  let fresh := fun (s : State) => s.laneMod l (fun x => { x with told := false, fails := 0 })
  if bit v 3 then laneLeave s l (fun s => laneStop s l (if en then 8 else 0))
  else if !en then
    (if !was then s
     else if laneRun s l then s.laneMod l (fun x => { x with closing := some (32, false), loss := 0 })
     else laneStop s l 0)
  else if bit v 2 || !was then laneLeave (fresh s) l (fun s => laneIdle s l)
  else s

end Sys2Proof.Machine
end

