-- ==== Sys2Proof/Machine/Power.lean ====
section
/-! DEFINITION. Supplies, resets and sleep (R503 to R508, R411, R412), and what every command ends with: the ports and the
timetable judge what it has done, the host is called, its reports and event lines go on their way. -/
namespace Sys2Proof.Machine

/-- Registers of the always-on domain, which a system reset leaves (R271, R411, R507). -/
def alwaysOn (a : Nat) : Bool :=
  a == R.SYS_RST_CAUSE || a == R.SYS_CLK_STAT || a == supB + R.SUP_PB_STAT || a == svcB + R.SVC_STATUS || a == svcB + R.SVC_LAST

/-- A system reset begins (R507): the core, time and lane domains go to their reset state; the always-on domain and what
is stored in flash and non-volatile cells stay. -/
def systemReset (s : State) (cause : Nat) : State :=
  let r := State.reset
  let s1 : State :=
    { r with
      regs := s.regs.filter (fun e => alwaysOn e.1)
      mem := s.mem.filter (fun c => decide (0x3100000 ≤ c.1) && decide (c.1 < 0x3120000))
      tio := s.tio
      freeCount := s.freeCount
      nv := { r.nv with copyA := s.nv.copyA, copyB := s.nv.copyB, headers := s.nv.headers, cells := s.nv.cells, mapRec := s.nv.mapRec }
      sup := { r.sup with pbDone := s.sup.pbDone }
      flash := s.flash
      pwr := { s.pwr with core := false, asleep := false }
      svc := s.svc
      pending := s.pending }
  let s2 := s1.setFld 0 F.SYS_RST_CAUSE_CAUSE (s1.fld 0 F.SYS_RST_CAUSE_CAUSE ||| 2 ^ cause)
  (s2.setFld supB F.SUP_STATUS_PWR_EN (s.fld supB F.SUP_STATUS_PWR_EN)).setFld supB F.SUP_PB_CFG_AUTO_ON (s.fld supB F.SUP_PB_CFG_AUTO_ON)

/-- The last main supply enters its range (R505, R506); the house auxiliary power is there with it (DESIGN CHOICE, log entry 145). -/
def mainRise (s : State) : State := { s with pwr := { s.pwr with main := true, aux := true } }

/-- PLL A locks (R503, R506): SYS_CLK_STAT shows it and its source. -/
def pllaLocked (s : State) (crystal : Bool) : State :=
  if s.pwr.main then
    ({ s with pwr := { s.pwr with pll := true } }.setFld 0 F.SYS_CLK_STAT_PLLA_LOCK 1).setFld 0 F.SYS_CLK_STAT_PLLA_SRC (b2n (!crystal))
  else s

/-- The core-domain reset ends (R505 to R507), with MR_N high again: only with every main supply in its range and PLL A locked. -/
def coreRelease (s : State) : State :=
  if s.pwr.main && s.pwr.pll && !s.pwr.core then
    ({ s with pwr := { s.pwr with core := true } }.setFld 0 F.SYS_CLK_STAT_PLLA_LOCK 1).setFld supB F.SUP_PB_STAT_MR 0
  else s

/-- A main supply leaves its range (R505, R507): a system reset; the device waits for the supplies and for PLL A. -/
def supplyOut (s : State) : State :=
  let s1 := systemReset s 0
  ({ s1 with pwr := { s1.pwr with main := false, pll := false } }).setFld 0 F.SYS_CLK_STAT_PLLA_LOCK 0

/-- PLL A loses lock (R30). -/
def pllLost (s : State) : State :=
  ({ s with pwr := { s.pwr with pll := false } }.setFld 0 F.SYS_CLK_STAT_PLLA_LOCK 0).report 0 0 K.CORE_PLL 0

/-- A reset-scope reaction whose slate store and report card are complete begins its system reset (R423). -/
def resetWhenStored (s : State) : State :=
  if s.fc.resetWait ∧ s.nv.storing = 0 ∧ s.flag nvB F.NV_STATUS_PENDING = false ∧ s.nv.cards = [] then systemReset s 2 else s

/-- 20 ms have passed since a reset-scope decision (R423). -/
def resetWhenLate (s : State) : State := if s.fc.resetWait then systemReset s 2 else s

/-- MR_N has been low for 33 samples (R411): SUP_PB_STAT shows it low until the reset ends (DEDUCED, log entry 56). -/
def mrReset (s : State) : State := (systemReset s 1).setFld supB F.SUP_PB_STAT_MR 1

/-- VAON first rises (R412). -/
def vaonUp (s : State) : State :=
  let s1 := { s with pwr := { s.pwr with vaon := true } }
  if s.flag supB F.SUP_PB_CFG_AUTO_ON then setPwrEn s1 true else s1

/-- The house auxiliary power brings VAON up (R270, R412). -/
def auxRise (s : State) : State := vaonUp { s with pwr := { s.pwr with aux := true } }

/-- The conditions of R508 hold. -/
def maySleep (s : State) : Bool :=
  (List.range 96).all (fun e => engState s e != 1) &&
  (List.range 96).all (fun f => !(feltSwitching s f)) &&
  (List.range 32).all (fun c => dmaState s c != 2) &&
  (List.range 8).all (fun u => decide (capState s u < 2)) &&
  (List.range 8).all (fun h => !(houseOn s h) || houseKeep s h)

/-- A write of 1 to SYS_PWR.SLEEP (R508): the core clock stops, or the write is dropped. -/
def sleepGo (s : State) : State :=
  if maySleep s then
    ({ s with pwr := { s.pwr with asleep := true } }.setFld 0 F.SYS_PWR_SLEEP 1).setFld 0 F.SYS_PWR_AWAKE 0
  else s

/-- A lane with EN = 1 that is off begins training (R99). -/
def lanesBegin (s : State) : State :=
  (List.range 12).foldl (fun s l => if laneState s l = 0 ∧ s.flag (slB l) F.SL_CTRL_EN then laneIdle s l else s) s

/-! The end of a command. -/

/-- The reports that a command has made, s0 being the state before it. -/
def newReports (s0 s : State) : List Msg := s.reports.drop s0.reports.length

/-- Every bound port is judged again (R238). -/
def portsJudge (s : State) : State := if s.portFelt = [] then s else portSweep s

/-- ALERT_N has fallen within a command (R475). -/
def alertNotice (s0 s : State) : State := if alertLow s && !alertLow s0 then notify s 1 F.HP_NOTIFY_N_ALERT else s

/-- Timetable words that a live reload has left waiting take effect when no sequence runs any more (R413). -/
def heldTimetable (s : State) : State :=
  if s.img.ttHeld = [] ∨ s.sup.seq ≠ 0 then s
  else (s.img.ttHeld.foldl (fun s e => cohChange (s.wr e.1 e.2) e.1 (s.rd e.1) e.2) { s with img := { s.img with ttHeld := [] } })

/-- What follows every command: s0 is the state before it, s the state its own effect has left. -/
def finish (s0 s : State) : State :=
  let s1 := portsJudge s
  let s2 := heldTimetable (ttSweep (newReports s0 s1) s1)
  settle s0 (alertNotice s0 s2)

/-- A command whose effect needs the core domain out of reset (R506, R507). -/
def State.run (s : State) (act : State → State) : State := if s.pwr.core then finish s (act s) else s

end Sys2Proof.Machine
end

