-- ==== Sys2Proof/Machine/Sha.lean ====
section
/-! DEFINITION. SHA-256 (FIPS 180-4) and the verification of an ECDSA P-256 signature (FIPS 186-5), which R51 names. -/
namespace Sys2Proof.Machine

/-- The primes below 312: there are 64 of them, and none of the others has all its factors above 17. -/
def shaPrimes : List Nat :=
  (List.range 312).filter (fun n => decide (2 ≤ n) && [2, 3, 5, 7, 11, 13, 17].all (fun d => n == d || n % d != 0))

/-- The greatest number of n bits whose k-th power is at most x, on top of the bits r already found. -/
def rootBits (k x : Nat) : Nat → Nat → Nat
  | 0, r => r
  | n + 1, r => rootBits k x n (if (r + 2 ^ n) ^ k ≤ x then r + 2 ^ n else r)

/-- The first 32 bits of the fraction of the k-th root of a prime below 512, as FIPS 180-4 derives its constants. -/
def rootFrac (k p : Nat) : Nat := rootBits k (p * 2 ^ (32 * k)) 37 0 % 2 ^ 32

/-- The round constants of SHA-256: from the cube roots of the first 64 primes. -/
def shaK : List Nat := shaPrimes.map (rootFrac 3)

/-- A 32-bit rotation to the right. -/
def ror32 (x n : Nat) : Nat := (x >>> n ||| x <<< (32 - n)) % 2 ^ 32

/-- The first word of a schedule of sixteen words, oldest first, and the schedule moved on by one. -/
def shaStep (w : List Nat) : List Nat :=
  let a := w.getD 1 0
  let b := w.getD 14 0
  let s0 := ror32 a 7 ^^^ ror32 a 18 ^^^ a >>> 3
  let s1 := ror32 b 17 ^^^ ror32 b 19 ^^^ b >>> 10
  w.drop 1 ++ [(w.getD 0 0 + s0 + w.getD 9 0 + s1) % 2 ^ 32]

/-- The working variables a to h and the schedule. -/
structure ShaVars where
  a : Nat
  b : Nat
  c : Nat
  d : Nat
  e : Nat
  f : Nat
  g : Nat
  h : Nat
  w : List Nat

/-- One round. -/
def shaRound (v : ShaVars) (k : Nat) : ShaVars :=
  let s1 := ror32 v.e 6 ^^^ ror32 v.e 11 ^^^ ror32 v.e 25
  let ch := (v.e &&& v.f) ^^^ ((2 ^ 32 - 1 - v.e) &&& v.g)
  let t1 := v.h + s1 + ch + k + v.w.getD 0 0
  let s0 := ror32 v.a 2 ^^^ ror32 v.a 13 ^^^ ror32 v.a 22
  let mj := (v.a &&& v.b) ^^^ (v.a &&& v.c) ^^^ (v.b &&& v.c)
  ⟨(t1 + s0 + mj) % 2 ^ 32, v.a, v.b, v.c, (v.d + t1) % 2 ^ 32, v.e, v.f, v.g, shaStep v.w⟩

/-- The number that bytes spell, most significant byte first. -/
def beNat (l : List Byte) : Nat := l.foldl (fun n b => n * 256 + b.toNat) 0

/-- Compress one block of 64 bytes. -/
def shaBlock (h : List Nat) (blk : List Byte) : List Nat :=
  let w := (List.range 16).map (fun i => beNat ((blk.drop (4 * i)).take 4))
  let v0 : ShaVars := ⟨h.getD 0 0, h.getD 1 0, h.getD 2 0, h.getD 3 0, h.getD 4 0, h.getD 5 0, h.getD 6 0, h.getD 7 0, w⟩
  let v := shaK.foldl shaRound v0
  List.zipWith (fun x y => (x + y) % 2 ^ 32) h [v.a, v.b, v.c, v.d, v.e, v.f, v.g, v.h]

/-- Compress the blocks of a padded message; the count bounds them. -/
def shaBlocks : Nat → List Nat → List Byte → List Nat
  | 0, h, _ => h
  | n + 1, h, m => shaBlocks n (shaBlock h (m.take 64)) (m.drop 64)

/-- The initial hash value of SHA-256: from the square roots of the first eight primes. -/
def shaInit : List Nat := (shaPrimes.take 8).map (rootFrac 2)

/-- The SHA-256 digest of a message as a number, first byte most significant. -/
def sha256 (m : List Byte) : Nat :=
  let n := m.length
  let z := (119 - n % 64) % 64
  let p := m ++ 0x80#8 :: List.replicate z 0#8 ++ (List.range 8).map (fun i => BitVec.ofNat 8 ((8 * n) >>> (56 - 8 * i)))
  (shaBlocks (p.length / 64) shaInit p).foldl (fun a x => a * 2 ^ 32 + x) 0

/-- The field prime of P-256. -/
def p256P : Nat := 0xffffffff00000001000000000000000000000000ffffffffffffffffffffffff
/-- The order of the base point. -/
def p256N : Nat := 0xffffffff00000000ffffffffffffffffbce6faada7179e84f3b9cac2fc632551
/-- The coefficient b of the curve y² = x³ − 3x + b. -/
def p256B : Nat := 0x5ac635d8aa3a93e7b3ebbd55769886bc651d06b0cc53b0f63bce3c3e27d2604b
/-- The base point. -/
def p256G : Nat × Nat :=
  (0x6b17d1f2e12c4247f8bce6e563a440f277037d812deb33a0f4a13945d898c296,
   0x4fe342e2fe1a7f9b8ee7eb4a7c0f9e162bce33576b315ececbb6406837bf51f5)

/-- b^e modulo m over the lowest n bits of e. -/
def powMod (m : Nat) : Nat → Nat → Nat → Nat
  | 0, _, _ => 1 % m
  | n + 1, b, e => (if e % 2 = 1 then b else 1) * powMod m n (b * b % m) (e / 2) % m

/-- The inverse modulo a prime below 2^256. -/
def invMod (m a : Nat) : Nat := powMod m 256 (a % m) (m - 2)

/-- The sum of two points of P-256; none is the point at infinity. -/
def ecAdd : Option (Nat × Nat) → Option (Nat × Nat) → Option (Nat × Nat)
  | none, q => q
  | p, none => p
  | some (x1, y1), some (x2, y2) =>
    if x1 = x2 ∧ (y1 + y2) % p256P = 0 then none
    else
      let k := if x1 = x2 then (3 * x1 * x1 + (p256P - 3)) * invMod p256P (2 * y1) % p256P
        else (y2 + p256P - y1) * invMod p256P (x2 + p256P - x1) % p256P
      let x := (k * k + 2 * p256P - x1 - x2) % p256P
      some (x, (k * (x1 + p256P - x) + p256P - y1) % p256P)

/-- The multiple of a point by the lowest n bits of a number. -/
def ecMul : Nat → Nat → Option (Nat × Nat) → Option (Nat × Nat)
  | 0, _, _ => none
  | n + 1, e, p => ecAdd (if e % 2 = 1 then p else none) (ecMul n (e / 2) (ecAdd p p))

/-- The verification of an ECDSA P-256 signature (r, s) of a digest under a public key (FIPS 186-5). -/
def p256Verify (x y digest r s : Nat) : Bool :=
  let key := decide (x < p256P) && decide (y < p256P) && (y * y % p256P == (x * x * x + (p256P - 3) * x + p256B) % p256P)
  let range := decide (0 < r) && decide (r < p256N) && decide (0 < s) && decide (s < p256N)
  if key && range then
    let w := invMod p256N s
    match ecAdd (ecMul 256 (digest * w % p256N) (some p256G)) (ecMul 256 (r * w % p256N) (some (x, y))) with
    | none => false
    | some (px, _) => px % p256N == r
  else false

end Sys2Proof.Machine
end

