-- ==== Sys2Proof/Machine/Image.lean ====
section
/-! DEFINITION. The fabric image as a source holds it, and the checks of pass 1 with their rejection codes (R38 to R54,
R58, R400). -/
namespace Sys2Proof.Machine

/-- A byte of the boot flash; an unlisted one is erased (R53). -/
def State.flashByte (s : State) (a : Nat) : Byte := sparseGet (fun _ => 0xFF#8) s.flash a

/-- Write one byte of the boot flash. -/
def State.setFlash (s : State) (a : Nat) (v : Byte) : State := { s with flash := sparseSet (fun _ => 0xFF#8) s.flash a v }

/-- Byte off of the image at a source: 1 slot A, 2 slot B, 3 shared memory, 4 what has come from the crown. -/
def imgByte (s : State) (src off : Nat) : Byte :=
  if src = 1 then s.flashByte off
  else if src = 2 then s.flashByte (0x400000 + off)
  else if src = 3 then s.byte (0x2000000 + off)
  else sparseGet (fun _ => 0xFF#8) s.img.rx off

/-- n bytes of an image. -/
def imgBytes (s : State) (src off n : Nat) : List Byte := (List.range n).map (fun i => imgByte s src (off + i))
/-- A little-endian field of n bytes. -/
def imgNum (s : State) (src off n : Nat) : Nat := leNat (imgBytes s src off n)
/-- A little-endian word. -/
def imgWord (s : State) (src off : Nat) : Word := BitVec.ofNat 32 (imgNum s src off 4)

/-- The fields of preamble and HEADER (R38, R43). -/
structure ImgHead where
  minor : Nat
  id : Nat
  serial : Nat
  len : Nat
  isa : Nat
  size : Nat
  flags : Nat
  base : Nat
  deriving DecidableEq, Repr

/-- HEADER.FLAGS.LIVE. -/
def ImgHead.live (h : ImgHead) : Bool := bit h.flags 0

/-- The fields of an image's preamble and HEADER as they stand. -/
def imgHead (s : State) (src : Nat) : ImgHead :=
  ⟨imgNum s src 5 1, imgNum s src 20 4, imgNum s src 24 4, imgNum s src 28 4, imgNum s src 32 1, imgNum s src 33 1,
   imgNum s src 34 2, imgNum s src 36 4⟩

/-- The first check of preamble and HEADER that fails (R54 steps 1 and 2, R44), 0 if all pass (order: log entry 43). -/
def headCheck (s : State) (src : Nat) : Nat :=
  let h := imgHead s src
  if imgNum s src 0 4 ≠ 0x4D495A4D then 0x01
  else if imgNum s src 4 1 ≠ 1 then 0x02
  else if h.minor = 0 ∧ imgNum s src 6 2 ≠ 0 then 0x11
  else if imgNum s src 8 2 ≠ 1 then 0x04
  else if imgNum s src 12 4 ≠ 32 then 0x06
  else if crc32 (imgBytes s src 20 32) ≠ imgWord s src 16 then 0x03
  else if h.minor = 0 ∧ (4 ≤ h.flags ∨ imgNum s src 40 12 ≠ 0 ∨ 2 ≤ imgNum s src 10 2) then 0x11
  else if h.isa ≠ 1 then 0x07
  else if 0x400000 < h.len ∨ h.len < 52 then 0x06
  else if h.size < 1 ∨ 16 < h.size ∨ h.size ≤ s.position then 0x0F
  else 0

/-- A section: TYPE, the offset and the length of its body, its CRC as stored. -/
structure ImgSec where
  typ : Nat
  off : Nat
  len : Nat
  crc : Word
  deriving DecidableEq, Repr

/-- The catalogue's types (R42). -/
def imgTypes : List Nat := [1, 2, 3, 4, 5, 6, 7, 8, 9, 10, 11, 15]
/-- The register-load sections in type order (R48). -/
def loadTypes : List Nat := [4, 5, 6, 7, 9, 10, 11]
/-- Types whose words are coherent entries (R63). -/
def termTypes : List Nat := [2, 4, 5, 6, 7, 8, 9, 10, 11]

/-- Walk the sections from offset p on (R39, R41, R42, R44): the first failing code, and the sections. last is the type
before, sig whether SIGNATURE has come; fuel bounds the walk by the image's length. -/
def imgWalk (s : State) (src len minor : Nat) : Nat → Nat → Nat → Bool → Nat × List ImgSec
  | 0, _, _, sig => (if sig then 0 else 0x04, [])
  | n + 1, p, last, sig =>
    if len ≤ p then (if sig then 0 else 0x04, [])
    else
      let typ := imgNum s src p 2
      let fl := imgNum s src (p + 2) 2
      let ln := imgNum s src (p + 4) 4
      let next := p + 12 + (ln + 3) / 4 * 4
      if len < p + 12 ∨ len < next then (0x06, [])
      else if crc32 (imgBytes s src (p + 12) ln) ≠ imgWord s src (p + 8) then (0x03, [])
      else if minor = 0 ∧ 2 ≤ fl then (0x11, [])
      else if !(imgTypes.contains typ) ∧ bit fl 0 then (0x05, [])
      else if sig ∨ (typ ≠ 15 ∧ typ ≤ last) then (0x04, [])
      else
        let r := imgWalk s src len minor n next (if typ = 15 then last else typ) (typ == 15)
        (r.1, ⟨typ, p + 12, ln, imgWord s src (p + 8)⟩ :: r.2)

/-- The sections of an image whose HEADER has passed, with the code of the walk. -/
def imgSecs (s : State) (src : Nat) : Nat × List ImgSec :=
  let h := imgHead s src
  imgWalk s src h.len h.minor (h.len / 12 + 1) 8 0 false

/-- A load record: address, count, whether it applies here, offset of its data. -/
structure LoadRec where
  addr : Nat
  cnt : Nat
  mine : Bool
  off : Nat
  deriving DecidableEq, Repr

/-- The load records of a section; none where one is malformed (COUNT of 0, or past the end: log entry 44). -/
def loadRecs (s : State) (src : Nat) : Nat → Nat → Nat → Option (List LoadRec)
  | 0, p, e => if e ≤ p then some [] else none
  | n + 1, p, e =>
    if e ≤ p then some []
    else
      let w1 := imgNum s src (p + 4) 4
      let cnt := w1 % 2 ^ 16
      if e < p + 8 ∨ cnt = 0 ∨ e < p + 8 + 4 * cnt then none
      else
        match loadRecs s src n (p + 8 + 4 * cnt) e with
        | none => none
        | some t => some (⟨imgNum s src p 4, cnt, bit w1 28 || bits w1 27 24 == s.position, p + 8⟩ :: t)

/-- The load records of a section. -/
def secRecs (s : State) (src : Nat) (c : ImgSec) : Option (List LoadRec) :=
  loadRecs s src (c.len / 8 + 1) c.off (c.off + c.len)

/-- An address lies in the ranges that a section may load (R48, R137, R173, R414). -/
def loadRange (typ a : Nat) : Bool :=
  let within := fun (lo hi : Nat) => decide (lo ≤ a) && decide (a < hi)
  if typ = 4 then within 0x30000 0x40000
  else if typ = 5 then within 0x20000 0x30000
  else if typ = 6 then
    (within 0x180000 0x1B0000 && decide (0x100 ≤ a % 0x800) && decide (a % 0x800 < 0x200)) ||
    (within 0x100000 0x160000 && decide (0x100 ≤ a % 0x800) && decide (a % 0x800 < 0x154))
  else if typ = 7 then within 0x180000 0x1B0000 && decide (0x400 ≤ a % 0x800) && decide (a % 0x800 < 0x600)
  else if typ = 9 then within 0xA0000 0xB0000
  else if typ = 10 then
    within 0x10000 0x20000 || within 0x40000 0x44000 || within 0x50000 0x60000 || within 0x70000 0x90000 ||
    within 0x90000 0x96400 || within 0x1C0000 0x1D8000 || within 0xD0000 0xE0000 || within 0xE0000 0x100000 ||
    within 0x60000 0x60800 || within 0x60A00 0x70000
  else if typ = 11 then within 0x60800 0x60A00
  else false

/-- Every word of a record lies in its section's ranges, at a word address (R48). -/
def recInRange (typ : Nat) (r : LoadRec) : Bool :=
  r.addr % 4 == 0 && (List.range r.cnt).all (fun i => loadRange typ (r.addr + 4 * i))

/-- The rail that a timetable word 0 names: KIND and INDEX; none of an invalid entry (R400). -/
def railOf (w : Nat) : Option (Nat × Nat) :=
  let k := bits w 23 20
  if bit w 31 ∧ 1 ≤ k ∧ k ≤ 5 then some (k, if k ≤ 3 then bits w 18 12 else 0) else none

/-- The timetable words 0 that records load on this device, a later one replacing an earlier one. -/
def ttWords (s : State) (src : Nat) (rs : List LoadRec) : List (Nat × Nat) :=
  (rs.filter (fun r => r.mine)).foldl (fun l r =>
    (List.range r.cnt).foldl (fun l i =>
      if (r.addr + 4 * i) % 16 = 0 then
        l.filter (fun e => e.1 != r.addr + 4 * i) ++ [(r.addr + 4 * i, imgNum s src (r.off + 4 * i) 4)]
      else l) l) []

/-- The timetable names one rail in two valid entries (R400). -/
def railTwice (s : State) (src : Nat) (rs : List LoadRec) : Bool :=
  let l := (ttWords s src rs).filterMap (fun e => railOf e.2)
  l.any (fun r => decide (1 < l.count r))

/-- Offset of device record d of a STRUCTURE body. -/
def devRec (c : ImgSec) (d : Nat) : Nat := c.off + 0xC40 * d

/-- The phases that an entry of a device record holds. -/
def entPhases (s : State) (src o : Nat) : List Nat :=
  let w := (List.range 6).map (fun k => imgNum s src (o + 4 * k) 4)
  natsWhere 192 (fun p => bit (w.getD (p / 32) 0) (p % 32))

/-- A device record of STRUCTURE keeps the rules of R47; only a defined felt's owner and phases count (log entry 45). -/
def devOk (s : State) (src o : Nat) : Bool :=
  let defd := natsWhere 96 (fun f => bit (imgNum s src (o + 32 * f + 24) 4) 8)
  let ps := defd.map (fun f => entPhases s src (o + 32 * f))
  let all := ps.foldl (fun l p => l ++ p) []
  let roles := (List.range 8).map (fun h => imgNum s src (o + 0xC00 + h) 1 % 8)
  defd.all (fun f => decide (imgNum s src (o + 32 * f + 24) 4 % 128 ≤ 95)) &&
  ps.all (fun p => decide (1 ≤ p.length) && decide (p.length ≤ 24)) && decide all.Nodup &&
  roles.all (fun r => decide (r ≤ 5)) && [1, 2, 3].all (fun r => decide (roles.count r ≤ 1)) &&
  (List.range 48).all (fun n =>
    let f := imgNum s src (o + 0xC08 + n) 1
    f == 0xFF || defd.contains f)

/-- An engine record of PROGRAMS (R50): word 0, ENTRY, the counts, the offset of its instruction words. -/
structure ProgRec where
  w0 : Nat
  entry : Nat
  ni : Nat
  nd : Nat
  off : Nat
  deriving DecidableEq, Repr

/-- The engine records of PROGRAMS; none where one is malformed (log entry 44). -/
def progRecs (s : State) (src : Nat) : Nat → Nat → Nat → Option (List ProgRec)
  | 0, p, e => if e ≤ p then some [] else none
  | n + 1, p, e =>
    if e ≤ p then some []
    else
      let w0 := imgNum s src p 4
      let ni := imgNum s src (p + 4) 2
      let nd := imgNum s src (p + 6) 2
      let o := p + 12 + 4 * (ni + nd)
      if e < p + 12 ∨ 4096 < ni ∨ 4096 < nd ∨ 95 < w0 % 128 ∨ e < o then none
      else
        match progRecs s src n o e with
        | none => none
        | some t => some (⟨w0, imgNum s src (p + 8) 2 % 4096, ni, nd, p + 12⟩ :: t)

/-- The engine records of a PROGRAMS section. -/
def secProgs (s : State) (src : Nat) (c : ImgSec) : Option (List ProgRec) :=
  progRecs s src (c.len / 12 + 1) c.off (c.off + c.len)

/-- The first failing check of a section's body (R44, R46 to R48, R400), 0 if none. -/
def bodyCheck (s : State) (src : Nat) (h : ImgHead) (c : ImgSec) : Nat :=
  if c.typ = 2 then
    (if c.len < 16 ∨ c.len ≠ 16 + 8 * imgNum s src (c.off + 6) 2 then 0x06
     else if h.minor = 0 ∧ imgNum s src (c.off + 2) 2 ≠ 0 then 0x11 else 0)
  else if c.typ = 3 then
    (if c.len = h.size * 0xC40 ∧ (List.range h.size).all (fun d => devOk s src (devRec c d)) then 0 else 0x0C)
  else if loadTypes.contains c.typ then
    match secRecs s src c with
    | none => 0x06
    | some rs =>
      if !(rs.all (recInRange c.typ)) then 0x0B
      else if c.typ = 11 ∧ railTwice s src rs then 0x12 else 0
  else if c.typ = 8 then (if (secProgs s src c).isSome then 0 else 0x06)
  else if c.typ = 15 then (if c.len = 0x84 then 0 else 0x06)
  else 0

/-- A section by type. -/
def secOf (cs : List ImgSec) (typ : Nat) : Option ImgSec := cs.find? (fun c => c.typ == typ)

/-- The 136 bytes that the function signature is taken over (R513): the key hashes, a blank slot 0xFF, the revoke fuses, SIG_REQ, the
feature mask, which is 0xFFFF on every part (R512), and zeros. -/
def fuseBlock (s : State) : List Byte :=
  (List.range 32).flatMap (fun w => wordBytes (s.rd (R.SYS_KEYHASH + 4 * w))) ++
    [BitVec.ofNat 8 (s.fld 0 F.SYS_FUSE_REVOKE), BitVec.ofNat 8 (s.fld 0 F.SYS_FUSE_SIG_REQ), 0xFF#8, 0xFF#8, 0#8, 0#8, 0#8, 0#8]

/-- The function signature (R513): the first eight bytes of the digest, the first one least significant; its low word, or with hi its
high word. -/
def fsigWord (s : State) (hi : Bool) : Word :=
  let d := sha256 (fuseBlock s)
  let byte := fun k => BitVec.ofNat 8 (d / 2 ^ (248 - 8 * k))
  let k := if hi then 4 else 0
  leWord (byte k) (byte (k + 1)) (byte (k + 2)) (byte (k + 3))

/-- The CONSTRAINTS checks of R46. -/
def constraintsOk (s : State) (src : Nat) (c : ImgSec) : Bool :=
  let n := imgNum s src (c.off + 6) 2
  let rev := s.fld 0 F.SYS_ID_REV
  let fsig := imgNum s src (c.off + 8) 8
  let mine := (s.rd R.SYS_SERIAL_LO).toNat + 2 ^ 32 * (s.rd R.SYS_SERIAL_HI).toNat
  decide (n ≤ 64) && imgNum s src c.off 2 == s.fld 0 F.SYS_ID_PART && decide (imgNum s src (c.off + 4) 1 ≤ rev) &&
  (imgNum s src (c.off + 5) 1 == 0xFF || decide (rev ≤ imgNum s src (c.off + 5) 1)) &&
  (fsig == 0 || fsig == (fsigWord s false).toNat + 2 ^ 32 * (fsigWord s true).toNat) &&
  (n == 0 || (List.range n).any (fun k => imgNum s src (c.off + 16 + 8 * k) 8 == mine))

/-- The key hash fused in a slot as a number, first byte most significant. -/
def keyHash (s : State) (slot : Nat) : Nat :=
  beNat ((List.range 8).foldl (fun l w => l ++ wordBytes (s.rd (R.SYS_KEYHASH + 32 * slot + 4 * w))) [])

/-- The SIGNATURE checks of R51: 0, or the code; c is the SIGNATURE section. With SIG_REQ a KEY_SLOT above 3 names no fused key and
is rejected with 0x09 (DESIGN CHOICE, log entry 147). -/
def signatureCheck (s : State) (src : Nat) (c : ImgSec) : Nat :=
  let slot := imgNum s src c.off 1
  let pub := imgBytes s src (c.off + 4) 64
  let sig := imgBytes s src (c.off + 68) 64
  let keyBad := s.flag 0 F.SYS_FUSE_SIG_REQ &&
    (decide (3 < slot) || sha256 pub != keyHash s slot || bit (s.fld 0 F.SYS_FUSE_REVOKE) slot)
  if keyBad then 0x09
  else if p256Verify (beNat (pub.take 32)) (beNat (pub.drop 32)) (sha256 (imgBytes s src 0 (c.off - 12)))
      (beNat (sig.take 32)) (beNat (sig.drop 32)) then 0
  else 0x0A

/-- The sections an image must contain (R42, R58). -/
def required (live : Bool) : List Nat := if live then [1, 2, 15] else [1, 2, 3, 4, 5, 10, 15]

/-- The first check of pass 1 that fails (R54), 0 if the image passes. Which code wins where several sections fail, and the code of a
live image on a device without a full one, are the model's (DESIGN CHOICE, log entries 148 and 149). -/
def imgCheck (s : State) (src : Nat) : Nat :=
  let h := imgHead s src
  let c0 := headCheck s src
  if c0 ≠ 0 then c0
  else
    let (c1, cs) := imgSecs s src
    if c1 ≠ 0 then c1
    else if !((required h.live).all (fun t => cs.any (fun c => c.typ == t))) then 0x04
    else if h.live ∧ (cs.any (fun c => c.typ == 3 || c.typ == 8) ∨ s.img.loaded = false ∨ h.base ≠ (s.rd R.SYS_IMG_ID).toNat) then 0x0D
    else
      match (cs.map (bodyCheck s src h)).find? (fun k => k != 0) with
      | some k => k
      | none =>
        match secOf cs 2, secOf cs 15 with
        | some a, some b => if constraintsOk s src a then signatureCheck s src b else 0x08
        | _, _ => 0x04

/-- A load or a live reload runs (R56): SYS_IMG_STATUS.STATE pass 1 or pass 2, or the digest is not settled yet. -/
def loading (s : State) : Bool :=
  let st := s.fld 0 F.SYS_IMG_STATUS_STATE
  st == 1 || st == 2 || s.flag 0 F.SYS_DIGEST_STAT_BUSY

/-- Some felt is not stopped or a house channel without KEEP is on (R56). -/
def outputsActive (s : State) : Bool :=
  (List.range 96).any (fun f => decide (1 < feltState s f)) || (List.range 8).any (fun h => houseOn s h && !houseKeep s h)

/-- An image is rejected (R55, R56): IMAGE_REJECT with its code, shown in ERR. -/
def imgReject (s : State) (code : Nat) : State := (s.setFld 0 F.SYS_IMG_STATUS_ERR code).report 0 0 K.IMAGE_REJECT code

/-- The image is read from the crown from an offset on (R491): at most 254 words at a time. -/
def imgAsk (s : State) (off len : Nat) : State :=
  let n := min 254 ((len - off + 3) / 4)
  if n = 0 then s else casSend s 10 0 0 false [BitVec.ofNat 32 off, BitVec.ofNat 32 n]

/-- The image from the crown has come whole: as far as its HEADER says, or its HEADER does not hold. -/
def rxWhole (s : State) : Bool :=
  let n := s.img.rxEnd
  decide (52 ≤ n) && (headCheck s 4 != 0 || decide ((imgHead s 4).len ≤ n))

/-- Pass 1 of a source begins (R54). From the crown the image is asked for from its start. -/
def passBegin (s : State) (src : Nat) (rest : List Nat) : State :=
  let s1 := { s with img := { s.img with src := src, cand := rest, crcs := [], rx := [], rxEnd := 0, want := none } }
  let s2 := s1.setFld 0 F.SYS_IMG_STATUS_STATE 1
  if src = 4 then imgAsk s2 0 0x400000 else s2

/-- No source is left (R53, R55): the image in place stays, or none; STATE then reads 4 also where both boot slots were empty and
nothing was rejected (DESIGN CHOICE, log entry 146). -/
def loadIdle (s : State) : State :=
  let s1 := { s with img := { s.img with src := 0, cand := [], live := false, rx := [], rxEnd := 0 } }
  s1.setFld 0 F.SYS_IMG_STATUS_STATE (if s.img.loaded then 3 else 4)

/-- The next source is tried (R53, R55, R56): a full image is refused while outputs are active on a loaded device; of an
image from the crown that is judged when it has come (log entry 38). -/
def tryNext : State → List Nat → State
  | s, [] => loadIdle s
  | s, src :: rest =>
    if src ≠ 4 ∧ headCheck s src = 0 ∧ (imgHead s src).live = false ∧ s.img.loaded ∧ outputsActive s then
      loadIdle (imgReject s 0x10)
    else passBegin s src rest

/-- The slots of the boot order (R53): a slot that is not empty and fails preamble or HEADER is reported; the others stand
in order of IMAGE_SERIAL, highest first, slot A first when equal. -/
def bootOrder (s : State) : List Nat × State :=
  let empty := fun src => imgNum s src 0 4 == 0xFFFFFFFF
  let good := fun src => !(empty src) && headCheck s src == 0
  let s1 := [1, 2].foldl (fun s' src => if empty src || good src then s' else imgReject s' (headCheck s src)) s
  let l := [1, 2].filter good
  (if l = [1, 2] ∧ (imgHead s 1).serial < (imgHead s 2).serial then [2, 1] else l, s1)

/-- A load from a source code (R53, R56). -/
def loadFrom (s : State) (src : Nat) : State :=
  if src = 0 then tryNext (bootOrder s).2 (bootOrder s).1 else tryNext s [src]

/-- The action of a write of SYS_IMG_CTRL (R56, R60): v the word written. LOCK and LOAD may come together. -/
def imgCtrlWritten (s : State) (v : Nat) : State :=
  let s1 := if bit v 8 then s.setFld 0 F.SYS_IMG_STATUS_LOCKED 1 else s
  if !(bit v 0) then s1
  else if loading s1 then s1.setFld 0 F.SYS_IMG_STATUS_CMD_DROP 1
  else loadFrom s1 (bits v 3 1)

/-- After the boot scan the loader chooses its source (R53). -/
def bootSelect (s : State) : State :=
  if s.flag nvB F.NV_STATUS_READY ∧ s.img.chosen = false ∧ loading s = false then
    loadFrom { s with img := { s.img with chosen := true } } 0
  else s

end Sys2Proof.Machine
end

