-- ==== Sys2Proof/Machine/Time.lean ====
section
/-! DEFINITION. The time unit (06_time_and_waveforms.md, R174 to R196): reading and setting cabinet time, the reference of
the time PLL, alignment of a brim, and the bell. -/
namespace Sys2Proof.Machine

/-- The positions of the brims of the cabinet (R483). -/
def brimPositions (s : State) : List Nat := (List.range s.cabinetSize).drop 1

/-- TIME_STATUS.ALIGNED as it is: always 1 on a crown and on a standalone device (R191). -/
def alignedNow (s : State) : Bool := !s.isBrim || s.flag timeB F.TIME_STATUS_ALIGNED

/-- A brim judges ALIGNED (R191): a fall from 1 to 0 reports TIME_ALIGN. -/
def alignJudge (s : State) : State :=
  if s.isBrim then
    let now := s.fld timeB F.TIME_STATUS_REF == 0 && s.fld timeB F.TIME_STATUS_STATE == 1 &&
      !(s.flag timeB F.TIME_STATUS_SLEWING) && decide (10 ≤ s.time.goodProbes)
    let s1 := s.setFld timeB F.TIME_STATUS_ALIGNED (b2n now)
    if s.flag timeB F.TIME_STATUS_ALIGNED && !now then s1.report 4 0 K.TIME_ALIGN (s.rd (timeB + R.TIME_ALIGN_ERR)).toNat else s1
  else s

/-- Δ rounded to the nearest multiple of 80 ns, ties toward zero (R180). -/
def round80 (d : Int) : Int :=
  let q := d.natAbs / 80
  let r := d.natAbs % 80
  let m : Nat := if 40 < r then (q + 1) * 80 else q * 80
  if d < 0 then -(m : Int) else (m : Int)

/-- A running residue slew ends where it stands, which the model does not follow: the part it has removed is free (R180,
log entry 55). -/
def slewCut (s : State) : State :=
  if s.time.residue = 0 then s
  else
    let p := freeBetween s 0 s.time.residue.natAbs
    let a : Int := if s.time.residue < 0 then -(p.1 : Int) else (p.1 : Int)
    { p.2 with lineNs := ((s.lineNs : Int) + a).toNat, time := { s.time with residue := 0 } }

/-- Cabinet time becomes a new value (R180, R181): the offset moves by whole multiples of 80 ns, the residue is left to a
slew, and TIME_STEP is raised. -/
def timeStep (s0 : State) (new : Nat) : State :=
  let s := slewCut s0
  let d : Int := (new : Int) - (s.cabNs : Int)
  let m := round80 d
  let r := d - m
  let s1 := { s with timeOfs := s.timeOfs + m, time := { s.time with residue := r } }
  alignJudge ((s1.setFld timeB F.TIME_STATUS_SLEWING (b2n (r != 0))).pulse 373)

/-- The residue slew ends (R180): cabinet time has moved by the residue. -/
def slewEnd (s : State) : State :=
  let s1 := { s with lineNs := ((s.lineNs : Int) + s.time.residue).toNat, time := { s.time with residue := 0 } }
  alignJudge (s1.setFld timeB F.TIME_STATUS_SLEWING 0)

/-- The staged time of TIME_WR_SEC and TIME_WR_NS in nanoseconds. -/
def stagedTime (s : State) : Nat := timeOfWords (s.rd (timeB + R.TIME_WR_SEC)) (s.rd (timeB + R.TIME_WR_NS))

/-- TIME_APPLY.GO = 1 with a MODE (R179). -/
def timeApply (s : State) (mode : Nat) : State :=
  if 2 ≤ mode ∨ 1000000000 ≤ s.fld timeB F.TIME_WR_NS_NS ∨ (mode = 0 ∧ 1 < s.cabinetSize) ∨ ¬ s.time.counting then
    s.setFld timeB F.TIME_STATUS_WR_ERR 1
  else
    -- a GO while an apply is pending replaces it
    let t := stagedTime s
    if mode = 0 then timeStep (({ s with time := { s.time with pendApply := none } }).setFld timeB F.TIME_STATUS_APPLY_PENDING 0) t
    else ({ s with time := { s.time with pendApply := some t } }).setFld timeB F.TIME_STATUS_APPLY_PENDING 1

/-- A master reads TIME_NS (R178): NS and SEC[33:32] now, SEC[31:0] into its snapshot. -/
def readTimeNs (s : State) (m : Master) : Word × State := (timeW1 s.cabNs, s.setSnap m 4 (timeW0 s.cabNs))

/-- TIME_FREQ as it reads: while a residue slew runs, its own offset, below 9 ppm, is free and adds (R180, R206, log entry 55). -/
def readTimeFreq (s : State) : Word × State :=
  let w := s.rd (timeB + R.TIME_FREQ)
  if s.time.residue = 0 then (w, s)
  else
    let p := freeBetween s 0 8999
    (if s.time.residue < 0 then w - BitVec.ofNat 32 p.1 else w + BitVec.ofNat 32 p.1, p.2)

/-! References (R182 to R187). -/

/-- A reference is qualified and enabled: 0 the cascade upstream, on brims only, 1 REF_IN, 2 the crystal (R182). -/
def refUsable (s : State) (r : Nat) : Bool :=
  if r = 0 then s.isBrim && s.flag timeB F.TIME_REF_CFG_CAS_EN && s.flag timeB F.TIME_STATUS_QUAL_CAS
  else if r = 1 then s.flag timeB F.TIME_REF_CFG_REFIN_EN && s.flag timeB F.TIME_STATUS_QUAL_REFIN
  else s.flag timeB F.TIME_REF_CFG_XTAL_EN && s.flag timeB F.TIME_STATUS_QUAL_XTAL

/-- The highest-priority usable reference; 3 none (R186). -/
def bestRef (s : State) : Nat :=
  if refUsable s 0 then 0 else if refUsable s 1 then 1 else if refUsable s 2 then 2 else 3

/-- A glide toward the cascade is turned elsewhere (R186): the part of the phase error it has removed is free (log entry 55). -/
def glideCut (s : State) : State :=
  if s.time.glide = 0 then s
  else
    let p := freeBetween s 0 s.time.glide.natAbs
    let a : Int := if s.time.glide < 0 then -(p.1 : Int) else (p.1 : Int)
    { p.2 with lineNs := ((s.lineNs : Int) + a).toNat, time := { s.time with glide := 0 } }

/-- Seconds in holdover (R187): those since it began, saturating; outside holdover, those of the last one. -/
def holdSeconds (s : State) : Nat :=
  let n := s.fld timeB F.TIME_STATUS_HOLD_S
  if s.fld timeB F.TIME_STATUS_STATE = 3 then min 65535 (max n ((s.lineNs - s.time.holdAt) / 1000000000)) else n

/-- TIME_STATUS as it reads (R187, R191). -/
def timeStatusWord (s : State) : Word :=
  fset (fset (s.rd (timeB + R.TIME_STATUS)) F.TIME_STATUS_ALIGNED (b2n (alignedNow s))) F.TIME_STATUS_HOLD_S (holdSeconds s)

/-- The phase error that a glide to the cascade is to remove, by the last probe's error (R186, R189). -/
def cascadeGlide (s : State) : Int := -(Int.tdiv (s.rd (timeB + R.TIME_ALIGN_ERR)).toInt 64)

/-- The time PLL follows the best reference (R186, R187): a change is a glide from the present frequency and phase, with the
phase error to a target that follows phase; with none it enters holdover. -/
def refSelect (s : State) : State :=
  let r := bestRef s
  if !s.time.counting then s
  else if r = 3 then
    (if s.fld timeB F.TIME_STATUS_STATE = 3 then s
     else
       let s1 := glideCut s
       let s2 := { s1 with time := { s1.time with holdAt := s1.lineNs } }
       alignJudge (((s2.setFld timeB F.TIME_STATUS_STATE 3).setFld timeB F.TIME_STATUS_REF 3).setFld timeB F.TIME_STATUS_HOLD_S 0))
  else if r = s.fld timeB F.TIME_STATUS_REF then s
  else
    let s1 := glideCut (s.setFld timeB F.TIME_STATUS_HOLD_S (holdSeconds s))
    let s2 := if r = 0 then { s1 with time := { s1.time with glide := cascadeGlide s1 } } else s1
    alignJudge ((s2.setFld timeB F.TIME_STATUS_STATE 2).setFld timeB F.TIME_STATUS_REF r)

/-- Set the qualified bit of a reference. -/
def refQual (s : State) (r v : Nat) : State :=
  if r = 0 then s.setFld timeB F.TIME_STATUS_QUAL_CAS v
  else if r = 1 then s.setFld timeB F.TIME_STATUS_QUAL_REFIN v
  else s.setFld timeB F.TIME_STATUS_QUAL_XTAL v

/-- The qualified bit of a reference. -/
def refIsQual (s : State) (r : Nat) : Bool :=
  if r = 0 then s.flag timeB F.TIME_STATUS_QUAL_CAS
  else if r = 1 then s.flag timeB F.TIME_STATUS_QUAL_REFIN else s.flag timeB F.TIME_STATUS_QUAL_XTAL

/-- A qualified reference is lost (R185). -/
def refLost (s : State) (r : Nat) : State :=
  if refIsQual s r then refSelect ((refQual s r 0).report 4 0 K.TIME_REF r) else s

/-- HOLD_S reaches TIME_HOLD.LIMIT (R187): so many seconds after holdover began. -/
def holdoverLimit (s : State) : State :=
  let lim := clampNat 1 3600 (s.fld timeB F.TIME_HOLD_LIMIT)
  if s.fld timeB F.TIME_STATUS_STATE = 3 ∧ s.fld timeB F.TIME_STATUS_HOLD_S < lim then
    ((s.until (s.time.holdAt + lim * 1000000000)).setFld timeB F.TIME_STATUS_HOLD_S lim).report 4 0 K.TIME_HOLDOVER lim
  else s

/-! Alignment of brims (R189). -/

/-- The crown sends a probe to every brim (R189, R482). -/
def probeAll (s : State) : State :=
  if s.isCrown then
    (brimPositions s).foldl (fun s p =>
      let s1 := casSend s 2 p 0 false [timeW0 s.cabNs, timeW1 s.cabNs, 0#32]
      { s1 with time := { s1.time with probes := sparseSet (fun _ => 0) s1.time.probes p s1.cabNs } }) s
  else s

/-- The least lead of a bell, L_min, in nanoseconds (R193). -/
def bellLead (s : State) : Nat :=
  if s.isCrown then 1000 + (2 * s.time.lats.foldl (fun m e => max m e.2) 0 + 63) / 64 else 1000

/-- The crown takes a probe answer (R189): the one-way latency with the brim's TIME_CAS_ASYM, held like ASYM
within half the round trip either way (R97), the offset error in ticks, and the error packet. No packet brings TIME_CAS_ASYM to the crown: the value it adds is free (log entry 16). -/
def probeAnswered (s : State) (p : CasPkt) (mc : Nat) : State :=
  let d := (p.body.getD 0 0#32).toNat
  let arrival := timeOfWords (p.body.getD 1 0#32) (p.body.getD 2 0#32)
  let corr := (p.body.getD 3 0#32).toNat
  let asym := freeBetween s 0 65535
  let half : Int := ((mc - corr - d) / 2 : Nat)
  let way : Int := half + max (-half) (min half ((asym.1 : Int) - 32768))
  let sent := sparseGet (fun _ => 0) s.time.probes p.src
  let err : Int := 64 * ((arrival : Int) - (sent : Int)) - way
  let s1 := { asym.2 with time := { s.time with lats := sparseSet (fun _ => 0) s.time.lats p.src way.toNat } }
  let s2 := s1.wr (timeB + R.TIME_BELL_LEAD) (BitVec.ofNat 32 (bellLead s1))
  casSend s2 2 p.src 2 false [BitVec.ofInt 32 err]

/-- A brim takes the crown's time, err nanoseconds behind its own (R190): in one step, or, where it rejoins with a felt running,
by a glide that removes the error, with the cascade upstream as target. -/
def takeCrownTime (s0 : State) (err : Int) : State :=
  let s := { s0 with time := { s0.time with joined := true } }
  if s0.time.joined && (List.range 96).any (feltSwitching s) then
    alignJudge ((({ s with time := { s.time with glide := -err } }).setFld timeB F.TIME_STATUS_STATE 2).setFld timeB F.TIME_STATUS_REF 0)
  else timeStep { s with time := { s.time with glide := 0 } } (((s.cabNs : Int) - err) % (cabWrap : Int)).toNat

/-- Probes in a row that each showed an error within 1 ns (R191), after one that shows err ticks. -/
def goodAfter (s : State) (err : Int) : Nat := if err.natAbs ≤ 64 then s.time.goodProbes + 1 else 0

/-- The error of a brim that joins (R189, R190), in ticks: the packet carries its low 32 bits, and the arrival less the send
stamp lies off it by the way alone. -/
def wideErr (diff err : Int) : Int := err + 4294967296 * ((64 * diff - err + 2147483648) / 4294967296)

/-- The error of a probe changes the phase (R186, R189): the phase error of a glide to the cascade is measured anew;
otherwise one tick is adjusted. -/
def phaseAdjust (s : State) (err : Int) : State :=
  if s.fld timeB F.TIME_STATUS_STATE = 2 ∧ s.fld timeB F.TIME_STATUS_REF = 0 then
    { s with time := { s.time with glide := -(Int.tdiv err 64) } }
  else
    let ph := s.time.phase + (if 0 < err then -1 else if err < 0 then 1 else 0)
    let ns := ph / 64
    { s with lineNs := ((s.lineNs : Int) + ns).toNat, time := { s.time with phase := ph - 64 * ns } }

/-- A brim takes its offset error (R189): TIME_ALIGN_ERR shows it; a brim that joins removes the whole of it (R190), later ones
remove one tick each millisecond. -/
def probeErrorTaken (s : State) (p : CasPkt) : State :=
  let err := sint 32 (p.body.getD 0 0#32).toNat
  let s0 := s.wr (timeB + R.TIME_ALIGN_ERR) (BitVec.ofInt 32 err)
  match s.time.joinAt with
  | some diff =>
    let wide := wideErr diff err
    takeCrownTime { s0 with time := { s.time with joinAt := none, goodProbes := goodAfter s wide } } (Int.tdiv wide 64)
  | none => alignJudge (phaseAdjust { s0 with time := { s.time with goodProbes := goodAfter s err } } err)

/-- A glide ends (R186, R190): the frequency, and the error it removed, are the reference's. -/
def timeGlideDone (s : State) (ppb : Nat) : State :=
  if s.fld timeB F.TIME_STATUS_STATE = 2 then
    let s1 := { s with lineNs := ((s.lineNs : Int) + s.time.glide).toNat, time := { s.time with glide := 0 } }
    alignJudge ((s1.setFld timeB F.TIME_STATUS_STATE 1).setFld timeB F.TIME_FREQ_OFS_PPB ppb)
  else s

/-! SYNC_OUT (R196). -/

/-- What SYNC_OUT carries: a level that the part sets, or SYNC_IN again, its last rising edge at a tick of the line count. -/
inductive SyncOut where
  | low
  | wave (high : Bool)
  | repeated (rise : Option Int)
  deriving DecidableEq, Repr

/-- The wave of R196 at NS of cabinet time: period k rises at tick k × per and falls half a period later, each edge at the
nearest nanosecond. A tie goes to the later one, and PERIOD is held to its range (DESIGN CHOICE, log entry 162). -/
def syncWave (period ns : Nat) : Bool :=
  let per := clampNat 16000 640000 period
  let k := (64 * ns + 31) / per
  decide (ns < ((2 * k + 1) * per + 64) / 128)

/-- SYNC_OUT now (R196). -/
def syncOut (s : State) : SyncOut :=
  let m := s.fld timeB F.TIME_SYNC_OUT_MODE
  if m = 1 then .wave (syncWave (s.fld timeB F.TIME_SYNC_OUT_PERIOD) (s.cabNs % 1000000000))
  else if m = 2 then .repeated s.time.syncRise
  else .low

/-! The bell (R193 to R195). -/

/-- The line count at which cabinet time is c. -/
def lineOf (s : State) (c : Nat) : Nat := ((c : Int) - s.timeOfs).toNat

/-- The actions of a ring in their order (R194, R195): the ring time is the present cabinet time. -/
def bellActions (s : State) : State :=
  let b := timeB
  let s1 := s.setFld b F.TIME_BELL_CTRL_COUNT (s.fld b F.TIME_BELL_CTRL_COUNT + 1)
  let s2 := forMask tmrRelease (forMask tmrRelease s1 (s.rd (b + R.TIME_BELL_TMR_LO)).toNat 0) (s.rd (b + R.TIME_BELL_TMR_HI)).toNat 32
  let s3 := (List.range 96).foldl (fun s f => if feltState s f = 4 then feltStartNow s f s.lineNs else s) s2
  let s4 := (List.range 96).foldl (fun s f =>
    if s.fld (feltB f) F.FELT_WF_STAT_STATE = 1 ∧ ¬ (s.wf f).due then s.setWf f { s.wf f with due := true, org := s.lineNs, orgC := s.cabNs } else s) s3
  let s5 := (List.range 8).foldl (fun s u =>
    if s.fld (capB u) F.CAP_STATUS_STATE = 1 ∧ s.fld (capB u) F.CAP_CTRL_START = 1 then s.setFld (capB u) F.CAP_STATUS_STATE 2 else s) s4
  let s6 := s5.pulse 372
  let s7 := if alignedNow s then s6 else s6.setFld b F.TIME_BELL_CTRL_UNALIGNED 1
  let s8 := ((({ s7 with time := { s7.time with bell := none } }).setFld b F.TIME_BELL_CTRL_PENDING 0).setFld b F.TIME_BELL_CTRL_ACKED 0)
  match s.time.pendApply with
  | none => s8
  | some t => timeStep (({ s8 with time := { s8.time with pendApply := none } }).setFld b F.TIME_STATUS_APPLY_PENDING 0) t

/-- Brims that have not acknowledged by the bell time are reported on the crown (R193). -/
def bellMissed (s : State) : State :=
  if s.isCrown then
    ((brimPositions s).filter (fun p => !s.time.acked.contains p)).foldl
      (fun s p => (s.report 4 0 K.BELL_MISS p).setFld timeB F.TIME_BELL_CTRL_MISS 1) s
  else s

/-- Cabinet time reaches the bell time, or is past it, which sets LATE (R181, R194); the bell wakes a sleeping device (R508). -/
def bellRing (s : State) : State :=
  match s.time.bell with
  | none => s
  | some t =>
    if !s.time.counting then s
    else
      let late := decide (t < s.cabNs)
      let s1 := (wakeUp s).until (lineOf s t)
      let s2 := if late then s1.setFld timeB F.TIME_BELL_CTRL_LATE 1 else s1
      bellActions (bellMissed s2)

/-- TIME_BELL_CTRL.ARM on a crown or a standalone device (R193). -/
def bellArm (s : State) : State :=
  let b := timeB
  let t := timeOfWords (s.rd (b + R.TIME_BELL_SEC)) (s.rd (b + R.TIME_BELL_NS))
  if s.time.bell.isSome ∨ 1000000000 ≤ s.fld b F.TIME_BELL_NS_NS ∨ ¬ s.time.counting ∨ t < s.cabNs + bellLead s then
    s.setFld b F.TIME_BELL_CTRL_REFUSED 1
  else
    let s1 := ({ s with time := { s.time with bell := some t, acked := [] } }).setFld b F.TIME_BELL_CTRL_PENDING 1
    if s.isCrown then
      casSend (s1.setFld b F.TIME_BELL_CTRL_ACKED 0) 3 0 0 true [s.rd (b + R.TIME_BELL_SEC), s.rd (b + R.TIME_BELL_NS)]
    else s1.setFld b F.TIME_BELL_CTRL_ACKED 1

/-- The pending bell is removed on this device (R193). -/
def bellDrop (s : State) : State :=
  (({ s with time := { s.time with bell := none } }).setFld timeB F.TIME_BELL_CTRL_PENDING 0).setFld timeB F.TIME_BELL_CTRL_ACKED 0

/-- TIME_BELL_CTRL.CANCEL (R193). On a brim it drops the bell on that brim alone (DESIGN CHOICE, log entry 189). -/
def bellCancel (s : State) : State :=
  let s1 := bellDrop s
  if s.isCrown && s.time.bell.isSome then casSend s1 3 0 1 true [] else s1

/-- A brim receives an armed bell and acknowledges it; one whose time has passed rings at once with BELL_LATE (R193). -/
def bellReceived (s : State) (p : CasPkt) : State :=
  let t := timeOfWords (p.body.getD 0 0#32) (p.body.getD 1 0#32)
  let s1 := casSend (({ s with time := { s.time with bell := some t } }).setFld timeB F.TIME_BELL_CTRL_PENDING 1) 3 0 2 false []
  if t < s.cabNs then bellRing (s1.report 4 0 K.BELL_LATE (s.cabNs - t)) else s1

/-- The crown receives an acknowledgement (R193). -/
def bellAcked (s : State) (p : CasPkt) : State :=
  if s.isCrown && s.time.bell.isSome then
    let a := setAdd s.time.acked p.src
    ({ s with time := { s.time with acked := a } }).setFld timeB F.TIME_BELL_CTRL_ACKED
      (b2n ((brimPositions s).all (fun q => a.contains q)))
  else s

/-- The action of a write of TIME_BELL_CTRL: v the word written. CANCEL wins over ARM (R33). -/
def bellCtrlWritten (s : State) (v : Nat) : State :=
  if bit v 1 then bellCancel s else if bit v 0 then bellArm s else s

/-- The packet at the head of the received cascade packets, if p accepts it, and the state without it. -/
def casTake (s : State) (p : CasPkt → Bool) : Option (CasPkt × State) :=
  match s.casRx with
  | [] => none
  | k :: t => if p k then some (k, { s with casRx := t }) else none

end Sys2Proof.Machine
end

