-- ==== Sys2Proof/Machine/Fabric.lean ====
section
/-! DEFINITION. The configuration digest, re-felting, and the commands by which this device takes part in the cascade: crown,
enumeration, roll call, remote access, lanes (R61 to R66, R480 to R490). -/
namespace Sys2Proof.Machine

/-- The epoch after SYS_EPOCH (R68): it stays 0 while no image is loaded. -/
def nextEpoch (s : State) : Word := if s.img.loaded = false then 0#32 else if s.rd R.SYS_EPOCH = 0xFFFFFFFF#32 then 1#32 else s.rd R.SYS_EPOCH + 1#32

/-- Positions of the brims that enumeration has found (R483). -/
def foundBrims (s : State) : List Nat := s.cas.found.map (fun e => e.1)

/-- Show how many broadcasts some brim has not acknowledged (R487). -/
def cohShow (s : State) : State := s.setFld casB F.CAS_STATUS_PENDING (min 255 s.cas.coh.length)

/-- The crown sends a coherent change to every brim (R67, R487): the epoch advances with it. Where no path leaves the crown the
broadcast is kept for no brim. -/
def cohSend (s : State) (pairs : List Word) : State :=
  let e := nextEpoch s
  let s1 := casSend (s.wr R.SYS_EPOCH e) 6 0 0 true (e :: pairs)
  let wait := if s1.fld casB F.CAS_STATUS_RING = 2 then [] else foundBrims s1
  let coh := if wait = [] then s1.cas.coh else s1.cas.coh ++ [(e.toNat, wait)]
  cohShow { s1 with cas := { s1.cas with coh := coh, epochAt := some s1.lineNs } }

/-! Re-felting (R61, R62). -/

/-- The phases that SYS_REFELT_MASK0 to 5 name. -/
def refeltNamed (s : State) : List Nat := natsWhere 192 (fun p => bit (s.rd (R.SYS_REFELT_MASK + 4 * (p / 32))).toNat (p % 32))

/-- Base of a structure table entry (d, f). -/
def cstAt (d f : Nat) : Nat := 0x4000 + 0xC00 * d + 0x20 * f

/-- Phase p of device d lies in a defined felt other than f. -/
def inOtherFelt (s : State) (d f p : Nat) : Bool :=
  (List.range 96).any (fun g => g != f && bit (s.rd (cstAt d g + 24)).toNat 8 && bit (s.rd (cstAt d g + 4 * (p / 32))).toNat (p % 32))

/-- Phase p of this device is the sense slot of a started felt (R168). -/
def isSense (s : State) (p : Nat) : Bool :=
  (List.range 96).any (fun g => decide (1 < feltState s g) && s.flag (feltB g) F.FELT_SENSE_EN && s.fld (feltB g) F.FELT_SENSE_SLOT == p)

/-- The check of R61 in its order, as RESULT (log entry 39). What a felt of another device does, this device does not see:
there the outcome of the checks of running felts is a free value (log entry 40). -/
def refeltCheck (s : State) : Nat × State :=
  let d := s.fld 0 F.SYS_REFELT_CTRL_DEVICE
  let f := s.fld 0 F.SYS_REFELT_CTRL_FELT
  let ps := refeltNamed s
  let own := d == s.position
  let (far, s1) := if own then (0, s) else freeBetween s 0 2
  if ps.length < 1 ∨ 24 < ps.length then (1, s)
  else if 95 < f ∨ bit (s.rd (cstAt d f + 24)).toNat 8 = false then (2, s)
  else if own && decide (1 < feltState s f) then (3, s)
  else if far = 1 then (3, s1)
  else if ps.any (inOtherFelt s1 d f) then (4, s1)
  else if own && ps.any (fun p => !(feltPhases s f).contains p && isSense s p) then (6, s)
  else if far = 2 then (6, s1)
  else if loading s1 then (5, s1)
  else (0, s1)

/-- The new mask words of a felt enter the structure table as one update (R61, R65). -/
def refeltWrite (s : State) (d f : Nat) (masks : List Word) : State :=
  (List.range 6).foldl (fun s k =>
    let a := cstAt d f + 4 * k
    let v := masks.getD k 0#32
    if s.rd a = v then s else cohChange (s.wr a v) a (s.rd a) v) s

/-- SYS_REFELT_CTRL.GO on a crown or a standalone device (R61, R62). -/
def refeltGo (s : State) : State :=
  let (code, s1) := refeltCheck s
  let s2 := s1.setFld 0 F.SYS_REFELT_STATUS_RESULT code
  if code ≠ 0 then s2
  else
    let d := s2.fld 0 F.SYS_REFELT_CTRL_DEVICE
    let f := s2.fld 0 F.SYS_REFELT_CTRL_FELT
    let masks := (List.range 6).map (fun k => s2.rd (R.SYS_REFELT_MASK + 4 * k))
    let pairs := ((List.range 6).filter (fun k => s2.rd (cstAt d f + 4 * k) != masks.getD k 0#32)).foldl
      (fun l k => l ++ [BitVec.ofNat 32 (cstAt d f + 4 * k), masks.getD k 0#32]) []
    let s3 := refeltWrite s2 d f masks
    let s4 := if s3.isCrown then cohSend s3 pairs else s3
    if d = s4.position then refelted s4 f else s4

/-! The cascade's lanes (R480). -/

/-- STATE of cascade lane l. -/
def casState (s : State) (l : Nat) : Nat := s.fld (casB + 4 * l) F.CAS_LANE01_STATE
/-- Set STATE of cascade lane l. -/
def setCasState (s : State) (l st : Nat) : State := s.setFld (casB + 4 * l) F.CAS_LANE01_STATE st
/-- Change one cascade lane's own record. -/
def State.casMod (s : State) (l : Nat) (g : CasLane → CasLane) : State := s.setCasLane l (g (s.casLane l))
/-- Cascade lane l is enabled as a lane of a ring: CL0 and CL1 always, CL2 and CL3 with MODE 1. -/
def casRing (s : State) (l : Nat) : Bool :=
  s.flag (casB + 4 * l) F.CAS_LANE01_EN && (decide (l < 2) || s.fld (casB + 4 * l) F.CAS_LANE01_MODE == 1)

/-- A cascade lane starts an attempt from IDLE (R99, R480). -/
def casIdle (s : State) (l : Nat) : State :=
  setCasState (s.casMod l (fun x => { casLane0 with fails := x.fails, told := x.told })) l 1

/-- A cascade lane stops in a state. -/
def casStop (s : State) (l st : Nat) : State := setCasState (s.casMod l (fun x => { casLane0 with told := x.told })) l st

/-- The brim's upstream lane is now on side d (R484): a change of the path to the crown is a change of reference, by a glide where
the time PLL follows the cascade (R186). -/
def upstreamTo (s : State) (d : Nat) : State :=
  if !s.isBrim || s.fld casB F.CAS_STATUS_UPSTREAM % 2 == d then s
  else
    let s1 := s.setFld casB F.CAS_STATUS_UPSTREAM d
    if s.fld timeB F.TIME_STATUS_REF = 0 then
      let s2 := glideCut s1
      alignJudge ({ s2 with time := { s2.time with glide := cascadeGlide s2 } }.setFld timeB F.TIME_STATUS_STATE 2)
    else s1

/-- A lane of the first ring has changed: RING, and on a brim its upstream lane with the reference it gives (R185, R484).
A break farther off the crown finds by its roll call, a brim by the side from which the crown's packets come (log entry 51). -/
def casRingShow (s : State) : State :=
  let a := casState s 0 == 6
  let b := casState s 1 == 6
  let s1 := if s.role = 0 then s
    else if a && b then (if s.isBrim then s.setFld casB F.CAS_STATUS_RING 0 else s)
    else s.setFld casB F.CAS_STATUS_RING (if a || b then 1 else 2)
  let up := s1.fld casB F.CAS_STATUS_UPSTREAM
  if s1.isBrim && casState s1 up != 6 then
    let gone := !(a || b)
    let s2 := refLost { s1 with time := { s1.time with away := s1.time.away || gone, left := s1.time.left || (gone && s1.hold) } } 0
    if a || b then s2.setFld casB F.CAS_STATUS_UPSTREAM (if a then 0 else 1) else s2
  else s1

/-- A cascade lane leaves RUN, or stops in training; the copies that one ring has alone are forgotten. -/
def casDown (s : State) (next : State → State) : State :=
  let s1 := next s
  casRingShow { s1 with cas := { s1.cas with once := [] } }

/-- CAS_LANEl has been written (R480, R492): a lane that leaves the ring stops, one that joins it begins training. -/
def casLaneWritten (s : State) (l : Nat) : State :=
  if casRing s l then (if casState s l = 0 then casIdle (s.casMod l (fun x => { x with fails := 0, told := false })) l else s)
  else if casState s l = 0 then s else casDown s (fun s => casStop s l 0)

/-- The cascade lanes with EN = 1 begin training (R506). -/
def casBegin (s : State) : State :=
  (List.range 4).foldl (fun s l => if casRing s l ∧ casState s l = 0 then casIdle s l else s) s

/-- The states of the felts after the structure has changed: an undefined one reads 0, a defined one that did is stopped, or
latched where it holds a latched phase (R518). -/
def showFelts (s : State) : State :=
  (List.range 96).foldl (fun t f =>
    if feltDefined t f then heldLatch (if feltState t f = 0 then setFeltState t f 1 else t) f
    else if feltState t f = 0 then t
    else setFeltState (if 1 < feltState t f then feltOff t f 1 0 else t) f 0) (showPhases s)

/-- The device takes a position in the cascade (R483): its own requests move with it, and the felts defined there show. -/
def casPlace (s : State) (pos : Nat) : State :=
  let old := s.position
  let mv := fun (r : AdmReq) => if r.pos = old then { r with pos := pos } else r
  let s1 := { s with adm := { s.adm with asked := s.adm.asked.map mv, queue := s.adm.queue.map mv } }
  let s2 := (s1.setFld casB F.CAS_STATUS_POSITION pos).setFld 0 F.SYS_IMG_VER_POSITION pos
  if pos = old then s2 else showFelts s2

/-! Crown, enumeration, roll call, remote access (R483, R488, R490). -/

/-- The crown enumerates (R483): ENUM with position 1 and its own serial leaves on CL1. -/
def enumerateGo (s : State) : State :=
  if s.isCrown then
    casSend { s with cas := { s.cas with reported := [] } } 1 1 0 false [1#32, s.rd R.SYS_SERIAL_LO, s.rd R.SYS_SERIAL_HI]
  else s

/-- A brim reports its serial to the crown (R483). -/
def enumReport (s : State) : State :=
  casSend s 1 0 0 false [BitVec.ofNat 32 s.position, s.rd R.SYS_SERIAL_LO, s.rd R.SYS_SERIAL_HI]

/-- The device may become crown: an image for a cabinet of more than one device is loaded (R483); a brim may too, a crown is it. -/
def mayCrown (s : State) : Bool := s.img.loaded && decide (1 < s.cabinetSize) && !s.isCrown

/-- The device becomes crown, at position 0, and enumerates (R483). A brim that becomes it has no cascade upstream to follow any
more (R182). -/
def becomeCrown (s : State) : State :=
  if mayCrown s then
    let s1 := enumerateGo (casPlace (s.setFld casB F.CAS_STATUS_ROLE 1) 0)
    if s.isBrim then refSelect s1 else s1
  else s

/-- The device becomes crown where the image names its serial (R483). -/
def crownBySerial (s : State) : State :=
  if s.rd (casB + R.CAS_CROWN_LO) = s.rd R.SYS_SERIAL_LO ∧ s.rd (casB + R.CAS_CROWN_HI) = s.rd R.SYS_SERIAL_HI then becomeCrown s else s

/-- Show the last roll-call outcome of a position (R488). -/
def rollShow (s : State) (pos : Nat) (isMatch miss : Bool) : State :=
  let b := casB
  let s1 := s.setFld b F.CAS_ROLL_STAT_MATCH (setBits (s.fld b F.CAS_ROLL_STAT_MATCH) pos pos (b2n isMatch))
  s1.setFld b F.CAS_ROLL_STAT_MISS (setBits (s1.fld b F.CAS_ROLL_STAT_MISS) pos pos (b2n miss))

/-- The result of a roll call for a position (R482, R488): bit 0 match; bit 1 neither match nor mismatch, for which the spec gives no
code (DESIGN CHOICE, log entry 50). -/
def rollTell (s : State) (pos code : Nat) : State := casSend s 7 pos 2 false [BitVec.ofNat 32 code, s.rd R.SYS_EPOCH]

/-- The crown finds a closed ring broken where its last roll call has not come round to it (R484, log entry 51). -/
def ringJudge (s : State) : State :=
  if s.fld casB F.CAS_STATUS_RING = 0 ∧ s.cas.round = false then s.setFld casB F.CAS_STATUS_RING 1 else s

/-- The crown calls a roll call (R488): a brim that has not answered the one before is missed, and all are called. -/
def rollCallGo (s : State) : State :=
  if s.isCrown then
    let s0 := ringJudge s
    let s1 := s0.cas.asked.foldl (fun s p => rollTell ((rollShow s p false true).report 0xE p K.ROLLCALL_MISS 0) p 2) s0
    let s2 := { s1 with cas := { s1.cas with asked := foundBrims s1, round := false } }
    casSend s2 7 0 0 true [s2.rd R.SYS_EPOCH]
  else s

/-- A brim has received no roll call for 3 × ROLL_MS (R488). -/
def rollMissed (s : State) : State := if s.isBrim then s.report 0xE 0 K.ROLLCALL_MISS 0 else s

/-- CAS_RMT_POS.GO (R490): dropped while an access runs; a position that the crown has not found, or to
which no lane leads, is not reachable. -/
def rmtGo (s : State) : State :=
  let b := casB
  if s.flag b F.CAS_RMT_STAT_BUSY then s
  else
    let pos := s.fld b F.CAS_RMT_POS_POS
    let wr := s.flag b F.CAS_RMT_POS_WRITE
    if s.isCrown && (foundBrims s).contains pos && s.fld b F.CAS_STATUS_RING != 2 then
      let a := s.rd (b + R.CAS_RMT_ADDR)
      let s1 := casSend s 8 pos (b2n wr) false (if wr then [a, s.rd (b + R.CAS_RMT_DATA)] else [a])
      ({ s1 with cas := { s1.cas with rmt := some wr } }).setFld b F.CAS_RMT_STAT_BUSY 1
    else s.setFld b F.CAS_RMT_STAT_RESULT 2

/-- A remote access ends with a result (R490). -/
def rmtEnd (s : State) (result : Nat) : State :=
  let s1 := { s with cas := { s.cas with rmt := none } }
  (s1.setFld casB F.CAS_RMT_STAT_BUSY 0).setFld casB F.CAS_RMT_STAT_RESULT result

/-- The action of a write of CAS_CTRL: v the word written (R483, R488). -/
def casCtrlWritten (s : State) (v : Nat) : State :=
  let s1 := if bit v 0 then becomeCrown s else s
  let s2 := if bit v 1 then enumerateGo s1 else s1
  if bit v 2 then rollCallGo s2 else s2

/-- A stuck episode of the two-wire lines is over (R475, R476). -/
def twFree (s : State) : State :=
  if s.host.stuck then
    notify (({ s with host := { s.host with stuck := false } }).setFld hostB F.HOST_TW_STAT_STUCK 0) 2 F.HP_NOTIFY_N_STUCK
  else s

/-- The two-wire block is reset (R476): its queues are cleared, no notice waits, both lines are released. -/
def twClear (s : State) : State := twFree { s with host := { s.host with twIn := [], twOut := [], notice := 0 } }

end Sys2Proof.Machine
end

