-- ==== Sys2Proof/Machine/Bus.lean ====
section
/-! DEFINITION. Accesses of masters in the host address space (R24, R25, R8 to R11, R479): which writes are refused, what a
write stores by the access codes of the register tables, what it does, and what a read returns and changes. -/
namespace Sys2Proof.Machine

/-! Memories. -/

/-- A host address in an engine's memories or in shared memory (R24). -/
def inRam (a : Nat) : Bool := (decide (0x1000000 ≤ a) && decide (a < 0x1300000)) || (decide (0x2000000 ≤ a) && decide (a < 0x2400000))

/-! What a write stores (R8, R10). -/

/-- The word a register holds after a write of v over old: RW and RWL fields take v, W1C bits clear, W1S bits set. -/
def RegRow.stored (r : RegRow) (old v : Word) : Word :=
  let o := old.toNat
  let x := v.toNat
  let rw := r.rw ||| r.rwl
  let keep := 0xFFFFFFFF - rw
  BitVec.ofNat 32 ((((o &&& keep) ||| (x &&& rw)) &&& (0xFFFFFFFF - (x &&& r.w1c))) ||| (x &&& r.w1s))

/-- A register that stores nothing of a write, because what it holds is shown elsewhere or reads 0: software triggers, sleep,
NV_CNT_CLR. -/
def isPulseReg (a : Nat) : Bool :=
  a == R.SYS_PWR || a == nvB + R.NV_CNT_CLR || (decide (0x200000 ≤ a) && decide (a < 0x20C000) && (a - 0x200000) % 0x200 == R.ENG_SWTRIG)

/-- What the register at a takes from a master's write. Coherent broadcasts write the cabinet structure table whole (R61). -/
def regTake (s : State) (m : Master) (a : Nat) (r : RegRow) (v : Word) : Word :=
  let old := s.rd a
  if isCst a then (if m = .coherent ∧ a % 0x20 < 0x18 then v else old)
  else if fcB + R.FC_REACT ≤ a ∧ a < fcB + R.FC_REACT + 0x400 then
    reactWord ((a - fcB - R.FC_REACT) / 4) old (r.stored old v)
  else if isPulseReg a then old
  else if a = busB + R.BUS_CFG ∧ busCfgHeld s v.toNat then fset (r.stored old v) F.BUS_CFG_VBUS_SRC (fget old F.BUS_CFG_VBUS_SRC)
  else r.stored old v

/-! Refused writes (R25). -/

/-- A live reload applies: coherent writes wait (R67). -/
def liveApplies (s : State) : Bool :=
  s.img.live && (s.fld 0 F.SYS_IMG_STATUS_STATE == 2 || s.flag 0 F.SYS_DIGEST_STAT_BUSY)

/-- A master is the image loader or the cascade, which alone write coherent registers on a brim (R67). -/
def cohMaster : Master → Bool
  | .loader => true
  | .coherent => true
  | .cascade => true
  | _ => false

/-- A write of a register is refused by a rule of its own unit; o is the offset in the unit's window. -/
def unitRefuses (s : State) (a v : Nat) : Bool :=
  if a = R.SYS_IMG_CTRL then decide (5 ≤ bits v 3 1)
  else if a = R.SYS_REFELT_CTRL then bit v 8 && s.isBrim
  else if 0x40000 ≤ a ∧ a < 0x44000 then
    let o := (a - 0x40000) % 0x100
    (o == R.TMR_COUNT || o == R.TMR_CMP) && decide (activeReload s ((a - 0x40000) / 0x100) < v)
  else if 0x50000 ≤ a ∧ a < 0x60000 then
    let o := a - 0x50000
    s.isBrim && (o == R.TIME_WR_SEC || o == R.TIME_WR_NS || o == R.TIME_APPLY || o == R.TIME_BELL_SEC || o == R.TIME_BELL_NS ||
      (o == R.TIME_BELL_CTRL && bit v 0))
  else if 0x70000 ≤ a ∧ a < 0x70800 then (a - 0x70000) % 0x100 == R.HSE_CTRL && houseCtrlRefused s ((a - 0x70000) / 0x100) v
  else if a = nvB + R.NV_CNT_CLR then bits v 15 12 != 0
  else if 0xC0000 ≤ a ∧ a < 0xCC000 then (a - 0xC0000) % 0x1000 == R.SL_CTRL && slCtrlRefused s ((a - 0xC0000) / 0x1000) v
  else if 0xE8000 ≤ a ∧ a < 0xE8800 then (a - 0xE8000) % 0x100 == R.CAP_RD && capRdRefused s ((a - 0xE8000) / 0x100) v
  else if 0x180000 ≤ a ∧ a < 0x1B0000 then (a - 0x180000) % 0x800 == R.FELT_SRC && decide (5 ≤ fget (BitVec.ofNat 32 v) F.FELT_SRC_SEL)
  else false

/-- A write of an ENG_MPU register after LOCK is refused for every master, save the engine's own fault context (R357). -/
def mpuLocked (s : State) (m : Master) (a : Nat) : Bool :=
  if 0x200000 ≤ a ∧ a < 0x20C000 then
    let e := (a - 0x200000) / 0x200
    let o := (a - 0x200000) % 0x200
    decide (R.ENG_MPU_BASE ≤ o) && decide (o ≤ R.ENG_MPU_CTRL) && s.flag (engB e) F.ENG_MPU_CTRL_LOCK &&
      !(match m with | .engine k => k.val == e && (s.engine e).cur == some 8 | _ => false)
  else false

/-- A write of a register is refused (R25): no register, its hall pass, the image lock (R10), a rule of its unit, a coherent
register of a brim (R67), the sixteen held coherent writes (R67). own: an engine reaches what it owns through its I/O
space, where no hall pass is asked (R350). -/
def regRefused (s : State) (m : Master) (own : Bool) (a : Nat) (v : Word) : Bool :=
  match regRow a with
  | none => true
  | some r =>
    let trusted := decide (m = .loader) || decide (m = .coherent)
    (!own && !passOk s m true a) ||
    (r.rwl != 0 && s.flag 0 F.SYS_IMG_STATUS_LOCKED && !decide (m = .loader)) ||
    unitRefuses s a v.toNat || (!trusted && decide (a = busB + R.BUS_CFG) && busCfgHeld s v.toNat) ||
    (!trusted && mpuLocked s m a) ||
    (r.coh && s.isBrim && !cohMaster m) ||
    (r.coh && !decide (m = .loader) && liveApplies s && decide (16 ≤ s.img.held.length))

/-! What a write does beside storing, unit by unit: o is the offset in the unit's or instance's window, v the word written
and old the word before. -/

/-- SYS. -/
def sysAction (s : State) (m : Master) (a v : Nat) (old : Word) : State :=
  if a = R.SYS_IMG_CTRL then imgCtrlWritten s v
  else if a = R.SYS_REFELT_CTRL then (if bit v 8 then refeltGo s else s)
  else if a = R.SYS_RST_CTRL then (if bit v 0 ∧ bits v 31 16 = 0x7192 then systemReset s 3 else s)
  else if a = R.SYS_PWR then (if bit v 0 then sleepGo s else s)
  else if isCst a ∧ m = .coherent ∧ a % 0x20 < 0x18 then
    let d := (a - 0x4000) / 0xC00
    if d = s.position ∧ s.rd a ≠ old then refelted s ((a - 0x4000) % 0xC00 / 0x20) else s
  else s

/-- FC. -/
def fcAction (s : State) (o v : Nat) : State :=
  if o = R.FC_CTRL then (if bit v 0 then fcClear s else s)
  else if o = R.FC_Q_POP then (if bit v 0 then queuePop s else s)
  else if o = R.FC_INJ_HI then faultInject s (v % 256)
  else s

/-- EVT. -/
def evtAction (s : State) (o v : Nat) : State :=
  if o = R.EVT_TSTART_LO then forMask tmrRelease s v 0
  else if o = R.EVT_TSTART_HI then forMask tmrRelease s v 32
  else if o = R.EVT_TSTOP_LO then forMask tmrStop s v 0
  else if o = R.EVT_TSTOP_HI then forMask tmrStop s v 32
  else s

/-- TMR, timer n. -/
def tmrAction (s : State) (n o v : Nat) (old : Word) : State :=
  if o = R.TMR_CTRL then tmrCtrlWritten s n v
  else if o = R.TMR_RELOAD then tmrReloadWritten s n old
  else if o = R.TMR_CMP then tmrCmpWritten s n
  else s

/-- TIME. -/
def timeAction (s : State) (o v : Nat) : State :=
  if o = R.TIME_APPLY then (if bit v 0 then timeApply s (bits v 2 1) else s)
  else if o = R.TIME_REF_CFG then refSelect s
  else if o = R.TIME_BELL_CTRL then bellCtrlWritten s v
  else s

/-- SUP. -/
def supAction (s : State) (o v : Nat) : State :=
  if R.SUP_WIN ≤ o ∧ o < 0x400 then winWritten s ((o - R.SUP_WIN) / 8)
  else if 0x400 ≤ o ∧ o < 0x440 then ilkApply s
  else if o = R.SUP_ILK_CTRL then ilkAck s (v % 16)
  else if o = R.SUP_TT_CTRL then (if bit v 1 then ttDown s else if bit v 0 then ttUp s else s)
  else s

/-- BUS. -/
def busAction (s : State) (o v : Nat) (old : Word) : State :=
  if o = R.BUS_CTRL then busCtrlWritten s v old
  else if o = R.BUS_ADM_CAP then admCapWritten s
  else if o = R.BUS_HS_CTRL then hsCtrlWritten s v old
  else s

/-- GAU, gauge g. -/
def gauAction (s : State) (g o v : Nat) (old : Word) : State :=
  if o = R.GAU_CTRL then gauCtrlWritten s g v old
  else if o = R.GAU_Q_MAX then gauDisq s g 6
  else if o = R.GAU_TAP_STAT then tapsCleared s g v
  else s

/-- NV. -/
def nvAction (s : State) (o v : Nat) : State :=
  if o = R.NV_CTRL then
    let s1 := if bit v 0 then nvStore s false else s
    let s2 := if bit v 1 then nvCard s1 5 none else s1
    if bit v 2 then nvAsk s2 o v else s2
  else if o = R.NV_ERASE then (if bit v 8 then nvAsk s o v else s)
  else if o = R.NV_REC_CTRL then (if bit v 0 then nvAsk s o v else s)
  else if o = R.NV_CNT_INC then (natsWhere 12 (bit v)).foldl cntInc s
  else if o = R.NV_CNT_CLR then (natsWhere 12 (bit v)).foldl cntClear s
  else if o = R.NV_MAP then nvMapWritten s
  else s

/-- SL, lane l. -/
def slAction (s : State) (l o v : Nat) (old : Word) : State :=
  if o = R.SL_CTRL then slCtrlWritten s l v old
  else if o = R.SL_HUB_CMD then (if bit v 0 then hubGo s l else s)
  else s

/-- CL/CAS. -/
def casAction (s : State) (o v : Nat) : State :=
  if o = R.CAS_CTRL then casCtrlWritten s v
  else if R.CAS_LANE01 ≤ o ∧ o < 0x20 then casLaneWritten s ((o - R.CAS_LANE01) / 4)
  else if o = R.CAS_CROWN_LO ∨ o = R.CAS_CROWN_HI then crownBySerial s
  else if o = R.CAS_RMT_POS then (if bit v 8 then rmtGo s else s)
  else s

/-- FELT, felt f. -/
def feltAction (s : State) (f o v : Nat) (old : Word) : State :=
  if o = R.FELT_CTRL then feltCtrlWritten s f v old
  else if o = R.FELT_SRC then srcWritten s f old
  else if o = R.FELT_SP_HOST then setWritten s f false
  else if o = R.FELT_SP_ENG then setWritten s f true
  else if o = R.FELT_WF_CTRL then wfCtrlWritten s f v
  else if o = R.FELT_TRACK then (if feltSel s f = 4 ∧ fget old F.FELT_TRACK_BLK ≠ s.fld (feltB f) F.FELT_TRACK_BLK then sourceApply s f else s)
  else if R.FELT_BLK ≤ o ∧ o < R.FELT_BLK + 0x200 then blockWritten s f ((o - R.FELT_BLK) / 0x20)
  else s

/-- PD, port n. -/
def pdAction (s : State) (n o v : Nat) (old : Word) : State :=
  if o = R.PD_CTRL then pdCtrlWritten s n v old
  else if o = R.PD_ADM_REQ then (if bit v 31 then pdAdmReq s n else s)
  else if o = R.PD_TX_CTRL then (if bit v 31 then pdTxGo s n else s)
  else if o = R.PD_RX_STAT then (if bit v 31 ∧ bit old.toNat 31 then rxRelease s n else s)
  else s

/-- ENG, engine e. -/
def engAction (s : State) (e o v : Nat) : State :=
  if o = R.ENG_CTRL then engCtrlWritten s e v
  else if 0x40 ≤ o ∧ o < 0xC0 ∧ o % 0x10 = 0 then taskCfgWritten s e ((o - 0x40) / 0x10)
  else if o = R.ENG_SWTRIG then s.setEngine e { s.engine e with sw := (s.engine e).sw ||| (v % 256) }
  else if 0x1C0 ≤ o ∧ o < 0x1E0 ∧ o % 8 = 0 then mbxPush s e ((o - 0x1C0) / 8) (BitVec.ofNat 32 v)
  else s

/-- What a write of the register at a does once its fields are stored. -/
def regAction (s : State) (m : Master) (a : Nat) (w old : Word) : State :=
  let v := w.toNat
  if a < 0x10000 then sysAction s m a v old
  else if a < 0x20000 then fcAction s (a - 0x10000) v
  else if a < 0x30000 then s
  else if a < 0x40000 then evtAction s (a - 0x30000) v
  else if a < 0x50000 then tmrAction s ((a - 0x40000) / 0x100) ((a - 0x40000) % 0x100) v old
  else if a < 0x60000 then timeAction s (a - 0x50000) v
  else if a < 0x70000 then supAction s (a - 0x60000) v
  else if a < 0x70800 then (if (a - 0x70000) % 0x100 = R.HSE_CTRL then houseCtrlWritten s ((a - 0x70000) / 0x100) v old else s)
  else if a < 0x80000 then s
  else if a < 0x90000 then busAction s (a - 0x80000) v old
  else if a < 0xA0000 then gauAction s ((a - 0x90000) / 0x100) ((a - 0x90000) % 0x100) v old
  else if a < 0xB0000 then nvAction s (a - 0xA0000) v
  else if a < 0xC0000 then (if a = hostB + R.HOST_TW_CTRL ∧ bit v 0 then twClear s else s)
  else if a < 0xD0000 then slAction s ((a - 0xC0000) / 0x1000) ((a - 0xC0000) % 0x1000) v old
  else if a < 0xE0000 then casAction s (a - 0xD0000) v
  else if a < 0xE8000 then
    let c := (a - 0xE0000) / 0x40
    let o := (a - 0xE0000) % 0x40
    if o = R.DMA_CTRL then dmaCtrlWritten s c v else if o = R.DMA_DESC then s.dmaMod c (fun x => { x with fresh := true }) else s
  else if a < 0xF0000 then (if (a - 0xE8000) % 0x100 = R.CAP_CTRL then capCtrlWritten s ((a - 0xE8000) / 0x100) v else s)
  else if a < 0x180000 then s
  else if a < 0x1C0000 then feltAction s ((a - 0x180000) / 0x800) ((a - 0x180000) % 0x800) v old
  else if a < 0x200000 then pdAction s ((a - 0x1C0000) / 0x800) ((a - 0x1C0000) % 0x800) v old
  else engAction s ((a - 0x200000) / 0x200) ((a - 0x200000) % 0x200) v

/-- A register takes an accepted write: its fields, the digest where it is coherent (R65), its action, and on a crown the
broadcast of a coherent change (R67). -/
def regStore (s : State) (m : Master) (a : Nat) (v : Word) (r : RegRow) : State :=
  let old := s.rd a
  let new := regTake s m a r v
  let s1 := s.wr a new
  let s2 := if r.coh then cohChange s1 a old new else s1
  let s3 := regAction s2 m a v old
  if r.coh ∧ s.isCrown ∧ (r.rw ||| r.rwl) ≠ 0 ∧ m ≠ .loader ∧ m ≠ .coherent then cohSend s3 [BitVec.ofNat 32 a, v] else s3

/-- An accepted write of a register: a coherent one is held while a live reload applies (R67). -/
def regAccept (s : State) (m : Master) (a : Nat) (v : Word) : State :=
  match regRow a with
  | none => s
  | some r =>
    if r.coh ∧ m ≠ .loader ∧ liveApplies s then { s with img := { s.img with held := s.img.held ++ [(m, a, v)] } }
    else regStore s m a v r

/-- A write of a register by a master; the second part says that it was accepted. -/
def regWrite (m : Master) (own : Bool) (a : Nat) (v : Word) (s : State) : State × Bool :=
  if regRefused s m own a v then (s, false) else (regAccept s m a v, true)

/-- A word write of a master in the host address space (R24, R25, R479); the second part says that it was accepted. A
write that waits is held, and lands when the store or the boot scan ends (R445, R456). -/
def busPut (m : Master) (a : Nat) (v : Word) (s : State) : State × Bool :=
  if a % 4 ≠ 0 then (s, false)
  else if inRam a then (if passOk s m true a then (s.setMemWord a v, true) else (s, false))
  else if inSlate a then
    if !(passOk s m true a) || slateProtected s (a - slateB) then (s, false)
    else if busWaits s true a then (nvHold s (.word m a v), true) else (s.setMemWord a v, true)
  else if inRecord a then
    if !(passOk s m true a) then (s, false)
    else if busWaits s true a then (nvHold s (.word m a v), true)
    else
      let r := recRaw s (a - recB) v
      (r.1, !r.2)
  else regWrite m false a v s

/-- A write with its ACCESS report where it is refused (R25). -/
def masterWrite (m : Master) (a : Nat) (v : Word) (s : State) : State :=
  let r := busPut m a v s
  if r.2 then r.1 else s.accessReport m a

/-! Reads. -/

/-- A read clears the RC fields (R11). -/
def readClear (s : State) (a : Nat) (r : RegRow) : Word × State :=
  let w := s.rd a
  (w, if r.rc = 0 then s else s.wr a (BitVec.ofNat 32 (w.toNat &&& (0xFFFFFFFF - r.rc))))

/-- ENG_MBX_STAT as it reads: the words in each inbound FIFO beside the overflow bits. -/
def mbxStat (s : State) (e : Nat) : Word :=
  fset (s.rd (engB e + R.ENG_MBX_STAT)) F.ENG_MBX_STAT_LEVELS
    ((List.range 4).foldl (fun n k => n + (mbxFifo s e k).length * 2 ^ (5 * k)) 0)

/-- The words of a register that its unit computes as it is read, with what the read does; none: the word as stored. m reads
it. -/
def readSpecial (s : State) (m : Master) (a : Nat) : Option (Word × State) :=
  if a = R.SYS_DIGEST_LO then some (s.img.digest.setWidth 32, s.setSnap m 5 ((s.img.digest >>> 32).setWidth 32))
  else if a = R.SYS_DIGEST_HI then some (s.snap m 5, s)
  else if a = R.SYS_FSIG_LO then some (fsigWord s false, s)
  else if a = R.SYS_FSIG_HI then some (fsigWord s true, s)
  else if a = fcB + R.FC_STATUS then some (fcStatusRead s)
  else if a = fcB + R.FC_Q_MSG_LO then some (fqRead s m)
  else if a = fcB + R.FC_Q_MSG_HI then some (s.snap m 0, s)
  else if a = fcB + R.FC_Q_TS_LO then some (s.snap m 1, s)
  else if a = fcB + R.FC_Q_TS_HI then some (s.snap m 2, s)
  else if a = timeB + R.TIME_NS then some (readTimeNs s m)
  else if a = timeB + R.TIME_SNAP_SEC then some (s.snap m 4, s)
  else if a = timeB + R.TIME_FREQ then some (readTimeFreq s)
  else if a = timeB + R.TIME_STATUS then some (timeStatusWord s, s)
  else if a = R.SYS_CLK_STAT then some (fset (s.rd a) F.SYS_CLK_STAT_PLLA_LOCK (b2n s.pwr.pll), s)
  else if a = nvB + R.NV_CARD_RD then some (cardRdWord s, s)
  else if a = busB + R.BUS_ADM_LEVEL then some (admLevelWord s, s)
  else if 0x90000 ≤ a ∧ a < 0x96400 then
    let g := (a - 0x90000) / 0x100
    let o := (a - 0x90000) % 0x100
    let q := unint 64 (s.gauge g).q
    if o = R.GAU_Q_PASS_LO then some (BitVec.ofNat 32 q, s.setSnap m 6 (BitVec.ofNat 32 (q / 2 ^ 32)))
    else if o = R.GAU_Q_PASS_HI then some (s.snap m 6, s)
    else none
  else if 0x100000 ≤ a ∧ a < 0x160000 then
    if (a - 0x100000) % 0x800 = R.PHS_STATUS then some (phsStatusWord s ((a - 0x100000) / 0x800), s) else none
  else if 0x180000 ≤ a ∧ a < 0x1B0000 then
    if (a - 0x180000) % 0x800 = R.FELT_STATUS then some (fset (s.rd a) F.FELT_STATUS_HOLD (b2n s.hold), s) else none
  else if 0x1C0000 ≤ a ∧ a < 0x1D8000 then
    if (a - 0x1C0000) % 0x800 = R.PD_STATUS then some (pdStatusWord s ((a - 0x1C0000) / 0x800), s) else none
  else if 0x200000 ≤ a ∧ a < 0x20C000 then
    let e := (a - 0x200000) / 0x200
    let o := (a - 0x200000) % 0x200
    if o = R.ENG_CFG then some (fset (s.rd a) F.ENG_CFG_GROUP (engGroup s e), s)
    else if o = R.ENG_SWTRIG then some (BitVec.ofNat 32 (s.engine e).sw, s)
    else if o = R.ENG_MBX_STAT then some (mbxStat s e, s)
    else if 0x1C0 ≤ o ∧ o < 0x1E0 then some (if o % 8 = 4 then mbxPop s e (4 + (o - 0x1C0) / 8) else (0#32, s))
    else none
  else none

/-- Fields of counting registers that their unit gives as they are read: REMOTE on a brim (R231), the two-wire address of
the TW_ADDR balls (R470, log entry 22). -/
def regShow (s : State) (a : Nat) (w : Word) : Word :=
  if a = busB + R.BUS_ADM_STAT then fset w F.BUS_ADM_STAT_REMOTE (b2n s.isBrim)
  else if a = hostB + R.HOST_TW_STAT then fset w F.HOST_TW_STAT_ADDR (0x58 + Config.twAddr.toNat)
  else w

/-- A read of a register that is allowed. -/
def regRead (m : Master) (a : Nat) (r : RegRow) (s : State) : Word × State :=
  match readSpecial s m a with
  | some x => x
  | none =>
    let x := readClear s a r
    (regShow s a x.1, x.2)

/-- A word read of a master in the host address space: the word, the state after, and whether it was accepted (R25, R479).
The record array reads as zero before the boot scan has ended (R456). -/
def busGet (m : Master) (a : Nat) (s : State) : Word × State × Bool :=
  if a % 4 ≠ 0 ∨ passOk s m false a = false then (0#32, s, false)
  else if inRecord a ∧ !(s.flag nvB F.NV_STATUS_READY) then (0#32, s, true)
  else if inRam a ∨ inSlate a ∨ inRecord a then (s.memWord a, s, true)
  else
    match regRow a with
    | none => (0#32, s, false)
    | some r =>
      let x := regRead m a r s
      (x.1, x.2, true)

/-- A read with its ACCESS report where it is refused (R25). -/
def masterRead (m : Master) (a : Nat) (s : State) : Word × State :=
  let r := busGet m a s
  if r.2.2 then (r.1, r.2.1) else (0#32, s.accessReport m a)

end Sys2Proof.Machine
end

