-- ==== Sys2Proof/Machine/CasTx.lean ====
section
/-! DEFINITION. The sending side of a cascade lane: the way of each packet, its words with acknowledgement and resending hop
by hop, and the frame of a frame time (R480, R481, R484, R90 to R93, R99). -/
namespace Sys2Proof.Machine

/-- A cascade frame: TYPE, a zero bit, SEQ and the 256 payload bits, with CRC and scrambler as on the stage link (R480). -/
def casFrameOf (typ seq pay : Nat) : BitVec 280 :=
  let head := typ % 8 * 32 + seq % 16
  let body := pay % 2 ^ 256
  BitVec.ofNat 280 (head * 2 ^ 272 + ((body * 2 ^ 16 + crc16 (natBE 33 (head * 2 ^ 256 + body))) ^^^ scramble (seq % 16)))

/-! The way of a packet (R484). -/

/-- The lanes that carry what leaves on side d of the ring, 0 or 1: of each ring the lane on that side, where it is up; CL2 and
CL3 stand for CL0 and CL1 in the second ring (DEDUCED, log entry 138). -/
def casSide (s : State) (d : Nat) : List Nat := [d, d + 2].filter (fun l => casState s l == 6)

/-- The sides on which a packet of this device leaves (R483, R484): ENUM goes on over CL1; a broadcast of the crown over CL1 while the
ring is closed and both ways while it is broken, one of a brim both ways, since a brim sees no farther than its own lanes; what the crown
sends to one brim, over the side from which its packets come, at first CL1, or the other while no lane there is up; what a brim sends,
over its upstream lane. -/
def casSides (s : State) (p : CasPkt) : List Nat :=
  if p.cls = 1 ∧ p.dst ≠ 0 then [1]
  else if p.bcast then (if s.isCrown && s.fld casB F.CAS_STATUS_RING == 0 then [1] else [0, 1])
  else if s.isBrim then [s.fld casB F.CAS_STATUS_UPSTREAM % 2]
  else
    let d := sparseGet (fun _ => 1) s.cas.sides p.dst
    if casSide s d = [] then [1 - d] else [d]

/-- Queue a packet for the next hop on a lane. -/
def casEnqueue (p : CasPkt) (s : State) (l : Nat) : State := s.casMod l (fun x => { x with tx := { x.tx with wait := x.tx.wait ++ [p] } })

/-- A packet leaves on a side of the ring; where no lane of that side is up it is not kept (R484, R487). -/
def casLeave (p : CasPkt) (s : State) (d : Nat) : State := (casSide s d).foldl (casEnqueue p) s

/-- What this device has to send goes to the lanes that carry it. -/
def casDispatch (s : State) : State :=
  s.casOut.foldl (fun s p => (casSides s p).foldl (casLeave p) s) { s with casOut := [] }

/-! The words of a hop (R481). -/

/-- The order in which the classes leave (R481): FAULT, LINK, PROBE, BELL, SEQ, ADMIT, COHERENT, ROLL, REG, IMAGE; ENUM, which
the order does not name, last (DESIGN CHOICE, log entry 139). -/
def casOrder : List Nat := [5, 11, 2, 3, 9, 4, 6, 7, 8, 10, 1]

/-- The waiting packet that leaves next, and those that stay. -/
def casPick : List Nat → List CasPkt → Option (CasPkt × List CasPkt)
  | [], _ => none
  | c :: cs, q =>
    match q.find? (fun p => p.cls == c) with
    | some p => some (p, q.erase p)
    | none => casPick cs q

/-- A HEAD word (R481). -/
def casHead (p : CasPkt) (pseq ack : Nat) : Word :=
  BitVec.ofNat 32 (p.cls % 16 * 2 ^ 28 + pseq % 16 * 2 ^ 24 + ack % 16 * 2 ^ 20 + p.src % 16 * 2 ^ 16 + p.dst % 16 * 2 ^ 12 +
    b2n p.bcast * 2 ^ 11 + p.sub % 8 * 2 ^ 8 + p.body.length % 256)

/-- The last word of the packet with a PSEQ has gone: its time to be acknowledged begins (R91). -/
def CasTx.gone (x : CasTx) (pseq : Nat) : CasTx :=
  { x with sent := x.sent.map (fun e => if e.pseq = pseq then { e with age := some 0 } else e) }

/-- The packet is a time probe as the crown sends it (R189, R482). -/
def CasPkt.isProbe (p : CasPkt) : Bool := p.cls == 2 && p.sub == 0

/-- The body of a packet whose HEAD goes now: the crown's probe takes its send stamp then (R485). now is none but on the crown. -/
def CasPkt.bodyAt (p : CasPkt) (now : Option (Word × Word)) : List Word :=
  match now, p.body with
  | some (a, b), _ :: _ :: rest => if p.isProbe then a :: b :: rest else p.body
  | _, body => body

/-- A packet starts: its HEAD now, its body in the words that follow. -/
def CasTx.start (x : CasTx) (p : CasPkt) (pseq ack : Nat) (now : Option (Word × Word)) : Word × CasTx :=
  let y := { x with body := p.bodyAt now, cur := pseq, heads := if p.isProbe && now.isSome then x.heads ++ [p.dst] else x.heads }
  (casHead p pseq ack, if p.body = [] then y.gone pseq else y)

/-- The next word of the stream (R481, R90 to R93): the packet in progress, RESYNC, what is sent again, or the next that waits
while fewer than eight are unacknowledged; IDLE otherwise. -/
def CasTx.word (x : CasTx) (ack : Nat) (now : Option (Word × Word)) : Word × CasTx :=
  let idle := casHead (CasPkt.mk 0 0 0 false 0 []) 0 ack
  match x.body with
  | w :: t => (w, if t = [] then ({ x with body := [] } : CasTx).gone x.cur else { x with body := t })
  | [] =>
    if x.resync then (casHead (CasPkt.mk 11 0 0 false 0 []) 0 ack, { x with resync := false })
    else
      match x.again with
      | e :: t => ({ x with again := t } : CasTx).start e.pkt e.pseq ack now
      | [] =>
        if 8 ≤ x.sent.length then (idle, x)
        else
          match casPick casOrder x.wait with
          | none => (idle, x)
          | some (p, q) =>
            let y : CasTx := { x with wait := q, sent := x.sent ++ [⟨p, x.nextSeq, none⟩], nextSeq := (x.nextSeq + 1) % 16 }
            y.start p x.nextSeq ack now

/-- n words of the stream as one number, the first most significant. -/
def CasTx.words : Nat → Nat → Option (Word × Word) → CasTx → Nat → Nat × CasTx
  | 0, _, _, x, acc => (acc, x)
  | n + 1, ack, now, x, acc => CasTx.words n ack now (x.word ack now).2 (acc * 2 ^ 32 + (x.word ack now).1.toNat)

/-- An ACKSEQ arrives: its packet and all earlier ones are acknowledged (R90, R91). -/
def CasTx.acked (x : CasTx) (ack : Nat) : CasTx :=
  match x.sent.findIdx? (fun e => e.pseq == ack) with
  | none => x
  | some i =>
    let rest := x.sent.drop (i + 1)
    { x with sent := rest, again := x.again.filter (fun e => rest.any (fun f => f.pseq == e.pseq)), timeouts := 0 }

/-- RESYNC (R92): what waits for an acknowledgement or for its first sending is discarded (log entry 151), the PSEQ starts again; a
packet that has started ends first (R481). -/
def CasTx.reset (x : CasTx) (send : Bool) : CasTx := { casTx0 with body := x.body, cur := x.cur, resync := send }

/-- A frame has gone: what was sent whole grows older, and the oldest unacknowledged packet and all later ones are sent again
once 128 frames have passed since its last word; the second part says that eight timeouts in a row bring RESYNC (R91). -/
def CasTx.aged (x : CasTx) : CasTx × Bool :=
  let y : CasTx := { x with sent := x.sent.map (fun e : CasSent => { e with age := e.age.map (· + 1) }) }
  match y.sent with
  | ⟨_, _, some n⟩ :: _ =>
    if n < 128 then (y, false)
    else if 8 ≤ y.timeouts + 1 then (y, true)
    else
      let again := y.sent.map (fun e : CasSent => { e with age := none })
      ({ y with sent := again, again := again, timeouts := y.timeouts + 1 }, false)
  | _ => (y, false)

/-- This end of a hop resets its packet stream with RESYNC (R92, R481); it reports nothing, no kind being named for it (DESIGN CHOICE,
log entry 139). -/
def casResync (s : State) (l : Nat) (send : Bool) : State :=
  s.casMod l (fun x => { x with ackIn := 15, part := none, tx := x.tx.reset send })

/-! The frame of a frame time (R72, R480). -/

/-- SEQ of the frame that leaves now: it runs on; the first takes it from cabinet time (R72). -/
def casSeqNow (s : State) (l : Nat) : Nat :=
  match (s.casLane l).out with
  | some f => frField f 4 4 + 1
  | none => s.cabNs / 5

/-- The words of a TRAIN_B frame (R480). -/
def casTrainB (s : State) (l : Nat) : Nat :=
  [0x43410100 + l, 0x71920000 + s.fld 0 F.SYS_ID_REV, (s.rd R.SYS_SERIAL_LO).toNat, (s.rd R.SYS_SERIAL_HI).toNat, (s.casLane l).chosen % 2 ^ 32,
    0, 0, 0].foldl (fun n w => n * 2 ^ 32 + w) 0

/-- The frame that begins now carries the HEAD of a probe to each of these brims: its send time for the crown (R189, R485). -/
def probesSent (s : State) (ps : List Nat) : State :=
  ps.foldl (fun s p => { s with time := { s.time with probes := sparseSet (fun _ => 0) s.time.probes p s.cabNs } }) s

/-- Cascade lane l sends the frame of its state (R99, R480): electrical idle out of training and RUN, the training frames, DATA
with IDLE words in READY, the packet stream in RUN. -/
def casTransmit (s : State) (l : Nat) : State :=
  let st := casState s l
  let q := casSeqNow s l
  let x := s.casLane l
  if st = 2 then s.setCasLane l { x with out := some (casFrameOf 2 q 0) }
  else if st = 3 then s.setCasLane l { x with out := some (casFrameOf 3 q (casTrainB s l)) }
  else if st = 5 then s.setCasLane l { x with out := some (casFrameOf 0 q (CasTx.words 8 x.ackIn none casTx0 0).1) }
  else if st = 6 then
    let now := if s.isCrown then some (timeW0 s.cabNs, timeW1 s.cabNs) else none
    let w := CasTx.words 8 x.ackIn now { x.tx with heads := [] } 0
    let y := w.2.aged
    let s1 := probesSent (s.setCasLane l { x with out := some (casFrameOf 0 q w.1), tx := { y.1 with heads := [] } }) w.2.heads
    if y.2 then casResync s1 l true else s1
  else s.setCasLane l { x with out := none }

end Sys2Proof.Machine
end

