-- ==== Sys2Proof/Machine/ImageLoad.lean ====
section
/-! DEFINITION. The two passes of a load as they end, what pass 2 applies, and the recomputed digest (R49 to R60, R65, R68,
R228, R272, R483). -/
namespace Sys2Proof.Machine

/-! The digest from scratch (R63). -/

/-- Every coherent register of a unit row, by host address: its instances and its places in the array. -/
def rowAddrs (u : UnitMap) (r : RegRow) : List Nat :=
  (List.range (u.size / u.stride)).foldl (fun l i => l ++ (List.range r.cnt).map (fun k => u.base + u.stride * i + r.off + r.stride * k)) []

/-- The terms of all coherent registers. -/
def regTerms (s : State) : DWord :=
  unitMaps.foldl (fun d u => (u.rows.filter (fun r => r.coh)).foldl (fun d r =>
    (rowAddrs u r).foldl (fun d a => d ^^^ digTerm a (digValue a (s.rd a))) d) d) 0#64

/-- The terms of a section's words; of STRUCTURE those of the roles and bindings of each device record. -/
def secTerms (s : State) (src : Nat) (c : ImgSec) : DWord :=
  let base := 0x80000000 + c.typ * 0x1000000
  let offs := if c.typ = 3 then
      (List.range (c.len / 0xC40)).foldl (fun l d => l ++ (List.range 14).map (fun k => 0xC40 * d + 0xC00 + 4 * k)) []
    else (List.range ((c.len + 3) / 4)).map (fun k => 4 * k)
  offs.foldl (fun d o => d ^^^ digTerm (base + o) (imgWord s src (c.off + o))) 0#64

/-- D from all its terms (R54, step 6). -/
def digestAll (s : State) : State :=
  { s with img := { s.img with digest := s.img.sums.foldl (fun d e => d ^^^ e.2) (regTerms s) } }

/-- The sums of the sections that a load carries, in place of those of the same types. -/
def newSums (s : State) (src : Nat) (cs : List ImgSec) : List (Nat × DWord) :=
  let mine := (cs.filter (fun c => termTypes.contains c.typ || c.typ == 3)).map (fun c => (c.typ, secTerms s src c))
  s.img.sums.filter (fun e => !(mine.any (fun m => m.1 == e.1))) ++ mine

/-! What a load changes. -/

/-- Every field with an "img" reset goes back to its value before load (R12, R55). -/
def clearFields (s : State) : State :=
  s.regs.foldl (fun t e =>
    match regRow e.1 with
    | none => t
    | some r =>
      if r.img = 0 then t
      else t.wr e.1 ((e.2 &&& BitVec.ofNat 32 (0xFFFFFFFF - r.img)) ||| (regReset e.1 &&& BitVec.ofNat 32 r.img))) s

/-- What was loaded goes back to its value before load (R12, R55); a window whose thresholds this changes is written anew
(R398). -/
def clearImg (s : State) : State :=
  let t := clearFields s
  let changed := fun n => (List.range 2).any (fun k => t.rd (supB + R.SUP_WIN + 8 * n + 4 * k) != s.rd (supB + R.SUP_WIN + 8 * n + 4 * k))
  (natsWhere 32 changed).foldl winWritten t

/-- The memories of an engine read zero. -/
def clearEngine (s : State) (e : Nat) : State :=
  let b := 0x1000000 + 0x8000 * e
  { s with mem := s.mem.filter (fun c => !(decide (b ≤ c.1) && decide (c.1 < b + 0x8000))) }

/-- Write words upwards into memory. -/
def setWords (s : State) (a : Nat) : List Word → State
  | [] => s
  | w :: t => setWords (s.setMemWord a w) (a + 4) t

/-- n words of an image from an offset on. -/
def imgWords (s : State) (src off n : Nat) : List Word := (List.range n).map (fun i => imgWord s src (off + 4 * i))

/-- A word of a load record is written as a register write of the loader (R49). A live TIMETABLE waits while a sequence runs
(R413). -/
def loadWord (live : Bool) (s : State) (a : Nat) (v : Word) : State :=
  if live ∧ 0x60800 ≤ a ∧ a < 0x60A00 ∧ s.sup.seq ≠ 0 then
    match regRow a with
    | none => s
    | some r => { s with img := { s.img with ttHeld := s.img.ttHeld ++ [(a, r.stored (s.rd a) v)] } }
  else (busPut .loader a v s).1

/-- A load record applies (R48); src is read in s0, the state before the load. -/
def applyRec (s0 : State) (src : Nat) (live : Bool) (s : State) (r : LoadRec) : State :=
  if r.mine then
    (List.range r.cnt).foldl (fun t i => loadWord live t (r.addr + 4 * i) (imgWord s0 src (r.off + 4 * i))) s
  else s

/-- A register-load section applies. -/
def applyLoads (s0 : State) (src : Nat) (live : Bool) (s : State) (c : ImgSec) : State :=
  match secRecs s0 src c with
  | none => s
  | some rs => rs.foldl (applyRec s0 src live) s

/-- STRUCTURE applies (R47): the table of every device, this device's house roles and port bindings. -/
def applyStructure (s0 : State) (src : Nat) (s : State) (c : ImgSec) : State :=
  let s1 := (List.range (c.len / 0xC40)).foldl (fun t d =>
    (List.range 768).foldl (fun t k =>
      let a := 0x4000 + 0xC00 * d + 4 * k
      t.wr a (imgWord s0 src (devRec c d + 4 * k) &&& BitVec.ofNat 32 (match regRow a with | some r => r.img | none => 0))) t) s
  let o := devRec c s.position
  let s2 := (List.range 8).foldl (fun t h =>
    let b := imgNum s0 src (o + 0xC00 + h) 1
    (t.setFld (hseB h) F.HSE_STATUS_ROLE (b % 8)).setFld (hseB h) F.HSE_STATUS_KEEP (b / 128)) s1
  { s2 with portFelt := ((List.range 48).map (fun n => (n, imgNum s0 src (o + 0xC08 + n) 1))).filter (fun e => e.2 != 0xFF) }

/-- An engine record is this device's. -/
def ProgRec.mine (r : ProgRec) (pos : Nat) : Bool := bit r.w0 12 || bits r.w0 11 8 == pos

/-- An engine record applies (R50): its words, zero elsewhere, its entry. -/
def applyProg (s0 : State) (src : Nat) (s : State) (r : ProgRec) : State :=
  if r.mine s.position then
    let e := r.w0 % 128
    let b := 0x1000000 + 0x8000 * e
    let s1 := setWords (clearEngine s e) b (imgWords s0 src r.off r.ni)
    (setWords s1 (b + 0x4000) (imgWords s0 src (r.off + 4 * r.ni) r.nd)).setFld (engB e) F.ENG_ENTRY_ENTRY r.entry
  else s

/-- The engines that an image starts, ascending (R50). -/
def startList (pos : Nat) (rs : List ProgRec) : List Nat :=
  natsWhere 96 (fun e => rs.any (fun r => r.mine pos && r.w0 % 128 == e && bit r.w0 16))

/-- The service record takes SVC_VDM: the slot that does not hold the newest valid record (R272, R459). -/
def svcStore (s : State) : State :=
  let (slot, n) := match svcRecord s with
    | none => (0, 0)
    | some (k, n, _) => (1 - k, n + 1)
  let v := s.rd (svcB + R.SVC_VDM)
  let body := [0x53560002#32, BitVec.ofNat 32 n, v]
  recPuts s (s.nv.svc * 0x1000 + 0x100 * slot) ([0xA55A#32] ++ body ++ [crc32 (wordsBytes body)])

/-- A brim learns the identity of the crown's full image (R57): an image that the crown has served is the crown's own (R491);
otherwise the spec names no packet that carries it, and it is a free value (log entry 46). -/
def learnCrown (s : State) (served : Bool) : State :=
  if served then { s with cas := { s.cas with crown := some (s.rd R.SYS_IMG_ID, s.rd R.SYS_IMG_SERIAL) } }
  else
    let a := s.takeFree
    let b := a.2.takeFree
    { b.2 with cas := { b.2.cas with crown := some (a.1, b.1) } }

/-- A brim confirms that its IMAGE_ID and IMAGE_SERIAL equal the crown's (R57), as it joins and after every reload. -/
def imgConfirm (s : State) (served : Bool) : State :=
  if s.isBrim then
    let s1 := learnCrown s served
    { s1 with cas := { s1.cas with
        same := s1.img.loaded && s1.cas.crown == some (s1.rd R.SYS_IMG_ID, s1.rd R.SYS_IMG_SERIAL) } }
  else s

/-- A brim found to hold another image than the crown's, or one applied at another position, is loaded by the crown (R57,
R483). -/
def loadUnlike (s : State) : State :=
  if s.isBrim && !(loading s) && (!s.cas.same || s.cas.imgPos != s.position) then loadFrom s 4 else s

/-- Whether some record of a load names a register on this device. -/
def loadsReg (s0 : State) (src : Nat) (cs : List ImgSec) (typ a : Nat) : Bool :=
  cs.any (fun c => c.typ == typ && match secRecs s0 src c with
    | none => false
    | some rs => rs.any (fun r => r.mine && decide (r.addr ≤ a) && decide (a < r.addr + 4 * r.cnt)))

/-- The identity of a full image is shown (R43, R54, R58). -/
def showImage (s : State) (src : Nat) (h : ImgHead) : State :=
  let s1 := (s.wr R.SYS_IMG_ID (BitVec.ofNat 32 h.id)).wr R.SYS_IMG_SERIAL (BitVec.ofNat 32 h.serial)
  let s2 := ((s1.setFld 0 F.SYS_IMG_VER_CABINET_SIZE h.size).setFld 0 F.SYS_IMG_VER_ISA_LEVEL h.isa)
  let s3 := (s2.setFld 0 F.SYS_IMG_VER_FORMAT_MAJOR 1).setFld 0 F.SYS_IMG_VER_FORMAT_MINOR h.minor
  let s4 := (s3.wr R.SYS_LIVE_ID 0#32).wr R.SYS_LIVE_SERIAL 0#32
  (s4.setFld 0 F.SYS_IMG_STATUS_LIVE 0).setFld 0 F.SYS_IMG_STATUS_SRC_USED src

/-- The end of a load that a full and a live image share: lock, count, the load is over. -/
def loadDone (s : State) (h : ImgHead) : State :=
  let s1 := if bit h.flags 1 then s.setFld 0 F.SYS_IMG_STATUS_LOCKED 1 else s
  let s2 := (s1.bump 0 F.SYS_IMG_STATUS_LOADS 1).setFld 0 F.SYS_IMG_STATUS_STATE 3
  { s2 with img := { s2.img with src := 0, cand := [], loaded := true, rx := [], rxEnd := 0 } }

/-- What other units take from a load: port limits, interlocks, the layout record, the service record, the crown. -/
def loadEffects (s0 s : State) : State :=
  let s1 := s.portFelt.foldl (fun t e => portLimits t e.1) s
  let s2 := ilkApply s1
  let s3 := if s2.rd (nvB + R.NV_MAP) ≠ s0.rd (nvB + R.NV_MAP) then nvMapWritten s2 else s2
  let s4 := if s3.rd (svcB + R.SVC_VDM) ≠ s0.rd (svcB + R.SVC_VDM) then svcStore s3 else s3
  crownBySerial s4

/-- The epoch that a full load sets (R68): 1, or on a brim the crown's, a free value while no packet has brought it (log entry
67). -/
def loadEpoch (s : State) : State :=
  if s.isBrim then
    match s.cas.epoch with
    | some e => s.wr R.SYS_EPOCH e
    | none => s.takeFree.2.wr R.SYS_EPOCH s.takeFree.1
  else s.wr R.SYS_EPOCH 1#32

/-- A brim that has left the cascade and is loaded afresh ends its hold (R489). -/
def holdFresh (s : State) : State :=
  if s.time.left then { s.setFld fcB F.FC_STATUS_HOLD 0 with time := { s.time with left := false } } else s

/-- The timetable of a full image is new: its pins are driven low until their power-up actions (R400), and no entry of a timetable
at rest has run. -/
def timetableLoaded (s : State) : State :=
  let s1 := { s with sup := { s.sup with pins := [] } }
  if s1.sup.seq = 0 then seqFlt { s1 with sup := { s1.sup with rails := [], groups := [], shut := [], ownFault := [] } } 0 false else s1

/-- A full image applies (R54, steps 5 to 7). -/
def applyFull (s0 : State) (src : Nat) : State :=
  let h := imgHead s0 src
  let cs := (imgSecs s0 src).2
  let sums := newSums { s0 with img := { s0.img with sums := [] } } src cs
  let s1 := clearImg s0
  let s2 := match secOf cs 3 with
    | none => s1
    | some c => applyStructure s0 src s1 c
  let s3 := showFelts (showImage { s2 with img := { s2.img with sums := sums } } src h)
  let s4 := (cs.filter (fun c => loadTypes.contains c.typ)).foldl (applyLoads s0 src false) s3
  let rs := match secOf cs 8 with
    | none => []
    | some c => (secProgs s0 src c).getD []
  let s5 := digestAll (rs.foldl (applyProg s0 src) s4)
  let s6 := loadEpoch s5
  let s7 := if loadsReg s0 src cs 10 (busB + R.BUS_V_OV) then busOvServes s6 else s6
  let first := s7.fld 0 F.SYS_IMG_STATUS_LOADS == 0
  let s7 := timetableLoaded s7
  let s8 := admFill (imgConfirm (loadDone { s7 with cas := { s7.cas with imgPos := s7.position } } h) (src == 4))
  let s9 := holdFresh (loadEffects s0 s8)
  let s10 := if first then (List.range 100).foldl gauRestore s9 else s9
  let s11 := (startList s10.position rs).foldl engStart s10
  loadUnlike (if s11.flag supB F.SUP_TT_CFG_AUTO then ttUp s11 else s11)

/-- A live image applies (R58, R59): the digest is recomputed, which DIGEST_RECOMPUTE_END ends (R65). -/
def applyLive (s0 : State) (src : Nat) : State :=
  let h := imgHead s0 src
  let cs := (imgSecs s0 src).2
  let sums := newSums s0 src cs
  let s1 := (cs.filter (fun c => loadTypes.contains c.typ)).foldl (applyLoads s0 src true) s0
  let s2 := { s1 with img := { s1.img with sums := sums } }
  let s3 := ((s2.wr R.SYS_LIVE_ID (BitVec.ofNat 32 h.id)).wr R.SYS_LIVE_SERIAL (BitVec.ofNat 32 h.serial)).setFld 0 F.SYS_IMG_STATUS_LIVE 1
  let s4 := imgConfirm (loadDone s3 h) (src == 4 && s3.cas.same)
  let s5 := loadEffects s0 (s4.setFld 0 F.SYS_DIGEST_STAT_BUSY 1)
  if loadsReg s0 src cs 10 (busB + R.BUS_V_OV) then busOvServes s5 else s5

/-- Pass 2 has found a section changed (R55, error 0x0E): every "img" field and engine memory goes back, no image is
loaded; a layout that this changes is recorded (R448). -/
def imgRollback (s : State) : State :=
  let s1 := clearImg s
  let s2 := { s1 with mem := s1.mem.filter (fun c => !(decide (0x1000000 ≤ c.1) && decide (c.1 < 0x1300000))) }
  let s3 := (List.range 8).foldl (fun t h => (t.setFld (hseB h) F.HSE_STATUS_ROLE 0).setFld (hseB h) F.HSE_STATUS_KEEP 0) s2
  let s4 := showFelts { s3 with portFelt := [], img := { s3.img with loaded := false, live := false, sums := [], held := [], ttHeld := [] } }
  let s5 := ((s4.wr R.SYS_EPOCH 0#32).wr R.SYS_LIVE_ID 0#32).wr R.SYS_LIVE_SERIAL 0#32
  let s5 := if s5.rd (nvB + R.NV_MAP) ≠ s.rd (nvB + R.NV_MAP) then nvMapWritten s5 else s5
  digestAll ((s5.setFld 0 F.SYS_IMG_STATUS_LIVE 0).setFld 0 F.SYS_IMG_STATUS_SRC_USED 0)

/-! The ends of the passes. -/

/-- Pass 1 ends (R54, R55): the image is rejected and the next source tried, or pass 2 begins, which for a full image halts
all engines. An image from the crown is read again for pass 2 (R491). -/
def imgPass1 (s : State) : State :=
  let src := s.img.src
  if s.fld 0 F.SYS_IMG_STATUS_STATE ≠ 1 ∨ (src = 4 ∧ rxWhole s = false) then s
  else
    let c := imgCheck s src
    let h := imgHead s src
    if c ≠ 0 then tryNext (imgReject s c) s.img.cand
    else if s.img.want = some (!h.live) then tryNext (imgReject s 0x0D) s.img.cand
    else if h.live = false ∧ s.img.loaded ∧ outputsActive s then loadIdle (imgReject s 0x10)
    else
      let crcs := (imgSecs s src).2.map (fun x => x.crc)
      let s1 := { s with img := { s.img with crcs := crcs, live := h.live } }
      let s2 := s1.setFld 0 F.SYS_IMG_STATUS_STATE 2
      let s3 := if h.live then s2 else (List.range 96).foldl engHaltNow s2
      if src = 4 then imgAsk { s3 with img := { s3.img with rx := [], rxEnd := 0 } } 0 h.len else s3

/-- Pass 2 ends (R54, R55, R58). -/
def imgPass2 (s : State) : State :=
  let src := s.img.src
  if s.fld 0 F.SYS_IMG_STATUS_STATE ≠ 2 ∨ (src = 4 ∧ rxWhole s = false) then s
  else
    let r := imgSecs s src
    if headCheck s src ≠ 0 ∨ r.1 ≠ 0 ∨ r.2.map (fun x => x.crc) ≠ s.img.crcs then tryNext (imgReject (imgRollback s) 0x0E) s.img.cand
    else if s.img.live then applyLive s src
    else applyFull s src

/-- What has waited for the end of a load (R55): felts and channels start now. -/
def loadOver (s : State) : State := (List.range 8).foldl houseTry ((List.range 96).foldl feltProceed s)

/-- The end of a pass and, where the load is over with it, of the waits for it. -/
def passEnd (pass : State → State) (s : State) : State :=
  if loadRuns s && !loadRuns (pass s) then loadOver (pass s) else pass s

/-- Coherent writes that a live reload has held take effect in order (R67). -/
def heldWrites (s : State) : State :=
  s.img.held.foldl (fun t e => regAccept t e.1 e.2.1 e.2.2) { s with img := { s.img with held := [], live := false } }

/-- The digest of a live reload is settled (R65): the terms of its sections are in place, the held writes follow. -/
def digestSettled (s : State) : State :=
  if s.flag 0 F.SYS_DIGEST_STAT_BUSY then heldWrites (digestAll (s.setFld 0 F.SYS_DIGEST_STAT_BUSY 0)) else s

end Sys2Proof.Machine
end

