-- ==== Sys2Proof/Machine/CascadeRx.lean ====
section
/-! DEFINITION. What this device takes from the cascade: frames and training of its cascade lanes, and every packet it
receives as brim or crown (R480 to R491, R189, R231, R427). -/
namespace Sys2Proof.Machine

/-! Packets (R482). Each takes the packet at the head of the received ones, where it is of the class and SUB. -/

/-- Take a packet of a class and SUB. -/
def casGet (s : State) (cls sub : Nat) (act : CasPkt → State → State) : State :=
  match casTake s (fun p => p.cls == cls && p.sub == sub) with
  | none => s
  | some (p, s1) => act p s1

/-- The arrival of the PROBE packet that has just been taken (R485), and the state without it; of one that came over no lane the
present time. -/
def probeArrival (s : State) : Nat × State :=
  (s.cas.probeAt.headD s.cabNs, { s with cas := { s.cas with probeAt := s.cas.probeAt.drop 1 } })

/-- A body word of a packet, 0 where it is missing. -/
def CasPkt.word (p : CasPkt) (k : Nat) : Word := p.body.getD k 0#32

/-- A brim takes its position from an ENUM packet (R483): it sends the next position on, reports its serial to the crown,
joins (R190), and is loaded by the crown where it holds no image, another one, or one applied at another position (R57; log
entry 48). -/
def enumPlace (s : State) (pos : Nat) : State :=
  let s1 := casPlace (s.setFld casB F.CAS_STATUS_ROLE 2) pos
  let lo := s1.rd R.SYS_SERIAL_LO
  let hi := s1.rd R.SYS_SERIAL_HI
  let s2 := casSend s1 1 (pos + 1) 0 false [BitVec.ofNat 32 (pos + 1), lo, hi]
  let s3 := imgConfirm (enumReport s2) false
  let s4 := { s3 with time := { s3.time with joining := s3.time.joining || s3.time.away, away := false } }
  loadUnlike s4

/-- The crown learns a brim's position and serial. A brim that reports again, after its report in the running enumeration, tells of a
lane of its own that has returned to RUN: the crown enumerates (R483, log entry 51). -/
def enumFound (s : State) (pos : Nat) (lo hi : Word) : State :=
  let found := s.cas.found.filter (fun e => e.1 != pos) ++ [(pos, lo, hi)]
  let s1 := ({ s with cas := { s.cas with found := found, reported := setAdd s.cas.reported pos } }).setFld casB F.CAS_STATUS_FOUND found.length
  if s.cas.reported.contains pos then enumerateGo s1 else s1

/-- The crown's enumeration has come round to it (R483): the ring is closed, and no device lies at or beyond that position. -/
def enumRound (s : State) (n : Nat) : State :=
  let found := s.cas.found.filter (fun e => decide (e.1 < n))
  (({ s with cas := { s.cas with found := found, round := true, sides := [] } }).setFld casB F.CAS_STATUS_FOUND found.length).setFld casB F.CAS_STATUS_RING 0

/-- An ENUM packet (R483): a brim's report or the enumeration come round, on the crown; a position, elsewhere. -/
def enumTaken (s : State) : State :=
  casGet s 1 0 (fun p s =>
    let n := (p.word 0).toNat
    if s.isCrown then (if p.dst = 0 ∧ n = p.src then enumFound s p.src (p.word 1) (p.word 2) else enumRound s n)
    else enumPlace s (n % 16))

/-- A brim receives a time probe (R189, R482) and answers with its turnaround in ticks and its arrival time. The first after it
joined is kept beside its arrival: its error packet brings the crown's time (R190). -/
def probeTaken (s : State) (turn : Nat) : State :=
  casGet s 2 0 (fun p s0 =>
    let arrived := (probeArrival s0).1
    let s := (probeArrival s0).2
    let s1 :=
      if s.time.joining then
        { s with time := { s.time with joining := false, joinAt := some ((arrived : Int) - (timeOfWords (p.word 0) (p.word 1) : Int)) } }
      else s
    casSend s1 2 0 1 false [BitVec.ofNat 32 turn, timeW0 arrived, timeW1 arrived, p.word 2])

/-- The crown takes a probe answer (R189). -/
def probeAnswerTaken (s : State) (mc : Nat) : State := casGet s 2 1 (fun p s => probeAnswered (probeArrival s).2 p mc)
/-- A brim takes its offset error (R189). -/
def probeErrTaken (s : State) : State := casGet s 2 2 (fun p s => probeErrorTaken (probeArrival s).2 p)
/-- A brim receives an armed bell (R193). -/
def bellArmTaken (s : State) : State := casGet s 3 0 (fun p s => bellReceived s p)
/-- A brim receives the crown's cancel (R193). -/
def bellCancelTaken (s : State) : State := casGet s 3 1 (fun _ s => bellDrop s)
/-- The crown receives an acknowledgement of the bell (R193). -/
def bellAckTaken (s : State) : State := casGet s 3 2 (fun p s => bellAcked s p)

/-- A FAULT packet (R427). -/
def faultTaken (s : State) : State :=
  casGet s 5 0 (fun p s => spreadArrive s p.src (p.word 0).toNat (p.word 1) (p.word 2))

/-! Admission over the cascade (R231, R486). -/

/-- What an admitted request does for its requester: on this device its unit's start, for a brim a grant. -/
def admGrant (s : State) (r : AdmReq) : State :=
  if r.pos ≠ s.position then casSend s 4 r.pos 1 false [BitVec.ofNat 32 r.id]
  else if r.kind = 0 then feltAdmitted s r.inst
  else if r.kind = 1 then portGranted s r.inst
  else if r.kind = 2 then hsAdmitted s
  else houseAdmitted s r.inst

/-- What a timed-out request does for its requester (R230). -/
def admFailed (s : State) (r : AdmReq) : State :=
  if r.kind = 0 then feltAdmitTimeout s r.inst
  else if r.kind = 1 then portAdmTimeout s r.inst
  else if r.kind = 2 then hsAdmitTimeout s
  else houseAdmitTimeout s r.inst

/-- The oldest request asked for enters the queue, or leaves at once where the queue is full (R229). -/
def admissionRequest (s : State) : State :=
  match admEnter s with
  | (s1, none) => s1
  | (s1, some r) => admFailed s1 r

/-- A 10 µs step of the budget with what it admits (R228 to R230). -/
def admissionStep (s : State) : State := (admStep s).2.foldl admGrant (admStep s).1

/-- A request whose wait has run out leaves the queue (R230). -/
def admissionTimeout (s : State) : State :=
  match admExpire s with
  | (s1, none) => s1
  | (s1, some r) => admFailed s1 r

/-- The crown receives a brim's request and queues it as its own (R231), or it leaves at once where the queue is full (R230); the
brim times it. Its kind is not told: it is a free value (log entry 49). -/
def admRequestTaken (s : State) : State :=
  casGet s 4 0 (fun p s =>
    if !s.isCrown then s
    else if 160 ≤ s.adm.queue.length then admTimeoutReport s 0xFFFF
    else
      let k := freeBetween s 0 3
      let r : AdmReq := ⟨k.1, p.src, 0, (p.word 1).toNat, (p.word 2).toNat % 16, (p.word 3).toNat, 1, (p.word 0).toNat % 2 ^ 16⟩
      admShow { k.2 with adm := { s.adm with queue := admInsert r s.adm.queue } })

/-- A brim receives a grant (R231, R486): its request is admitted, or, where it has left, the grant is returned with q. -/
def admGrantTaken (s : State) : State :=
  casGet s 4 1 (fun p s =>
    let n := (p.word 0).toNat % 2 ^ 16
    match s.adm.queue.find? (fun r => r.id == n && r.pos == s.position) with
    | some r => admGrant (admShow { s with adm := { s.adm with queue := s.adm.queue.erase r } }) r
    | none =>
      match s.adm.gone.find? (fun g => g.1 == n) with
      | none => s
      | some g =>
        casSend { s with adm := { s.adm with gone := s.adm.gone.erase g } } 4 0 2 false [BitVec.ofNat 32 n, BitVec.ofNat 32 g.2])

/-- The crown receives a returned grant (R231): q goes back to L, up to C. -/
def admReturnTaken (s : State) : State :=
  casGet s 4 2 (fun p s =>
    { s with adm := { s.adm with level := min ((admCap s * 100 : Nat) : Int) (s.adm.level + ((100 * (p.word 1).toNat : Nat) : Int)) } })

/-- The crown receives a withdraw (R486). -/
def admWithdrawTaken (s : State) : State :=
  casGet s 4 3 (fun p s =>
    let n := (p.word 0).toNat % 2 ^ 16
    admShow { s with adm := { s.adm with queue := s.adm.queue.filter (fun r => !(r.pos == p.src && r.id == n && r.pos != s.position)) } })

/-! Coherent changes and roll call (R487 to R489). -/

/-- One pair of a coherent change (R487): a write without a hall-pass check. One that the image lock (R10), a rule of its unit or
the sixteen held writes (R67) refuse is dropped with ACCESS from the cascade. -/
def cohPair (s : State) (a v : Word) : State :=
  let r := regWrite .coherent true a.toNat v s
  if r.2 then r.1 else s.accessReport .coherent a.toNat

/-- The pairs of a coherent change apply in order (R487). -/
def cohPairs (s : State) : List Word → State
  | a :: v :: t => cohPairs (cohPair s a v) t
  | _ => s

/-- The crown's epoch, as a packet has brought it (R68). -/
def crownEpoch (s : State) (e : Word) : State := { s with cas := { s.cas with epoch := some e } }

/-- A brim receives a coherent change (R487). SYS_EPOCH stays 0 while no image is loaded (R68). -/
def coherentTaken (s : State) : State :=
  casGet s 6 0 (fun p s =>
    let e := p.word 0
    let s1 := crownEpoch (cohPairs s (p.body.drop 1)) e
    casSend (if s1.img.loaded then s1.wr R.SYS_EPOCH e else s1) 6 0 1 false [e])

/-- The crown receives an acknowledgement (R487). -/
def coherentAckTaken (s : State) : State :=
  casGet s 6 1 (fun p s =>
    let e := (p.word 0).toNat
    let coh := (s.cas.coh.map (fun c => if c.1 = e then (c.1, c.2.erase p.src) else c)).filter (fun c => c.2 != [])
    cohShow { s with cas := { s.cas with coh := coh } })

/-- The answer to a roll call (R66, R488). -/
def rollReply (s : State) (busy : Bool) : State :=
  let d := s.img.digest.toNat
  casSend { s with img := { s.img with waits := false } } 7 0 1 false
    [BitVec.ofNat 32 d, BitVec.ofNat 32 (d / 2 ^ 32), s.rd R.SYS_EPOCH, s.rd R.SYS_IMG_ID, BitVec.ofNat 32 (b2n busy)]

/-- A roll call comes with the crown's epoch (R488); one that no match result has followed breaks the matches in a row (R489). -/
def rollCalled (s : State) (e : Word) : State :=
  let s1 := crownEpoch s e
  { s1 with cas := { s1.cas with agreed := if s1.cas.matched then s1.cas.agreed else 0, matched := false } }

/-- A brim receives a roll call with the crown's epoch (R66, R488): it answers with a settled digest only. -/
def rollCallTaken (s : State) : State :=
  casGet s 7 0 (fun p s0 =>
    let s := rollCalled s0 (p.word 0)
    if s.flag 0 F.SYS_DIGEST_STAT_BUSY then { s with img := { s.img with waits := true } } else rollReply s false)

/-- The digest has settled (R65, R66): a roll call that waits is answered. -/
def digestEnd (s : State) : State :=
  let s1 := if s.flag 0 F.SYS_DIGEST_STAT_BUSY then loadUnlike (digestSettled s) else s
  if s1.img.waits ∧ ¬ s1.flag 0 F.SYS_DIGEST_STAT_BUSY then rollReply s1 false else s1

/-- A roll call has waited 2 ms for a settled digest (R66). -/
def digestLate (s : State) : State := if s.img.waits then rollReply s true else s

/-- COHERENCE is reported with the epoch (R417, R488). -/
def reportCoherence (s : State) (inst : Nat) : State :=
  s.report 0xE inst K.COHERENCE ((s.rd R.SYS_EPOCH).toNat % 2 ^ 24 * 2 ^ 8)

/-- The crown judges an answer (R66, R488) and sends the result, also where it counts neither way (log entry 50); one that comes while
the crown's own digest is not settled counts neither way (DESIGN CHOICE, log entry 150). A brim whose IMAGE_ID, which identifies the full
image (R57), differs is told to make a full load of the crown's (R483; log entry 48). -/
def rollJudge (s : State) (p : CasPkt) : State :=
  let s1 := { s with cas := { s.cas with asked := s.cas.asked.erase p.src } }
  let d := s1.img.digest.toNat
  let same := p.word 0 == BitVec.ofNat 32 d && p.word 1 == BitVec.ofNat 32 (d / 2 ^ 32)
  let ms := clampNat 1 1000 (s1.fld casB F.CAS_CFG_ROLL_MS)
  let fresh : Bool := match s1.cas.epochAt with
    | none => false
    | some t => decide (s1.lineNs ≤ t + ms * 1000000)
  let s2 := if p.word 3 = s1.rd R.SYS_IMG_ID ∨ ¬ s1.img.loaded then s1 else casSend s1 10 p.src 2 false [0#32]
  let came := s2.setFld casB F.CAS_ROLL_STAT_MISS (setBits (s2.fld casB F.CAS_ROLL_STAT_MISS) p.src p.src 0)
  if bit (p.word 4).toNat 0 ∨ s2.flag 0 F.SYS_DIGEST_STAT_BUSY then rollTell came p.src 2
  else if same then rollTell (rollShow s2 p.src true false) p.src 1
  else if fresh then rollTell came p.src 2
  else rollTell (reportCoherence (rollShow s2 p.src false false) p.src) p.src 0

/-- The crown receives an answer to its roll call. -/
def rollAnswerTaken (s : State) : State := casGet s 7 1 (fun p s => if s.isCrown then rollJudge s p else s)

/-- A brim receives a result (R488, R489): a mismatch is COHERENCE, with its own position as instance (DESIGN CHOICE, log entry
50); ROLL_CLR matches in a row end hold; a result that counts neither way brings the crown's epoch alone. -/
def rollResultTaken (s : State) : State :=
  casGet s 7 2 (fun p s0 =>
    let s := crownEpoch s0 (p.word 1)
    if bit (p.word 0).toNat 0 then
      let n := s.cas.agreed + 1
      let s1 := { s with cas := { s.cas with agreed := n, matched := true } }
      if max 1 (s1.fld casB F.CAS_CFG_ROLL_CLR) ≤ n then { s1.setFld fcB F.FC_STATUS_HOLD 0 with time := { s1.time with left := false } } else s1
    else if bit (p.word 0).toNat 1 then s
    else reportCoherence { s with cas := { s.cas with agreed := 0 } } s.position)

/-! Remote access, sequencing, images (R490, R491, R402, R406). -/

/-- A brim performs a remote read as master 4 and answers (R490); one that waits for the boot scan stays at the head (R456). -/
def regReadTaken (s : State) : State :=
  casGet s 8 0 (fun p t =>
    let a := (p.word 0).toNat
    if busWaits t false a then s else
    let r := busGet .cascade a t
    if r.2.2 then casSend r.2.1 8 0 2 false [0#32, r.1]
    else casSend (t.accessReport .cascade a) 8 0 2 false [1#32, 0#32])

/-- A brim performs a remote write as master 4 and answers (R490); one that waits stays at the head (R445, R456), and one that begins
a system reset leaves no answer (R507). -/
def regWriteTaken (s : State) : State :=
  casGet s 8 1 (fun p t =>
    let a := (p.word 0).toNat
    if busWaits t true a then s else
    let r := busPut .cascade a (p.word 1) t
    if !r.2 then casSend (t.accessReport .cascade a) 8 0 2 false [1#32, p.word 1]
    else if r.1.pwr.core then casSend r.1 8 0 2 false [0#32, p.word 1]
    else r.1)

/-- The crown receives the response (R490). -/
def regResponseTaken (s : State) : State :=
  casGet s 8 2 (fun p s =>
    match s.cas.rmt with
    | none => s
    | some wr =>
      let s1 := if !wr ∧ p.word 0 = 0#32 then s.wr (casB + R.CAS_RMT_DATA) (p.word 1) else s
      rmtEnd s1 ((p.word 0).toNat % 16))

/-- 1 ms has passed without an answer (R490). -/
def rmtLate (s : State) : State := if s.cas.rmt.isSome then rmtEnd s 3 else s

/-- A brim receives the crown's power-up (R402, R482). -/
def seqUpTaken (s : State) : State := casGet s 9 0 (fun _ s => ttUp s)

/-- A brim receives the crown's power-down (R406, R486): its own follows after CHAIN_DN_DLY, unless the pin chain has
started it. -/
def seqDownTaken (s : State) : State :=
  casGet s 9 1 (fun _ s => if s.sup.seq = 3 ∨ s.sup.seq = 4 then s else { s with sup := { s.sup with chain := true } })

/-- The crown serves image words from the source of its own image (R491). -/
def imgReadTaken (s : State) : State :=
  casGet s 10 0 (fun p s =>
    let off := (p.word 0).toNat
    let n := clampNat 1 254 (p.word 1).toNat
    if s.img.loaded then
      casSend s 10 p.src 1 false (BitVec.ofNat 32 off :: imgWords s (s.fld 0 F.SYS_IMG_STATUS_SRC_USED) off n)
    else s)

/-- A loading brim receives image words (R491): those that follow what has come are taken, and the next are asked for. -/
def imgDataTaken (s : State) : State :=
  casGet s 10 1 (fun p s =>
    let st := s.fld 0 F.SYS_IMG_STATUS_STATE
    if s.img.src = 4 ∧ (st = 1 ∨ st = 2) ∧ (p.word 0).toNat = s.img.rxEnd then
      let bs := (p.body.drop 1).foldl (fun l w => l ++ wordBytes w) []
      let off := s.img.rxEnd
      let cells := ((List.range bs.length).zip bs).filter (fun c => c.2 != 0xFF#8)
      let s1 := { s with img := { s.img with rx := s.img.rx ++ cells.map (fun c => (off + c.1, c.2)), rxEnd := off + bs.length } }
      if rxWhole s1 then s1
      else imgAsk s1 s1.img.rxEnd (if 52 ≤ s1.img.rxEnd ∧ headCheck s1 4 = 0 then (imgHead s1 4).len else 0x400000)
    else s)

/-- A brim receives an IMAGE load command with its LIVE flag (R482, R491); while a load runs it has no effect. A full load is refused
where R56 refuses it; an image that is not what the command says is rejected in pass 1 (log entry 191). -/
def imgLoadTaken (s : State) : State :=
  casGet s 10 2 (fun p s =>
    let live := bit (p.word 0).toNat 0
    if loading s then s
    else if !live && s.img.loaded && outputsActive s then imgReject s 0x10
    else
      let s1 := loadFrom s 4
      { s1 with img := { s1.img with want := some live } })

/-! The cascade lanes (R480). -/

/-- A training attempt of a cascade lane fails (R99, R480). Its kinds of report name stage lanes only: none is made (DEDUCED,
log entry 51). -/
def casFail (s : State) (l : Nat) : State :=
  let n := (s.casLane l).fails + 1
  if 8 ≤ n then casStop s l 7
  else (casIdle s l).casMod l (fun x => { x with fails := n })

/-- The cascade position of the device at the other end of lane l (R416): the next one over CL1 or CL3, the one before over CL0 or CL2,
in a ring of the loaded image's devices (log entry 192). -/
def casPeer (s : State) (l : Nat) : Nat :=
  let n := max 1 s.cabinetSize
  if l % 2 = 1 then (if s.position + 1 < n then s.position + 1 else 0)
  else if s.position = 0 then n - 1 else s.position - 1

/-- A peer without version 1 (R480): HALTED and CAS_VERSION with the versions it offered. -/
def casNoVersion (s : State) (l offered : Nat) : State := (casStop s l 8).report 0xE (casPeer s l) K.CAS_VERSION offered

/-- A cascade lane reaches RUN (R480, R483): the crown enumerates; a brim reports to it, which tells the crown so (log entry 51). -/
def casToRun (s : State) (l : Nat) : State :=
  let s1 := setCasState (s.casMod l (fun x => { x with good := 0, bad := 0, fails := 0, told := false, ackIn := 15, part := none })) l 6
  let s2 := enumerateGo (casRingShow s1)
  if s2.isBrim then enumReport s2 else s2

/-- A good TRAIN_B frame in NEGOTIATE (R480): version 1 is chosen; W4 echoes the choice. One whose W0 or W1 does not begin as R480 says is
not such a frame. -/
def casNegotiate (s : State) (l : Nat) (u : UpFrame) : State :=
  let offered := bits (u.word 0) 15 8
  if bits (u.word 0) 31 16 ≠ 0x4341 ∨ bits (u.word 1) 31 16 ≠ 0x7192 then s.casMod l (fun x => { x with good := 0 })
  else if !(bit offered 0) then casNoVersion s l offered
  else
    let x := s.casLane l
    let ok := x.chosen == 1 && u.word 4 == 1
    let n := if ok then x.good + 1 else 0
    let s1 := s.casMod l (fun x =>
      { x with chosen := 1, good := n, peer := [BitVec.ofNat 32 (u.word 1), BitVec.ofNat 32 (u.word 2), BitVec.ofNat 32 (u.word 3)] })
    if 16 ≤ n then setCasState (s1.casMod l (fun x => { x with good := 0 })) l 5 else s1

/-- A frame time of a cascade lane in training (R99 without MEASURE, R480): READY wants DATA frames. -/
def casTrainFrame (s : State) (l : Nat) (u : Option UpFrame) : State :=
  let x := s.casLane l
  let st := casState s l
  let restart := s.casMod l (fun x => { x with good := 0 })
  match u with
  | none => restart
  | some u =>
    if st = 2 then
      (if u.typ = 2 then
        (if 32 ≤ x.good + 1 then setCasState restart l 3 else s.casMod l (fun x => { x with good := x.good + 1 }))
       else restart)
    else if st = 3 then (if u.typ = 3 then casNegotiate s l u else restart)
    else if u.typ = 0 then
      (if 64 ≤ x.good + 1 then casToRun s l else s.casMod l (fun x => { x with good := x.good + 1 }))
    else restart

/-- A brim forwards a packet away from the lane l it came in on (R484, R485): a PROBE's stay of 20 to 60 ns, a free value within
these bounds, is added to its CORR word, its last. -/
def casForward (s : State) (l : Nat) (p : CasPkt) : State :=
  if p.cls = 2 ∧ (p.sub = 0 ∨ p.sub = 1) then
    let x := freeBetween s (20 * 64) (60 * 64)
    let corr := p.body.getLastD 0#32 + BitVec.ofNat 32 x.1
    casLeave { p with body := p.body.dropLast ++ [corr] } x.2 (1 - l % 2)
  else casLeave p s (1 - l % 2)

/-- A packet that is for this device is received over lane l; a PROBE's arrival is kept with it (R485). -/
def casDeliver (s : State) (l : Nat) (p : CasPkt) : State :=
  let arrived := if p.cls = 2 then s.cas.probeAt ++ [(s.casLane l).headAt] else s.cas.probeAt
  { s with casRx := s.casRx ++ [p], cas := { s.cas with probeAt := arrived } }

/-- What a device learns of the paths from a packet that comes over lane l (R484): a brim from which side the crown reaches it, the crown
over which side it reaches the brim. -/
def casLearn (s : State) (l : Nat) (p : CasPkt) : State :=
  if s.isBrim then (if p.src = 0 then upstreamTo s (l % 2) else s)
  else if s.isCrown && !p.bcast then { s with cas := { s.cas with sides := sparseSet (fun _ => 1) s.cas.sides p.src (l % 2) } }
  else s

/-- A broadcast of this device has come round (R484): the ring is closed. -/
def ownRound (s : State) : State :=
  let s1 := { s with cas := { s.cas with round := true } }
  if s.isCrown && s.fld casB F.CAS_STATUS_RING == 1 then s1.setFld casB F.CAS_STATUS_RING 0 else s1

/-- Where a packet goes (R483, R484): a broadcast to this device and on, so that every device takes it; one for this device to it; any
other on, at a brim. -/
def casRoute (s : State) (l : Nat) (p : CasPkt) : State :=
  if p.cls = 1 ∧ p.dst ≠ 0 then casDeliver s l p
  else if p.bcast then casDeliver (casForward s l p) l p
  else if p.dst = s.position then casDeliver s l p
  else if s.isBrim then casForward s l p
  else s

/-- The lanes over which copies of a packet may come beside lane l, bit by bit (R484): the second ring's lane of the same side, for a
broadcast those of the other side too. -/
def copyLanes (s : State) (l : Nat) (p : CasPkt) : Nat :=
  (List.range 4).foldl (fun m k =>
    if casRing s k ∧ casState s k = 6 ∧ (p.bcast = true ∨ k % 2 = l % 2) then m ||| 2 ^ k else m) (2 ^ l)

/-- Two copies of one packet: a PROBE's CORR is its path's own. -/
def CasPkt.alike (p q : CasPkt) : Bool :=
  if p.cls = 2 then { p with body := p.body.dropLast } == { q with body := q.body.dropLast } else p == q

/-- A packet arrives over a lane: the first copy is kept, so that every device takes it once (R484, log entry 193). A broadcast of this
device that has come round stops here. -/
def casFirst (s0 : State) (l : Nat) (p : CasPkt) : State :=
  if p.bcast && p.src == s0.position then ownRound s0
  else
    let lanes := copyLanes s0 l p
    if lanes = 2 ^ l then casRoute (casLearn s0 l p) l p
    else
      match s0.cas.once.find? (fun e => e.2.alike p && !bit e.1 l) with
      | some e =>
        let m := e.1 ||| 2 ^ l
        let others := s0.cas.once.erase e
        { s0 with cas := { s0.cas with once := if m &&& lanes = lanes then others else (m, p) :: others } }
      | none =>
        let s := casLearn s0 l p
        casRoute { s with cas := { s.cas with once := ((2 ^ l, p) :: s.cas.once.filter (fun e => !e.2.alike p)).take 32 } } l p

/-- A whole packet has arrived (R90, R481): RESYNC is accepted whatever its PSEQ and resets the stream at once (R92), any other with
the expected one. A LINK packet concerns its hop: it is kept with its lane. A reserved class is discarded and counted (R482). -/
def casPacket (s : State) (l : Nat) (p : CasPkt) (pseq : Nat) : State :=
  let x := s.casLane l
  if p.cls = 11 ∧ p.sub = 0 ∧ pseq = 0 ∧ p.body = [] then casResync s l false
  else if pseq = (x.ackIn + 1) % 16 then
    let s1 := s.casMod l (fun x => { x with ackIn := pseq })
    if 12 ≤ p.cls then { s1 with cas := { s1.cas with reserved := s1.cas.reserved + 1 } }
    else if p.cls = 11 then casDeliver s1 l { p with dst := l }
    else casFirst s1 l p
  else s

/-- A word of the packet stream (R481): every HEAD word carries an ACKSEQ (R90). -/
def casWord (l : Nat) (s : State) (w : Nat) : State :=
  match (s.casLane l).part with
  | some (p, pseq, n) =>
    let p1 := { p with body := p.body ++ [BitVec.ofNat 32 w] }
    if n ≤ 1 then casPacket (s.casMod l (fun x => { x with part := none })) l p1 pseq
    else s.casMod l (fun x => { x with part := some (p1, pseq, n - 1) })
  | none =>
    let cls := bits w 31 28
    let p : CasPkt := CasPkt.mk cls (bits w 19 16) (bits w 15 12) (bit w 11) (bits w 10 8) []
    let s1 := s.casMod l (fun x => { x with tx := x.tx.acked (bits w 23 20), headAt := s.cabNs - 5 })
    if cls = 0 then s1
    else if w % 256 = 0 then casPacket s1 l p (bits w 27 24)
    else s1.casMod l (fun x => { x with part := some (p, bits w 27 24, w % 256) })

/-- The judgement of a cascade frame (R77, R480): CRC, TYPE, the zero bit, SEQ. -/
def judgeCas (prev : Option Nat) (frame : Option (BitVec 280)) : Option UpFrame :=
  match frame with
  | none => none
  | some fr =>
    let u := unframe fr
    let inSeq := match prev with
      | none => true
      | some p => u.seq == (p + 1) % 16
    if frameCrcOk fr && [0, 2, 3, 4, 6].contains u.typ && frField fr 3 1 == 0 && inSeq then some u else none

/-- The bytes still to send of the record in progress once n bytes of a queue have gone, of which the first left bytes end the
record before them: the LEN of each record that begins delimits it (R366, R492). -/
def recordLeft : Nat → List Byte → Nat → Nat → Nat
  | 0, _, left, _ => left
  | fuel + 1, q, left, n =>
    if n ≤ left then left - n else recordLeft fuel (q.drop left) (4 * leNat ((q.drop (left + 2)).take 2)) (n - left)

/-- The payload of an EXPORT frame with these data bytes: the header gives where a record begins, or 0xFF, and the number of
valid bytes (R492). -/
def exportPayload (left : Nat) (d : List Byte) : Nat :=
  let start := if left < d.length then left else 0xFF
  (start * 2 ^ 8 + d.length) * 2 ^ 240 + (d ++ List.replicate (30 - d.length) 0#8).foldl (fun n b => n * 2 ^ 8 + b.toNat) 0

/-- A frame time of a lane that exports: up to 30 bytes leave its queue in an EXPORT frame (R370, R492). -/
def exportFrame (s : State) (l : Nat) : State :=
  let q := sparseGet (fun _ => []) s.expQ l
  let d := q.take 30
  { s with expQ := sparseSet (fun _ => []) s.expQ l (q.drop 30) }.casMod l (fun x =>
    { x with out := some (casFrameOf 6 (casSeqNow s l) (exportPayload x.left d)), left := recordLeft 30 q x.left d.length })

/-- What a frame time brings on cascade lane l (R480, R481). -/
def casReceive (s : State) (l : Nat) (frame : Option (BitVec 280)) : State :=
  let st := casState s l
  if st < 2 ∨ 6 < st then s
  else
    let x := s.casLane l
    let u := judgeCas x.seq frame
    let seqNow := match u with
      | some u => some u.seq
      | none => if st = 2 then none else x.seq.map (fun q => (q + 1) % 16)
    let s1 := s.casMod l (fun x => { x with seq := seqNow })
    match u with
    | none =>
      let s2 := s1.wr (casB + R.CAS_CNT + 4 * l) (BitVec.ofNat 32 (min 0xFFFFFFFF ((s1.rd (casB + R.CAS_CNT + 4 * l)).toNat + 1)))
      let s3 := s2.casMod l (fun x => { x with bad := x.bad + 1, part := none })
      if st = 6 then s3 else casTrainFrame s3 l none
    | some u =>
      let s2 := s1.casMod l (fun x => { x with bad := 0 })
      if st ≠ 6 then casTrainFrame s2 l (some u)
      else if u.typ = 0 then ((List.range 8).map u.word).foldl (casWord l) s2
      else s2.casMod l (fun x => { x with part := none })

/-- A frame time ends on cascade lane l (R480, R481): what it has brought is taken, what this device has to send goes to its
lanes, and the next frame leaves. A lane that exports sends its next EXPORT frame and ignores its receiver (R492). -/
def casFrame (s : State) (l : Nat) (frame : Option (BitVec 280)) : State :=
  if exportLane s l then exportFrame s l else casTransmit (casDispatch (casReceive s l frame)) l

/-- LOSS_LIMIT consecutive bad frames have arrived in RUN (R480): CAS_LOSS, and the lane retrains. -/
def casLossDue (s : State) (l : Nat) : State :=
  if casState s l = 6 ∧ clampNat 16 399 (s.fld (casB + 4 * l) F.CAS_LANE01_LOSS_LIMIT) ≤ (s.casLane l).bad then
    casDown (s.report 0xE (casPeer s l) K.CAS_LOSS l) (fun s => casIdle s l)
  else s

/-- A LINK packet (R89, R482): RESYNC resets the packet stream of its lane (one that comes over a lane does so as it arrives,
casPacket), RETRAIN_REQ starts training. -/
def casLinkTaken (s : State) : State :=
  match casTake s (fun p => p.cls == 11) with
  | none => s
  | some (p, s1) =>
    if p.sub = 0 then casResync s1 p.dst false
    else if p.sub = 2 then casDown s1 (fun s => casIdle s p.dst)
    else s1

/-- The 10 µs of IDLE have passed on a cascade lane (R99). -/
def casIdleEnd (s : State) (l : Nat) : State := if casState s l = 1 then setCasState s l 2 else s
/-- The timer of a training state expires on a cascade lane (R99). -/
def casTrainTimeout (s : State) (l : Nat) : State :=
  if casState s l = 2 ∨ casState s l = 3 ∨ casState s l = 5 then casFail s l else s
/-- The 100 ms of BACKOFF have passed on a cascade lane (R99). -/
def casBackoffEnd (s : State) (l : Nat) : State := if casState s l = 7 then casIdle s l else s

end Sys2Proof.Machine
end

