-- ==== Sys2Proof/Machine/DmaRun.lean ====
section
/-! DEFINITION. The element moves of the DMA channels (R360, R362). -/
namespace Sys2Proof.Machine

/-- Read an element of sz bytes at a host address as master m: none where it is refused (R360, R479). -/
def elemRead (m : Master) (a sz : Nat) (s : State) : Option (List Byte × State) :=
  if inRecord a ∧ !(s.flag nvB F.NV_STATUS_READY) then (if passOk s m false a then some (List.replicate sz 0#8, s) else none)
  else if inRam a ∨ inSlate a ∨ inRecord a then (if passOk s m false a then some (s.getBytes a sz, s) else none)
  else if sz ≠ 4 then none
  else
    let r := busGet m a s
    if r.2.2 then some (wordBytes r.1, r.2.1) else none

/-- Write an element at a host address as master m: none where it is refused (R360, R440, R450, R479). -/
def elemWrite (m : Master) (a : Nat) (bs : List Byte) (s : State) : Option State :=
  let sz := bs.length
  if inRam a then (if passOk s m true a then some (s.setBytes a bs) else none)
  else if inSlate a then
    if passOk s m true a && !(slateProtected s (a - slateB)) then some (s.setBytes a bs) else none
  else if sz = 8 then
    let r := busPut m a (leWord (bs.getD 0 0#8) (bs.getD 1 0#8) (bs.getD 2 0#8) (bs.getD 3 0#8)) s
    if inRecord a ∧ r.2 then
      let t := busPut m (a + 4) (leWord (bs.getD 4 0#8) (bs.getD 5 0#8) (bs.getD 6 0#8) (bs.getD 7 0#8)) r.1
      if t.2 then some t.1 else none
    else none
  else if sz = 4 then
    let r := busPut m a (leWord (bs.getD 0 0#8) (bs.getD 1 0#8) (bs.getD 2 0#8) (bs.getD 3 0#8)) s
    if r.2 then some r.1 else none
  else none

/-- An element of channel c is refused at an address (R362): nothing of it happens, the channel stops with FAULT. -/
def dmaRefused (s : State) (c : Fin 32) (a : Nat) : State :=
  ((dmaFail s c.val 1).wr (dmaB c.val + R.DMA_FADDR) (BitVec.ofNat 32 a)).report 0xA c.val K.DMA_ACCESS a

/-- Channel c moves its next element (R360 to R362); an access that waits for the slate or the boot scan waits. One that begins a
system reset is the last: the channel is reset with the core domain (R507). -/
def dmaMove (s : State) (c : Fin 32) : State :=
  let x := s.dma c.val
  let sz := dmaSize x.desc
  if busWaits s false x.src || busWaits s true x.dst then s
  else
    match elemRead (.dma c) x.src sz s with
    | none => dmaRefused s c x.src
    | some (bs, s1) =>
      match elemWrite (.dma c) x.dst bs s1 with
      | none => dmaRefused s c x.dst
      | some s2 =>
        if !s2.pwr.core then s2 else
        let pri := s.fld (dmaB c.val) F.DMA_CTRL_PRI
        dmaMoved { s2 with dmaLast := sparseSet (fun _ => 32) s2.dmaLast pri c.val } c.val

/-- The DMA unit moves one element (R360). -/
def dmaElement (s : State) : State :=
  match dmaTurn s with
  | none => s
  | some c => if h : c < 32 then dmaMove s ⟨c, h⟩ else s

end Sys2Proof.Machine
end

