-- ==== Sys2Proof/Machine/EngIo.lean ====
section
/-! DEFINITION. An engine's I/O space and bit space (R310, R311, R350 to R353), and the instructions that reach them (R319,
R320). -/
namespace Sys2Proof.Machine

/-! I/O space. -/

/-- The host address that word io of engine e's I/O space reaches, and whether the engine owns it, so that no hall pass is
asked; none where the access is not allowed (R350). -/
def ioMap (s : State) (e : Fin 96) (io : Nat) : Option (Nat × Bool) :=
  let own := ownFelts s e.val
  let aper := engB e.val
  if io < 0x80 then some (engB e.val + 4 * io, true)
  else if io < 0x100 then none
  else if io < 0x140 then some (timeB + 4 * (io - 0x100), false)
  else if io < 0x200 then none
  else if io < 0x400 then
    let p := s.fld aper F.ENG_APER_PHASE
    if own.any (fun f => (feltPhases s f).contains p) then some (phsB p + 4 * (io - 0x200), true) else none
  else if io < 0x600 then
    let n := s.fld aper F.ENG_APER_PORT
    match portFelt? s n with
    | none => none
    | some f => if own.contains f then some (pdB n + 4 * (io - 0x400), true) else none
  else if io < 0x640 then
    let g := s.fld aper F.ENG_APER_GAUGE
    if g < 96 then (if own.contains g then some (gauB g + 4 * (io - 0x600), true) else none)
    else if g < 100 then some (gauB g + 4 * (io - 0x600), false) else none
  else if io < 0x1000 then none
  else if io < 0x2000 then some (0x40000 + 4 * (io - 0x1000), false)
  else if io < 0x4000 then some (evtB + 4 * (io - 0x2000), false)
  else if io < 0x10000 then
    let f := (io - 0x4000) / 0x200
    if own.contains f then some (feltB f + 4 * ((io - 0x4000) % 0x200), true) else none
  else none

/-- The mailbox register that an own I/O word names: the mailbox, and whether it is the OUT register (R353). -/
def ioMailbox (io : Nat) : Option (Nat × Bool) :=
  if 0x70 ≤ io ∧ io < 0x78 then some ((io - 0x70) / 2, io % 2 == 1) else none

/-- An engine reads a word of its I/O space; none: ACCESS. -/
def ioRead (s : State) (e : Fin 96) (io : Nat) : Option (Word × State) :=
  match ioMailbox io with
  | some (k, out) => some (if out then (0#32, s) else mbxPop s e.val k)
  | none =>
    match ioMap s e io with
    | none => none
    | some (a, own) =>
      match regRow a with
      | none => none
      | some r => if own || passOk s (.engine e) false a then some (regRead (.engine e) a r s) else none

/-- No hall pass is asked of an engine's write to a word that it owns; of an ENG_MPU register it is, as of every master, until
LOCK leaves the word to the fault context alone (R350, R357). -/
def ioWriteOwn (s : State) (e : Fin 96) (io : Nat) (own : Bool) : Bool :=
  own && (!decide (R.ENG_MPU_BASE ≤ 4 * io ∧ 4 * io ≤ R.ENG_MPU_CTRL) || s.flag (engB e.val) F.ENG_MPU_CTRL_LOCK)

/-- An engine writes a word of its I/O space; none: ACCESS. -/
def ioWrite (s : State) (e : Fin 96) (io : Nat) (v : Word) : Option State :=
  match ioMailbox io with
  | some (k, out) => some (if out then mbxPush s e.val (4 + k) v else s)
  | none =>
    match ioMap s e io with
    | none => none
    | some (a, own) =>
      let r := regWrite (.engine e) (ioWriteOwn s e io own) a v s
      if r.2 then some r.1 else none

/-- The I/O word that IN and OUT address (R319). -/
def ioAddr (x : EngCtx) (ra : BitVec 5) (imm : BitVec 16) : Nat := ((x.reg ra).toNat + imm.toNat) % 65536

/-- IN (R319): FADDR is the I/O word (R337). -/
def engIn (s : State) (e : Fin 96) (rd ra : BitVec 5) (imm : BitVec 16) : State :=
  engIssue s e.val (fun s c =>
    let io := ioAddr (s.ctx e.val c) ra imm
    match ioRead s e io with
    | none => .fault 4 io
    | some (w, s1) => .done (s1.setCtx e.val c ((s1.ctx e.val c).setReg rd w)))

/-- OUT (R319). -/
def engOut (s : State) (e : Fin 96) (rs ra : BitVec 5) (imm : BitVec 16) : State :=
  engIssue s e.val (fun s c =>
    let x := s.ctx e.val c
    let io := ioAddr x ra imm
    match ioWrite s e io (x.reg rs) with
    | none => .fault 4 io
    | some s1 => .done s1)

/-! Bit space (R311, R351, R352). -/

/-- Some enabled event of a pair of event and enable registers stands. -/
def anyEvent (s : State) (evt en : Nat) : Bool := (s.rd evt &&& s.rd en) != 0#32

/-- An engine reads a bit of its bit space; none: ACCESS. -/
def bitRead (s : State) (e b : Nat) : Option Bool :=
  if b < 0x400 then some ((s.engine e).bits.contains b)
  else if b < 0x580 then
    let f := (b - 0x400) / 4
    if !(ownFelts s e).contains f then none
    else
      let k := (b - 0x400) % 4
      some (if k = 0 then s.flag (feltB f) F.FELT_STATUS_IN_REG
        else if k = 1 then anyEvent s (feltB f + R.FELT_EVT) (feltB f + R.FELT_EVT_EN)
        else if k = 2 then s.flag (feltB f) F.FELT_STATUS_ALLOW_LIM
        else s.flag (feltB f) F.FELT_CTRL_EN)
  else if b < 0x640 then
    let p := b - 0x580
    if (ownFelts s e).any (fun f => (feltPhases s f).contains p) then some (phsLatched s p || phsTripped s p) else none
  else if b < 0x700 then
    let n := (b - 0x640) / 4
    match portFelt? s n with
    | none => none
    | some f =>
      if !(ownFelts s e).contains f then none
      else
        let k := (b - 0x640) % 4
        some (if k = 0 then attached s n
          else if k = 1 then fget (pdStatusWord s n) F.PD_STATUS_PD == 2
          else if k = 2 then anyEvent s (pdB n + R.PD_EVT) (pdB n + R.PD_EVT_EN)
          else s.flag (pdB n) F.PD_CTRL_EN)
  else if b < 0x800 then some false
  else if b < 0xC00 then some (trigBit s e b)
  else none

/-- Write the EN bit of a control register as a write of that register with its other fields as they stand (R351). -/
def writeEn (s : State) (e : Fin 96) (a : Nat) (v : Bool) : Option State :=
  let w := BitVec.ofNat 32 (setBits (s.rd a).toNat 0 0 (b2n v))
  let r := regWrite (.engine e) true a w s
  if r.2 then some r.1 else none

/-- An engine writes a bit of its bit space; none: ACCESS. A 1 into a task input's flag is an event that passes no gate, a 0
clears a trigger and takes one from a count (R387). -/
def bitWrite (s : State) (e : Fin 96) (b : Nat) (v : Bool) : Option State :=
  let x := s.engine e.val
  if b < 0x400 then
    some (s.setEngine e.val { x with bits := if v then setAdd x.bits b else setDel x.bits b })
  else if b < 0x580 then
    let f := (b - 0x400) / 4
    if (ownFelts s e.val).contains f ∧ (b - 0x400) % 4 = 3 then writeEn s e (feltB f + R.FELT_CTRL) v else none
  else if b < 0x640 then none
  else if b < 0x700 then
    let n := (b - 0x640) / 4
    match portFelt? s n with
    | none => none
    | some f =>
      if (ownFelts s e.val).contains f ∧ (b - 0x640) % 4 = 3 then writeEn s e (pdB n + R.PD_CTRL) v else none
  else if b < 0x800 then none
  else if b < 0x900 then
    let i := b - 0x800
    let base := evtB + 16 * i
    let kind := s.fld base F.EVT_TIN_CFG_KIND
    if v then some (tinEvents s i 1 kind false)
    else if kind = 1 then some (s.setFld base F.EVT_TIN_CNT_COUNT (s.fld base F.EVT_TIN_CNT_COUNT - 1))
    else some { s with tinFlags := setDel s.tinFlags i }
  else if b < 0x908 then none
  else if b < 0x910 then some (s.setEngine e.val { x with sw := setBits x.sw (b - 0x908) (b - 0x908) (b2n v) })
  else if b < 0x930 then some { s with dmaDone := if v then setAdd s.dmaDone (b - 0x910) else setDel s.dmaDone (b - 0x910) }
  else none

/-- The bit that BTST, BSET, BCLR, BTGL and BWR address (R319). -/
def bitAddr (x : EngCtx) (ra : BitVec 5) (imm : BitVec 12) : Nat := ((x.reg ra).toNat + imm.toNat) % 4096

/-- BTST (R319). -/
def engBtst (s : State) (e : Fin 96) (ra rd : BitVec 5) (imm : BitVec 12) : State :=
  engIssue s e.val (fun s c =>
    let x := s.ctx e.val c
    let b := bitAddr x ra imm
    match bitRead s e.val b with
    | none => .fault 4 b
    | some v => .done (s.setCtx e.val c (x.setReg rd (boolWord v))))

/-- BSET, BCLR, BTGL and BWR (R319): f gives the new bit from the context and the bit as it stands. -/
def engBit (s : State) (e : Fin 96) (ra : BitVec 5) (imm : BitVec 12) (f : EngCtx → Bool → Bool) : State :=
  engIssue s e.val (fun s c =>
    let x := s.ctx e.val c
    let b := bitAddr x ra imm
    match bitRead s e.val b with
    | none => .fault 4 b
    | some v =>
      match bitWrite s e b (f x v) with
      | none => .fault 4 b
      | some s1 => .done s1)

/-- BB (R320). -/
def engBb (s : State) (e : Fin 96) (badr : BitVec 12) (sense : Bool) (off : BitVec 13) : State :=
  engIssue s e.val (fun s c =>
    match bitRead s e.val badr.toNat with
    | none => .fault 4 badr.toNat
    | some v =>
      let x := s.ctx e.val c
      .done (s.setCtx e.val c (if v = sense then x.branch off else x)))

end Sys2Proof.Machine
end

