-- ==== Sys2Proof/Machine/PdTime.lean ====
section
/-! DEFINITION. The PD port: what its running timers bring, and the messages that have a command of their own (R248, R250,
R253 to R261, R265, R266). -/
namespace Sys2Proof.Machine

/-- The Request or EPR_Request at the head of a source port's messages is taken (R253). -/
def requestTake (s : State) (n : Nat) : State :=
  match inboxTake s n (fun sop m => sop == 0 && [34, 41].contains (pdKey m) && isSrc s n) with
  | none => s
  | some (_, m, s1) => pdRequest s1 n m

/-- A control message at the head that has a command of its own is taken: key is its type. -/
def controlTake (s : State) (n key : Nat) (act : State → Nat → State) : State :=
  match inboxTake s n (fun sop m => sop == 0 && pdKey m == key) with
  | none => s
  | some (_, _, s1) => act s1 n

/-- The EPR_KeepAlive at the head is taken (R256): an Extended_Control message of type 3. -/
def keepAliveTake (s : State) (n : Nat) : State :=
  match inboxTake s n (fun sop m => sop == 0 && pdKey m == 80 && leNat ((m.drop 4).take 1) == 3) with
  | none => s
  | some (_, _, s1) => eprKeepAlive s1 n

/-- VBUS has not returned to a sink in time after a Hard Reset (R265). -/
def sinkVbusReturn (s : State) (n : Nat) : State :=
  if isSnk s n ∧ ((s.port n).hr = 5 ∨ (s.port n).hr = 6) then portError s n 6 false else s

/-- A step of a PR_Swap has run past its time (R259). -/
def swapTimeout (s : State) (n : Nat) : State :=
  if 2 ≤ (s.port n).swap ∧ (s.port n).swap ≤ 5 then portError s n 6 false else s

/-- tSwapSourceStart has passed (R259, step 4): Source_Capabilities, those the policy last sent, or default power. -/
def swapSourceStart (s : State) (n : Nat) : State :=
  if (s.port n).swap = 6 then
    let s1 := s.portMod n (fun x => { x with swap := 0 })
    if (s.port n).capsMsg.isNone then portSay s1 n (defaultCaps s1 n) else resendCaps s1 n
  else s

/-- tTypeCSendSourceCap has passed at a source without a contract (R250): the capabilities are sent again, up to 50 times in
all. -/
def sendSourceCap (s : State) (n : Nat) : State :=
  if isSrc s n ∧ explicitNow s n = false ∧ (s.port n).capsN < 50 then resendCaps s n else s

/-- The timer of a chunked transfer has expired (R250): the transfer is abandoned; a message of the policy that was being
sent ends as one without GoodCRC. -/
def chunkTimeout (s : State) (n : Nat) : State :=
  match (s.port n).chunkTx with
  | some (t, _) =>
    let s1 := s.portMod n (fun x => { x with chunkTx := none, chunkRx := none })
    portPump (if t.policy then txResult s1 n 1 else s1) n
  | none => s.portMod n (fun x => { x with chunkRx := none })

/-- tPPSTimeout has passed without a Request at a source in a PPS contract (R256). -/
def ppsTimeout (s : State) (n : Nat) : State :=
  if isSrc s n ∧ dealPps s n ∧ explicitNow s n then hardReset s n true else s

/-- 8 s have passed since the last Request of a sink in a PPS contract (R256). -/
def ppsResend (s : State) (n : Nat) : State :=
  if isSnk s n ∧ dealPps s n ∧ explicitNow s n then requestAgain s n else s

/-- tSinkRequest has passed since a Wait (R255). -/
def requestResend (s : State) (n : Nat) : State :=
  if isSnk s n ∧ (s.port n).waited then requestAgain s n else s

/-- tSinkEPRKeepAlive has passed at a sink in EPR mode (R256). -/
def keepAliveSend (s : State) (n : Nat) : State :=
  if isSnk s n ∧ s.flag (pdB n) F.PD_STATUS_EPR then keepAliveNow s n else s

/-- tSourceEPRKeepAlive has passed without EPR_KeepAlive at a source in EPR mode (R256). -/
def keepAliveTimeout (s : State) (n : Nat) : State :=
  if isSrc s n ∧ s.flag (pdB n) F.PD_STATUS_EPR then hardReset s n true else s

end Sys2Proof.Machine
end

