-- ==== Sys2Proof/Machine/FeltCmd.lean ====
section
/-! DEFINITION. The felt: what its running timers bring (R130, R151 to R171). -/
namespace Sys2Proof.Machine

/-- The SURGE_ON windows have passed (R130, step 2). -/
def surgeOver (s : State) (f : Nat) : State := s.setFelt f { s.felt f with surge := false }

/-- The HOLDOFF cycles have passed (R130, step 5). -/
def surgeFree (s : State) (f : Nat) : State := s.setFelt f { s.felt f with surgeHold := false }

/-- A strobe of the BLK pins (R153): early says that it came within the dead time after the one before, and it is ignored. -/
def blkStrobed (s : State) (at10 at20 : Nat) (early : Bool) : State :=
  if early then s else (List.range 96).foldl (fun s f => strobeFelt s at10 at20 f) s

/-- The felt runs by its start or its set, not by a stop profile (R159, R161). -/
def feltRuns (s : State) (f : Nat) : Bool := feltState s f == 5 || feltState s f == 6

/-- The in-regulation conditions have held for FELT_PG.TIME (R152). -/
def inRegNow (s : State) (f : Nat) : State :=
  let b := feltB f
  if feltRuns s f ∧ s.flag b F.FELT_STATUS_IN_REG = false ∧ noSlew s f ∧ s.fld b F.FELT_STATUS_ALLOW_LIM = 0 ∧ inBand s f then
    feltEvent ((s.setFld b F.FELT_STATUS_IN_REG 1).setFelt f { s.felt f with regSeen := true }) f 0
  else s

/-- The main quantity has been out of its band for FELT_PG.TIME with no slew (R152). -/
def outRegNow (s : State) (f : Nat) : State :=
  let b := feltB f
  if s.flag b F.FELT_STATUS_IN_REG ∧ noSlew s f ∧ ¬ inBand s f then feltEvent (s.setFld b F.FELT_STATUS_IN_REG 0) f 1
  else s

/-- A battery mode ends (R151). -/
def battStop (s : State) (f : Nat) : State := feltStopClear (feltEvent s f 8) f 7

/-- A battery end condition has held for its time (R151). The taper is a fall-back point at 100 %; the voltage condition is
one at 0 % where |I| of the set is at most GAU_FALLBACK_I (R292). -/
def battDone (s : State) (f : Nat) : State :=
  if feltRuns s f = false then s
  else if battTaper s f then gauFallback (battStop s f) f true
  else if battEmpty s f then
    let i := match (s.felt f).set with
      | some t => t.i
      | none => 0#32
    if fLe (fAbs i) (gauW s f R.GAU_FALLBACK_I) then gauFallback (battStop s f) f false else battStop s f
  else s

/-- The four levels of gauge g are judged (R293); a final level that rises ends the battery mode of its felt (R151). -/
def levelJudged (s : State) (g : Nat) : State :=
  let rose := fun (s1 : State) (F1 : Fld) => s.fld (gauB g) F1 == 0 && s1.flag (gauB g) F1
  let s1 := levelJudge s g
  if gauIsFelt g ∧ feltRuns s1 g ∧ feltSwitching s1 g ∧
      ((feltMode s1 g = 6 ∧ rose s1 (levelFld 3)) ∨ (feltMode s1 g = 7 ∧ rose s1 (levelFld 1))) then battStop s1 g
  else s1

/-- A follower's leader is lost (R157). -/
def trackLostNow (s : State) (f : Nat) : State :=
  if feltRuns s f ∧ leaderLost s f then feltStopClear (feltEvent s f 7) f 8 else s

/-- The start ramp had reached its target at the last update (R159): the ramp value the set's voltage, or the i_ref that the
limits let pass (DEDUCED, log entry 52). -/
def rampReached (s : State) (f : Nat) : Bool := (s.felt f).rampHit

/-- The start ramp ends (R159, step 7): the felt runs under R126. -/
def startRampDone (s : State) (f : Nat) : State :=
  if feltState s f = 5 ∧ (s.felt f).ramp ≠ 0 ∧ rampReached s f then
    setFeltState (s.setFelt f { s.felt f with ramp := 0 }) f 6
  else s

/-- The stop profile has reached its end (R161). -/
def stopDone (s : State) (f : Nat) : State := if feltState s f = 7 ∧ stopReached s f then stopEnd s f else s

/-- FELT_STOP.TMO has passed with the stop profile running (R161). -/
def stopTimeout (s : State) (f : Nat) : State := if feltState s f = 7 then stopEnd (feltEvent s f 13) f else s

/-- A microsecond of the felt ends: the guards of its ports judge its mean current (R263), and the breaker its own (R164). -/
def microEnds (s : State) (f : Nat) : State :=
  let s1 := (portsOf s f).foldl (fun s n => portMicro s n f) s
  breakerTickNow (s1.setFelt f { s1.felt f with sumsUs := [] }) f

/-- T_RETRY has passed after a breaker trip (R166). -/
def breakerRetried (s : State) (f : Nat) : State :=
  if feltState s f = 8 then feltBegin (s.bump (feltB f) F.FELT_STATUS_RETRIES 1) f true else s

/-- IN_REG has held for FELT_BRK2.CLR seconds (R166). -/
def breakerForgets (s : State) (f : Nat) : State :=
  if s.flag (feltB f) F.FELT_STATUS_IN_REG then s.setFld (feltB f) F.FELT_STATUS_RETRIES 0 else s

/-- A lane has not confirmed a latch clear within 1 ms (R167, step 5). -/
def ovClearLate (s : State) (f : Nat) : State :=
  if (s.felt f).clearing = [] then s
  else (s.setFelt f { s.felt f with clearing := [] }).setFld (feltB f) F.FELT_RESULT_CODE 13

/-- |i| lies above FELT_I_RANGE / 20 (R169, R170). -/
def senseCurrent (s : State) (f : Nat) (i : Word) : Bool := fLt (fDiv (feltW s f R.FELT_I_RANGE) (fOfNat 20)) (fAbs i)

/-- The lead resistance of a start is learned once IN_REG has been set (R169): dv is the mean of v_force − v_sense and iMean that of i_avg. -/
def leadLearned (s : State) (f : Nat) (dv iMean : Word) : State :=
  if feltRemote s f ∧ feltSwitching s f ∧ (s.felt f).learned = false ∧ (s.felt f).regSeen ∧ senseCurrent s f iMean then
    let r := fDiv dv iMean
    let s1 := (s.setFelt f { s.felt f with learned := true }).wr (feltB f + R.FELT_R_LEAD) r
    let m := feltW s f R.FELT_R_MIN
    if fLt 0#32 m ∧ fLt r m then senseOpenNow s1 f else s1
  else s

/-- The sense drop has been too small for 10 ms (R170), judged once more on the last measured values. -/
def senseJudged (s : State) (f : Nat) : State :=
  let i := (s.felt f).iAvg
  let drop := fAbs (fSub (feltW s f R.FELT_MEAS_VFORCE) (feltW s f R.FELT_MEAS_VFB))
  if feltRemote s f ∧ (s.felt f).learned ∧ senseCurrent s f i ∧
      fLt drop (fDiv (fAbs (fMul (feltW s f R.FELT_R_LEAD) i)) (fOfNat 4)) then senseOpenNow s f
  else s

/-- A felt update (R139 to R150), after which a PD port of the felt may send the PS_RDY it holds (R254). -/
def feltUpdated (s : State) (f : Nat) : State := (portsOf s f).foldl psRdyRelease (feltUpdate s f)

end Sys2Proof.Machine
end

