-- ==== Sys2Proof/Machine/HostIf.lean ====
section
/-! DEFINITION. The quad SPI target and the two-wire mailbox (R464 to R476). -/
namespace Sys2Proof.Machine

/-! The bytes of frames (R464, R465, R471, R472). -/

/-- Words as they are sent, most significant byte first (R464, R472). -/
def sentBytes (ws : List Word) : List Byte := ws.flatMap (fun w => (wordBytes w).reverse)

/-- The nibbles of bytes on SPI_IO3 to SPI_IO0, two clocks a byte, the high nibble first (R464). -/
def spiNibbles (bs : List Byte) : List (BitVec 4) := bs.flatMap (fun b => [b.extractLsb' 4 4, b.extractLsb' 0 4])

/-- The request of an SPI frame without its CRC (R465): CMD, ADDR, LEN, DATA. -/
def spiRequest (cmd a n : Nat) (data : List Word) : List Byte := BitVec.ofNat 8 cmd :: (natBE 4 a ++ natBE 2 n ++ sentBytes data)

/-- SYNC to STATUS of the last SPI response (R465). -/
def spiAnswer (s : State) : List Byte := 0x5A#8 :: (sentBytes s.host.spiData ++ [BitVec.ofNat 8 s.host.spiStatus])

/-- What the target drives after the two turnaround clocks, in which nobody drives (R464, R465): as many WAIT bytes as it takes, SYNC,
the data, STATUS and the CRC-16. -/
def spiResponse (s : State) (waits : Nat) : List (BitVec 4) :=
  spiNibbles (List.replicate waits 0xFF#8 ++ spiAnswer s ++ natBE 2 (crc16 (spiAnswer s)))

/-- The own 7-bit address of the two-wire target (R470): the balls TW_ADDR as sampled (log entry 22). -/
def twOwn : Nat := 0x58 + Config.twAddr.toNat

/-- A frame of the mailbox after its address byte (R471): LEN, the payload, the PEC over address byte, LEN and payload. -/
def twBytes (addrByte : Nat) (payload : List Byte) : List Byte :=
  let body := BitVec.ofNat 8 payload.length :: payload
  body ++ [crc8 (BitVec.ofNat 8 addrByte :: body)]

/-- An inbound payload (R472): CMD, ADDR, N, data bytes. -/
def twRequest (cmd a n : Nat) (data : List Word) : List Byte :=
  BitVec.ofNat 8 cmd :: (natBE 4 a ++ [BitVec.ofNat 8 n] ++ sentBytes data)

/-- The bytes of the last read transaction after its address byte: with no response a LEN of 0 and its PEC (R471, R472). -/
def twReadBytes (s : State) : List Byte := twBytes (2 * twOwn + 1) s.host.twSent

/-- The check that a frame's host sends (R465, R471): the CRC-16 over CMD to DATA, or the PEC. -/
def frameCheck (h : HostItf) (cmd a n : Nat) (data : List Word) : BitVec 16 :=
  match h with
  | .spi => BitVec.ofNat 16 (crc16 (spiRequest cmd a n data))
  | .twoWire => ((twBytes (2 * twOwn) (twRequest cmd a n data)).getLastD 0#8).setWidth 16

/-- The notice to the host at HP_NOTIFY.ADDR (R475): its address byte, the own address shifted left by one, the cause byte, the PEC over
these three. -/
def noticeBytes (s : State) : List Byte :=
  let bs := [BitVec.ofNat 8 (2 * s.fld 0x20000 F.HP_NOTIFY_ADDR), BitVec.ofNat 8 (2 * twOwn), BitVec.ofNat 8 s.host.notice]
  bs ++ [crc8 bs]

/-- The command codes of R466. -/
def cmdRead : Nat := 0x03
/-- READ_FIX. -/
def cmdReadFix : Nat := 0x0B
/-- WRITE. -/
def cmdWrite : Nat := 0x02
/-- WRITE_FIX. -/
def cmdWriteFix : Nat := 0x0A
/-- ID. -/
def cmdId : Nat := 0x9F

/-- Read n words, from a upwards or with fix n times from a (R466, R468): a refused word reads zero. The words, the state,
and whether some word was refused. -/
def frameRead (m : Master) (fix : Bool) : Nat → Nat → State → List Word × State × Bool
  | 0, _, s => ([], s, false)
  | n + 1, a, s =>
    let r := busGet m a s
    let s1 := if r.2.2 then r.2.1 else s.accessReport m a
    let t := frameRead m fix n (if fix then a else (a + 4) % 2 ^ 32) s1
    (r.1 :: t.1, t.2.1, !r.2.2 || t.2.2)

/-- Write words, from a upwards or with fix all to a (R466, R468): a refused word is dropped, those after it are applied. A word
that begins a system reset is the last: the core domain is held in reset from then on (R507). -/
def frameWrite (m : Master) (fix : Bool) : List Word → Nat → State → State × Bool
  | [], _, s => (s, false)
  | w :: l, a, s =>
    let r := busPut m a w s
    let s1 := if r.2 then r.1 else s.accessReport m a
    if s1.pwr.core then
      let t := frameWrite m fix l (if fix then a else (a + 4) % 2 ^ 32) s1
      (t.1, !r.2 || t.2)
    else (s1, !r.2)

/-- Some word of a frame reaches what is held (R445, R456, R467). -/
def frameBusy (s : State) (write fix : Bool) (a n : Nat) : Bool :=
  if fix then busWaits s write a else (List.range n).any (fun i => busWaits s write ((a + 4 * i) % 2 ^ 32))

/-- The word of ID (R466). -/
def idWord (s : State) : Word := BitVec.ofNat 32 (s.fld 0 F.SYS_ID_PART * 2 ^ 16 + 0x100 + s.fld 0 F.SYS_ID_REV)

/-- The STATUS byte (R467) of an outcome: BUSY, REFUSED, CRC, BAD, with the balls as they stand. -/
def statusByte (s : State) (busy refused crc bad : Bool) : Nat :=
  0x40 + b2n busy * 32 + b2n refused * 16 + b2n crc * 8 + b2n bad * 4 + b2n (alertLow s) * 2 + b2n (faultLow s)

/-- The execution of a frame whose CRC has checked (R466 to R468): STATUS, the data words, the state. most is the greatest
number of words of the interface. -/
def frameExec (m : Master) (most cmd a n : Nat) (data : List Word) (s : State) : Nat × List Word × State :=
  let reads := cmd == cmdRead || cmd == cmdReadFix || cmd == cmdId
  let writes := cmd == cmdWrite || cmd == cmdWriteFix
  let fix := cmd == cmdReadFix || cmd == cmdWriteFix
  let zero := if reads then List.replicate n 0#32 else []
  if !(reads || writes) || decide (n = 0) || decide (most < n) || decide (a % 4 ≠ 0) || (cmd == cmdId && decide (n ≠ 1)) then
    (statusByte s false false false true, zero, s)
  else if cmd = cmdId then (statusByte s false false false false, [idWord s], s)
  else if frameBusy s writes fix a n then (statusByte s true false false false, zero, s)
  else if reads then
    let r := frameRead m fix n a s
    (statusByte r.2.1 false r.2.2 false false, r.1, r.2.1)
  else
    let r := frameWrite m fix data a s
    (statusByte r.1 false r.2 false false, [], r.1)

/-- An SPI frame (R465 to R468): with a bad CRC nothing is done, HOST_CRC is reported with the command byte. A frame that begins a
system reset leaves no response (R507). -/
def spiFrame (s0 : State) (cmd a n : Nat) (data : List Word) (crcOk : Bool) : State :=
  let s := wakeUp s0
  if crcOk then
    let r := frameExec .spi 1024 cmd a n data s
    if r.2.2.pwr.core then { r.2.2 with host := { r.2.2.host with spiStatus := r.1, spiData := r.2.1 } } else r.2.2
  else
    let s1 := (s.bump hostB F.HOST_SPI_STAT_CRC_ERR 1).report 0xD 0 K.HOST_CRC cmd
    let zero := if cmd = cmdRead ∨ cmd = cmdReadFix ∨ cmd = cmdId then List.replicate n 0#32 else []
    { s1 with host := { s1.host with spiStatus := statusByte s1 false false true false, spiData := zero } }

/-- The two-wire block executes its oldest frame while an outbound slot is free (R473): the response is STATUS, CMD and the
data, most significant byte first. -/
def twStep (s : State) : State :=
  match s.host.twIn with
  | [] => s
  | q :: t =>
    if 4 ≤ s.host.twOut.length then s
    else
      let r := frameExec .twoWire 60 q.cmd q.addr q.n q.data { s with host := { s.host with twIn := t } }
      let s1 := r.2.2
      let out := [BitVec.ofNat 8 r.1, BitVec.ofNat 8 q.cmd] ++ sentBytes (r.2.1.take 60)
      if s1.pwr.core then notify { s1 with host := { s1.host with twOut := s1.host.twOut ++ [out] } } 0 F.HP_NOTIFY_N_RSP else s1

/-- A transaction of the host begins: the device wakes (R474), and lines that carry one are stuck no longer (R476). -/
def twBegin (s : State) : State := twFree (wakeUp s)

/-- A two-wire frame (R471 to R473): with a wrong PEC it is discarded and reported; with both places full, or the block in reset
(R476), its address is not acknowledged. -/
def twFrame (s0 : State) (cmd a n : Nat) (data : List Word) (pecOk : Bool) : State :=
  let s := twBegin s0
  if s.host.rstLow then s
  else if 2 ≤ s.host.twIn.length then s
  else if pecOk then twStep (twStep { s with host := { s.host with twIn := s.host.twIn ++ [⟨cmd, a, n, data⟩] } })
  else (s.bump hostB F.HOST_TW_STAT_PEC_ERR 1).report 0xD 1 K.HOST_CRC cmd

/-- A frame on an interface, with its check as received. -/
def hostFrame (s : State) (h : HostItf) (cmd a n : Nat) (data : List Word) (check : BitVec 16) : State :=
  let ok := check == frameCheck h cmd a n data
  match h with
  | .spi => spiFrame s cmd a n data ok
  | .twoWire => twFrame s cmd a n data ok

/-- SPI_CS_N rises early (R469): of a read, the effects of the words that have left are committed, nothing else. -/
def spiAbort (s0 : State) (done : Option (Bool × Word × BitVec 16)) : State :=
  let s := (wakeUp s0).bump hostB F.HOST_SPI_STAT_ABORTS 1
  match done with
  | none => s
  | some (fix, a, n) =>
    if a.toNat % 4 = 0 ∧ frameBusy s false fix a.toNat n.toNat = false then
      let r := frameRead .spi fix n.toNat a.toNat s
      { r.2.1 with host := { r.2.1.host with spiData := r.1 } }
    else s

/-- A two-wire read (R472, R473): the head response is clocked out; once its PEC has gone it leaves the queue and a waiting
frame may be executed. -/
def twRead (s0 : State) (whole : Bool) : State :=
  let s := twBegin s0
  if s.host.rstLow then s else
  match s.host.twOut with
  | [] => { s with host := { s.host with twSent := [] } }
  | p :: t => if whole then twStep { s with host := { s.host with twSent := p, twOut := t } } else s

/-- The pending notice is sent (R475), or its last try fails and it is counted. -/
def twNotice (s : State) (ack : Bool) : State :=
  if s.host.notice = 0 ∨ s.host.rstLow then s
  else
    let s1 := { s with host := { s.host with notice := 0 } }
    if ack then { s1 with host := { s1.host with noticeSent := noticeBytes s } } else s1.bump hostB F.HOST_TW_STAT_NOTICE_LOST 1

/-- SCL has been low for 25 ms (R476): the block is reset, partial frames go, queued responses stay. A low that begins anew
ends the episode before it. -/
def twSclTimeout (s : State) : State := twFree s

/-- A line is still stuck (R476): reported once per episode, 1 SCL, 2 SDA. -/
def twStuck (s : State) (sda : Bool) : State :=
  if s.host.stuck then s
  else
    (({ s with host := { s.host with stuck := true } }).setFld hostB F.HOST_TW_STAT_STUCK (1 + b2n sda)).report 0xD 1 K.TW_STUCK
      (1 + b2n sda)

/-- Nine clocks and a STOP after SDA has been low for 35 ms (R476): SDA is high again, or stuck. -/
def twSdaRecovery (s : State) (high : Bool) : State := if high then twFree s else twStuck s true

end Sys2Proof.Machine
end

