-- ==== Sys2Proof/Machine/Jtag.lean ====
section
/-! DEFINITION. The IEEE 1149.1 port (R513): its instructions and what a data-register scan captures. The commands of the table come to
the debug master through DBGACC. -/
namespace Sys2Proof.Machine

/-- The instructions of the port (R513). -/
inductive JtagInstr where
  /-- The one-bit bypass register. -/
  | bypass
  /-- The levels of the balls are sampled, the boundary register is loaded. -/
  | samplePreload
  /-- The boundary register drives the balls. -/
  | extest
  /-- The device identification register. -/
  | idcode
  /-- An access of the debug master, under its hall pass (R477). -/
  | dbgacc
  deriving DecidableEq, Repr

/-- IDCODE (R513): version 2, part 0x7192, the vendor field. -/
def jtagIdcode : Word := 0x27192A5B#32

/-- What a scan captures, first bit out least significant, with its length in bits: one zero bit of BYPASS, IDCODE. The cells of the
boundary register stand in the BSDL file, which the spec does not hold: none (log entry 195). -/
def jtagCapture : JtagInstr → Option (Nat × Word)
  | .bypass => some (1, 0#32)
  | .idcode => some (32, jtagIdcode)
  | .samplePreload => none
  | .extest => none
  | .dbgacc => none

end Sys2Proof.Machine
end

