-- ==== Sys2Proof/Machine/Svc.lean ====
section
/-! DEFINITION. The service ports S0 and S1 (R269 to R275): their power paths, their USB PD messages and the maintenance
requests. -/
namespace Sys2Proof.Machine

/-- State of a service port: 0 detached, 1 attached, 2 contract, 3 maintenance in progress. -/
def svcState (s : State) (p : Nat) : Nat := s.fld svcB (if p = 0 then F.SVC_STATUS_S0_STATE else F.SVC_STATUS_S1_STATE)
/-- Set the state of a service port. -/
def setSvcState (s : State) (p st : Nat) : State := s.setFld svcB (if p = 0 then F.SVC_STATUS_S0_STATE else F.SVC_STATUS_S1_STATE) st
/-- The path of a service port is closed (R270). -/
def pathClosed (s : State) (p : Nat) : Bool := s.flag svcB (if p = 0 then F.SVC_STATUS_S0_PATH else F.SVC_STATUS_S1_PATH)

/-- VAON has no source left (R270, R271): the always-on domain and the service ports lose their state. -/
def vaonLost (s : State) : State :=
  { s.wr (svcB + R.SVC_STATUS) 0#32 with pwr := { s.pwr with vaon := false }, svc := State.reset.svc }.wr (svcB + R.SVC_LAST) 0#32

/-- What feeds VAON (R270): the highest of the house auxiliary power and the ports whose path is closed. No command tells the
voltages, so among those present it is a free value (log entry 145). -/
def powerShow (s : State) : State :=
  let cs := (if s.pwr.aux then [0] else []) ++ ((List.range 2).filter (pathClosed s)).map (· + 1)
  match cs with
  | [] => vaonLost s
  | [c] => s.setFld svcB F.SVC_STATUS_POWER c
  | _ =>
    let x := freeBetween s 0 (cs.length - 1)
    x.2.setFld svcB F.SVC_STATUS_POWER (cs.getD x.1 0)

/-- The path of a port closes (R270, R271): VAON rises where it was down, fed by that port alone. -/
def pathClose (s : State) (p : Nat) : State :=
  let up := s.pwr.vaon
  let s1 := s.setFld svcB (if p = 0 then F.SVC_STATUS_S0_PATH else F.SVC_STATUS_S1_PATH) 1
  let s2 := powerShow { s1 with
    svc := { s1.svc with retry := s1.svc.retry.filter (· != p) }
    pwr := { s1.pwr with aux := s1.pwr.aux && up } }
  if up then s2 else vaonUp s2

/-- A guard opens the path of a port (R270). -/
def pathOpen (s : State) (p : Nat) (g : PathGuard) : State :=
  if pathClosed s p then
    let s1 := s.setFld svcB (if p = 0 then F.SVC_STATUS_S0_PATH else F.SVC_STATUS_S1_PATH) 0
    let s2 := match g with
      | .uv => s1
      | .ov => s1.setFld svcB F.SVC_STATUS_PATH_OV 1
      | .oc => { s1.setFld svcB F.SVC_STATUS_PATH_OC 1 with svc := { s1.svc with retry := setAdd s1.svc.retry p } }
    powerShow s2
  else s

/-- 100 ms after the path of a port opened on current it is tried again (R270). -/
def pathRetry (s : State) (p : Nat) : State := if s.svc.retry.contains p then pathClose s p else s

/-! USB PD (R269). -/

/-- Send a message on a service port: a sink and a UFP, Specification Revision 3.x, with its MessageID. -/
def svcSay (s : State) (p : Nat) (m : List Byte) : State :=
  let n := (idOf s.svc.txId p).getD 0
  let h := setBits (setBits (pdHdr m) 7 6 2) 11 9 n
  { s with svc := { s.svc with sent := s.svc.sent ++ [(p, natLE 2 h ++ m.drop 2)], txId := idPut s.svc.txId p ((n + 1) % 8) } }

/-- A port attaches (R269): both MessageIDs start again. -/
def svcAttach (s : State) (p : Nat) : State :=
  let x := s.svc
  let s1 := { s with svc := { x with txId := idPut x.txId p 0, rxId := x.rxId.filter (fun e => e.1 != p), asked := x.asked.filter (· != p) } }
  if svcState s1 p = 0 then setSvcState s1 p 1 else s1

/-- A port detaches (R275): its request is dropped and its update ends; an erase that runs goes on. -/
def svcDetach (s : State) (p : Nat) : State :=
  let x := s.svc
  let req := match x.req with
    | some r => if r.port = p then none else some r
    | none => none
  let upd := match x.upd with
    | some u => if u.port = p then none else some u
    | none => none
  setSvcState { s with svc := { x with req := req, upd := upd, asked := x.asked.filter (· != p) } } p 0

/-- The SVID and the command mask in use (R272): SVC_VDM, or in dead-battery boot, without the main supplies (R271), the
service record, else 0x2E7B with every command. -/
def svcVdm (s : State) : Word :=
  if s.pwr.main then s.rd (svcB + R.SVC_VDM)
  else match svcRecord s with
    | some (_, _, v) => v
    | none => 0x2E7B000F#32

/-- The group of a maintenance command (R274); none of an unknown one. -/
def svcGroup (cmd : Nat) : Option Nat :=
  if cmd = 1 ∨ cmd = 2 then some 0 else if cmd = 3 then some 1 else if cmd = 4 then some 2
  else if 0x10 ≤ cmd ∧ cmd ≤ 0x13 then some 3 else none

/-- Show a maintenance request that is answered (SVC_LAST). -/
def svcLast (s : State) (p cmd status : Nat) : State :=
  let s1 := s.bump svcB F.SVC_LAST_COUNT 1
  ((s1.setFld svcB F.SVC_LAST_PORT p).setFld svcB F.SVC_LAST_CMD cmd).setFld svcB F.SVC_LAST_STATUS status

/-- Answer a maintenance request with one VDM (R273). -/
def svcReply (s : State) (p tag cmd status : Nat) (objs : List Word) : State :=
  let hdr := fget (svcVdm s) F.SVC_VDM_SVID * 2 ^ 16 + 2 ^ 14 + tag % 16 * 2 ^ 10 + cmd % 64 * 2 ^ 4 + status % 16
  svcSay (svcLast s p cmd status) p (dataMsg 15 (BitVec.ofNat 32 hdr :: objs))

/-- A maintenance request arrives (R273, R274): one at a time. -/
def svcRequest (s : State) (p : Nat) (hdr : Nat) (objs : List Word) : State :=
  let tag := bits hdr 13 10
  let cmd := bits hdr 9 4
  if s.svc.req.isSome then svcReply s p tag cmd 6 []
  else
    match svcGroup cmd with
    | none => svcReply s p tag cmd 1 []
    | some g =>
      if bit (svcVdm s).toNat g then setSvcState { s with svc := { s.svc with req := some (SvcReq.mk p tag cmd objs) } } p 3
      else svcReply s p tag cmd 2 []

/-- Messages that need no answer: answers themselves, and announcements. -/
def pdNoAnswer (key : Nat) : Bool := [1, 2, 3, 4, 5, 6, 12, 16, 35, 38].contains key

/-- A USB PD message arrives on SOP at a service port (R269, R271, R273). -/
def svcMessage (s : State) (p : Nat) (m : List Byte) : State :=
  let key := pdKey m
  let objs := pdObjs m
  if svcState s p = 0 ∨ m.length < 2 then s
  else if key ≠ 13 ∧ idOf s.svc.rxId p = some (pdId m) then s
  else
    let s0 := { s with svc := { s.svc with rxId := idPut s.svc.rxId p (pdId m) } }
    let asks := s0.svc.asked
    if key = 33 then svcSay { s0 with svc := { s0.svc with asked := setAdd asks p } } p (dataMsg 2 [0x10003C0F#32])
    else if key = 6 ∧ asks.contains p then
      let s1 := setSvcState { s0 with svc := { s0.svc with asked := asks.filter (· != p) } } p (if svcState s0 p = 3 then 3 else 2)
      if !s1.pwr.main ∧ s1.fld svcB F.SVC_STATUS_POWER ≠ 0 then s1.setFld svcB F.SVC_STATUS_DEAD_BATT 1 else s1
    else if (key = 4 ∨ key = 12) ∧ asks.contains p then { s0 with svc := { s0.svc with asked := asks.filter (· != p) } }
    else if key = 9 ∨ key = 10 ∨ key = 11 then svcSay s0 p (ctlMsg 4)
    else if key = 47 then
      let hdr := (objs.getD 0 0#32).toNat
      if hdr / 2 ^ 16 = fget (svcVdm s0) F.SVC_VDM_SVID ∧ bit hdr 15 = false ∧ 2 ≤ svcState s0 p then
        (if bit hdr 14 then s0 else svcRequest s0 p hdr (objs.drop 1))
      else svcSay s0 p (ctlMsg 16)
    else if pdNoAnswer key then s0
    else svcSay s0 p (ctlMsg 16)

/-! The maintenance commands (R274, R275). -/

/-- Execute the pending request where it is of this command; act gives status, objects and the state after. -/
def svcDo (s : State) (cmd : Nat) (act : SvcReq → State → Nat × List Word × State) : State :=
  match s.svc.req with
  | none => s
  | some r =>
    if r.cmd = cmd then
      let x := act r s
      let s1 := { x.2.2 with svc := { x.2.2.svc with req := none } }
      svcReply (setSvcState s1 r.port 2) r.port r.tag cmd x.1 x.2.1
    else s

/-- GET_ID: the objects of a page; none of a page that there is not. -/
def idPage (s : State) (page : Nat) : Option (List Word) :=
  if page = 0 then
    some [BitVec.ofNat 32 ((s.rd 0).toNat % 2 ^ 24), fsigWord s false, fsigWord s true, s.rd R.SYS_SERIAL_LO, s.rd R.SYS_SERIAL_HI]
  else if page = 1 then some [s.rd R.SYS_LOT_LO, s.rd R.SYS_LOT_HI, s.rd R.SYS_DIE]
  else if page = 2 then
    some (if s.pwr.main then [s.rd R.SYS_IMG_ID, s.rd R.SYS_IMG_SERIAL, s.rd R.SYS_EPOCH, s.rd R.SYS_IMG_STATUS]
      else [0#32, 0#32, 0#32, 0#32])
  else none

/-- GET_ID (R274). -/
def svcGetId (s : State) : State :=
  svcDo s 1 (fun r s =>
    match r.objs with
    | [] => (3, [], s)
    | o :: _ =>
      match idPage s o.toNat with
      | none => (3, [], s)
      | some l => (0, l, s))

/-- GET_STATUS (R274). -/
def svcGetStatus (s : State) : State :=
  svcDo s 2 (fun _ s =>
    let lv := b2n (!(faultLow s)) + 2 * b2n (!(safeLow s)) + 4 * b2n (!(alertPin s))
    (0, [s.rd (svcB + R.SVC_STATUS), BitVec.ofNat 32 lv, BitVec.ofNat 32 s.fc.queue.length, BitVec.ofNat 32 (scanCards s).length], s))

/-- READ_SLATE (R274): the live slate with main power, which waits for the boot scan (R456), else the newest valid shadow copy;
without one zeros, as a boot would load (R447). -/
def svcReadSlate (s : State) : State :=
  if s.pwr.main && !s.flag nvB F.NV_STATUS_READY then s else
  svcDo s 3 (fun r s =>
    let off := (r.objs.getD 0 0#32).toNat
    let n := (r.objs.getD 1 0#32).toNat
    if r.objs.length < 2 ∨ off % 4 ≠ 0 ∨ n < 1 ∨ 6 < n ∨ 0x10000 < off + 4 * n then (3, [], s)
    else
      let t := if s.pwr.main then s else loadSlate s (newestCopy s.nv)
      (0, (List.range n).map (fun k => t.memWord (slateB + off + 4 * k)), s))

/-- READ_CARD (R274): the index-th newest card that passes its CRC. -/
def svcReadCard (s : State) : State :=
  svcDo s 4 (fun r s =>
    let i := (r.objs.getD 0 0#32).toNat
    let off := (r.objs.getD 1 0#32).toNat
    let n := (r.objs.getD 2 0#32).toNat
    if r.objs.length < 3 ∨ 255 < i ∨ 63 < off ∨ n < 1 ∨ 6 < n ∨ 64 < off + n then (3, [], s)
    else
      match ((scanCards s).foldl (fun l c => insNewest c l) [])[i]? with
      | none => (4, [], s)
      | some c => (0, (List.range n).map (fun k => s.memWord (recB + s.nv.ring * 0x1000 + 256 * c.1 + 4 * (off + k))), s))

/-- An update command (R275): it needs the main supplies and waits for no erase. -/
def updDo (s : State) (cmd : Nat) (act : SvcReq → State → Nat × List Word × State) : State :=
  svcDo s cmd (fun r s =>
    if !s.pwr.main then (5, [], s)
    else if s.svc.erasing then (6, [], s)
    else act r s)

/-- Set the update. -/
def setUpd (s : State) (u : Option SvcUpd) : State := { s with svc := { s.svc with upd := u } }

/-- UPD_BEGIN (R275): the slot's erase starts, and its old content is gone. -/
def svcUpdBegin (s : State) : State :=
  updDo s 0x10 (fun r s =>
    let slot := (r.objs.getD 0 0#32).toNat
    let len := (r.objs.getD 1 0#32).toNat
    if r.objs.length < 2 ∨ 1 < slot then (3, [], s)
    else if s.fld 0 F.SYS_IMG_STATUS_SRC_USED = slot + 1 ∨ len = 0 ∨ 0x400000 < len then (7, [], s)
    else
      let fl := s.flash.filter (fun c => !(decide (0x400000 * slot ≤ c.1) && decide (c.1 < 0x400000 * (slot + 1))))
      (0, [], { s with flash := fl, svc := { s.svc with upd := some (SvcUpd.mk slot len 0 none r.port), erasing := true } }))

/-- The erase of the slot has ended (R275). -/
def updErased (s : State) : State := { s with svc := { s.svc with erasing := false } }

/-- Write bytes of the boot flash from an offset upwards. -/
def flashPuts (s : State) (a : Nat) : List Byte → State
  | [] => s
  | b :: t => flashPuts (s.setFlash a b) (a + 1) t

/-- UPD_DATA (R275): the next offset is written, the last accepted one is answered again. -/
def svcUpdData (s : State) : State :=
  updDo s 0x11 (fun r s =>
    match s.svc.upd with
    | none => (15, [], s)
    | some u =>
      let off := (r.objs.getD 0 0#32).toNat
      let ws := r.objs.drop 1
      if r.objs.length < 2 then (3, [], s)
      else if u.last = some off then (0, [], s)
      else if off ≠ u.next then (15, [], s)
      else if u.len + 3 < off + 4 * ws.length then (3, [], s)
      else
        let bs := (ws.flatMap wordBytes).take (u.len - off)
        (0, [], setUpd (flashPuts s (0x400000 * u.slot + off) bs) (some { u with next := off + 4 * ws.length, last := some off })))

/-- The bytes that an update has written. -/
def updBytes (s : State) (u : SvcUpd) : List Byte := (List.range u.len).map (fun i => s.flashByte (0x400000 * u.slot + i))

/-- UPD_END (R275): length, CRC-32, then pass 1 of R54. Which status answers a length or a CRC-32 that does not agree the spec
does not say: any but 0, a free value (log entry 1). -/
def svcUpdEnd (s : State) : State :=
  updDo s 0x12 (fun r s =>
    match s.svc.upd with
    | none => (15, [], s)
    | some u =>
      if r.objs = [] then (3, [], s)
      else if u.next < u.len ∨ crc32 (updBytes s u) ≠ r.objs.getD 0 0#32 then
        let x := freeBetween s 1 15
        (x.1, [], setUpd x.2 none)
      else
        let c := imgCheck s (u.slot + 1)
        if c = 0 then (0, [], setUpd s none) else (9, [BitVec.ofNat 32 c], setUpd s none))

/-- UPD_ABORT (R275). -/
def svcUpdAbort (s : State) : State :=
  updDo s 0x13 (fun _ s => if s.svc.upd.isSome then (0, [], setUpd s none) else (15, [], s))

end Sys2Proof.Machine
end

