-- ==== Sys2Proof/Machine/Cmd.lean ====
section
/-! DEFINITION. How a command runs on the machine: the clock and reset it needs, writes and reads by a master, and the few
effects that join several units. -/
namespace Sys2Proof.Machine

/-- What a command or a step answers. -/
abbrev Outcome : Type := Host.Outcome State Fault Refusal

/-- rd takes a converted integer with its flags (R333, R334). -/
def EngCtx.setI (x : EngCtx) (rd : BitVec 5) (r : Int × Nat) : EngCtx := (x.flags r.2).setReg rd (BitVec.ofInt 32 r.1)

/-- An instruction on a bit field (R317): a field that does not lie in the word is a reserved encoding (R313). -/
def engField (s : State) (e w : Nat) (pos wm1 : BitVec 5) (f : EngCtx → EngCtx) : State :=
  if pos.toNat + wm1.toNat < 32 then engReg s e f else engIllegal s e w

/-- FENCE (R322): every earlier product completes; earlier stores are visible at once, as each command is whole. -/
def engFence (s : State) (e : Nat) : State := engIssue s e (fun s c => .done (engDrain s e c))

/-- A command of the core clock: nothing happens while the core clock is stopped (R508). -/
def State.clocked (s : State) (act : State → State) : State := if s.pwr.asleep then s else s.run act

/-- An instruction of an engine (R508): what follows a command is looked at only where the instruction has reported a fault or
pulsed a line, since otherwise it changes nothing but its engine and memory. -/
def State.engDo (s : State) (act : State → State) : State :=
  if s.pwr.asleep || !s.pwr.core then s
  else
    let t := act s
    if t.reports.length = s.reports.length ∧ t.pulses = [] then t else finish s t

/-- An access of a master (R477, R508): a sleeping device is woken by its SPI or two-wire master; engines and DMA make no
accesses while the core clock is stopped. -/
def State.byMaster (s : State) (m : Master) (act : State → State) : State :=
  s.run (fun s => match m with
    | .spi => act (wakeUp s)
    | .twoWire => act (wakeUp s)
    | .engine _ => if s.pwr.asleep then s else act s
    | .dma _ => if s.pwr.asleep then s else act s
    | _ => act s)

/-- A master writes v to the register at offset o of the window at b (R8, R25). -/
def State.put (s : State) (m : Master) (b o v : Nat) : State :=
  s.byMaster m (fun s => masterWrite m (b + o) (BitVec.ofNat 32 v) s)

/-- The RW and RWL fields of a register as they stand, every other bit 0: what a master writes back to keep them (R8). -/
def State.kept (s : State) (a : Nat) : Word :=
  match regRow a with
  | none => 0#32
  | some r => s.rd a &&& BitVec.ofNat 32 (r.rw ||| r.rwl)

/-- A master writes a register of the window at b with one field changed and the others as they stand (R8). -/
def State.ctl (s : State) (m : Master) (b : Nat) (F : Fld) (v : Nat) : State :=
  s.byMaster m (fun s => masterWrite m (b + F.off) (fset (s.kept (b + F.off)) F v) s)

/-- A master reads the register at a host address (R8, R25). -/
def State.get (s : State) (m : Master) (a : Nat) : State := s.byMaster m (fun s => (masterRead m a s).2)

/-- FELT_CTRL is written with EN = 1, TEST and AT_BELL, its other fields as they stand (R158). -/
def feltStartWrite (s : State) (m : Master) (f : Nat) (test atBell : Bool) : State :=
  s.byMaster m (fun s =>
    let a := feltB f + R.FELT_CTRL
    masterWrite m a (fset (fset (fset (s.kept a) F.FELT_CTRL_EN 1) F.FELT_CTRL_TEST (b2n test)) F.FELT_CTRL_AT_BELL (b2n atBell)) s)

/-- TMR_CTRL is written with EN and WAIT_START and with ABORT = 0, its other fields as they stand (R377). -/
def tmrEnWrite (s : State) (m : Master) (n : Nat) (en wait : Bool) : State :=
  s.byMaster m (fun s =>
    let a := tmrB n + R.TMR_CTRL
    masterWrite m a (fset (fset (s.kept a) F.TMR_CTRL_EN (b2n en)) F.TMR_CTRL_WAIT_START (b2n wait)) s)

/-- A raw write into the record array (R450): 4 bytes as a word write, fewer refused. -/
def nvRaw (s : State) (m : Master) (off size v : Nat) : State :=
  s.byMaster m (fun s =>
    if size = 4 then masterWrite m (recB + off) (BitVec.ofNat 32 v) s else s.accessReport m (recB + off))

/-- The oldest report on its way reaches the collector (R418). -/
def faultReportDue (s : State) : State :=
  if s.pwr.core then finish { s with reports := s.reports.drop 1 } (faultArrive s) else s

/-- The time PLL locks for the first time (R184, R506): the line count runs, the reference that feeds PLL A is qualified, the
lanes begin training. -/
def timeLocked (s : State) (refIn : Bool) : State :=
  if s.time.counting then s
  else
    let r := if refIn then 1 else 2
    let s1 := refQual { s with time := { s.time with counting := true } } r 1
    casBegin (lanesBegin ((s1.setFld timeB F.TIME_STATUS_STATE 1).setFld timeB F.TIME_STATUS_REF r))

/-- A reference has met the conditions of R185 for 100 ms; the cascade upstream on a brim only, with its lane up. -/
def refQualified (s : State) (r : Nat) : State :=
  if r = 0 ∧ ¬ (s.isBrim ∧ casState s (s.fld casB F.CAS_STATUS_UPSTREAM) = 6) then s else refSelect (refQual s r 1)

/-- The hot-swap fault timer: the current limit has acted for FLT_MS, at once into ON or RAMP where LIMIT stands (R234). -/
def hsTimer (s : State) : State :=
  if hsState s = 4 ∧ s.flag busB F.BUS_HS_STATUS_LIMIT then hsFault s 1 else s

/-- The fast comparator trips while the gate is on (R234). -/
def hsFast (s : State) : State := if hsState s = 4 ∨ hsState s = 5 then hsFault s 2 else s

/-- Power-good has not come within PG_TMO of RAMP (R234). -/
def hsLate (s : State) : State := if hsState s = 4 then hsFault s 3 else s

/-- 60 s of ON clear the retries (R234). -/
def hsForget (s : State) : State := if hsState s = 5 then s.setFld busB F.BUS_HS_STATUS_RETRIES 0 else s

/-- The end of hold-up is judged (R227): the bus goes down, the cabinet by its timetable, and the pin chain is told where
SUP_TT_CFG says so (R405). -/
def holdupJudge (s : State) : State :=
  match holdupOut s with
  | none => s
  | some arg =>
    let s1 := ttDown (holdupEnd s arg)
    if s1.flag supB F.SUP_TT_CFG_FLT_OUT ∧ s.sup.seq ≠ 3 ∧ s.sup.seq ≠ 4 then seqFlt s1 3 true else s1

/-- The two-wire block is reset by its pin (R476), and with held kept in reset until the pin is high again. -/
def twPinReset (s : State) (held : Bool) : State :=
  let s1 := twClear s
  { s1 with host := { s1.host with rstLow := held } }

end Sys2Proof.Machine
end

