-- ==== Sys2Proof/Machine/ExecAlu.lean ====
section
/-! DEFINITION. What each command does: Achal integer, field and immediate instructions (R304, R316, R317). -/
namespace Sys2Proof.Machine

/-- ADD. rd ← ra + rb (R316). -/
def execAdd (e : Fin 96) (rd ra rb : BitVec 5) (s : State) : Outcome :=
  .next (s.engDo (fun s => engReg s e.val (fun x => x.setReg rd (x.reg ra + x.reg rb))))

/-- SUB. rd ← ra − rb (R316). -/
def execSub (e : Fin 96) (rd ra rb : BitVec 5) (s : State) : Outcome :=
  .next (s.engDo (fun s => engReg s e.val (fun x => x.setReg rd (x.reg ra - x.reg rb))))

/-- AND. rd ← ra AND rb (R316). -/
def execAnd (e : Fin 96) (rd ra rb : BitVec 5) (s : State) : Outcome :=
  .next (s.engDo (fun s => engReg s e.val (fun x => x.setReg rd (x.reg ra &&& x.reg rb))))

/-- OR. rd ← ra OR rb (R316). -/
def execOr (e : Fin 96) (rd ra rb : BitVec 5) (s : State) : Outcome :=
  .next (s.engDo (fun s => engReg s e.val (fun x => x.setReg rd (x.reg ra ||| x.reg rb))))

/-- XOR. rd ← ra XOR rb (R316). -/
def execXor (e : Fin 96) (rd ra rb : BitVec 5) (s : State) : Outcome :=
  .next (s.engDo (fun s => engReg s e.val (fun x => x.setReg rd (x.reg ra ^^^ x.reg rb))))

/-- ANDN. rd ← ra AND NOT rb (R316). -/
def execAndn (e : Fin 96) (rd ra rb : BitVec 5) (s : State) : Outcome :=
  .next (s.engDo (fun s => engReg s e.val (fun x => x.setReg rd (x.reg ra &&& ~~~(x.reg rb)))))

/-- SLL. rd ← ra shifted left by rb[4:0] (R316). -/
def execSll (e : Fin 96) (rd ra rb : BitVec 5) (s : State) : Outcome :=
  .next (s.engDo (fun s => engReg s e.val (fun x => x.setReg rd (x.reg ra <<< ((x.reg rb).toNat % 32)))))

/-- SRL. rd ← ra shifted right logically by rb[4:0] (R316). -/
def execSrl (e : Fin 96) (rd ra rb : BitVec 5) (s : State) : Outcome :=
  .next (s.engDo (fun s => engReg s e.val (fun x => x.setReg rd (x.reg ra >>> ((x.reg rb).toNat % 32)))))

/-- SRA. rd ← ra shifted right arithmetically by rb[4:0] (R316). -/
def execSra (e : Fin 96) (rd ra rb : BitVec 5) (s : State) : Outcome :=
  .next (s.engDo (fun s => engReg s e.val (fun x => x.setReg rd ((x.reg ra).sshiftRight ((x.reg rb).toNat % 32)))))

/-- ROR. rd ← ra rotated right by rb[4:0] (R316). -/
def execRor (e : Fin 96) (rd ra rb : BitVec 5) (s : State) : Outcome :=
  .next (s.engDo (fun s => engReg s e.val (fun x => x.setReg rd (rorWord (x.reg ra) ((x.reg rb).toNat % 32)))))

/-- SLT. rd ← ra less than rb, signed (R316). -/
def execSlt (e : Fin 96) (rd ra rb : BitVec 5) (s : State) : Outcome :=
  .next (s.engDo (fun s => engReg s e.val (fun x => x.setReg rd (boolWord ((x.reg ra).slt (x.reg rb))))))

/-- SLTU. rd ← ra less than rb, unsigned (R316). -/
def execSltu (e : Fin 96) (rd ra rb : BitVec 5) (s : State) : Outcome :=
  .next (s.engDo (fun s => engReg s e.val (fun x => x.setReg rd (boolWord ((x.reg ra).ult (x.reg rb))))))

/-- MIN. rd ← signed minimum (R316). -/
def execMin (e : Fin 96) (rd ra rb : BitVec 5) (s : State) : Outcome :=
  .next (s.engDo (fun s => engReg s e.val (fun x => x.setReg rd (if (x.reg ra).slt (x.reg rb) then x.reg ra else x.reg rb))))

/-- MAX. rd ← signed maximum (R316). -/
def execMax (e : Fin 96) (rd ra rb : BitVec 5) (s : State) : Outcome :=
  .next (s.engDo (fun s => engReg s e.val (fun x => x.setReg rd (if (x.reg ra).slt (x.reg rb) then x.reg rb else x.reg ra))))

/-- MINU. rd ← unsigned minimum (R316). -/
def execMinu (e : Fin 96) (rd ra rb : BitVec 5) (s : State) : Outcome :=
  .next (s.engDo (fun s => engReg s e.val (fun x => x.setReg rd (if (x.reg ra).ult (x.reg rb) then x.reg ra else x.reg rb))))

/-- MAXU. rd ← unsigned maximum (R316). -/
def execMaxu (e : Fin 96) (rd ra rb : BitVec 5) (s : State) : Outcome :=
  .next (s.engDo (fun s => engReg s e.val (fun x => x.setReg rd (if (x.reg ra).ult (x.reg rb) then x.reg rb else x.reg ra))))

/-- CLZ. rd ← leading zero bits of ra (R316). -/
def execClz (e : Fin 96) (rd ra : BitVec 5) (s : State) : Outcome :=
  .next (s.engDo (fun s => engReg s e.val (fun x => x.setReg rd (clzWord (x.reg ra)))))

/-- ADDI. rd ← ra + sx(imm16) (R317). -/
def execAddi (e : Fin 96) (rd ra : BitVec 5) (imm : BitVec 16) (s : State) : Outcome :=
  .next (s.engDo (fun s => engReg s e.val (fun x => x.setReg rd (x.reg ra + sx imm))))

/-- ANDI. rd ← ra AND zx(imm16) (R317). -/
def execAndi (e : Fin 96) (rd ra : BitVec 5) (imm : BitVec 16) (s : State) : Outcome :=
  .next (s.engDo (fun s => engReg s e.val (fun x => x.setReg rd (x.reg ra &&& zx imm))))

/-- ORI. rd ← ra OR zx(imm16) (R317). -/
def execOri (e : Fin 96) (rd ra : BitVec 5) (imm : BitVec 16) (s : State) : Outcome :=
  .next (s.engDo (fun s => engReg s e.val (fun x => x.setReg rd (x.reg ra ||| zx imm))))

/-- XORI. rd ← ra XOR zx(imm16) (R317). -/
def execXori (e : Fin 96) (rd ra : BitVec 5) (imm : BitVec 16) (s : State) : Outcome :=
  .next (s.engDo (fun s => engReg s e.val (fun x => x.setReg rd (x.reg ra ^^^ zx imm))))

/-- LUI. rd ← imm16 << 16 (R317). -/
def execLui (e : Fin 96) (rd : BitVec 5) (imm : BitVec 16) (s : State) : Outcome :=
  .next (s.engDo (fun s => engReg s e.val (fun x => x.setReg rd (zx imm <<< 16))))

/-- SLLI. rd ← ra shifted left by sh (R317). -/
def execSlli (e : Fin 96) (rd ra sh : BitVec 5) (s : State) : Outcome :=
  .next (s.engDo (fun s => engReg s e.val (fun x => x.setReg rd (x.reg ra <<< sh.toNat))))

/-- SRLI. rd ← ra shifted right logically by sh (R317). -/
def execSrli (e : Fin 96) (rd ra sh : BitVec 5) (s : State) : Outcome :=
  .next (s.engDo (fun s => engReg s e.val (fun x => x.setReg rd (x.reg ra >>> sh.toNat))))

/-- SRAI. rd ← ra shifted right arithmetically by sh (R317). -/
def execSrai (e : Fin 96) (rd ra sh : BitVec 5) (s : State) : Outcome :=
  .next (s.engDo (fun s => engReg s e.val (fun x => x.setReg rd ((x.reg ra).sshiftRight sh.toNat))))

/-- RORI. rd ← ra rotated right by sh (R317). -/
def execRori (e : Fin 96) (rd ra sh : BitVec 5) (s : State) : Outcome :=
  .next (s.engDo (fun s => engReg s e.val (fun x => x.setReg rd (rorWord (x.reg ra) sh.toNat))))

/-- BFXU. rd ← the field of ra at pos, w = wm1 + 1 bits, zero-extended (R317). -/
def execBfxu (e : Fin 96) (rd ra pos wm1 : BitVec 5) (s : State) : Outcome :=
  .next (s.engDo (fun s => engField s e.val (achalWord (.bfxu e rd ra pos wm1)) pos wm1 (fun x => x.setReg rd (fieldU (x.reg ra) pos.toNat (wm1.toNat + 1)))))

/-- BFXS. rd ← that field sign-extended (R317). -/
def execBfxs (e : Fin 96) (rd ra pos wm1 : BitVec 5) (s : State) : Outcome :=
  .next (s.engDo (fun s => engField s e.val (achalWord (.bfxs e rd ra pos wm1)) pos wm1 (fun x => x.setReg rd (fieldS (x.reg ra) pos.toNat (wm1.toNat + 1)))))

/-- BFI. the field of rd ← the low bits of ra (R317). -/
def execBfi (e : Fin 96) (rd ra pos wm1 : BitVec 5) (s : State) : Outcome :=
  .next (s.engDo (fun s => engField s e.val (achalWord (.bfi e rd ra pos wm1)) pos wm1 (fun x => x.setReg rd (fieldIns (x.reg rd) (x.reg ra) pos.toNat (wm1.toNat + 1)))))

/-- PERM. rd ← the bytes of ra that sel names (R317). -/
def execPerm (e : Fin 96) (rd ra : BitVec 5) (sel : BitVec 8) (s : State) : Outcome :=
  .next (s.engDo (fun s => engReg s e.val (fun x => x.setReg rd (permWord (x.reg ra) sel))))

/-- SLTI. rd ← ra less than sx(imm16), signed (R317). -/
def execSlti (e : Fin 96) (rd ra : BitVec 5) (imm : BitVec 16) (s : State) : Outcome :=
  .next (s.engDo (fun s => engReg s e.val (fun x => x.setReg rd (boolWord ((x.reg ra).slt (sx imm))))))

/-- SLTIU. rd ← ra less than sx(imm16), unsigned (R317). -/
def execSltiu (e : Fin 96) (rd ra : BitVec 5) (imm : BitVec 16) (s : State) : Outcome :=
  .next (s.engDo (fun s => engReg s e.val (fun x => x.setReg rd (boolWord ((x.reg ra).ult (sx imm))))))

end Sys2Proof.Machine
end

