-- ==== Sys2Proof/Machine/ExecBus.lean ====
section
/-! DEFINITION. What each command does: house channels, the bus and admission (07_bus_energy.md). -/
namespace Sys2Proof.Machine

/-- HOUSE_PERIOD. A period of channel h ends with v volts at its voltage ball and cur millivolts at its current ball, binary32 (R208, R209). -/
def execHousePeriod (h : Fin 8) (v cur : Word) (s : State) : Outcome :=
  .next (s.run (fun s => Sys2Proof.Machine.housePeriod s h.val v cur))

/-- HSE_OC_TRIP. The OC comparator of channel h trips (R210). -/
def execHseOcTrip (h : Fin 8) (s : State) : Outcome := .next (s.run (fun s => houseOcTrip s h.val))

/-- HSE_OV_TRIP. The OV comparator of channel h trips (R210). -/
def execHseOvTrip (h : Fin 8) (s : State) : Outcome := .next (s.run (fun s => houseOvTrip s h.val))

/-- HSE_EN. A write of HSE_CTRL that sets EN to en and keeps the other fields (R212). -/
def execHseEn (m : Master) (h : Fin 8) (en : Bool) (s : State) : Outcome :=
  .next (s.ctl m (hseB h.val) F.HSE_CTRL_EN ((b2n en)))

/-- HSE_ABORT. A write of HSE_CTRL with ABORT = 1 that keeps the other fields (R212). -/
def execHseAbort (m : Master) (h : Fin 8) (s : State) : Outcome := .next (s.ctl m (hseB h.val) F.HSE_CTRL_ABORT 1)

/-- HSE_SAMPLED. A write of HSE_CTRL that sets SAMPLED to on and keeps the other fields (R213). -/
def execHseSampled (m : Master) (h : Fin 8) (on : Bool) (s : State) : Outcome :=
  .next (s.ctl m (hseB h.val) F.HSE_CTRL_SAMPLED ((b2n on)))

/-- SAMPLED_TICK. 120 kHz sampled operation looks at channel h with v volts at its voltage ball (R213). -/
def execSampledTick (h : Fin 8) (v : Word) (s : State) : Outcome := .next (s.run (fun s => houseTick s h.val v))

/-- BUS_SENSE. The two bus readings are compared: volts at the voltage balls of BUSIN and DUMP (R215). -/
def execBusSense (vIn vDump : Word) (s : State) : Outcome :=
  .next (s.run (fun s => Sys2Proof.Machine.busSense (busSample s vIn vDump)))

/-- BUS_OV. The bus is judged against BUS_V_OV (R217). -/
def execBusOv (vIn vDump : Word) (s : State) : Outcome :=
  .next (s.run (fun s => Sys2Proof.Machine.busOv (busSample s vIn vDump)))

/-- BUS_OV_CLEAR. A write of BUS_CTRL with OV_CLEAR = 1 that keeps the other fields (R217). -/
def execBusOvClear (m : Master) (s : State) : Outcome := .next (s.ctl m busB F.BUS_CTRL_OV_CLEAR 1)

/-- BUS_UV. The bus is judged against BUS_V_UV (R218). -/
def execBusUv (vIn vDump : Word) (s : State) : Outcome :=
  .next (s.run (fun s => Sys2Proof.Machine.busUv (busSample s vIn vDump)))

/-- BUS_EN. A write of BUS_CTRL that sets EN to en and keeps the other fields (R219). -/
def execBusEn (m : Master) (en : Bool) (s : State) : Outcome := .next (s.ctl m busB F.BUS_CTRL_EN ((b2n en)))

/-- BUS_START_DONE. v_bus has stayed in band for 1 ms (R219). -/
def execBusStartDone (s : State) : Outcome := .next (s.run (fun s => busStarted s))

/-- BUS_POWERDOWN_END. Every bus channel is off in mode 4 (R219). -/
def execBusPowerdownEnd (s : State) : Outcome := .next (s.run (fun s => busDownEnd s))

/-- BALANCER_CYCLE. A balancer cycle with the bus readings at the balls of BUSIN and DUMP, in volts (R220). -/
def execBalancerCycle (vIn vDump : Word) (s : State) : Outcome :=
  .next (s.run (fun s => Sys2Proof.Machine.balancerCycle s vIn vDump))

/-- HOTSWAP_SAMPLE. A hot-swap sample: volts at HS_VIN and HS_SRC, millivolts at the shunt (R232). -/
def execHotswapSample (vin src shunt : Word) (s : State) : Outcome :=
  .next (s.run (fun s => Sys2Proof.Machine.hotswapSample s vin src shunt))

/-- BUS_HOLDUP. The end of hold-up is judged (R227). -/
def execBusHoldup (s : State) : Outcome := .next (s.run (fun s => holdupJudge s))

/-- ADMISSION_REQUEST. The oldest request that a unit has made enters the queue (R229). -/
def execAdmissionRequest (s : State) : Outcome := .next (s.run (fun s => Sys2Proof.Machine.admissionRequest s))

/-- ADMISSION_STEP. A 10 µs step of the budget: refill and admission (R229). -/
def execAdmissionStep (s : State) : Outcome := .next (s.run (fun s => Sys2Proof.Machine.admissionStep s))

/-- ADMIT_TIMEOUT. The requests whose maximum wait has run out are removed (R230). -/
def execAdmitTimeout (s : State) : Outcome := .next (s.run (fun s => admissionTimeout s))

/-- HS_EN. A write of BUS_HS_CTRL that sets EN to en and keeps the other fields (R233). -/
def execHsEn (m : Master) (en : Bool) (s : State) : Outcome := .next (s.ctl m busB F.BUS_HS_CTRL_EN ((b2n en)))

/-- HS_INSERTION_DELAY_END. The insertion delay has passed (R233). -/
def execHsInsertionDelayEnd (s : State) : Outcome := .next (s.run (fun s => hsDelayEnd s))

/-- HS_POWER_GOOD. Power-good has held for 1 ms (R233). -/
def execHsPowerGood (s : State) : Outcome := .next (s.run (fun s => Sys2Proof.Machine.hsPowerGood s))

/-- HS_FAULT_TIMER. The current limit has acted for FLT_MS in a row (R234). -/
def execHsFaultTimer (s : State) : Outcome := .next (s.run (fun s => hsTimer s))

/-- HS_FAST_LIMIT. The fast comparator trips (R234). -/
def execHsFastLimit (s : State) : Outcome := .next (s.run (fun s => hsFast s))

/-- HS_PG_TIMEOUT. No power-good within PG_TMO of RAMP (R234). -/
def execHsPgTimeout (s : State) : Outcome := .next (s.run (fun s => hsLate s))

/-- HS_COOL_END. The cool-down has passed (R234). -/
def execHsCoolEnd (s : State) : Outcome := .next (s.run (fun s => Sys2Proof.Machine.hsCoolEnd s))

/-- HS_CLEAR. A write of BUS_HS_CTRL with CLEAR = 1 that keeps the other fields (R234). -/
def execHsClear (m : Master) (s : State) : Outcome := .next (s.ctl m busB F.BUS_HS_CTRL_CLEAR 1)

/-- HS_RETRY_CLEAR. 60 s of ON have passed (R234). -/
def execHsRetryClear (s : State) : Outcome := .next (s.run (fun s => hsForget s))

/-- ADMIT_REQUEST_PACKET. The admission request at the head of the received cascade packets is taken by the crown (R231). -/
def execAdmitRequestPacket (s : State) : Outcome := .next (s.run (fun s => admRequestTaken s))

/-- ADMIT_RETURN_PACKET. The returned charge at the head is taken by the crown (R231). -/
def execAdmitReturnPacket (s : State) : Outcome := .next (s.run (fun s => admReturnTaken s))

end Sys2Proof.Machine
end

