-- ==== Sys2Proof/Machine/ExecCascade.lean ====
section
/-! DEFINITION. What each command does: the cascade (16_host_cascade.md). -/
namespace Sys2Proof.Machine

/-- CAS_LOSS. LOSS_LIMIT consecutive bad frames have arrived on cascade lane l (R480). -/
def execCasLoss (l : Fin 4) (s : State) : Outcome := .next (s.run (fun s => casLossDue s l.val))

/-- CROWN. A write of CAS_CTRL.CROWN = 1 (R483). -/
def execCrown (m : Master) (s : State) : Outcome := .next (s.put m casB R.CAS_CTRL 1)

/-- ENUMERATE. A write of CAS_CTRL.ENUM = 1 (R483). -/
def execEnumerate (m : Master) (s : State) : Outcome := .next (s.put m casB R.CAS_CTRL 2)

/-- ENUM. The ENUM packet at the head of the received cascade packets is taken (R483). -/
def execEnum (s : State) : Outcome := .next (s.run (fun s => enumTaken s))

/-- ROLL_NOW. A write of CAS_CTRL.ROLL_NOW = 1 (R488). -/
def execRollNow (m : Master) (s : State) : Outcome := .next (s.put m casB R.CAS_CTRL 4)

/-- PROBE. The probe at the head is taken by the brim, whose turnaround is turn ticks (R189, R485). -/
def execProbe (turn : BitVec 32) (s : State) : Outcome := .next (s.run (fun s => probeTaken s turn.toNat))

/-- ADMIT_GRANT_PACKET. The grant at the head is taken by the brim (R486). -/
def execAdmitGrantPacket (s : State) : Outcome := .next (s.run (fun s => admGrantTaken s))

/-- ADMIT_WITHDRAW_PACKET. The withdraw at the head is taken by the crown (R486). -/
def execAdmitWithdrawPacket (s : State) : Outcome := .next (s.run (fun s => admWithdrawTaken s))

/-- COHERENT. The coherent change at the head is taken by the brim (R487). -/
def execCoherent (s : State) : Outcome := .next (s.run (fun s => coherentTaken s))

/-- COHERENT_ACK. The coherent acknowledgement at the head is taken by the crown (R487). -/
def execCoherentAck (s : State) : Outcome := .next (s.run (fun s => coherentAckTaken s))

/-- ROLL_CALL. ROLL_MS has passed: the crown judges the missing answers and calls (R488). -/
def execRollCall (s : State) : Outcome := .next (s.run (fun s => rollCallGo s))

/-- ROLL_CALL_RECEIVE. The roll call at the head is taken by the brim (R488). -/
def execRollCallReceive (s : State) : Outcome := .next (s.run (fun s => rollCallTaken s))

/-- ROLL_ANSWER. The roll-call answer at the head is taken by the crown (R488). -/
def execRollAnswer (s : State) : Outcome := .next (s.run (fun s => rollAnswerTaken s))

/-- ROLL_RESULT. The roll-call result at the head is taken by the brim (R488, R489). -/
def execRollResult (s : State) : Outcome := .next (s.run (fun s => rollResultTaken s))

/-- ROLLCALL_MISS. A brim has received no roll call for 3 × ROLL_MS (R488). -/
def execRollcallMiss (s : State) : Outcome := .next (s.run (fun s => rollMissed s))

/-- REMOTE_ACCESS. A write of CAS_RMT_POS with GO = 1 (R490). -/
def execRemoteAccess (m : Master) (write : Bool) (pos : Fin 16) (s : State) : Outcome :=
  .next (s.put m casB R.CAS_RMT_POS (2 ^ 8 + 2 ^ 4 * b2n write + pos.val))

/-- REG_READ_PACKET. The REG read at the head is taken by the brim (R490). -/
def execRegReadPacket (s : State) : Outcome := .next (s.run (fun s => regReadTaken s))

/-- REG_WRITE_PACKET. The REG write at the head is taken by the brim (R490). -/
def execRegWritePacket (s : State) : Outcome := .next (s.run (fun s => regWriteTaken s))

/-- REG_RESPONSE_PACKET. The REG response at the head is taken by the crown (R490). -/
def execRegResponsePacket (s : State) : Outcome := .next (s.run (fun s => regResponseTaken s))

/-- REMOTE_ACCESS_TIMEOUT. No answer has come within 1 ms (R490). -/
def execRemoteAccessTimeout (s : State) : Outcome := .next (s.run (fun s => rmtLate s))

/-- SEQ_POWER_UP_PACKET. The power-up command at the head is taken by the brim (R482). -/
def execSeqPowerUpPacket (s : State) : Outcome := .next (s.run (fun s => seqUpTaken s))

/-- SEQ_POWER_DOWN_PACKET. The power-down command at the head is taken by the brim (R486). -/
def execSeqPowerDownPacket (s : State) : Outcome := .next (s.run (fun s => seqDownTaken s))

/-- IMAGE_READ_PACKET. The IMAGE read at the head is taken by the crown (R491). -/
def execImageReadPacket (s : State) : Outcome := .next (s.run (fun s => imgReadTaken s))

/-- IMAGE_DATA_PACKET. The IMAGE data at the head is taken by the brim (R491). -/
def execImageDataPacket (s : State) : Outcome := .next (s.run (fun s => imgDataTaken s))

/-- IMAGE_LOAD_PACKET. The IMAGE load command at the head is taken by the brim (R491). -/
def execImageLoadPacket (s : State) : Outcome := .next (s.run (fun s => imgLoadTaken s))

/-- CASCADE_LINK_PACKET. The LINK packet at the head is taken (R482). -/
def execCascadeLinkPacket (s : State) : Outcome := .next (s.run (fun s => casLinkTaken s))

/-- CASCADE_FRAME. A frame time ends on cascade lane l: the 280 bits as received, b0 most significant (none: no signal) (R480). -/
def execCascadeFrame (l : Fin 4) (frame : Option (BitVec 280)) (s : State) : Outcome :=
  .next (s.run (fun s => casFrame s l.val frame))

/-- HOST_UNKNOWN_COMMAND. A frame with a CMD that R466 does not name (R466). -/
def execHostUnknownCommand (h : HostItf) (cmd : BitVec 8) (len : BitVec 16) (check : BitVec 16) (s : State) : Outcome :=
  .next (s.run (fun s => hostFrame s h cmd.toNat 0 len.toNat [] check))

end Sys2Proof.Machine
end

