-- ==== Sys2Proof/Machine/ExecEngine.lean ====
section
/-! DEFINITION. What each command does: engines at run time, DMA and capture (11_engine_runtime.md). -/
namespace Sys2Proof.Machine

/-- TASK_SWITCH. At an instruction boundary engine e dispatches its highest-priority ready context (R342, R344). -/
def execTaskSwitch (e : Fin 96) (s : State) : Outcome := .next (s.clocked (fun s => Sys2Proof.Machine.taskSwitch s e.val))

/-- FAULT_CONTEXT_START. After a task fault the fault context starts, or the engine halts by fault (R345). -/
def execFaultContextStart (e : Fin 96) (s : State) : Outcome :=
  .next (s.clocked (fun s => Sys2Proof.Machine.faultContextStart s e.val))

/-- ENG_START. A write of ENG_CTRL.START = 1 (R341). -/
def execEngStart (m : Master) (e : Fin 96) (s : State) : Outcome := .next (s.put m (engB e.val) R.ENG_CTRL 1)

/-- ENG_HALT. A write of ENG_CTRL.HALT = 1 (R349). -/
def execEngHalt (m : Master) (e : Fin 96) (s : State) : Outcome := .next (s.put m (engB e.val) R.ENG_CTRL 4)

/-- ENG_RESUME. A write of ENG_CTRL.RESUME = 1 (R349). -/
def execEngResume (m : Master) (e : Fin 96) (s : State) : Outcome := .next (s.put m (engB e.val) R.ENG_CTRL 2)

/-- ENG_ABORT. A write of ENG_CTRL.ABORT = 1 (R349). -/
def execEngAbort (m : Master) (e : Fin 96) (s : State) : Outcome := .next (s.put m (engB e.val) R.ENG_CTRL 8)

/-- MAILBOX_PUSH. A write of v to ENG_MBXk_IN (R353). -/
def execMailboxPush (m : Master) (e : Fin 96) (k : Fin 4) (v : Word) (s : State) : Outcome :=
  .next (s.put m (engB e.val) (R.ENG_MBX_IN + 8 * k.val) v.toNat)

/-- MAILBOX_POP. A read of ENG_MBXk_OUT (R353). -/
def execMailboxPop (m : Master) (e : Fin 96) (k : Fin 4) (s : State) : Outcome :=
  .next (s.get m (engB e.val + R.ENG_MBX_OUT + 8 * k.val))

/-- SOFTWARE_TRIGGER. A write of mask to ENG_SWTRIG (R352). -/
def execSoftwareTrigger (m : Master) (e : Fin 96) (mask : BitVec 8) (s : State) : Outcome :=
  .next (s.put m (engB e.val) R.ENG_SWTRIG mask.toNat)

/-- MPU_LOCK. A write of ENG_MPU_CTRL with LOCK = 1 that keeps EN (R357). -/
def execMpuLock (m : Master) (e : Fin 96) (s : State) : Outcome := .next (s.ctl m (engB e.val) F.ENG_MPU_CTRL_LOCK 1)

/-- DMA_EN. A write of DMA_CTRL that sets EN to en and keeps PRI (R361, R363). -/
def execDmaEn (m : Master) (c : Fin 32) (en : Bool) (s : State) : Outcome :=
  .next (s.ctl m (dmaB c.val) F.DMA_CTRL_EN ((b2n en)))

/-- DMA_ABORT. A write of DMA_CTRL with ABORT = 1 that keeps the other fields (R363). -/
def execDmaAbort (m : Master) (c : Fin 32) (s : State) : Outcome := .next (s.ctl m (dmaB c.val) F.DMA_CTRL_ABORT 1)

/-- DMA_TRIGGER. A trigger that has reached channel c is taken (R361, R388). -/
def execDmaTrigger (c : Fin 32) (s : State) : Outcome := .next (s.clocked (fun s => Sys2Proof.Machine.dmaTrigger s c.val))

/-- DMA_DESCRIPTOR_FETCH. Channel c fetches and checks its next descriptor (R359). -/
def execDmaDescriptorFetch (c : Fin 32) (s : State) : Outcome := .next (s.clocked (fun s => dmaFetch s c))

/-- DMA_ELEMENT. The unit moves one element of the channel whose turn it is (R360). -/
def execDmaElement (s : State) : Outcome := .next (s.clocked (fun s => Sys2Proof.Machine.dmaElement s))

/-- CAP_EN. A write of CAP_CTRL that sets EN to en and keeps the other fields (R365, R369). -/
def execCapEn (m : Master) (u : Fin 8) (en : Bool) (s : State) : Outcome :=
  .next (s.ctl m (capB u.val) F.CAP_CTRL_EN ((b2n en)))

/-- CAP_RECORD_CLOSE. The oldest closed record of unit u is written whole or dropped (R367). -/
def execCapRecordClose (u : Fin 8) (s : State) : Outcome := .next (s.run (fun s => capWriteOut s u.val))

/-- CAP_RD_WRITE. A write of v to CAP_RD (R368). -/
def execCapRdWrite (m : Master) (u : Fin 8) (v : Word) (s : State) : Outcome :=
  .next (s.put m (capB u.val) R.CAP_RD v.toNat)

/-- CAP_ABORT. A write of CAP_CTRL with ABORT = 1 that keeps the other fields (R369). -/
def execCapAbort (m : Master) (u : Fin 8) (s : State) : Outcome := .next (s.ctl m (capB u.val) F.CAP_CTRL_ABORT 1)

/-- MON_CONVERSION. A scan slot ends with v volts, binary32, at the converter; for INT0 v is the temperature in °C (R394, R397). -/
def execMonConversion (v : Word) (s : State) : Outcome := .next (s.run (fun s => Sys2Proof.Machine.monConversion s v))

end Sys2Proof.Machine
end

