-- ==== Sys2Proof/Machine/ExecFault.lean ====
section
/-! DEFINITION. What each command does: fault collection and reaction (14_fault_handling.md). -/
namespace Sys2Proof.Machine

/-- FAULT_REPORT. The oldest unit report on its way reaches the collector (R418). -/
def execFaultReport (s : State) : Outcome := .next (faultReportDue s)

/-- REACTION_START. The collector decides the oldest report that has arrived (R425, R426). -/
def execReactionStart (s : State) : Outcome := .next (s.run (fun s => reactNext s))

/-- REACTION_END. The running reaction finishes (R425). -/
def execReactionEnd (s : State) : Outcome := .next (s.run (fun s => reactionFinish s))

/-- RESET_SCOPE_TIMEOUT. 20 ms have passed since a reset-scope decision (R423). -/
def execResetScopeTimeout (s : State) : Outcome := .next (s.run (fun s => resetWhenLate s))

/-- RECESS_END. FC_RECESS.MS quiet milliseconds have passed (R429). -/
def execRecessEnd (s : State) : Outcome := .next (s.run (fun s => recessFinish s))

/-- RECOVERY_WINDOW_CLOSE. FC_RECOV.WINDOW seconds have passed since the window opened (R431). -/
def execRecoveryWindowClose (s : State) : Outcome := .next (s.run (fun s => windowClose s))

/-- FC_CLEAR. A write of FC_CTRL.CLEAR = 1 (R431). -/
def execFcClear (m : Master) (s : State) : Outcome := .next (s.put m fcB R.FC_CTRL 1)

/-- QUEUE_POP. A write of FC_Q_POP = 1 (R422). -/
def execQueuePop (m : Master) (s : State) : Outcome := .next (s.put m fcB R.FC_Q_POP 1)

/-- QUEUE_HEAD_READ. A read of FC_Q_MSG_LO (R422). -/
def execQueueHeadRead (m : Master) (s : State) : Outcome := .next (s.get m (fcB + R.FC_Q_MSG_LO))

/-- FAULT_INJECT. A write of kind to FC_INJ_HI (R437). -/
def execFaultInject (m : Master) (kind : BitVec 8) (s : State) : Outcome := .next (s.put m fcB R.FC_INJ_HI kind.toNat)

/-- FAULT_PACKET. The spread fault at the head of the received cascade packets is taken (R427). -/
def execFaultPacket (s : State) : Outcome := .next (s.run (fun s => faultTaken s))

end Sys2Proof.Machine
end

