-- ==== Sys2Proof/Machine/ExecFelt.lean ====
section
/-! DEFINITION. What each command does: phases and felts (04_phase_control.md, 05_felt_regulation.md). -/
namespace Sys2Proof.Machine

/-- CURRENT_LOOP_UPDATE. The current samples of a current frame have arrived from every lane of felt f (R113, R114). -/
def execCurrentLoopUpdate (f : Fin 96) (s : State) : Outcome := .next (s.run (fun s => currentLoop s f.val))

/-- SURGE_END. The SURGE_ON windows of felt f's surge have passed (R130). -/
def execSurgeEnd (f : Fin 96) (s : State) : Outcome := .next (s.run (fun s => surgeOver s f.val))

/-- SURGE_HOLDOFF_END. The HOLDOFF cycles have passed (R130). -/
def execSurgeHoldoffEnd (f : Fin 96) (s : State) : Outcome := .next (s.run (fun s => surgeFree s f.val))

/-- SYNC_IN_EDGE. A rising edge at SYNC_IN, t ticks after the previous one (R120). -/
def execSyncInEdge (t : BitVec 40) (s : State) : Outcome := .next (s.run (fun s => syncEdge s t.toNat))

/-- SYNC_IN_TIMEOUT. 1.5 times the expected interval has passed without an edge (R121). -/
def execSyncInTimeout (s : State) : Outcome := .next (s.run (fun s => syncTimeout s))

/-- PERIOD_GLIDE_END. The 64 cycles of felt f's glide have passed (R123). -/
def execPeriodGlideEnd (f : Fin 96) (s : State) : Outcome := .next (s.run (fun s => glideEnd s f.val))

/-- PHS_LF_REARM. A write of 1 to PHS_LF_INFO.VALID (R136). -/
def execPhsLfRearm (m : Master) (p : Fin 192) (s : State) : Outcome :=
  .next (s.put m (phsB p.val) R.PHS_LF_INFO 0x80000000)

/-- FELT_LOOP_UPDATE. The DEC voltage frames of an update of felt f have passed (R139, R140). -/
def execFeltLoopUpdate (f : Fin 96) (s : State) : Outcome := .next (s.run (fun s => feltUpdated s f.val))

/-- SETPOINT_SET_WRITE. A write of v to word 0 of the host or engine set (R144). -/
def execSetpointSetWrite (m : Master) (f : Fin 96) (engine : Bool) (v : Word) (s : State) : Outcome :=
  .next (s.put m (feltB f.val) (if engine then R.FELT_SP_ENG else R.FELT_SP_HOST) v.toNat)

/-- FELT_SRC_WRITE. A write of v to FELT_SRC (R145, R154). -/
def execFeltSrcWrite (m : Master) (f : Fin 96) (v : Word) (s : State) : Outcome :=
  .next (s.put m (feltB f.val) R.FELT_SRC v.toNat)

/-- BLK_STROBE. A strobe of BLK_STB: BLK[3:0] at its 10th and 20th sample; early: within 100 ns of the last accepted one (R153). -/
def execBlkStrobe (at10 : BitVec 4) (at20 : BitVec 4) (early : Bool) (s : State) : Outcome :=
  .next (s.run (fun s => blkStrobed s at10.toNat at20.toNat early))

/-- IN_REG_SET. The conditions of IN_REG have held for FELT_PG.TIME (R152). -/
def execInRegSet (f : Fin 96) (s : State) : Outcome := .next (s.run (fun s => inRegNow s f.val))

/-- OUT_REG. The main quantity has been out of band for FELT_PG.TIME (R152). -/
def execOutReg (f : Fin 96) (s : State) : Outcome := .next (s.run (fun s => outRegNow s f.val))

/-- BATT_DONE. A battery end condition has held for its time, or the gauge has raised a final level (R151). -/
def execBattDone (f : Fin 96) (s : State) : Outcome := .next (s.run (fun s => Sys2Proof.Machine.battDone s f.val))

/-- TRACK_LOST. The follower f judges its leader lost (R157). -/
def execTrackLost (f : Fin 96) (s : State) : Outcome := .next (s.run (fun s => trackLostNow s f.val))

/-- FELT_START. A write of FELT_CTRL with EN = 1, TEST and AT_BELL (R158). -/
def execFeltStart (m : Master) (f : Fin 96) (test : Bool) (atBell : Bool) (s : State) : Outcome :=
  .next (feltStartWrite s m f.val test atBell)

/-- START_WAIT_CLEAR. Nothing blocks the waiting start of felt f any longer (R159). -/
def execStartWaitClear (f : Fin 96) (s : State) : Outcome := .next (s.run (fun s => feltProceed s f.val))

/-- START_RAMP_END. The start ramp of felt f reaches its target (R159). -/
def execStartRampEnd (f : Fin 96) (s : State) : Outcome := .next (s.run (fun s => startRampDone s f.val))

/-- FELT_STOP. A write of FELT_CTRL with EN = 0 that keeps the other fields (R161). -/
def execFeltStop (m : Master) (f : Fin 96) (s : State) : Outcome := .next (s.ctl m (feltB f.val) F.FELT_CTRL_EN 0)

/-- STOP_PROFILE_END. The stop profile of felt f reaches its end (R161). -/
def execStopProfileEnd (f : Fin 96) (s : State) : Outcome := .next (s.run (fun s => stopDone s f.val))

/-- STOP_TMO. FELT_STOP.TMO has passed in the stop profile (R161). -/
def execStopTmo (f : Fin 96) (s : State) : Outcome := .next (s.run (fun s => stopTimeout s f.val))

/-- FELT_ABORT. A write of FELT_CTRL with ABORT = 1 (R162). -/
def execFeltAbort (m : Master) (f : Fin 96) (s : State) : Outcome := .next (s.ctl m (feltB f.val) F.FELT_CTRL_ABORT 1)

/-- FELT_TEST_WRITE. A write of FELT_CTRL that sets TEST and keeps the other fields (R163). -/
def execFeltTestWrite (m : Master) (f : Fin 96) (test : Bool) (s : State) : Outcome :=
  .next (s.ctl m (feltB f.val) F.FELT_CTRL_TEST ((b2n test)))

/-- BREAKER_TICK. A microsecond of felt f's breaker ends (R164). -/
def execBreakerTick (f : Fin 96) (s : State) : Outcome := .next (s.run (fun s => microEnds s f.val))

/-- BREAKER_RETRY. The retry wait T_RETRY has passed (R166). -/
def execBreakerRetry (f : Fin 96) (s : State) : Outcome := .next (s.run (fun s => breakerRetried s f.val))

/-- BREAKER_COUNT_CLEAR. IN_REG has held for FELT_BRK2.CLR seconds (R166). -/
def execBreakerCountClear (f : Fin 96) (s : State) : Outcome := .next (s.run (fun s => breakerForgets s f.val))

/-- BRK_CLEAR. A write of 1 to FELT_CTRL.BRK_CLEAR that keeps the other fields (R166). -/
def execBrkClear (m : Master) (f : Fin 96) (s : State) : Outcome := .next (s.ctl m (feltB f.val) F.FELT_CTRL_BRK_CLEAR 1)

/-- OV_CLEAR. A write of 1 to FELT_CTRL.OV_CLEAR that keeps the other fields (R167). -/
def execOvClear (m : Master) (f : Fin 96) (s : State) : Outcome := .next (s.ctl m (feltB f.val) F.FELT_CTRL_OV_CLEAR 1)

/-- OV_CLEAR_TIMEOUT. 1 ms has passed without every lane's confirmation (R167). -/
def execOvClearTimeout (f : Fin 96) (s : State) : Outcome := .next (s.run (fun s => ovClearLate s f.val))

/-- LEAD_RESISTANCE_LEARNED. The first qualifying millisecond ends: the means of v_force − v_sense and of i_avg over it (R169). -/
def execLeadResistanceLearned (f : Fin 96) (dv : Word) (iMean : Word) (s : State) : Outcome :=
  .next (s.run (fun s => leadLearned s f.val dv iMean))

/-- SENSE_OPEN. The sense drop has been too small for 10 ms (R170, R171). -/
def execSenseOpen (f : Fin 96) (s : State) : Outcome := .next (s.run (fun s => senseJudged s f.val))

end Sys2Proof.Machine
end

