-- ==== Sys2Proof/Machine/ExecFlow.lean ====
section
/-! DEFINITION. What each command does: Achal branches, jumps, calls and system instructions (R320 to R325, R343, R347). -/
namespace Sys2Proof.Machine

/-- BR. Branches by off13 where ra and rb meet cond (R320). -/
def execBr (e : Fin 96) (ra rb : BitVec 5) (cond : BitVec 3) (off : BitVec 13) (s : State) : Outcome :=
  .next (s.engDo (fun s => engBranch s e.val (achalWord (.br e ra rb cond off)) off (fun x => (brCond cond.toNat (x.reg ra) (x.reg rb)).map (fun t => (t, 0)))))

/-- BRI. As BR against sx(imm5) (R320). -/
def execBri (e : Fin 96) (ra : BitVec 5) (cond : BitVec 3) (imm : BitVec 5) (off : BitVec 13) (s : State) : Outcome :=
  .next (s.engDo (fun s => engBranch s e.val (achalWord (.bri e ra cond imm off)) off (fun x => (brCond cond.toNat (x.reg ra) (sx imm)).map (fun t => (t, 0)))))

/-- FBR. Branches where the binary32 values meet cond (R320). -/
def execFbr (e : Fin 96) (ra rb : BitVec 5) (cond : BitVec 3) (off : BitVec 13) (s : State) : Outcome :=
  .next (s.engDo (fun s => engBranch s e.val (achalWord (.fbr e ra rb cond off)) off (fun x => fbrCond cond.toNat (x.reg ra) (x.reg rb))))

/-- BB. Branches where bit[badr] = sense (R320). -/
def execBb (e : Fin 96) (badr : BitVec 12) (sense : Bool) (off : BitVec 13) (s : State) : Outcome :=
  .next (s.engDo (fun s => engBb s e badr sense off))

/-- BRB. Branches where ra[k] = sense (R320). -/
def execBrb (e : Fin 96) (ra k : BitVec 5) (sense : Bool) (off : BitVec 13) (s : State) : Outcome :=
  .next (s.engDo (fun s => engReg s e.val (fun x => if (x.reg ra).getLsbD k.toNat = sense then x.branch off else x)))

/-- J. PC ← tgt (R321). -/
def execJ (e : Fin 96) (tgt : BitVec 12) (s : State) : Outcome :=
  .next (s.engDo (fun s => engReg s e.val (fun x => x.goto tgt.toNat)))

/-- JR. PC ← ra[11:0] (R321). -/
def execJr (e : Fin 96) (ra : BitVec 5) (s : State) : Outcome :=
  .next (s.engDo (fun s => engReg s e.val (fun x => x.goto (x.reg ra).toNat)))

/-- CALL. Pushes a frame and jumps to tgt (R324). -/
def execCall (e : Fin 96) (mask : BitVec 14) (tgt : BitVec 12) (s : State) : Outcome :=
  .next (s.engDo (fun s => engCall s e mask (fun _ => tgt.toNat)))

/-- CALLR. Pushes a frame and jumps to ra[11:0] (R324). -/
def execCallr (e : Fin 96) (mask : BitVec 14) (ra : BitVec 5) (s : State) : Outcome :=
  .next (s.engDo (fun s => engCall s e mask (fun x => (x.reg ra).toNat)))

/-- RET. Pops a frame and returns (R325). -/
def execRet (e : Fin 96) (mask : BitVec 14) (s : State) : Outcome := .next (s.engDo (fun s => engRet s e mask))

/-- NOP. Nothing (R322). -/
def execNop (e : Fin 96) (s : State) : Outcome := .next (s.engDo (fun s => engReg s e.val (fun x => x)))

/-- HALT. Halts the engine on purpose (R322). -/
def execHalt (e : Fin 96) (s : State) : Outcome := .next (s.clocked (fun s => engHaltInstr s e.val))

/-- WAIT. Suspends the running task until its trigger (R343). -/
def execWait (e : Fin 96) (s : State) : Outcome := .next (s.clocked (fun s => engWait s e.val))

/-- FENCE. Waits until earlier stores are visible and earlier products complete (R322). -/
def execFence (e : Fin 96) (s : State) : Outcome := .next (s.engDo (fun s => engFence s e.val))

/-- TRAP. Raises TRAP with imm16 (R322). -/
def execTrap (e : Fin 96) (imm : BitVec 16) (s : State) : Outcome :=
  .next (s.clocked (fun s => engIssue s e.val (fun _ _ => .fault 7 imm.toNat)))

/-- RETI. Returns from a task or from the fault context (R343, R347). -/
def execReti (e : Fin 96) (s : State) : Outcome := .next (s.clocked (fun s => engReti s e.val))

/-- MFS. g ← special register sr (R306). -/
def execMfs (e : Fin 96) (g : BitVec 5) (sr : BitVec 5) (s : State) : Outcome :=
  .next (s.engDo (fun s => engMfs s e.val (achalWord (.mfs e g sr)) g sr))

/-- MTS. Special register sr ← g (R306, R329). -/
def execMts (e : Fin 96) (g : BitVec 5) (sr : BitVec 5) (s : State) : Outcome :=
  .next (s.engDo (fun s => engMts s e.val (achalWord (.mts e g sr)) g sr))

end Sys2Proof.Machine
end

