-- ==== Sys2Proof/Machine/ExecFp.lean ====
section
/-! DEFINITION. What each command does: Achal products, floating point and reserved encodings (R313, R327, R333). -/
namespace Sys2Proof.Machine

/-- MUL. Starts PH:PL ← ra × rb, signed (R327). -/
def execMul (e : Fin 96) (ra rb : BitVec 5) (s : State) : Outcome :=
  .next (s.engDo (fun s => engProduct s e.val ra rb true false))

/-- MULU. Starts PH:PL ← ra × rb, unsigned (R327). -/
def execMulu (e : Fin 96) (ra rb : BitVec 5) (s : State) : Outcome :=
  .next (s.engDo (fun s => engProduct s e.val ra rb false false))

/-- MAC. Starts PH:PL ← PH:PL + ra × rb, signed (R327). -/
def execMac (e : Fin 96) (ra rb : BitVec 5) (s : State) : Outcome :=
  .next (s.engDo (fun s => engProduct s e.val ra rb true true))

/-- MACU. Starts PH:PL ← PH:PL + ra × rb, unsigned (R327). -/
def execMacu (e : Fin 96) (ra rb : BitVec 5) (s : State) : Outcome :=
  .next (s.engDo (fun s => engProduct s e.val ra rb false true))

/-- FMUL. Starts PL ← ra × rb, binary32 (R327). -/
def execFmul (e : Fin 96) (ra rb : BitVec 5) (s : State) : Outcome :=
  .next (s.engDo (fun s => engFProduct s e.val ra rb false))

/-- FMAC. Starts PL ← ra × rb + PL, binary32, one rounding (R327). -/
def execFmac (e : Fin 96) (ra rb : BitVec 5) (s : State) : Outcome :=
  .next (s.engDo (fun s => engFProduct s e.val ra rb true))

/-- PRODUCT_COMPLETE. The oldest product in flight of engine e becomes visible (R327, R328). -/
def execProductComplete (e : Fin 96) (s : State) : Outcome := .next (s.engDo (fun s => prodComplete s e.val))

/-- FADD. rd ← ra + rb, binary32 (R333). -/
def execFadd (e : Fin 96) (rd ra rb : BitVec 5) (s : State) : Outcome :=
  .next (s.engDo (fun s => engReg s e.val (fun x => x.setF rd (fAddF (x.reg ra) (x.reg rb)))))

/-- FSUB. rd ← ra − rb, binary32 (R333). -/
def execFsub (e : Fin 96) (rd ra rb : BitVec 5) (s : State) : Outcome :=
  .next (s.engDo (fun s => engReg s e.val (fun x => x.setF rd (fSubF (x.reg ra) (x.reg rb)))))

/-- FMIN. rd ← minimumNumber, binary32 (R333). -/
def execFmin (e : Fin 96) (rd ra rb : BitVec 5) (s : State) : Outcome :=
  .next (s.engDo (fun s => engReg s e.val (fun x => x.setF rd (fMinF (x.reg ra) (x.reg rb)))))

/-- FMAX. rd ← maximumNumber, binary32 (R333). -/
def execFmax (e : Fin 96) (rd ra rb : BitVec 5) (s : State) : Outcome :=
  .next (s.engDo (fun s => engReg s e.val (fun x => x.setF rd (fMaxF (x.reg ra) (x.reg rb)))))

/-- FABS. rd ← ra with bit 31 cleared (R333, R334). -/
def execFabs (e : Fin 96) (rd ra : BitVec 5) (s : State) : Outcome :=
  .next (s.engDo (fun s => engReg s e.val (fun x => x.setReg rd (fAbs (x.reg ra)))))

/-- FNEG. rd ← ra with bit 31 inverted (R333, R334). -/
def execFneg (e : Fin 96) (rd ra : BitVec 5) (s : State) : Outcome :=
  .next (s.engDo (fun s => engReg s e.val (fun x => x.setReg rd (fNeg (x.reg ra)))))

/-- FRCP. rd ← 1 / ra, binary32 (R333, R334). -/
def execFrcp (e : Fin 96) (rd ra : BitVec 5) (s : State) : Outcome :=
  .next (s.engDo (fun s => engReg s e.val (fun x => x.setF rd (fDivF 0x3F800000#32 (x.reg ra)))))

/-- I2F. rd ← ra, signed, as binary32 (R333, R334). -/
def execI2f (e : Fin 96) (rd ra : BitVec 5) (s : State) : Outcome :=
  .next (s.engDo (fun s => engReg s e.val (fun x => x.setF rd (fOfIntF (x.reg ra).toInt))))

/-- U2F. rd ← ra, unsigned, as binary32 (R333, R334). -/
def execU2f (e : Fin 96) (rd ra : BitVec 5) (s : State) : Outcome :=
  .next (s.engDo (fun s => engReg s e.val (fun x => x.setF rd (fOfIntF (x.reg ra).toNat))))

/-- F2I. rd ← ra to a signed integer, nearest even (R333, R334). -/
def execF2i (e : Fin 96) (rd ra : BitVec 5) (s : State) : Outcome :=
  .next (s.engDo (fun s => engReg s e.val (fun x => x.setI rd (fToIntF (-2147483648) 2147483647 true (x.reg ra)))))

/-- F2I_Z. rd ← ra to a signed integer, toward zero (R333, R334). -/
def execF2iZ (e : Fin 96) (rd ra : BitVec 5) (s : State) : Outcome :=
  .next (s.engDo (fun s => engReg s e.val (fun x => x.setI rd (fToIntF (-2147483648) 2147483647 false (x.reg ra)))))

/-- F2U. rd ← ra to an unsigned integer, nearest even (R333, R334). -/
def execF2u (e : Fin 96) (rd ra : BitVec 5) (s : State) : Outcome :=
  .next (s.engDo (fun s => engReg s e.val (fun x => x.setI rd (fToIntF 0 4294967295 true (x.reg ra)))))

/-- F2U_Z. rd ← ra to an unsigned integer, toward zero (R333, R334). -/
def execF2uZ (e : Fin 96) (rd ra : BitVec 5) (s : State) : Outcome :=
  .next (s.engDo (fun s => engReg s e.val (fun x => x.setI rd (fToIntF 0 4294967295 false (x.reg ra)))))

/-- ILLEGAL. The word w, a reserved encoding, is issued (R313). -/
def execIllegal (e : Fin 96) (w : Word) (s : State) : Outcome := .next (s.clocked (fun s => engIllegal s e.val w.toNat))

end Sys2Proof.Machine
end

