-- ==== Sys2Proof/Machine/ExecGauge.lean ====
section
/-! DEFINITION. What each command does: battery gauges (09_gauge.md). -/
namespace Sys2Proof.Machine

/-- GAUGE_STEP. A microsecond of gauge g ends (R277 to R282). -/
def execGaugeStep (g : Fin 100) (s : State) : Outcome := .next (s.run (fun s => gauStep s g.val))

/-- GAUGE_LOW_ENTRY. |i_b| has stayed within GAU_LOW_I for 1 s (R281). -/
def execGaugeLowEntry (g : Fin 100) (s : State) : Outcome := .next (s.run (fun s => gauLowEntry s g.val))

/-- GAU_BLIND. Gauge g has had no valid sample for 1 ms (R279). -/
def execGauBlind (g : Fin 100) (s : State) : Outcome := .next (s.run (fun s => Sys2Proof.Machine.gauBlind s g.val))

/-- REST. A rest of gauge g qualifies (R286). -/
def execRest (g : Fin 100) (r : RestRead) (s : State) : Outcome := .next (s.run (fun s => gauRest s g.val r.v r.dv))

/-- GAUGE_INIT. Gauge g takes its initial point, v its mean v_b in volts (R288). -/
def execGaugeInit (g : Fin 100) (v : Word) (s : State) : Outcome := .next (s.run (fun s => gauInit s g.val v))

/-- LEVEL_JUDGE. Gauge g judges its levels (R293). -/
def execLevelJudge (g : Fin 100) (s : State) : Outcome := .next (s.run (fun s => levelJudged s g.val))

/-- GAU_EN. A write of GAU_CTRL that sets EN to en and keeps the other fields (R296). -/
def execGauEn (m : Master) (g : Fin 100) (en : Bool) (s : State) : Outcome :=
  .next (s.ctl m (gauB g.val) F.GAU_CTRL_EN ((b2n en)))

/-- SWAP. A write of GAU_CTRL with SWAP = 1 that keeps the other fields (R297). -/
def execSwap (m : Master) (g : Fin 100) (s : State) : Outcome := .next (s.ctl m (gauB g.val) F.GAU_CTRL_SWAP 1)

/-- RELOAD. A write of GAU_CTRL with RELOAD = 1 that keeps the other fields (R284). -/
def execReload (m : Master) (g : Fin 100) (s : State) : Outcome := .next (s.ctl m (gauB g.val) F.GAU_CTRL_RELOAD 1)

/-- LEARN_RESET. A write of GAU_CTRL with LEARN_RESET = 1 that keeps the other fields (R296). -/
def execLearnReset (m : Master) (g : Fin 100) (s : State) : Outcome :=
  .next (s.ctl m (gauB g.val) F.GAU_CTRL_LEARN_RESET 1)

/-- TAP_OPEN_CLEAR. A write of mask to GAU_TAP_STAT (R301). -/
def execTapOpenClear (m : Master) (g : Fin 100) (mask : BitVec 17) (s : State) : Outcome :=
  .next (s.put m (gauB g.val) R.GAU_TAP_STAT mask.toNat)

end Sys2Proof.Machine
end

