-- ==== Sys2Proof/Machine/ExecHost.lean ====
section
/-! DEFINITION. What each command does: the host interfaces (16_host_cascade.md). -/
namespace Sys2Proof.Machine

/-- READ. A READ frame (R466). -/
def execRead (h : HostItf) (addr : Word) (len : BitVec 16) (check : BitVec 16) (s : State) : Outcome :=
  .next (s.run (fun s => hostFrame s h cmdRead addr.toNat len.toNat [] check))

/-- READ_FIX. A READ_FIX frame (R466). -/
def execReadFix (h : HostItf) (addr : Word) (len : BitVec 16) (check : BitVec 16) (s : State) : Outcome :=
  .next (s.run (fun s => hostFrame s h cmdReadFix addr.toNat len.toNat [] check))

/-- WRITE. A WRITE frame whose LEN is the number of its data words (R466). -/
def execWrite (h : HostItf) (addr : Word) (data : List Word) (check : BitVec 16) (s : State) : Outcome :=
  .next (s.run (fun s => hostFrame s h cmdWrite addr.toNat data.length data check))

/-- WRITE_FIX. A WRITE_FIX frame whose LEN is the number of its data words (R466). -/
def execWriteFix (h : HostItf) (addr : Word) (data : List Word) (check : BitVec 16) (s : State) : Outcome :=
  .next (s.run (fun s => hostFrame s h cmdWriteFix addr.toNat data.length data check))

/-- ID. An ID frame (R466). -/
def execId (h : HostItf) (addr : Word) (len : BitVec 16) (check : BitVec 16) (s : State) : Outcome :=
  .next (s.run (fun s => hostFrame s h cmdId addr.toNat len.toNat [] check))

/-- SPI_ABORT. SPI_CS_N rises early: in the request (none), or in the data of a READ, or with true a READ_FIX, from an address after that many whole words (R469). -/
def execSpiAbort (done : Option (Bool × Word × BitVec 16)) (s : State) : Outcome :=
  .next (s.run (fun s => Sys2Proof.Machine.spiAbort s done))

/-- TW_READ. A two-wire read of the head response, with its PEC clocked out or cut short before it (R473). -/
def execTwRead (whole : Bool) (s : State) : Outcome := .next (s.run (fun s => Sys2Proof.Machine.twRead s whole))

/-- TW_NOTICE. The device sends the pending notice; the host acknowledges it, or the ninth try fails (R475). -/
def execTwNotice (ack : Bool) (s : State) : Outcome := .next (s.run (fun s => Sys2Proof.Machine.twNotice s ack))

/-- TW_SCL_TIMEOUT. SCL has been low for 25 ms (R476). -/
def execTwSclTimeout (s : State) : Outcome := .next (s.run (fun s => Sys2Proof.Machine.twSclTimeout s))

/-- TW_STUCK. SCL, or with sda SDA, is still low after the recovery (R476). -/
def execTwStuck (sda : Bool) (s : State) : Outcome := .next (s.run (fun s => Sys2Proof.Machine.twStuck s sda))

/-- TW_SDA_RECOVERY. SDA has been low for 35 ms: nine clocks and a STOP, after which SDA is high or not (R476). -/
def execTwSdaRecovery (high : Bool) (s : State) : Outcome :=
  .next (s.run (fun s => Sys2Proof.Machine.twSdaRecovery s high))

/-- TW_RESET. TW_RST_N has been low for 1 µs, or a master writes HOST_TW_CTRL.RESET = 1 (R476). -/
def execTwReset (r : TwResetBy) (s : State) : Outcome :=
  .next (match r with
    | .pin held => s.run (fun s => twPinReset s held)
    | .ctrl m => s.put m hostB R.HOST_TW_CTRL 1)

end Sys2Proof.Machine
end

