-- ==== Sys2Proof/Machine/ExecImage.lean ====
section
/-! DEFINITION. What each command does: registers and image loading (00_scope.md, 02_fabric_image.md). -/
namespace Sys2Proof.Machine

/-- REGISTER_WRITE. A master writes v to the register or memory word at host address a (R8). -/
def execRegisterWrite (m : Master) (a : Word) (v : Word) (s : State) : Outcome :=
  .next (s.byMaster m (fun s => masterWrite m a.toNat v s))

/-- LOAD. A master writes SYS_IMG_CTRL with LOAD = 1 and SRC = src (R56). -/
def execLoad (m : Master) (src : Fin 8) (s : State) : Outcome := .next (s.put m 0 R.SYS_IMG_CTRL (1 + 2 * src.val))

/-- IMAGE_LOCK. A master writes SYS_IMG_CTRL.LOCK = 1 (R60). -/
def execImageLock (m : Master) (s : State) : Outcome := .next (s.put m 0 R.SYS_IMG_CTRL 0x100)

/-- BOOT_IMAGE_SELECT. The boot scan has ended; the loader chooses its first flash slot (R53). -/
def execBootImageSelect (s : State) : Outcome := .next (s.run (fun s => bootSelect s))

/-- IMAGE_PASS1_END. The running pass 1 completes (R54). -/
def execImagePass1End (s : State) : Outcome := .next (s.run (passEnd imgPass1))

/-- IMAGE_PASS2_END. The running pass 2 completes (R54). -/
def execImagePass2End (s : State) : Outcome := .next (s.run (passEnd imgPass2))

/-- DIGEST_RECOMPUTE_END. The digest recomputation of a live reload completes (R65). -/
def execDigestRecomputeEnd (s : State) : Outcome := .next (s.run (fun s => digestEnd s))

/-- REFELT_GO. A master writes SYS_REFELT_CTRL with GO = 1, DEVICE = dev, FELT = felt (R61). -/
def execRefeltGo (m : Master) (dev : Fin 16) (felt : Fin 128) (s : State) : Outcome :=
  .next (s.put m 0 R.SYS_REFELT_CTRL (dev.val * 2 ^ 16 + 2 ^ 8 + felt.val))

/-- DIGEST_BUSY_TIMEOUT. A roll call has waited 2 ms for a settled digest (R66). -/
def execDigestBusyTimeout (s : State) : Outcome := .next (s.run (fun s => digestLate s))

end Sys2Proof.Machine
end

