-- ==== Sys2Proof/Machine/ExecLane.lean ====
section
/-! DEFINITION. What each command does: stage lanes (03_stage_link.md). -/
namespace Sys2Proof.Machine

/-- UPLINK_FRAME. An uplink frame time ends: the 280 bits as received, b0 most significant (none: no signal), and M in ticks from L_k (R77, R97). -/
def execUplinkFrame (l : Fin 12) (frame : Option (BitVec 280)) (mm : BitVec 16) (s : State) : Outcome :=
  .next (s.run (fun s => Sys2Proof.Machine.uplinkFrame s l.val frame mm.toNat))

/-- DOWNLINK_FRAME_BUILD. The lane builds and sends its next downlink frame (R80). -/
def execDownlinkFrameBuild (l : Fin 12) (s : State) : Outcome := .next (s.run (fun s => frameBuild s l.val))

/-- SL_LOSS. The lane reports the SL_LOSS that is due (R104). -/
def execSlLoss (l : Fin 12) (s : State) : Outcome := .next (s.run (fun s => slLossDue s l.val))

/-- LATENCY_TRACK_STEP. A millisecond of latency tracking (R98). -/
def execLatencyTrackStep (l : Fin 12) (s : State) : Outcome := .next (s.run (fun s => latencyStep s l.val))

/-- TIME_PACKET_SEND. A TIME packet is due (R95). -/
def execTimePacketSend (l : Fin 12) (s : State) : Outcome := .next (s.run (fun s => timePacket s l.val))

/-- SIDE_RETX_TIMEOUT. 128 frames have passed since the last word of the oldest unacknowledged packet (R91). -/
def execSideRetxTimeout (l : Fin 12) (s : State) : Outcome := .next (s.run (fun s => sideRetx s l.val))

/-- RESYNC. The RESYNC packet at the head of the received packets is taken (R92). -/
def execResync (l : Fin 12) (s : State) : Outcome := .next (s.run (fun s => resyncTaken s l.val))

/-- RETRAIN_REQ. The RETRAIN_REQ packet at the head is taken (R89). -/
def execRetrainReq (l : Fin 12) (s : State) : Outcome := .next (s.run (fun s => retrainReqTaken s l.val))

/-- STATUS_PAGE. The STATUS packet at the head is taken (R88). -/
def execStatusPage (l : Fin 12) (s : State) : Outcome := .next (s.run (fun s => statusTaken s l.val))

/-- REG_RSP. The REG_RSP packet at the head is taken (R84). -/
def execRegRsp (l : Fin 12) (s : State) : Outcome := .next (s.run (fun s => regRspTaken s l.val))

/-- RESERVED_PACKET. The reserved-class packet at the head is taken (R84). -/
def execReservedPacket (l : Fin 12) (s : State) : Outcome := .next (s.run (fun s => reservedTaken s l.val))

/-- SIDE_IDLE. The last uplink IDLE packet is taken (R84). -/
def execSideIdle (l : Fin 12) (s : State) : Outcome := .next (s.run (fun s => idleTaken s l.val))

/-- PD_MSG. The PD_MSG segment at the head is taken (R85). -/
def execPdMsg (l : Fin 12) (s : State) : Outcome := .next (s.run (fun s => pdMsgTaken s l.val))

/-- HUB_ACCESS_GO. A write of SL_HUB_CMD with GO = 1, WRITE and COUNT (R84). -/
def execHubAccessGo (m : Master) (l : Fin 12) (write : Bool) (count : Fin 8) (s : State) : Outcome :=
  .next (s.put m (slB l.val) R.SL_HUB_CMD (1 + 2 * b2n write + 16 * count.val))

/-- TRAIN_IDLE_END. The 10 µs of IDLE have passed on stage lane l, or from 12 on on cascade lane l − 12 (R99, R480). -/
def execTrainIdleEnd (l : Fin 16) (s : State) : Outcome :=
  .next (s.run (fun s => if l.val < 12 then idleEnd s l.val else casIdleEnd s (l.val - 12)))

/-- TRAIN_TIMEOUT. The timer of the running training state expires on stage lane l, or from 12 on on cascade lane l − 12 (R99, R480). -/
def execTrainTimeout (l : Fin 16) (s : State) : Outcome :=
  .next (s.run (fun s => if l.val < 12 then Sys2Proof.Machine.trainTimeout s l.val else casTrainTimeout s (l.val - 12)))

/-- BACKOFF_END. The 100 ms of BACKOFF have passed on stage lane l, or from 12 on on cascade lane l − 12 (R99, R480). -/
def execBackoffEnd (l : Fin 16) (s : State) : Outcome :=
  .next (s.run (fun s => if l.val < 12 then backoffDone s l.val else casBackoffEnd s (l.val - 12)))

/-- SL_EN. A write of SL_CTRL that sets EN to en and keeps the other fields (R106). -/
def execSlEn (m : Master) (l : Fin 12) (en : Bool) (s : State) : Outcome :=
  .next (s.ctl m (slB l.val) F.SL_CTRL_EN ((b2n en)))

/-- SL_RETRAIN. A write of SL_CTRL with RETRAIN = 1 that keeps the other fields (R106). -/
def execSlRetrain (m : Master) (l : Fin 12) (s : State) : Outcome := .next (s.ctl m (slB l.val) F.SL_CTRL_RETRAIN 1)

/-- SL_ABORT. A write of SL_CTRL with ABORT = 1 that keeps the other fields (R106). -/
def execSlAbort (m : Master) (l : Fin 12) (s : State) : Outcome := .next (s.ctl m (slB l.val) F.SL_CTRL_ABORT 1)

/-- LATCH_STATE. The LATCH_STATE packet at the head is taken (R89, R518). -/
def execLatchState (l : Fin 12) (s : State) : Outcome := .next (s.run (fun s => latchTaken s l.val))

/-- TRIP. The TRIP packet at the head is taken (R134). -/
def execTrip (l : Fin 12) (s : State) : Outcome := .next (s.run (fun s => tripTaken s l.val))

end Sys2Proof.Machine
end

