-- ==== Sys2Proof/Machine/ExecMem.lean ====
section
/-! DEFINITION. What each command does: Achal loads, stores, code, I/O and bit instructions (R318, R319). -/
namespace Sys2Proof.Machine

/-- LDW. rd ← mem32[a], a = ra + sx(imm16) (R318). -/
def execLdw (e : Fin 96) (rd ra : BitVec 5) (imm : BitVec 16) (s : State) : Outcome :=
  .next (s.engDo (fun s => engLd s e rd ra imm 4 (BitVec.ofNat 32)))

/-- LDH. rd ← sx of mem16[a], a = ra + sx(imm16) (R318). -/
def execLdh (e : Fin 96) (rd ra : BitVec 5) (imm : BitVec 16) (s : State) : Outcome :=
  .next (s.engDo (fun s => engLd s e rd ra imm 2 (fun n => sx (BitVec.ofNat 16 n))))

/-- LDHU. rd ← zx of mem16[a], a = ra + sx(imm16) (R318). -/
def execLdhu (e : Fin 96) (rd ra : BitVec 5) (imm : BitVec 16) (s : State) : Outcome :=
  .next (s.engDo (fun s => engLd s e rd ra imm 2 (fun n => zx (BitVec.ofNat 16 n))))

/-- LDB. rd ← sx of mem8[a], a = ra + sx(imm16) (R318). -/
def execLdb (e : Fin 96) (rd ra : BitVec 5) (imm : BitVec 16) (s : State) : Outcome :=
  .next (s.engDo (fun s => engLd s e rd ra imm 1 (fun n => sx (BitVec.ofNat 8 n))))

/-- LDBU. rd ← zx of mem8[a], a = ra + sx(imm16) (R318). -/
def execLdbu (e : Fin 96) (rd ra : BitVec 5) (imm : BitVec 16) (s : State) : Outcome :=
  .next (s.engDo (fun s => engLd s e rd ra imm 1 (fun n => zx (BitVec.ofNat 8 n))))

/-- STW. mem32[a] ← rs, a = ra + sx(imm16) (R318). -/
def execStw (e : Fin 96) (rs ra : BitVec 5) (imm : BitVec 16) (s : State) : Outcome :=
  .next (s.engDo (fun s => engSt s e rs ra imm 4))

/-- STH. mem16[a] ← the low half of rs, a = ra + sx(imm16) (R318). -/
def execSth (e : Fin 96) (rs ra : BitVec 5) (imm : BitVec 16) (s : State) : Outcome :=
  .next (s.engDo (fun s => engSt s e rs ra imm 2))

/-- STB. mem8[a] ← the low byte of rs, a = ra + sx(imm16) (R318). -/
def execStb (e : Fin 96) (rs ra : BitVec 5) (imm : BitVec 16) (s : State) : Outcome :=
  .next (s.engDo (fun s => engSt s e rs ra imm 1))

/-- XCHG. rs and mem32[a] are exchanged, a = ra + sx(imm16) (R318). -/
def execXchg (e : Fin 96) (rs ra : BitVec 5) (imm : BitVec 16) (s : State) : Outcome :=
  .next (s.engDo (fun s => engXchg s e rs ra imm))

/-- LDC. rd ← imem[(ra + sx(imm16)) mod 4096] (R319). -/
def execLdc (e : Fin 96) (rd ra : BitVec 5) (imm : BitVec 16) (s : State) : Outcome :=
  .next (s.engDo (fun s => engLdc s e rd ra imm))

/-- STC. imem[(ra + sx(imm16)) mod 4096] ← rs (R319). -/
def execStc (e : Fin 96) (rs ra : BitVec 5) (imm : BitVec 16) (s : State) : Outcome :=
  .next (s.engDo (fun s => engStc s e rs ra imm))

/-- IN. rd ← io[(ra + imm16) mod 65,536] (R319). -/
def execIoIn (e : Fin 96) (rd ra : BitVec 5) (imm : BitVec 16) (s : State) : Outcome :=
  .next (s.clocked (fun s => engIn s e rd ra imm))

/-- OUT. io[(ra + imm16) mod 65,536] ← rs (R319). -/
def execIoOut (e : Fin 96) (rs ra : BitVec 5) (imm : BitVec 16) (s : State) : Outcome :=
  .next (s.clocked (fun s => engOut s e rs ra imm))

/-- BTST. rd ← bit[b], b = (ra + zx(imm12)) mod 4096 (R319). -/
def execBtst (e : Fin 96) (ra rd : BitVec 5) (imm : BitVec 12) (s : State) : Outcome :=
  .next (s.engDo (fun s => engBtst s e ra rd imm))

/-- BWR. bit[b] ← rd[0], b = (ra + zx(imm12)) mod 4096 (R319). -/
def execBwr (e : Fin 96) (ra rd : BitVec 5) (imm : BitVec 12) (s : State) : Outcome :=
  .next (s.clocked (fun s => engBit s e ra imm (fun x _ => (x.reg rd).getLsbD 0)))

/-- BSET. bit[b] ← 1, b = (ra + zx(imm12)) mod 4096 (R319). -/
def execBset (e : Fin 96) (ra : BitVec 5) (imm : BitVec 12) (s : State) : Outcome :=
  .next (s.clocked (fun s => engBit s e ra imm (fun _ _ => true)))

/-- BCLR. bit[b] ← 0, b = (ra + zx(imm12)) mod 4096 (R319). -/
def execBclr (e : Fin 96) (ra : BitVec 5) (imm : BitVec 12) (s : State) : Outcome :=
  .next (s.clocked (fun s => engBit s e ra imm (fun _ _ => false)))

/-- BTGL. bit[b] ← NOT bit[b], b = (ra + zx(imm12)) mod 4096 (R319). -/
def execBtgl (e : Fin 96) (ra : BitVec 5) (imm : BitVec 12) (s : State) : Outcome :=
  .next (s.clocked (fun s => engBit s e ra imm (fun _ b => !b)))

end Sys2Proof.Machine
end

