-- ==== Sys2Proof/Machine/ExecNv.lean ====
section
/-! DEFINITION. What each command does: slate, record array and report cards (15_nonvolatile.md). -/
namespace Sys2Proof.Machine

/-- STORE. A write of NV_CTRL.STORE = 1 (R443). -/
def execStore (m : Master) (s : State) : Outcome := .next (s.put m nvB R.NV_CTRL 1)

/-- STORE_COMPLETE. The running store reaches its read-back, which agrees with the CRC or not (R444, R446). -/
def execStoreComplete (readback : Bool) (s : State) : Outcome :=
  .next (s.run (fun s => resetWhenStored (storeEnd s readback)))

/-- CARD. A write of NV_CTRL.CARD = 1 (R458). -/
def execCard (m : Master) (s : State) : Outcome := .next (s.put m nvB R.NV_CTRL 2)

/-- CARD_WRITE_COMPLETE. The oldest waiting card has been written (R458, R460). -/
def execCardWriteComplete (s : State) : Outcome := .next (s.run (fun s => resetWhenStored (cardWritten s)))

/-- CARD_CLEAR. A write of NV_CTRL.CARD_CLEAR = 1 (R452). -/
def execCardClear (m : Master) (s : State) : Outcome := .next (s.put m nvB R.NV_CTRL 4)

/-- NV_ERASE. A write of NV_ERASE with GO = 1 and SECT = sect (R452). -/
def execNvErase (m : Master) (sect : Fin 32) (s : State) : Outcome := .next (s.put m nvB R.NV_ERASE (2 ^ 8 + sect.val))

/-- ERASE_COMPLETE. The running sector erase completes (R452). -/
def execEraseComplete (s : State) : Outcome := .next (s.run (fun s => eraseEnd s))

/-- REC_WRITE. A write of NV_REC_CTRL with GO = 1 and TAG = tag (R451). -/
def execRecWrite (m : Master) (tag : BitVec 16) (s : State) : Outcome :=
  .next (s.put m nvB R.NV_REC_CTRL (tag.toNat * 2 ^ 16 + 1))

/-- REC_WRITE_COMPLETE. The running record write ends; bad is the record word that reads back wrong, if any (R451). -/
def execRecWriteComplete (bad : Option (Fin 4096)) (s : State) : Outcome :=
  .next (s.run (fun s => recEnd s (bad.map (·.val))))

/-- NV_RAW_WRITE. A master writes 4 (bytes = 2), 2 (1) or 1 (0) bytes of v at a byte offset of the record array (R450). -/
def execNvRawWrite (m : Master) (off : Fin 131072) (bytes : Fin 3) (v : Word) (s : State) : Outcome :=
  .next (nvRaw s m off.val (2 ^ bytes.val) v.toNat)

/-- NV_CNT_INC. A write to NV_CNT_INC (R457). -/
def execNvCntInc (m : Master) (mask : BitVec 12) (s : State) : Outcome := .next (s.put m nvB R.NV_CNT_INC mask.toNat)

/-- NV_CNT_CLR. A write to NV_CNT_CLR (R457); bits 12 to 15 name the counters it refuses. -/
def execNvCntClr (m : Master) (mask : BitVec 16) (s : State) : Outcome := .next (s.put m nvB R.NV_CNT_CLR mask.toNat)

/-- BOOT_SCAN. The boot scan runs (R456). -/
def execBootScan (s : State) : Outcome := .next (s.run (fun s => bootScanRun s))

/-- BOOT_SCAN_END. The boot scan has ended (R456). -/
def execBootScanEnd (s : State) : Outcome := .next (s.run (fun s => bootScanEnded s))

end Sys2Proof.Machine
end

