-- ==== Sys2Proof/Machine/ExecPd.lean ====
section
/-! DEFINITION. What each command does: cable ports and service ports (08_cable_ports.md). -/
namespace Sys2Proof.Machine

/-- ATTACH. The Attach packet at the head is taken; cc is what the stage end says of the partner (R243). -/
def execAttach (l : Fin 12) (cc : PartnerCc) (s : State) : Outcome :=
  .next (s.run (fun s => pdEvtTaken s l.val 0 (fun s n p => portAttach s n cc (bit p 2))))

/-- DETACH. The Detach packet at the head is taken (R246). -/
def execDetach (l : Fin 12) (s : State) : Outcome :=
  .next (s.run (fun s => pdEvtTaken s l.val 1 (fun s n _ => portDetach s n)))

/-- HARD_RESET_RECEIVED. The Hard Reset packet at the head is taken (R265). -/
def execHardResetReceived (l : Fin 12) (s : State) : Outcome :=
  .next (s.run (fun s => pdEvtTaken s l.val 2 (fun s n _ => hardReset s n false)))

/-- CABLE_RESET_RECEIVED. The Cable Reset packet at the head is taken (R257). -/
def execCableResetReceived (l : Fin 12) (s : State) : Outcome :=
  .next (s.run (fun s => pdEvtTaken s l.val 3 (fun s n _ => cableReset s n)))

/-- TRANSMIT_RESULT. The transmit result packet at the head is taken (R86). -/
def execTransmitResult (l : Fin 12) (s : State) : Outcome :=
  .next (s.run (fun s => pdEvtTaken s l.val 4 (fun s n p => Sys2Proof.Machine.transmitResult s n (p % 4))))

/-- VBUS_STATE. The VBUS packet at the head is taken (R245). -/
def execVbusState (l : Fin 12) (s : State) : Outcome :=
  .next (s.run (fun s => pdEvtTaken s l.val 5 (fun s n p => portVbus s n (p % 4))))

/-- VCONN_FAULT. The VCONN fault packet at the head is taken (R261). -/
def execVconnFault (l : Fin 12) (s : State) : Outcome :=
  .next (s.run (fun s => pdEvtTaken s l.val 6 (fun s n _ => Sys2Proof.Machine.vconnFault s n)))

/-- ERROR_RECOVERY_END. tErrorRecovery has passed at port n (R247). -/
def execErrorRecoveryEnd (n : Fin 48) (s : State) : Outcome := .next (s.run (fun s => portErrorEnd s n.val))

/-- PD_MESSAGE. The oldest whole message of port n is taken (R249). -/
def execPdMessage (n : Fin 48) (s : State) : Outcome := .next (s.run (fun s => pdMessageTake s n.val))

/-- PD_REQUEST. The Request or EPR_Request at the head of port n's messages is taken (R253). -/
def execPdRequest (n : Fin 48) (s : State) : Outcome := .next (s.run (fun s => requestTake s n.val))

/-- DR_SWAP. The DR_Swap at the head is taken (R260). -/
def execDrSwap (n : Fin 48) (s : State) : Outcome :=
  .next (s.run (fun s => controlTake s n.val 9 Sys2Proof.Machine.drSwap))

/-- VCONN_SWAP. The VCONN_Swap at the head is taken (R261). -/
def execVconnSwap (n : Fin 48) (s : State) : Outcome :=
  .next (s.run (fun s => controlTake s n.val 11 Sys2Proof.Machine.vconnSwap))

/-- SOFT_RESET. The Soft_Reset at the head is taken (R266). -/
def execSoftReset (n : Fin 48) (s : State) : Outcome :=
  .next (s.run (fun s => controlTake s n.val 13 Sys2Proof.Machine.softReset))

/-- GET_REVISION. The Get_Revision at the head is taken (R248). -/
def execGetRevision (n : Fin 48) (s : State) : Outcome :=
  .next (s.run (fun s => controlTake s n.val 24 Sys2Proof.Machine.getRevision))

/-- EPR_KEEPALIVE. The EPR_KeepAlive at the head is taken (R256). -/
def execEprKeepalive (n : Fin 48) (s : State) : Outcome := .next (s.run (fun s => keepAliveTake s n.val))

/-- PD_TX_GO. A write of PD_TX_CTRL with GO = 1, SOP and LEN (R253). -/
def execPdTxGo (m : Master) (n : Fin 48) (sop : BitVec 2) (len : BitVec 9) (s : State) : Outcome :=
  .next (s.put m (pdB n.val) R.PD_TX_CTRL (2 ^ 31 + sop.toNat * 2 ^ 12 + len.toNat))

/-- PD_ADM_REQ. A write of PD_ADM_REQ with GO = 1 and P_NEW = watts (R253). -/
def execPdAdmReq (m : Master) (n : Fin 48) (watts : BitVec 12) (s : State) : Outcome :=
  .next (s.put m (pdB n.val) R.PD_ADM_REQ (2 ^ 31 + watts.toNat))

/-- PD_RX_RELEASE. A write of 1 to PD_RX_STAT.FULL (R249). -/
def execPdRxRelease (m : Master) (n : Fin 48) (s : State) : Outcome := .next (s.put m (pdB n.val) R.PD_RX_STAT (2 ^ 31))

/-- PD_EN. A write of PD_CTRL that sets EN to en and keeps the other fields (R267). -/
def execPdEn (m : Master) (n : Fin 48) (en : Bool) (s : State) : Outcome :=
  .next (s.ctl m (pdB n.val) F.PD_CTRL_EN ((b2n en)))

/-- PD_ABORT. A write of PD_CTRL with ABORT = 1 that keeps the other fields (R267). -/
def execPdAbort (m : Master) (n : Fin 48) (s : State) : Outcome := .next (s.ctl m (pdB n.val) F.PD_CTRL_ABORT 1)

/-- PD_HARD_RESET. A write of PD_CTRL with HARD_RESET = 1 that keeps the other fields (R265). -/
def execPdHardReset (m : Master) (n : Fin 48) (s : State) : Outcome := .next (s.ctl m (pdB n.val) F.PD_CTRL_HARD_RESET 1)

/-- POLICY_TMO. POLICY_TMO has passed without the policy's answer (R253). -/
def execPolicyTmo (n : Fin 48) (s : State) : Outcome := .next (s.run (fun s => policyTimeout s n.val))

/-- SRC_TRANSITION_END. tSrcTransition after Accept has passed (R253). -/
def execSrcTransitionEnd (n : Fin 48) (s : State) : Outcome := .next (s.run (fun s => srcTransition s n.val))

/-- PD_TRANSITION. The source transition limit has passed without PS_RDY (R254). -/
def execPdTransition (n : Fin 48) (s : State) : Outcome := .next (s.run (fun s => transitionLimit s n.val))

/-- PS_TRANSITION_TIMEOUT. tPSTransition has passed without PS_RDY at a sink (R255). -/
def execPsTransitionTimeout (n : Fin 48) (s : State) : Outcome := .next (s.run (fun s => psTransition s n.val))

/-- SINK_REQUEST_RESEND. tSinkRequest has passed since a Wait (R255). -/
def execSinkRequestResend (n : Fin 48) (s : State) : Outcome := .next (s.run (fun s => requestResend s n.val))

/-- PPS_REQUEST_RESEND. 8 s have passed since a sink's last PPS Request (R256). -/
def execPpsRequestResend (n : Fin 48) (s : State) : Outcome := .next (s.run (fun s => ppsResend s n.val))

/-- PPS_TIMEOUT. tPPSTimeout has passed without a Request at a source (R256). -/
def execPpsTimeout (n : Fin 48) (s : State) : Outcome := .next (s.run (fun s => Sys2Proof.Machine.ppsTimeout s n.val))

/-- EPR_KEEPALIVE_SEND. tSinkEPRKeepAlive has passed (R256). -/
def execEprKeepaliveSend (n : Fin 48) (s : State) : Outcome := .next (s.run (fun s => keepAliveSend s n.val))

/-- EPR_KEEPALIVE_TIMEOUT. tSourceEPRKeepAlive has passed without EPR_KeepAlive (R256). -/
def execEprKeepaliveTimeout (n : Fin 48) (s : State) : Outcome := .next (s.run (fun s => keepAliveTimeout s n.val))

/-- CABLE_DISCOVERY_START. tVCONNStable has passed since VCONN came on (R257). -/
def execCableDiscoveryStart (n : Fin 48) (s : State) : Outcome := .next (s.run (fun s => discoverStart s n.val))

/-- DISCOVER_IDENTITY_RETRY. tDiscoverIdentity has passed without ACK (R257). -/
def execDiscoverIdentityRetry (n : Fin 48) (s : State) : Outcome := .next (s.run (fun s => discoverRetry s n.val))

/-- SENDER_RESPONSE_TIMEOUT. tSenderResponse has passed (R266). -/
def execSenderResponseTimeout (n : Fin 48) (s : State) : Outcome := .next (s.run (fun s => senderTimeout s n.val))

/-- PS_HARD_RESET_END. tPSHardReset has passed (R265). -/
def execPsHardResetEnd (n : Fin 48) (s : State) : Outcome := .next (s.run (fun s => hardResetGate s n.val))

/-- SRC_RECOVER_END. tSrcRecover has passed (R265). -/
def execSrcRecoverEnd (n : Fin 48) (s : State) : Outcome := .next (s.run (fun s => hardResetRecover s n.val))

/-- SINK_VBUS_RETURN_TIMEOUT. VBUS has not returned to a sink in time after Hard Reset (R265). -/
def execSinkVbusReturnTimeout (n : Fin 48) (s : State) : Outcome := .next (s.run (fun s => sinkVbusReturn s n.val))

/-- SWAP_TIMEOUT. The timer of a PR_Swap step expires (R259). -/
def execSwapTimeout (n : Fin 48) (s : State) : Outcome := .next (s.run (fun s => Sys2Proof.Machine.swapTimeout s n.val))

/-- SWAP_SOURCE_START. tSwapSourceStart has passed (R259). -/
def execSwapSourceStart (n : Fin 48) (s : State) : Outcome :=
  .next (s.run (fun s => Sys2Proof.Machine.swapSourceStart s n.val))

/-- PD_GUARD. A power-path guard of port n trips (R263, R264). -/
def execPdGuard (n : Fin 48) (g : PdGuard) (s : State) : Outcome := .next (s.run (fun s => pdGuardTrip s n.val g))

/-- SVC_ATTACH. A source attaches to service port p (R269). -/
def execSvcAttach (p : Fin 2) (s : State) : Outcome := .next (finish s (Sys2Proof.Machine.svcAttach (wakeUp s) p.val))

/-- SVC_DETACH. Service port p detaches (R275). -/
def execSvcDetach (p : Fin 2) (s : State) : Outcome := .next (finish s (Sys2Proof.Machine.svcDetach s p.val))

/-- SVC_PATH_CLOSE. The VBUS of service port p has held at or above 4.2 V for 10 ms (R270). -/
def execSvcPathClose (p : Fin 2) (s : State) : Outcome := .next (finish s (pathClose s p.val))

/-- SVC_PATH_OPEN. A guard opens the path of service port p (R270). -/
def execSvcPathOpen (p : Fin 2) (cause : PathGuard) (s : State) : Outcome := .next (finish s (pathOpen s p.val cause))

/-- SVC_PATH_RETRY. 100 ms have passed since the path of port p opened on current (R270). -/
def execSvcPathRetry (p : Fin 2) (s : State) : Outcome := .next (finish s (pathRetry s p.val))

/-- GET_ID. The pending maintenance request GET_ID is executed (R274). -/
def execGetId (s : State) : Outcome := .next (finish s (svcGetId s))

/-- GET_STATUS. The pending maintenance request GET_STATUS is executed (R274). -/
def execGetStatus (s : State) : Outcome := .next (finish s (svcGetStatus s))

/-- READ_SLATE. The pending maintenance request READ_SLATE is executed (R274). -/
def execReadSlate (s : State) : Outcome := .next (finish s (svcReadSlate s))

/-- READ_CARD. The pending maintenance request READ_CARD is executed (R274). -/
def execReadCard (s : State) : Outcome := .next (finish s (svcReadCard s))

/-- UPD_BEGIN. The pending maintenance request UPD_BEGIN is executed (R275). -/
def execUpdBegin (s : State) : Outcome := .next (finish s (svcUpdBegin s))

/-- UPD_ERASE_END. The erase of the update slot completes (R275). -/
def execUpdEraseEnd (s : State) : Outcome := .next (finish s (updErased s))

/-- UPD_DATA. The pending maintenance request UPD_DATA is executed (R275). -/
def execUpdData (s : State) : Outcome := .next (finish s (svcUpdData s))

/-- UPD_END. The pending maintenance request UPD_END is executed (R275). -/
def execUpdEnd (s : State) : Outcome := .next (finish s (svcUpdEnd s))

/-- UPD_ABORT. The pending maintenance request UPD_ABORT is executed (R275). -/
def execUpdAbort (s : State) : Outcome := .next (finish s (svcUpdAbort s))

/-- SVC_PD_MESSAGE. A USB PD message, from its header on, arrives on SOP at service port p (R269, R273). -/
def execSvcPdMessage (p : Fin 2) (bytes : List Byte) (s : State) : Outcome := .next (finish s (svcMessage s p.val bytes))

/-- TYPEC_SEND_SOURCE_CAP. tTypeCSendSourceCap has passed at a source (R250). -/
def execTypecSendSourceCap (n : Fin 48) (s : State) : Outcome := .next (s.run (fun s => sendSourceCap s n.val))

/-- CHUNK_SENDER_TIMEOUT. The timer of a chunked transfer expires (R250). -/
def execChunkSenderTimeout (n : Fin 48) (s : State) : Outcome := .next (s.run (fun s => chunkTimeout s n.val))

/-- ENTER_EPR_TIMEOUT. tEnterEPR has passed (R250). -/
def execEnterEprTimeout (n : Fin 48) (s : State) : Outcome :=
  .next (s.run (fun s => Sys2Proof.Machine.enterEprTimeout s n.val))

end Sys2Proof.Machine
end

