-- ==== Sys2Proof/Machine/ExecPower.lean ====
section
/-! DEFINITION. What each command does: supplies, resets and sleep (17_electrical_package.md). -/
namespace Sys2Proof.Machine

/-- CORE_PLL. PLL A loses lock (R30). -/
def execCorePll (s : State) : Outcome := .next (finish s (pllLost s))

/-- MAIN_SUPPLY_RISE. The last main supply enters its range (R506). -/
def execMainSupplyRise (s : State) : Outcome := .next (finish s (mainRise s))

/-- PLLA_LOCK. PLL A locks, to the crystal or to REF_IN (R503). -/
def execPllaLock (crystal : Bool) (s : State) : Outcome := .next (finish s (pllaLocked s crystal))

/-- CORE_RESET_RELEASE. The core-domain reset ends (R506, R507). -/
def execCoreResetRelease (s : State) : Outcome := .next (finish s (coreRelease s))

/-- SUPPLY_OUT_OF_RANGE. A main supply leaves its range (R507). -/
def execSupplyOutOfRange (s : State) : Outcome := .next (finish s (supplyOut s))

/-- SOFTWARE_RESET. A write of 0x7192 with GO = 1 to SYS_RST_CTRL (R507). -/
def execSoftwareReset (m : Master) (s : State) : Outcome := .next (s.put m 0 R.SYS_RST_CTRL 0x71920001)

/-- SLEEP. A write of SYS_PWR.SLEEP = 1 (R508). -/
def execSleep (m : Master) (s : State) : Outcome := .next (s.put m 0 R.SYS_PWR 1)

/-- WAKE. A wake event (R508). -/
def execWake (s : State) : Outcome := .next (s.run (fun s => wakeUp s))

end Sys2Proof.Machine
end

