-- ==== Sys2Proof/Machine/ExecSup.lean ====
section
/-! DEFINITION. What each command does: the supervisor (13_supervision.md). -/
namespace Sys2Proof.Machine

/-- MON_RESULT_READ. A read of SUP_MONk, or from 32 on of SUP_INT(k − 32) (R397). -/
def execMonResultRead (m : Master) (k : Fin 40) (s : State) : Outcome :=
  .next (s.get m (supB + (if k.val < 32 then R.SUP_MON + 4 * k.val else R.SUP_INT + 4 * (k.val - 32))))

/-- TIMETABLE_UP. A write of SUP_TT_CTRL.UP = 1 (R402). -/
def execTimetableUp (m : Master) (s : State) : Outcome := .next (s.put m supB R.SUP_TT_CTRL 1)

/-- TIMETABLE_DOWN. A write of SUP_TT_CTRL.DOWN = 1 (R403). -/
def execTimetableDown (m : Master) (s : State) : Outcome := .next (s.put m supB R.SUP_TT_CTRL 2)

/-- TT_ENTRY_ACTION. UP_DLY or DN_DLY of entry r has passed since its step start (R402, R403). -/
def execTtEntryAction (r : Fin 32) (s : State) : Outcome := .next (s.run (fun s => ttAction s r.val))

/-- TT_PG_TIMEOUT. PG_TMO of entry r has passed since its action (R402). -/
def execTtPgTimeout (r : Fin 32) (s : State) : Outcome := .next (s.run (fun s => Sys2Proof.Machine.ttPgTimeout s r.val))

/-- RAIL_OFF_TMO. OFF_TMO of entry r has passed since its action (R403). -/
def execRailOffTmo (r : Fin 32) (s : State) : Outcome := .next (s.run (fun s => ttOffTimeout s r.val))

/-- UNNAMED_TIMEOUT. UNNAMED_TMO has passed since the power-down began (R403). -/
def execUnnamedTimeout (s : State) : Outcome := .next (s.run (fun s => ttUnnamedTimeout s))

/-- RAIL_RETRY_DELAY_END. RETRY_DLY of entry r has passed (R404). -/
def execRailRetryDelayEnd (r : Fin 32) (s : State) : Outcome := .next (s.run (fun s => ttRetry s r.val))

/-- RAIL_RETRY_CLEAR. The rail of entry r has been good for 60 s (R404). -/
def execRailRetryClear (r : Fin 32) (s : State) : Outcome := .next (s.run (fun s => ttRetryClear s r.val))

/-- SEQ_IN_QUALIFIED. SEQ_IN has read high for 1 ms and SEQ_FLT_N reads high (R402). -/
def execSeqInQualified (s : State) : Outcome := .next (s.run (fun s => seqInOk s))

/-- SEQ_FLT_DETECT. SEQ_FLT_N has read low for 100 µs (R406). -/
def execSeqFltDetect (s : State) : Outcome := .next (s.run (fun s => seqFltLow s))

/-- CHAIN_DOWN_DELAY_END. CHAIN_DN_DLY has passed (R406). -/
def execChainDownDelayEnd (s : State) : Outcome := .next (s.run (fun s => chainDown s))

/-- INTERLOCK_SAMPLE. The inputs of the interlocks are sampled; bit n of a and b is the level at ILKn_A and ILKn_B (R407). -/
def execInterlockSample (a b : BitVec 4) (s : State) : Outcome :=
  .next (s.run (fun s => Sys2Proof.Machine.interlockSample s a b))

/-- INTERLOCK_ACK. A write of mask to SUP_ILK_CTRL.ACK (R407). -/
def execInterlockAck (m : Master) (mask : BitVec 4) (s : State) : Outcome := .next (s.put m supB R.SUP_ILK_CTRL mask.toNat)

/-- PB_PRESS_BEGIN. PB_N has been low for 983 samples (R409). -/
def execPbPressBegin (s : State) : Outcome := .next (finish s (pbBegin (wakeUp s)))

/-- PB_ON. A press has been held for ON_MS (R409). -/
def execPbOn (s : State) : Outcome := .next (finish s (Sys2Proof.Machine.pbOn s))

/-- PB_SHORT. A press has been released before the long-press time (R409). -/
def execPbShort (s : State) : Outcome := .next (finish s (Sys2Proof.Machine.pbShort s))

/-- PB_FORCE_OFF. A press has been held for LONG_S (R410). -/
def execPbForceOff (s : State) : Outcome := .next (finish s (Sys2Proof.Machine.pbForceOff s))

/-- FORCE_OFF_END. The card after a force-off has been written, or 20 ms have passed (R410). -/
def execForceOffEnd (s : State) : Outcome := .next (finish s (Sys2Proof.Machine.forceOffEnd s))

/-- MANUAL_RESET. MR_N has been low for 33 samples (R411). -/
def execManualReset (s : State) : Outcome := .next (finish s (mrReset s))

/-- VAON_RISE. VAON first rises (R412). -/
def execVaonRise (s : State) : Outcome := .next (finish s (auxRise s))

/-- PB_PRESS_END. PB_N has been high for 983 samples; the press lasted ms milliseconds (R409). -/
def execPbPressEnd (ms : BitVec 32) (s : State) : Outcome := .next (finish s (pbEnd s ms.toNat))

end Sys2Proof.Machine
end

