-- ==== Sys2Proof/Machine/ExecTime.lean ====
section
/-! DEFINITION. What each command does: cabinet time, bell and waveform lists (06_time_and_waveforms.md). -/
namespace Sys2Proof.Machine

/-- TIME_NS_READ. A read of TIME_NS (R178). -/
def execTimeNsRead (m : Master) (s : State) : Outcome := .next (s.get m (timeB + R.TIME_NS))

/-- TIME_APPLY_NOW. A write of TIME_APPLY with GO = 1 and MODE 0 (R179). -/
def execTimeApplyNow (m : Master) (s : State) : Outcome := .next (s.put m timeB R.TIME_APPLY 1)

/-- TIME_APPLY_AT_BELL. A write of TIME_APPLY with GO = 1 and MODE 1 (R179). -/
def execTimeApplyAtBell (m : Master) (s : State) : Outcome := .next (s.put m timeB R.TIME_APPLY 3)

/-- RESIDUE_SLEW_END. The residue slew ends (R180). -/
def execResidueSlewEnd (s : State) : Outcome := .next (s.run (fun s => slewEnd s))

/-- TIME_PLL_LOCK. The time PLL first locks to the reference of PLL A: REF_IN, else the crystal (R184). -/
def execTimePllLock (refIn : Bool) (s : State) : Outcome := .next (s.run (fun s => timeLocked s refIn))

/-- REF_QUALIFY. Reference r (0 cascade, 1 REF_IN, 2 crystal) has met the conditions for 100 ms (R185). -/
def execRefQualify (r : Fin 3) (s : State) : Outcome := .next (s.run (fun s => refQualified s r.val))

/-- TIME_REF. Qualified reference r is lost (R185). -/
def execTimeRef (r : Fin 3) (s : State) : Outcome := .next (s.run (fun s => refLost s r.val))

/-- TIME_GLIDE_END. The reference glide ends at a frequency of ppb parts per 10^9 against the crystal (R186). -/
def execTimeGlideEnd (ppb : BitVec 32) (s : State) : Outcome := .next (s.run (fun s => timeGlideDone s ppb.toNat))

/-- TIME_HOLDOVER. HOLD_S reaches TIME_HOLD.LIMIT (R187). -/
def execTimeHoldover (s : State) : Outcome := .next (s.run (fun s => holdoverLimit s))

/-- PROBE_SEND. 1 ms has passed: the crown sends its time probes (R189). -/
def execProbeSend (s : State) : Outcome := .next (s.run (fun s => probeAll s))

/-- BELL_ARM. A write of TIME_BELL_CTRL.ARM = 1 (R193). -/
def execBellArm (m : Master) (s : State) : Outcome := .next (s.put m timeB R.TIME_BELL_CTRL 1)

/-- BELL_CANCEL. A write of TIME_BELL_CTRL.CANCEL = 1 (R193). -/
def execBellCancel (m : Master) (s : State) : Outcome := .next (s.put m timeB R.TIME_BELL_CTRL 2)

/-- BELL_RING. Cabinet time is at or after the bell time (R194). -/
def execBellRing (s : State) : Outcome := .next (s.run (fun s => bellRing s))

/-- LIST_START. A write of v, START set, to FELT_WF_CTRL (R199). -/
def execListStart (m : Master) (f : Fin 96) (v : Word) (s : State) : Outcome :=
  .next (s.put m (feltB f.val) R.FELT_WF_CTRL v.toNat)

/-- LIST_ORIGIN. The origin of felt f's armed list arrives (R199). -/
def execListOrigin (f : Fin 96) (s : State) : Outcome := .next (s.run (fun s => wfOrigin s f.val))

/-- LIST_POINT_END. The timeline reaches the end of the point in use (R198). -/
def execListPointEnd (f : Fin 96) (s : State) : Outcome := .next (s.run (fun s => wfPointEnd s f.val))

/-- LIST_POINT_ARRIVE. Point n of the list arrives from shared memory (R202). -/
def execListPointArrive (f : Fin 96) (n : Fin 4096) (s : State) : Outcome :=
  .next (s.run (fun s => wfArrive s f.val n.val))

/-- LIST_STOP. A write of FELT_WF_CTRL.STOP = 1 that keeps the other fields (R204). -/
def execListStop (m : Master) (f : Fin 96) (s : State) : Outcome := .next (s.ctl m (feltB f.val) F.FELT_WF_CTRL_STOP 1)

/-- LIST_ABORT. A write of FELT_WF_CTRL.ABORT = 1 that keeps the other fields (R204). -/
def execListAbort (m : Master) (f : Fin 96) (s : State) : Outcome := .next (s.ctl m (feltB f.val) F.FELT_WF_CTRL_ABORT 1)

/-- PROBE_ANSWER. The probe answer at the head of the received cascade packets is taken by the crown, which has measured a round trip of mc ticks (R189). -/
def execProbeAnswer (mc : BitVec 32) (s : State) : Outcome := .next (s.run (fun s => probeAnswerTaken s mc.toNat))

/-- PROBE_ERROR. The probe error at the head is taken by the brim (R189). -/
def execProbeError (s : State) : Outcome := .next (s.run (fun s => probeErrTaken s))

/-- BELL_PACKET_ARM. The bell at the head is taken by the brim (R193). -/
def execBellPacketArm (s : State) : Outcome := .next (s.run (fun s => bellArmTaken s))

/-- BELL_PACKET_CANCEL. The bell cancel at the head is taken by the brim (R193). -/
def execBellPacketCancel (s : State) : Outcome := .next (s.run (fun s => bellCancelTaken s))

/-- BELL_ACK. The bell acknowledgement at the head is taken by the crown (R193). -/
def execBellAck (s : State) : Outcome := .next (s.run (fun s => bellAckTaken s))

end Sys2Proof.Machine
end

