-- ==== Sys2Proof/Machine/ExecTimer.lean ====
section
/-! DEFINITION. What each command does: timers and the event matrix (12_timers_events.md). -/
namespace Sys2Proof.Machine

/-- TIMER_COUNT_TICK. A tick of timer n's prescaler source (R375), where that is a clock. -/
def execTimerCountTick (n : Fin 64) (s : State) : Outcome := .next (s.clocked (fun s => tmrClockTick s n.val))

/-- TIMER_OVERFLOW. Timer n makes the count tick that passes RELOAD (R373). -/
def execTimerOverflow (n : Fin 64) (s : State) : Outcome := .next (s.clocked (fun s => tmrOverflow s n.val))

/-- COMPARE_FIRE. Timer n judges its armed compare in a core cycle (R380). -/
def execCompareFire (n : Fin 64) (s : State) : Outcome := .next (s.clocked (fun s => fireCompare s n.val))

/-- TMR_EN. A write of TMR_CTRL with ABORT = 0 (R377, R378). -/
def execTmrEn (m : Master) (n : Fin 64) (en : Bool) (waitStart : Bool) (s : State) : Outcome :=
  .next (tmrEnWrite s m n.val en waitStart)

/-- TMR_ABORT. A write of TMR_CTRL.ABORT = 1 (R378). -/
def execTmrAbort (m : Master) (n : Fin 64) (s : State) : Outcome := .next (s.ctl m (tmrB n.val) F.TMR_CTRL_ABORT 1)

/-- TMR_RELOAD_WRITE. A write of TMR_RELOAD (R376). -/
def execTmrReloadWrite (m : Master) (n : Fin 64) (v : Word) (s : State) : Outcome :=
  .next (s.put m (tmrB n.val) R.TMR_RELOAD v.toNat)

/-- TMR_COUNT_WRITE. A write of TMR_COUNT (R376). -/
def execTmrCountWrite (m : Master) (n : Fin 64) (v : Word) (s : State) : Outcome :=
  .next (s.put m (tmrB n.val) R.TMR_COUNT v.toNat)

/-- TMR_CMP_WRITE. A write of TMR_CMP (R380, R381). -/
def execTmrCmpWrite (m : Master) (n : Fin 64) (v : Word) (s : State) : Outcome :=
  .next (s.put m (tmrB n.val) R.TMR_CMP v.toNat)

/-- EVT_TSTART. A write to EVT_TSTART_LO or, with high, EVT_TSTART_HI (R377). -/
def execEvtTstart (m : Master) (high : Bool) (mask : Word) (s : State) : Outcome :=
  .next (s.put m evtB (if high then R.EVT_TSTART_HI else R.EVT_TSTART_LO) mask.toNat)

/-- EVT_TSTOP. A write to EVT_TSTOP_LO or, with high, EVT_TSTOP_HI (R377). -/
def execEvtTstop (m : Master) (high : Bool) (mask : Word) (s : State) : Outcome :=
  .next (s.put m evtB (if high then R.EVT_TSTOP_HI else R.EVT_TSTOP_LO) mask.toNat)

/-- TIO_EDGE. An edge at pin TIO(pin) (R383, R385). -/
def execTioEdge (pin : Fin 8) (rising : Bool) (s : State) : Outcome :=
  .next (s.clocked (fun s => Sys2Proof.Machine.tioEdge s pin.val rising))

end Sys2Proof.Machine
end

