-- ==== Sys2Proof/Machine/Dispatch.lean ====
section
/-! DEFINITION. The one dispatcher: which meaning each command has. -/
namespace Sys2Proof.Machine

/-- The effect of a command on everything but the queue. -/
def exec (i : Instr) (s : State) : Host.Outcome State Fault Refusal :=
  match i with
  -- Achal integer, field and immediate instructions (R304, R316, R317)
  | .add e rd ra rb => Sys2Proof.Machine.execAdd e rd ra rb s
  | .sub e rd ra rb => Sys2Proof.Machine.execSub e rd ra rb s
  | .and e rd ra rb => Sys2Proof.Machine.execAnd e rd ra rb s
  | .or e rd ra rb => Sys2Proof.Machine.execOr e rd ra rb s
  | .xor e rd ra rb => Sys2Proof.Machine.execXor e rd ra rb s
  | .andn e rd ra rb => Sys2Proof.Machine.execAndn e rd ra rb s
  | .sll e rd ra rb => Sys2Proof.Machine.execSll e rd ra rb s
  | .srl e rd ra rb => Sys2Proof.Machine.execSrl e rd ra rb s
  | .sra e rd ra rb => Sys2Proof.Machine.execSra e rd ra rb s
  | .ror e rd ra rb => Sys2Proof.Machine.execRor e rd ra rb s
  | .slt e rd ra rb => Sys2Proof.Machine.execSlt e rd ra rb s
  | .sltu e rd ra rb => Sys2Proof.Machine.execSltu e rd ra rb s
  | .min e rd ra rb => Sys2Proof.Machine.execMin e rd ra rb s
  | .max e rd ra rb => Sys2Proof.Machine.execMax e rd ra rb s
  | .minu e rd ra rb => Sys2Proof.Machine.execMinu e rd ra rb s
  | .maxu e rd ra rb => Sys2Proof.Machine.execMaxu e rd ra rb s
  | .clz e rd ra => Sys2Proof.Machine.execClz e rd ra s
  | .addi e rd ra imm => Sys2Proof.Machine.execAddi e rd ra imm s
  | .andi e rd ra imm => Sys2Proof.Machine.execAndi e rd ra imm s
  | .ori e rd ra imm => Sys2Proof.Machine.execOri e rd ra imm s
  | .xori e rd ra imm => Sys2Proof.Machine.execXori e rd ra imm s
  | .lui e rd imm => Sys2Proof.Machine.execLui e rd imm s
  | .slli e rd ra sh => Sys2Proof.Machine.execSlli e rd ra sh s
  | .srli e rd ra sh => Sys2Proof.Machine.execSrli e rd ra sh s
  | .srai e rd ra sh => Sys2Proof.Machine.execSrai e rd ra sh s
  | .rori e rd ra sh => Sys2Proof.Machine.execRori e rd ra sh s
  | .bfxu e rd ra pos wm1 => Sys2Proof.Machine.execBfxu e rd ra pos wm1 s
  | .bfxs e rd ra pos wm1 => Sys2Proof.Machine.execBfxs e rd ra pos wm1 s
  | .bfi e rd ra pos wm1 => Sys2Proof.Machine.execBfi e rd ra pos wm1 s
  | .perm e rd ra sel => Sys2Proof.Machine.execPerm e rd ra sel s
  | .slti e rd ra imm => Sys2Proof.Machine.execSlti e rd ra imm s
  | .sltiu e rd ra imm => Sys2Proof.Machine.execSltiu e rd ra imm s
  -- Achal loads, stores, code, I/O and bit instructions (R318, R319)
  | .ldw e rd ra imm => Sys2Proof.Machine.execLdw e rd ra imm s
  | .ldh e rd ra imm => Sys2Proof.Machine.execLdh e rd ra imm s
  | .ldhu e rd ra imm => Sys2Proof.Machine.execLdhu e rd ra imm s
  | .ldb e rd ra imm => Sys2Proof.Machine.execLdb e rd ra imm s
  | .ldbu e rd ra imm => Sys2Proof.Machine.execLdbu e rd ra imm s
  | .stw e rs ra imm => Sys2Proof.Machine.execStw e rs ra imm s
  | .sth e rs ra imm => Sys2Proof.Machine.execSth e rs ra imm s
  | .stb e rs ra imm => Sys2Proof.Machine.execStb e rs ra imm s
  | .xchg e rs ra imm => Sys2Proof.Machine.execXchg e rs ra imm s
  | .ldc e rd ra imm => Sys2Proof.Machine.execLdc e rd ra imm s
  | .stc e rs ra imm => Sys2Proof.Machine.execStc e rs ra imm s
  | .ioIn e rd ra imm => Sys2Proof.Machine.execIoIn e rd ra imm s
  | .ioOut e rs ra imm => Sys2Proof.Machine.execIoOut e rs ra imm s
  | .btst e ra rd imm => Sys2Proof.Machine.execBtst e ra rd imm s
  | .bwr e ra rd imm => Sys2Proof.Machine.execBwr e ra rd imm s
  | .bset e ra imm => Sys2Proof.Machine.execBset e ra imm s
  | .bclr e ra imm => Sys2Proof.Machine.execBclr e ra imm s
  | .btgl e ra imm => Sys2Proof.Machine.execBtgl e ra imm s
  -- Achal branches, jumps, calls and system instructions (R320 to R325, R343, R347)
  | .br e ra rb cond off => Sys2Proof.Machine.execBr e ra rb cond off s
  | .bri e ra cond imm off => Sys2Proof.Machine.execBri e ra cond imm off s
  | .fbr e ra rb cond off => Sys2Proof.Machine.execFbr e ra rb cond off s
  | .bb e badr sense off => Sys2Proof.Machine.execBb e badr sense off s
  | .brb e ra k sense off => Sys2Proof.Machine.execBrb e ra k sense off s
  | .j e tgt => Sys2Proof.Machine.execJ e tgt s
  | .jr e ra => Sys2Proof.Machine.execJr e ra s
  | .call e mask tgt => Sys2Proof.Machine.execCall e mask tgt s
  | .callr e mask ra => Sys2Proof.Machine.execCallr e mask ra s
  | .ret e mask => Sys2Proof.Machine.execRet e mask s
  | .nop e => Sys2Proof.Machine.execNop e s
  | .halt e => Sys2Proof.Machine.execHalt e s
  | .wait e => Sys2Proof.Machine.execWait e s
  | .fence e => Sys2Proof.Machine.execFence e s
  | .trap e imm => Sys2Proof.Machine.execTrap e imm s
  | .reti e => Sys2Proof.Machine.execReti e s
  | .mfs e g sr => Sys2Proof.Machine.execMfs e g sr s
  | .mts e g sr => Sys2Proof.Machine.execMts e g sr s
  -- Achal products, floating point and reserved encodings (R313, R327, R333)
  | .mul e ra rb => Sys2Proof.Machine.execMul e ra rb s
  | .mulu e ra rb => Sys2Proof.Machine.execMulu e ra rb s
  | .mac e ra rb => Sys2Proof.Machine.execMac e ra rb s
  | .macu e ra rb => Sys2Proof.Machine.execMacu e ra rb s
  | .fmul e ra rb => Sys2Proof.Machine.execFmul e ra rb s
  | .fmac e ra rb => Sys2Proof.Machine.execFmac e ra rb s
  | .productComplete e => Sys2Proof.Machine.execProductComplete e s
  | .fadd e rd ra rb => Sys2Proof.Machine.execFadd e rd ra rb s
  | .fsub e rd ra rb => Sys2Proof.Machine.execFsub e rd ra rb s
  | .fmin e rd ra rb => Sys2Proof.Machine.execFmin e rd ra rb s
  | .fmax e rd ra rb => Sys2Proof.Machine.execFmax e rd ra rb s
  | .fabs e rd ra => Sys2Proof.Machine.execFabs e rd ra s
  | .fneg e rd ra => Sys2Proof.Machine.execFneg e rd ra s
  | .frcp e rd ra => Sys2Proof.Machine.execFrcp e rd ra s
  | .i2f e rd ra => Sys2Proof.Machine.execI2f e rd ra s
  | .u2f e rd ra => Sys2Proof.Machine.execU2f e rd ra s
  | .f2i e rd ra => Sys2Proof.Machine.execF2i e rd ra s
  | .f2iZ e rd ra => Sys2Proof.Machine.execF2iZ e rd ra s
  | .f2u e rd ra => Sys2Proof.Machine.execF2u e rd ra s
  | .f2uZ e rd ra => Sys2Proof.Machine.execF2uZ e rd ra s
  | .illegal e w => Sys2Proof.Machine.execIllegal e w s
  -- registers and image loading (00_scope.md, 02_fabric_image.md)
  | .registerWrite m a v => Sys2Proof.Machine.execRegisterWrite m a v s
  | .load m src => Sys2Proof.Machine.execLoad m src s
  | .imageLock m => Sys2Proof.Machine.execImageLock m s
  | .bootImageSelect => Sys2Proof.Machine.execBootImageSelect s
  | .imagePass1End => Sys2Proof.Machine.execImagePass1End s
  | .imagePass2End => Sys2Proof.Machine.execImagePass2End s
  | .digestRecomputeEnd => Sys2Proof.Machine.execDigestRecomputeEnd s
  | .refeltGo m dev felt => Sys2Proof.Machine.execRefeltGo m dev felt s
  | .digestBusyTimeout => Sys2Proof.Machine.execDigestBusyTimeout s
  -- timers and the event matrix (12_timers_events.md)
  | .timerCountTick n => Sys2Proof.Machine.execTimerCountTick n s
  | .timerOverflow n => Sys2Proof.Machine.execTimerOverflow n s
  | .compareFire n => Sys2Proof.Machine.execCompareFire n s
  | .tmrEn m n en waitStart => Sys2Proof.Machine.execTmrEn m n en waitStart s
  | .tmrAbort m n => Sys2Proof.Machine.execTmrAbort m n s
  | .tmrReloadWrite m n v => Sys2Proof.Machine.execTmrReloadWrite m n v s
  | .tmrCountWrite m n v => Sys2Proof.Machine.execTmrCountWrite m n v s
  | .tmrCmpWrite m n v => Sys2Proof.Machine.execTmrCmpWrite m n v s
  | .evtTstart m high mask => Sys2Proof.Machine.execEvtTstart m high mask s
  | .evtTstop m high mask => Sys2Proof.Machine.execEvtTstop m high mask s
  | .tioEdge pin rising => Sys2Proof.Machine.execTioEdge pin rising s
  -- fault collection and reaction (14_fault_handling.md)
  | .faultReport => Sys2Proof.Machine.execFaultReport s
  | .reactionStart => Sys2Proof.Machine.execReactionStart s
  | .reactionEnd => Sys2Proof.Machine.execReactionEnd s
  | .resetScopeTimeout => Sys2Proof.Machine.execResetScopeTimeout s
  | .recessEnd => Sys2Proof.Machine.execRecessEnd s
  | .recoveryWindowClose => Sys2Proof.Machine.execRecoveryWindowClose s
  | .fcClear m => Sys2Proof.Machine.execFcClear m s
  | .queuePop m => Sys2Proof.Machine.execQueuePop m s
  | .queueHeadRead m => Sys2Proof.Machine.execQueueHeadRead m s
  | .faultInject m kind => Sys2Proof.Machine.execFaultInject m kind s
  | .faultPacket => Sys2Proof.Machine.execFaultPacket s
  -- stage lanes (03_stage_link.md)
  | .uplinkFrame l frame mm => Sys2Proof.Machine.execUplinkFrame l frame mm s
  | .downlinkFrameBuild l => Sys2Proof.Machine.execDownlinkFrameBuild l s
  | .slLoss l => Sys2Proof.Machine.execSlLoss l s
  | .latencyTrackStep l => Sys2Proof.Machine.execLatencyTrackStep l s
  | .timePacketSend l => Sys2Proof.Machine.execTimePacketSend l s
  | .sideRetxTimeout l => Sys2Proof.Machine.execSideRetxTimeout l s
  | .resync l => Sys2Proof.Machine.execResync l s
  | .retrainReq l => Sys2Proof.Machine.execRetrainReq l s
  | .statusPage l => Sys2Proof.Machine.execStatusPage l s
  | .regRsp l => Sys2Proof.Machine.execRegRsp l s
  | .reservedPacket l => Sys2Proof.Machine.execReservedPacket l s
  | .sideIdle l => Sys2Proof.Machine.execSideIdle l s
  | .pdMsg l => Sys2Proof.Machine.execPdMsg l s
  | .hubAccessGo m l write count => Sys2Proof.Machine.execHubAccessGo m l write count s
  | .trainIdleEnd l => Sys2Proof.Machine.execTrainIdleEnd l s
  | .trainTimeout l => Sys2Proof.Machine.execTrainTimeout l s
  | .backoffEnd l => Sys2Proof.Machine.execBackoffEnd l s
  | .slEn m l en => Sys2Proof.Machine.execSlEn m l en s
  | .slRetrain m l => Sys2Proof.Machine.execSlRetrain m l s
  | .slAbort m l => Sys2Proof.Machine.execSlAbort m l s
  | .latchState l => Sys2Proof.Machine.execLatchState l s
  | .trip l => Sys2Proof.Machine.execTrip l s
  -- phases and felts (04_phase_control.md, 05_felt_regulation.md)
  | .currentLoopUpdate f => Sys2Proof.Machine.execCurrentLoopUpdate f s
  | .surgeEnd f => Sys2Proof.Machine.execSurgeEnd f s
  | .surgeHoldoffEnd f => Sys2Proof.Machine.execSurgeHoldoffEnd f s
  | .syncInEdge t => Sys2Proof.Machine.execSyncInEdge t s
  | .syncInTimeout => Sys2Proof.Machine.execSyncInTimeout s
  | .periodGlideEnd f => Sys2Proof.Machine.execPeriodGlideEnd f s
  | .phsLfRearm m p => Sys2Proof.Machine.execPhsLfRearm m p s
  | .feltLoopUpdate f => Sys2Proof.Machine.execFeltLoopUpdate f s
  | .setpointSetWrite m f engine v => Sys2Proof.Machine.execSetpointSetWrite m f engine v s
  | .feltSrcWrite m f v => Sys2Proof.Machine.execFeltSrcWrite m f v s
  | .blkStrobe at10 at20 early => Sys2Proof.Machine.execBlkStrobe at10 at20 early s
  | .inRegSet f => Sys2Proof.Machine.execInRegSet f s
  | .outReg f => Sys2Proof.Machine.execOutReg f s
  | .battDone f => Sys2Proof.Machine.execBattDone f s
  | .trackLost f => Sys2Proof.Machine.execTrackLost f s
  | .feltStart m f test atBell => Sys2Proof.Machine.execFeltStart m f test atBell s
  | .startWaitClear f => Sys2Proof.Machine.execStartWaitClear f s
  | .startRampEnd f => Sys2Proof.Machine.execStartRampEnd f s
  | .feltStop m f => Sys2Proof.Machine.execFeltStop m f s
  | .stopProfileEnd f => Sys2Proof.Machine.execStopProfileEnd f s
  | .stopTmo f => Sys2Proof.Machine.execStopTmo f s
  | .feltAbort m f => Sys2Proof.Machine.execFeltAbort m f s
  | .feltTestWrite m f test => Sys2Proof.Machine.execFeltTestWrite m f test s
  | .breakerTick f => Sys2Proof.Machine.execBreakerTick f s
  | .breakerRetry f => Sys2Proof.Machine.execBreakerRetry f s
  | .breakerCountClear f => Sys2Proof.Machine.execBreakerCountClear f s
  | .brkClear m f => Sys2Proof.Machine.execBrkClear m f s
  | .ovClear m f => Sys2Proof.Machine.execOvClear m f s
  | .ovClearTimeout f => Sys2Proof.Machine.execOvClearTimeout f s
  | .leadResistanceLearned f dv iMean => Sys2Proof.Machine.execLeadResistanceLearned f dv iMean s
  | .senseOpen f => Sys2Proof.Machine.execSenseOpen f s
  -- cabinet time, bell and waveform lists (06_time_and_waveforms.md)
  | .timeNsRead m => Sys2Proof.Machine.execTimeNsRead m s
  | .timeApplyNow m => Sys2Proof.Machine.execTimeApplyNow m s
  | .timeApplyAtBell m => Sys2Proof.Machine.execTimeApplyAtBell m s
  | .residueSlewEnd => Sys2Proof.Machine.execResidueSlewEnd s
  | .timePllLock refIn => Sys2Proof.Machine.execTimePllLock refIn s
  | .refQualify r => Sys2Proof.Machine.execRefQualify r s
  | .timeRef r => Sys2Proof.Machine.execTimeRef r s
  | .timeGlideEnd ppb => Sys2Proof.Machine.execTimeGlideEnd ppb s
  | .timeHoldover => Sys2Proof.Machine.execTimeHoldover s
  | .probeSend => Sys2Proof.Machine.execProbeSend s
  | .bellArm m => Sys2Proof.Machine.execBellArm m s
  | .bellCancel m => Sys2Proof.Machine.execBellCancel m s
  | .bellRing => Sys2Proof.Machine.execBellRing s
  | .listStart m f v => Sys2Proof.Machine.execListStart m f v s
  | .listOrigin f => Sys2Proof.Machine.execListOrigin f s
  | .listPointEnd f => Sys2Proof.Machine.execListPointEnd f s
  | .listPointArrive f n => Sys2Proof.Machine.execListPointArrive f n s
  | .listStop m f => Sys2Proof.Machine.execListStop m f s
  | .listAbort m f => Sys2Proof.Machine.execListAbort m f s
  | .probeAnswer mc => Sys2Proof.Machine.execProbeAnswer mc s
  | .probeError => Sys2Proof.Machine.execProbeError s
  | .bellPacketArm => Sys2Proof.Machine.execBellPacketArm s
  | .bellPacketCancel => Sys2Proof.Machine.execBellPacketCancel s
  | .bellAck => Sys2Proof.Machine.execBellAck s
  -- house channels, the bus and admission (07_bus_energy.md)
  | .housePeriod h v cur => Sys2Proof.Machine.execHousePeriod h v cur s
  | .hseOcTrip h => Sys2Proof.Machine.execHseOcTrip h s
  | .hseOvTrip h => Sys2Proof.Machine.execHseOvTrip h s
  | .hseEn m h en => Sys2Proof.Machine.execHseEn m h en s
  | .hseAbort m h => Sys2Proof.Machine.execHseAbort m h s
  | .hseSampled m h on => Sys2Proof.Machine.execHseSampled m h on s
  | .sampledTick h v => Sys2Proof.Machine.execSampledTick h v s
  | .busSense vIn vDump => Sys2Proof.Machine.execBusSense vIn vDump s
  | .busOv vIn vDump => Sys2Proof.Machine.execBusOv vIn vDump s
  | .busOvClear m => Sys2Proof.Machine.execBusOvClear m s
  | .busUv vIn vDump => Sys2Proof.Machine.execBusUv vIn vDump s
  | .busEn m en => Sys2Proof.Machine.execBusEn m en s
  | .busStartDone => Sys2Proof.Machine.execBusStartDone s
  | .busPowerdownEnd => Sys2Proof.Machine.execBusPowerdownEnd s
  | .balancerCycle vIn vDump => Sys2Proof.Machine.execBalancerCycle vIn vDump s
  | .hotswapSample vin src shunt => Sys2Proof.Machine.execHotswapSample vin src shunt s
  | .busHoldup => Sys2Proof.Machine.execBusHoldup s
  | .admissionRequest => Sys2Proof.Machine.execAdmissionRequest s
  | .admissionStep => Sys2Proof.Machine.execAdmissionStep s
  | .admitTimeout => Sys2Proof.Machine.execAdmitTimeout s
  | .hsEn m en => Sys2Proof.Machine.execHsEn m en s
  | .hsInsertionDelayEnd => Sys2Proof.Machine.execHsInsertionDelayEnd s
  | .hsPowerGood => Sys2Proof.Machine.execHsPowerGood s
  | .hsFaultTimer => Sys2Proof.Machine.execHsFaultTimer s
  | .hsFastLimit => Sys2Proof.Machine.execHsFastLimit s
  | .hsPgTimeout => Sys2Proof.Machine.execHsPgTimeout s
  | .hsCoolEnd => Sys2Proof.Machine.execHsCoolEnd s
  | .hsClear m => Sys2Proof.Machine.execHsClear m s
  | .hsRetryClear => Sys2Proof.Machine.execHsRetryClear s
  | .admitRequestPacket => Sys2Proof.Machine.execAdmitRequestPacket s
  | .admitReturnPacket => Sys2Proof.Machine.execAdmitReturnPacket s
  -- slate, record array and report cards (15_nonvolatile.md)
  | .store m => Sys2Proof.Machine.execStore m s
  | .storeComplete readback => Sys2Proof.Machine.execStoreComplete readback s
  | .card m => Sys2Proof.Machine.execCard m s
  | .cardWriteComplete => Sys2Proof.Machine.execCardWriteComplete s
  | .cardClear m => Sys2Proof.Machine.execCardClear m s
  | .nvErase m sect => Sys2Proof.Machine.execNvErase m sect s
  | .eraseComplete => Sys2Proof.Machine.execEraseComplete s
  | .recWrite m tag => Sys2Proof.Machine.execRecWrite m tag s
  | .recWriteComplete bad => Sys2Proof.Machine.execRecWriteComplete bad s
  | .nvRawWrite m off bytes v => Sys2Proof.Machine.execNvRawWrite m off bytes v s
  | .nvCntInc m mask => Sys2Proof.Machine.execNvCntInc m mask s
  | .nvCntClr m mask => Sys2Proof.Machine.execNvCntClr m mask s
  | .bootScan => Sys2Proof.Machine.execBootScan s
  | .bootScanEnd => Sys2Proof.Machine.execBootScanEnd s
  -- cable ports and service ports (08_cable_ports.md)
  | .attach l cc => Sys2Proof.Machine.execAttach l cc s
  | .detach l => Sys2Proof.Machine.execDetach l s
  | .hardResetReceived l => Sys2Proof.Machine.execHardResetReceived l s
  | .cableResetReceived l => Sys2Proof.Machine.execCableResetReceived l s
  | .transmitResult l => Sys2Proof.Machine.execTransmitResult l s
  | .vbusState l => Sys2Proof.Machine.execVbusState l s
  | .vconnFault l => Sys2Proof.Machine.execVconnFault l s
  | .errorRecoveryEnd n => Sys2Proof.Machine.execErrorRecoveryEnd n s
  | .pdMessage n => Sys2Proof.Machine.execPdMessage n s
  | .pdRequest n => Sys2Proof.Machine.execPdRequest n s
  | .drSwap n => Sys2Proof.Machine.execDrSwap n s
  | .vconnSwap n => Sys2Proof.Machine.execVconnSwap n s
  | .softReset n => Sys2Proof.Machine.execSoftReset n s
  | .getRevision n => Sys2Proof.Machine.execGetRevision n s
  | .eprKeepalive n => Sys2Proof.Machine.execEprKeepalive n s
  | .pdTxGo m n sop len => Sys2Proof.Machine.execPdTxGo m n sop len s
  | .pdAdmReq m n watts => Sys2Proof.Machine.execPdAdmReq m n watts s
  | .pdRxRelease m n => Sys2Proof.Machine.execPdRxRelease m n s
  | .pdEn m n en => Sys2Proof.Machine.execPdEn m n en s
  | .pdAbort m n => Sys2Proof.Machine.execPdAbort m n s
  | .pdHardReset m n => Sys2Proof.Machine.execPdHardReset m n s
  | .policyTmo n => Sys2Proof.Machine.execPolicyTmo n s
  | .srcTransitionEnd n => Sys2Proof.Machine.execSrcTransitionEnd n s
  | .pdTransition n => Sys2Proof.Machine.execPdTransition n s
  | .psTransitionTimeout n => Sys2Proof.Machine.execPsTransitionTimeout n s
  | .sinkRequestResend n => Sys2Proof.Machine.execSinkRequestResend n s
  | .ppsRequestResend n => Sys2Proof.Machine.execPpsRequestResend n s
  | .ppsTimeout n => Sys2Proof.Machine.execPpsTimeout n s
  | .eprKeepaliveSend n => Sys2Proof.Machine.execEprKeepaliveSend n s
  | .eprKeepaliveTimeout n => Sys2Proof.Machine.execEprKeepaliveTimeout n s
  | .cableDiscoveryStart n => Sys2Proof.Machine.execCableDiscoveryStart n s
  | .discoverIdentityRetry n => Sys2Proof.Machine.execDiscoverIdentityRetry n s
  | .senderResponseTimeout n => Sys2Proof.Machine.execSenderResponseTimeout n s
  | .psHardResetEnd n => Sys2Proof.Machine.execPsHardResetEnd n s
  | .srcRecoverEnd n => Sys2Proof.Machine.execSrcRecoverEnd n s
  | .sinkVbusReturnTimeout n => Sys2Proof.Machine.execSinkVbusReturnTimeout n s
  | .swapTimeout n => Sys2Proof.Machine.execSwapTimeout n s
  | .swapSourceStart n => Sys2Proof.Machine.execSwapSourceStart n s
  | .pdGuard n g => Sys2Proof.Machine.execPdGuard n g s
  | .svcAttach p => Sys2Proof.Machine.execSvcAttach p s
  | .svcDetach p => Sys2Proof.Machine.execSvcDetach p s
  | .svcPathClose p => Sys2Proof.Machine.execSvcPathClose p s
  | .svcPathOpen p cause => Sys2Proof.Machine.execSvcPathOpen p cause s
  | .svcPathRetry p => Sys2Proof.Machine.execSvcPathRetry p s
  | .getId => Sys2Proof.Machine.execGetId s
  | .getStatus => Sys2Proof.Machine.execGetStatus s
  | .readSlate => Sys2Proof.Machine.execReadSlate s
  | .readCard => Sys2Proof.Machine.execReadCard s
  | .updBegin => Sys2Proof.Machine.execUpdBegin s
  | .updEraseEnd => Sys2Proof.Machine.execUpdEraseEnd s
  | .updData => Sys2Proof.Machine.execUpdData s
  | .updEnd => Sys2Proof.Machine.execUpdEnd s
  | .updAbort => Sys2Proof.Machine.execUpdAbort s
  | .svcPdMessage p bytes => Sys2Proof.Machine.execSvcPdMessage p bytes s
  | .typecSendSourceCap n => Sys2Proof.Machine.execTypecSendSourceCap n s
  | .chunkSenderTimeout n => Sys2Proof.Machine.execChunkSenderTimeout n s
  | .enterEprTimeout n => Sys2Proof.Machine.execEnterEprTimeout n s
  -- battery gauges (09_gauge.md)
  | .gaugeStep g => Sys2Proof.Machine.execGaugeStep g s
  | .gaugeLowEntry g => Sys2Proof.Machine.execGaugeLowEntry g s
  | .gauBlind g => Sys2Proof.Machine.execGauBlind g s
  | .rest g r => Sys2Proof.Machine.execRest g r s
  | .gaugeInit g v => Sys2Proof.Machine.execGaugeInit g v s
  | .levelJudge g => Sys2Proof.Machine.execLevelJudge g s
  | .gauEn m g en => Sys2Proof.Machine.execGauEn m g en s
  | .swap m g => Sys2Proof.Machine.execSwap m g s
  | .reload m g => Sys2Proof.Machine.execReload m g s
  | .learnReset m g => Sys2Proof.Machine.execLearnReset m g s
  | .tapOpenClear m g mask => Sys2Proof.Machine.execTapOpenClear m g mask s
  -- engines at run time, DMA and capture (11_engine_runtime.md)
  | .taskSwitch e => Sys2Proof.Machine.execTaskSwitch e s
  | .faultContextStart e => Sys2Proof.Machine.execFaultContextStart e s
  | .engStart m e => Sys2Proof.Machine.execEngStart m e s
  | .engHalt m e => Sys2Proof.Machine.execEngHalt m e s
  | .engResume m e => Sys2Proof.Machine.execEngResume m e s
  | .engAbort m e => Sys2Proof.Machine.execEngAbort m e s
  | .mailboxPush m e k v => Sys2Proof.Machine.execMailboxPush m e k v s
  | .mailboxPop m e k => Sys2Proof.Machine.execMailboxPop m e k s
  | .softwareTrigger m e mask => Sys2Proof.Machine.execSoftwareTrigger m e mask s
  | .mpuLock m e => Sys2Proof.Machine.execMpuLock m e s
  | .dmaEn m c en => Sys2Proof.Machine.execDmaEn m c en s
  | .dmaAbort m c => Sys2Proof.Machine.execDmaAbort m c s
  | .dmaTrigger c => Sys2Proof.Machine.execDmaTrigger c s
  | .dmaDescriptorFetch c => Sys2Proof.Machine.execDmaDescriptorFetch c s
  | .dmaElement => Sys2Proof.Machine.execDmaElement s
  | .capEn m u en => Sys2Proof.Machine.execCapEn m u en s
  | .capRecordClose u => Sys2Proof.Machine.execCapRecordClose u s
  | .capRdWrite m u v => Sys2Proof.Machine.execCapRdWrite m u v s
  | .capAbort m u => Sys2Proof.Machine.execCapAbort m u s
  | .monConversion v => Sys2Proof.Machine.execMonConversion v s
  -- the supervisor (13_supervision.md)
  | .monResultRead m k => Sys2Proof.Machine.execMonResultRead m k s
  | .timetableUp m => Sys2Proof.Machine.execTimetableUp m s
  | .timetableDown m => Sys2Proof.Machine.execTimetableDown m s
  | .ttEntryAction r => Sys2Proof.Machine.execTtEntryAction r s
  | .ttPgTimeout r => Sys2Proof.Machine.execTtPgTimeout r s
  | .railOffTmo r => Sys2Proof.Machine.execRailOffTmo r s
  | .unnamedTimeout => Sys2Proof.Machine.execUnnamedTimeout s
  | .railRetryDelayEnd r => Sys2Proof.Machine.execRailRetryDelayEnd r s
  | .railRetryClear r => Sys2Proof.Machine.execRailRetryClear r s
  | .seqInQualified => Sys2Proof.Machine.execSeqInQualified s
  | .seqFltDetect => Sys2Proof.Machine.execSeqFltDetect s
  | .chainDownDelayEnd => Sys2Proof.Machine.execChainDownDelayEnd s
  | .interlockSample a b => Sys2Proof.Machine.execInterlockSample a b s
  | .interlockAck m mask => Sys2Proof.Machine.execInterlockAck m mask s
  | .pbPressBegin => Sys2Proof.Machine.execPbPressBegin s
  | .pbOn => Sys2Proof.Machine.execPbOn s
  | .pbShort => Sys2Proof.Machine.execPbShort s
  | .pbForceOff => Sys2Proof.Machine.execPbForceOff s
  | .forceOffEnd => Sys2Proof.Machine.execForceOffEnd s
  | .manualReset => Sys2Proof.Machine.execManualReset s
  | .vaonRise => Sys2Proof.Machine.execVaonRise s
  | .pbPressEnd ms => Sys2Proof.Machine.execPbPressEnd ms s
  -- the host interfaces (16_host_cascade.md)
  | .read h addr len check => Sys2Proof.Machine.execRead h addr len check s
  | .readFix h addr len check => Sys2Proof.Machine.execReadFix h addr len check s
  | .write h addr data check => Sys2Proof.Machine.execWrite h addr data check s
  | .writeFix h addr data check => Sys2Proof.Machine.execWriteFix h addr data check s
  | .id h addr len check => Sys2Proof.Machine.execId h addr len check s
  | .spiAbort done => Sys2Proof.Machine.execSpiAbort done s
  | .twRead whole => Sys2Proof.Machine.execTwRead whole s
  | .twNotice ack => Sys2Proof.Machine.execTwNotice ack s
  | .twSclTimeout => Sys2Proof.Machine.execTwSclTimeout s
  | .twStuck sda => Sys2Proof.Machine.execTwStuck sda s
  | .twSdaRecovery high => Sys2Proof.Machine.execTwSdaRecovery high s
  | .twReset m => Sys2Proof.Machine.execTwReset m s
  -- the cascade (16_host_cascade.md)
  | .casLoss l => Sys2Proof.Machine.execCasLoss l s
  | .crown m => Sys2Proof.Machine.execCrown m s
  | .enumerate m => Sys2Proof.Machine.execEnumerate m s
  | .enum => Sys2Proof.Machine.execEnum s
  | .rollNow m => Sys2Proof.Machine.execRollNow m s
  | .probe turn => Sys2Proof.Machine.execProbe turn s
  | .admitGrantPacket => Sys2Proof.Machine.execAdmitGrantPacket s
  | .admitWithdrawPacket => Sys2Proof.Machine.execAdmitWithdrawPacket s
  | .coherent => Sys2Proof.Machine.execCoherent s
  | .coherentAck => Sys2Proof.Machine.execCoherentAck s
  | .rollCall => Sys2Proof.Machine.execRollCall s
  | .rollCallReceive => Sys2Proof.Machine.execRollCallReceive s
  | .rollAnswer => Sys2Proof.Machine.execRollAnswer s
  | .rollResult => Sys2Proof.Machine.execRollResult s
  | .rollcallMiss => Sys2Proof.Machine.execRollcallMiss s
  | .remoteAccess m write pos => Sys2Proof.Machine.execRemoteAccess m write pos s
  | .regReadPacket => Sys2Proof.Machine.execRegReadPacket s
  | .regWritePacket => Sys2Proof.Machine.execRegWritePacket s
  | .regResponsePacket => Sys2Proof.Machine.execRegResponsePacket s
  | .remoteAccessTimeout => Sys2Proof.Machine.execRemoteAccessTimeout s
  | .seqPowerUpPacket => Sys2Proof.Machine.execSeqPowerUpPacket s
  | .seqPowerDownPacket => Sys2Proof.Machine.execSeqPowerDownPacket s
  | .imageReadPacket => Sys2Proof.Machine.execImageReadPacket s
  | .imageDataPacket => Sys2Proof.Machine.execImageDataPacket s
  | .imageLoadPacket => Sys2Proof.Machine.execImageLoadPacket s
  | .cascadeLinkPacket => Sys2Proof.Machine.execCascadeLinkPacket s
  | .cascadeFrame l frame => Sys2Proof.Machine.execCascadeFrame l frame s
  | .hostUnknownCommand h cmd len check => Sys2Proof.Machine.execHostUnknownCommand h cmd len check s
  -- supplies, resets and sleep (17_electrical_package.md)
  | .corePll => Sys2Proof.Machine.execCorePll s
  | .mainSupplyRise => Sys2Proof.Machine.execMainSupplyRise s
  | .pllaLock crystal => Sys2Proof.Machine.execPllaLock crystal s
  | .coreResetRelease => Sys2Proof.Machine.execCoreResetRelease s
  | .supplyOutOfRange => Sys2Proof.Machine.execSupplyOutOfRange s
  | .softwareReset m => Sys2Proof.Machine.execSoftwareReset m s
  | .sleep m => Sys2Proof.Machine.execSleep m s
  | .wake => Sys2Proof.Machine.execWake s

end Sys2Proof.Machine
end

