-- ==== Sys2Proof/Machine/Fetch.lean ====
section
/-! DEFINITION. The engines' fetch (R305, R309): the word at the PC of the context that issues, and the instruction it spells.
Engines run their programs while no command waits (log entry 123). -/
namespace Sys2Proof.Machine

/-- The word that engine e fetches: its instruction space at the PC of the context that issues, without an MPU check (R309); none
while no context of it issues. -/
def engFetch (s : State) (e : Fin 96) : Option Word :=
  (engRuns s e.val).map (fun c => s.memWord (imemAt e.val (s.ctx e.val c).pc))

/-- The instruction that a fetched word spells; a reserved encoding issues as such (R313). -/
def engDecoded (e : Fin 96) (w : Word) : Instr := (achalDecode e w).getD (.illegal e w)

/-- The engine that has its turn while no command waits: one for each nanosecond of the line count, in their order (DESIGN CHOICE,
log entry 123). -/
def turnOf (s : State) : Fin 96 := ⟨s.lineNs % 96, Nat.mod_lt _ (by decide)⟩

/-- The instruction that the engine whose turn it is fetches and issues; none where it does not run. -/
def engTurn (s : State) : Option Instr := (engFetch s (turnOf s)).map (engDecoded (turnOf s))

/-- A nanosecond of the line count passes (R177), once the time PLL has locked (R184). -/
def tick (s : State) : State := if s.time.counting then { s with lineNs := s.lineNs + 1 } else s

end Sys2Proof.Machine
end

