-- ==== Sys2Proof/Machine/Step.lean ====
section
/-! DEFINITION. One step of the block: the command at the front of the queue, or, with no command waiting, a nanosecond in which
an engine may issue the instruction it fetches. -/
namespace Sys2Proof.Machine

/-- With no command waiting, one nanosecond of the line count passes, and the engine whose turn it is then issues the instruction
at its PC (DESIGN CHOICE, log entries 2 and 123); before the line count runs nothing happens. -/
def idle (s : State) : Host.Outcome State Fault Refusal :=
  match s.time.counting, engTurn (tick s) with
  | true, some i => exec i (tick s)
  | _, _ => .next (tick s)

/-- The command at the front of the queue runs on the state with the rest of the queue. -/
def step (s : State) : Host.Outcome State Fault Refusal :=
  match s.pending with
  | [] => idle s
  | c :: t => exec c { s with pending := t }

/-- The state with the command that a word spells put at the front of its queue, unchanged where the word spells none. -/
def State.withFetchWord (s : State) (nbits w : Nat) : State :=
  match decodeTableWord nbits w with
  | none => s
  | some c => { s with pending := c :: s.pending }

end Sys2Proof.Machine
end

