-- ==== Sys2Proof/Safety.lean ====
section
/-! DEFINITION. What counts as a safe run, and the states in which a command is followed by nothing but its own effect. -/
namespace Sys2Proof.Machine

/-- A step that goes on. -/
def Safe (s : State) : Prop := ∃ t, step s = .next t

/-- The registers and the memory stand in their canonical form. -/
def Canonical (s : State) : Prop := sparseWf regReset s.regs = true ∧ Memory.wf s.mem = true

/-- A quiet machine: the core domain is out of reset and its clock runs, no PD port is bound, no timetable runs and none of its
words wait, no force-off is in force, no line pulses, no report is on its way, and no cause is enabled at ALERT_N. What follows
a command (ports, timetable, event matrix, notices) then has nothing to do unless the command itself gives it something. -/
structure Quiet (s : State) : Prop where
  core : s.pwr.core = true
  awake : s.pwr.asleep = false
  ports : s.portFelt = []
  rails : s.sup.rails = []
  seq : s.sup.seq = 0
  force : s.forceOff = false
  held : s.img.ttHeld = []
  pulses : s.pulses = []
  reports : s.reports = []
  alert : s.rd (fcB + R.FC_INT_EN) = 0#32

/-! What an instruction of an engine may leave. -/

/-- t is s but for context c of engine e, which holds x: every other context, every other engine, and everything that is not
an engine stand as they were. -/
structure CtxTo (s t : State) (e c : Nat) (x : EngCtx) : Prop where
  now : t.ctx e c = x
  ctxs : ∀ k, k ≠ c → t.ctx e k = s.ctx e k
  own : { t.engine e with ctxs := [] } = { s.engine e with ctxs := [] }
  engines : ∀ k, k ≠ e → t.engine k = s.engine k
  rest : { t with engines := [] } = { s with engines := [] }

/-- A context y after an instruction on x: the PC is pc, register rd holds v unless it is g0, which reads 0, every other general
register, PL, PH and SL keep their values, and FPS gains the flags fl. -/
structure EngCtx.Wrote (x y : EngCtx) (pc : Nat) (rd : BitVec 5) (v : Word) (fl : Nat) : Prop where
  pc : y.pc = pc
  val : y.reg rd = if rd = 0#5 then 0#32 else v
  others : ∀ r, r ≠ rd → y.reg r = x.reg r
  pl : y.pl = x.pl
  ph : y.ph = x.ph
  sl : y.sl = x.sl
  fps : y.fps = x.fps ||| BitVec.ofNat 32 fl

/-- An instruction of context c of engine e has written v into rd, raised the flags fl and set the PC, and has changed nothing
else of the machine. -/
def Wrote (s t : State) (e c pc : Nat) (rd : BitVec 5) (v : Word) (fl : Nat) : Prop :=
  ∃ y, CtxTo s t e c y ∧ (s.ctx e c).Wrote y pc rd v fl

/-- The PC of the instruction after the one that context c of engine e issues (R305). -/
def nextPc (s : State) (e c : Nat) : Nat := ((s.ctx e c).pc + 1) % 4096

/-- Context c of engine e issues its instructions and no line has a pulse pending: what an instruction meets at its start. -/
structure Issues (s : State) (e c : Nat) : Prop where
  runs : engRuns s e = some c
  pulses : s.pulses = []

/-- A store of the low n bytes of v at data address a by context c of engine e has happened and nothing else: the bytes from a up
hold v, least significant first; every other byte of the context's data space, every byte of memory that the store does not
reach, every other context but for its PC y, every other engine and all the rest of the machine stand as they were. -/
structure Stored (s t : State) (e c a n : Nat) (v : Word) (y : EngCtx) : Prop where
  bytes : ∀ i, i < n → engByte t e c (a + i) = byteOf v i
  others : ∀ k, k < a ∨ a + n ≤ k → engByte t e c k = engByte s e c k
  memory : ∀ h, (∀ i, i < n → engLoc e c (a + i) ≠ some (false, h)) → t.byte h = s.byte h
  now : t.ctx e c = y
  ctxs : ∀ k, k ≠ c → t.ctx e k = s.ctx e k
  own : { t.engine e with ctxs := [], stack := [] } = { s.engine e with ctxs := [], stack := [] }
  engines : ∀ k, k ≠ e → t.engine k = s.engine k
  rest : { t with engines := [], mem := [] } = { s with engines := [], mem := [] }

/-- Issued by context c of engine e, instruction i answers a next state in which rd holds v (g0 keeps reading 0), FPS has gained
the flags fl, the PC is that of the following instruction, and nothing else has changed. -/
def Sets (s : State) (e : Fin 96) (c : Nat) (i : Instr) (rd : BitVec 5) (v : Word) (fl : Nat) : Prop :=
  ∃ t, exec i s = .next t ∧ Wrote s t e c (nextPc s e c) rd v fl

/-- Issued by context c of engine e, instruction i answers a next state in which the PC is pc, FPS has gained the flags fl, and
nothing else has changed. -/
def Goes (s : State) (e : Fin 96) (c : Nat) (i : Instr) (pc fl : Nat) : Prop :=
  ∃ t, exec i s = .next t ∧ Wrote s t e c pc 0#5 0#32 fl

/-- A product instruction of context c of engine e has issued and nothing else has happened: p is the youngest product in flight
and the PC is that of the following instruction. -/
structure Started (s t : State) (e c : Nat) (p : EngProd) : Prop where
  prods : (t.engine e).prods = (s.engine e).prods ++ [p]
  now : (s.ctx e c).Wrote (t.ctx e c) (nextPc s e c) 0#5 0#32 0
  ctxs : ∀ k, k ≠ c → t.ctx e k = s.ctx e k
  own : { t.engine e with ctxs := [], prods := [] } = { s.engine e with ctxs := [], prods := [] }
  engines : ∀ k, k ≠ e → t.engine k = s.engine k
  rest : { t with engines := [] } = { s with engines := [] }

/-- A 64-bit product in flight: PL its low word, PH its high word, no flag. -/
def wideProd (v : BitVec 64) : EngProd := ⟨true, v.setWidth 32, (v >>> 32).setWidth 32, 0⟩

/-! What a command leaves. -/

/-- The fields of fs, each of the window at a base, hold the values given; every other bit of every register keeps its value. -/
def RegsTo (s t : State) (fs : List (Nat × Fld × Nat)) : Prop :=
  ∀ a, t.rd a = fs.foldl (fun w p => if p.1 + p.2.1.off = a then fset w p.2.1 p.2.2 else w) (s.rd a)

/-- Of a group of like units, unit n holds x and every other unit stands as it was. -/
def Upd {α : Type} (before after : Nat → α) (n : Nat) (x : α) : Prop := after n = x ∧ ∀ k, k ≠ n → after k = before k

/-- Every register and every byte of memory reads as before. -/
def SameRegs (s t : State) : Prop := (∀ a, t.rd a = s.rd a) ∧ t.mem = s.mem

/-! Accesses of masters. -/

/-- The core domain is out of reset and its clock runs. -/
structure Awake (s : State) : Prop where
  core : s.pwr.core = true
  clock : s.pwr.asleep = false

/-- A write of w by master m to the register at host address a is accepted: the machine is awake and no rule refuses it (R25). -/
structure Accepts (s : State) (m : Master) (a : Nat) (w : Word) : Prop extends Awake s where
  allowed : regRefused s m false a w = false

/-- A read by master m of the register at host address a is accepted. -/
structure Readable (s : State) (m : Master) (a : Nat) : Prop extends Awake s where
  allowed : passOk s m false a = true

/-- Every phase shows the defined felt that holds it, and no two defined felts share one (R61, R110). -/
def Assigned (s : State) : Prop :=
  ∀ f q, f < 96 → q < 192 → (phaseFelt s q = some f ↔ feltDefined s f = true ∧ q ∈ feltPhases s f)

end Sys2Proof.Machine
end

