-- ==== Sys2Proof/WellFormed.lean ====
section
/-! DEFINITION. Which commands are well formed. -/
namespace Sys2Proof
open Machine (achalDecode)

/-- A master that sends commands: the host interfaces, debug and the engines. DMA, the remote crown, the loader and coherent
changes make their accesses inside other commands (R49, R360, R487, R490). -/
def Master.sends : Master → Bool
  | .spi => true
  | .twoWire => true
  | .debug => true
  | .engine _ => true
  | .dma _ => false
  | .cascade => false
  | .loader => false
  | .coherent => false

/-- A bit field of wm1 + 1 bits at pos lies in a word (R313, R317). -/
def fieldOk (pos wm1 : BitVec 5) : Bool := decide (pos.toNat + wm1.toNat < 32)

/-- The command codes that R466 names. -/
def namedCommands : List Nat := [0x03, 0x0B, 0x02, 0x0A, 0x9F]

/-- A command is well formed: its operands are such as its row of the opcode table admits. -/
def Instr.wellFormed : Instr → Bool
  | .add _ _ _ _ => true
  | .sub _ _ _ _ => true
  | .and _ _ _ _ => true
  | .or _ _ _ _ => true
  | .xor _ _ _ _ => true
  | .andn _ _ _ _ => true
  | .sll _ _ _ _ => true
  | .srl _ _ _ _ => true
  | .sra _ _ _ _ => true
  | .ror _ _ _ _ => true
  | .slt _ _ _ _ => true
  | .sltu _ _ _ _ => true
  | .min _ _ _ _ => true
  | .max _ _ _ _ => true
  | .minu _ _ _ _ => true
  | .maxu _ _ _ _ => true
  | .clz _ _ _ => true
  | .addi _ _ _ _ => true
  | .andi _ _ _ _ => true
  | .ori _ _ _ _ => true
  | .xori _ _ _ _ => true
  | .lui _ _ _ => true
  | .slli _ _ _ _ => true
  | .srli _ _ _ _ => true
  | .srai _ _ _ _ => true
  | .rori _ _ _ _ => true
  | .bfxu _ _ _ pos wm1 => fieldOk pos wm1
  | .bfxs _ _ _ pos wm1 => fieldOk pos wm1
  | .bfi _ _ _ pos wm1 => fieldOk pos wm1
  | .perm _ _ _ _ => true
  | .slti _ _ _ _ => true
  | .sltiu _ _ _ _ => true
  | .ldw _ _ _ _ => true
  | .ldh _ _ _ _ => true
  | .ldhu _ _ _ _ => true
  | .ldb _ _ _ _ => true
  | .ldbu _ _ _ _ => true
  | .stw _ _ _ _ => true
  | .sth _ _ _ _ => true
  | .stb _ _ _ _ => true
  | .xchg _ _ _ _ => true
  | .ldc _ _ _ _ => true
  | .stc _ _ _ _ => true
  | .ioIn _ _ _ _ => true
  | .ioOut _ _ _ _ => true
  | .btst _ _ _ _ => true
  | .bwr _ _ _ _ => true
  | .bset _ _ _ => true
  | .bclr _ _ _ => true
  | .btgl _ _ _ => true
  | .br _ _ _ cond _ => decide (cond.toNat < 6)
  | .bri _ _ cond _ _ => decide (cond.toNat < 6)
  | .fbr _ _ _ cond _ => decide (cond.toNat < 5)
  | .bb _ _ _ _ => true
  | .brb _ _ _ _ _ => true
  | .j _ _ => true
  | .jr _ _ => true
  | .call _ _ _ => true
  | .callr _ _ _ => true
  | .ret _ _ => true
  | .nop _ => true
  | .halt _ => true
  | .wait _ => true
  | .fence _ => true
  | .trap _ _ => true
  | .reti _ => true
  | .mfs _ _ _ => true
  | .mts _ _ _ => true
  | .mul _ _ _ => true
  | .mulu _ _ _ => true
  | .mac _ _ _ => true
  | .macu _ _ _ => true
  | .fmul _ _ _ => true
  | .fmac _ _ _ => true
  | .productComplete _ => true
  | .fadd _ _ _ _ => true
  | .fsub _ _ _ _ => true
  | .fmin _ _ _ _ => true
  | .fmax _ _ _ _ => true
  | .fabs _ _ _ => true
  | .fneg _ _ _ => true
  | .frcp _ _ _ => true
  | .i2f _ _ _ => true
  | .u2f _ _ _ => true
  | .f2i _ _ _ => true
  | .f2iZ _ _ _ => true
  | .f2u _ _ _ => true
  | .f2uZ _ _ _ => true
  | .illegal e w => (achalDecode e w).isNone
  | .registerWrite m _ _ => m.sends
  | .load m _ => m.sends
  | .imageLock m => m.sends
  | .bootImageSelect => true
  | .imagePass1End => true
  | .imagePass2End => true
  | .digestRecomputeEnd => true
  | .refeltGo m _ _ => m.sends
  | .digestBusyTimeout => true
  | .timerCountTick _ => true
  | .timerOverflow _ => true
  | .compareFire _ => true
  | .tmrEn m _ _ _ => m.sends
  | .tmrAbort m _ => m.sends
  | .tmrReloadWrite m _ _ => m.sends
  | .tmrCountWrite m _ _ => m.sends
  | .tmrCmpWrite m _ _ => m.sends
  | .evtTstart m _ _ => m.sends
  | .evtTstop m _ _ => m.sends
  | .tioEdge _ _ => true
  | .faultReport => true
  | .reactionStart => true
  | .reactionEnd => true
  | .resetScopeTimeout => true
  | .recessEnd => true
  | .recoveryWindowClose => true
  | .fcClear m => m.sends
  | .queuePop m => m.sends
  | .queueHeadRead m => m.sends
  | .faultInject m _ => m.sends
  | .faultPacket => true
  | .uplinkFrame _ _ _ => true
  | .downlinkFrameBuild _ => true
  | .slLoss _ => true
  | .latencyTrackStep _ => true
  | .timePacketSend _ => true
  | .sideRetxTimeout _ => true
  | .resync _ => true
  | .retrainReq _ => true
  | .statusPage _ => true
  | .regRsp _ => true
  | .reservedPacket _ => true
  | .sideIdle _ => true
  | .pdMsg _ => true
  | .hubAccessGo m _ _ _ => m.sends
  | .trainIdleEnd _ => true
  | .trainTimeout _ => true
  | .backoffEnd _ => true
  | .slEn m _ _ => m.sends
  | .slRetrain m _ => m.sends
  | .slAbort m _ => m.sends
  | .latchState _ => true
  | .trip _ => true
  | .currentLoopUpdate _ => true
  | .surgeEnd _ => true
  | .surgeHoldoffEnd _ => true
  | .syncInEdge _ => true
  | .syncInTimeout => true
  | .periodGlideEnd _ => true
  | .phsLfRearm m _ => m.sends
  | .feltLoopUpdate _ => true
  | .setpointSetWrite m _ _ _ => m.sends
  | .feltSrcWrite m _ _ => m.sends
  | .blkStrobe _ _ _ => true
  | .inRegSet _ => true
  | .outReg _ => true
  | .battDone _ => true
  | .trackLost _ => true
  | .feltStart m _ _ _ => m.sends
  | .startWaitClear _ => true
  | .startRampEnd _ => true
  | .feltStop m _ => m.sends
  | .stopProfileEnd _ => true
  | .stopTmo _ => true
  | .feltAbort m _ => m.sends
  | .feltTestWrite m _ _ => m.sends
  | .breakerTick _ => true
  | .breakerRetry _ => true
  | .breakerCountClear _ => true
  | .brkClear m _ => m.sends
  | .ovClear m _ => m.sends
  | .ovClearTimeout _ => true
  | .leadResistanceLearned _ _ _ => true
  | .senseOpen _ => true
  | .timeNsRead m => m.sends
  | .timeApplyNow m => m.sends
  | .timeApplyAtBell m => m.sends
  | .residueSlewEnd => true
  | .timePllLock _ => true
  | .refQualify _ => true
  | .timeRef _ => true
  | .timeGlideEnd _ => true
  | .timeHoldover => true
  | .probeSend => true
  | .bellArm m => m.sends
  | .bellCancel m => m.sends
  | .bellRing => true
  | .listStart m _ v => m.sends && v.getLsbD 0
  | .listOrigin _ => true
  | .listPointEnd _ => true
  | .listPointArrive _ _ => true
  | .listStop m _ => m.sends
  | .listAbort m _ => m.sends
  | .probeAnswer _ => true
  | .probeError => true
  | .bellPacketArm => true
  | .bellPacketCancel => true
  | .bellAck => true
  | .housePeriod _ _ _ => true
  | .hseOcTrip _ => true
  | .hseOvTrip _ => true
  | .hseEn m _ _ => m.sends
  | .hseAbort m _ => m.sends
  | .hseSampled m _ _ => m.sends
  | .sampledTick _ _ => true
  | .busSense _ _ => true
  | .busOv _ _ => true
  | .busOvClear m => m.sends
  | .busUv _ _ => true
  | .busEn m _ => m.sends
  | .busStartDone => true
  | .busPowerdownEnd => true
  | .balancerCycle _ _ => true
  | .hotswapSample _ _ _ => true
  | .busHoldup => true
  | .admissionRequest => true
  | .admissionStep => true
  | .admitTimeout => true
  | .hsEn m _ => m.sends
  | .hsInsertionDelayEnd => true
  | .hsPowerGood => true
  | .hsFaultTimer => true
  | .hsFastLimit => true
  | .hsPgTimeout => true
  | .hsCoolEnd => true
  | .hsClear m => m.sends
  | .hsRetryClear => true
  | .admitRequestPacket => true
  | .admitReturnPacket => true
  | .store m => m.sends
  | .storeComplete _ => true
  | .card m => m.sends
  | .cardWriteComplete => true
  | .cardClear m => m.sends
  | .nvErase m _ => m.sends
  | .eraseComplete => true
  | .recWrite m _ => m.sends
  | .recWriteComplete _ => true
  | .nvRawWrite m _ _ _ => m.sends
  | .nvCntInc m _ => m.sends
  | .nvCntClr m _ => m.sends
  | .bootScan => true
  | .bootScanEnd => true
  | .attach _ _ => true
  | .detach _ => true
  | .hardResetReceived _ => true
  | .cableResetReceived _ => true
  | .transmitResult _ => true
  | .vbusState _ => true
  | .vconnFault _ => true
  | .errorRecoveryEnd _ => true
  | .pdMessage _ => true
  | .pdRequest _ => true
  | .drSwap _ => true
  | .vconnSwap _ => true
  | .softReset _ => true
  | .getRevision _ => true
  | .eprKeepalive _ => true
  | .pdTxGo m _ _ _ => m.sends
  | .pdAdmReq m _ _ => m.sends
  | .pdRxRelease m _ => m.sends
  | .pdEn m _ _ => m.sends
  | .pdAbort m _ => m.sends
  | .pdHardReset m _ => m.sends
  | .policyTmo _ => true
  | .srcTransitionEnd _ => true
  | .pdTransition _ => true
  | .psTransitionTimeout _ => true
  | .sinkRequestResend _ => true
  | .ppsRequestResend _ => true
  | .ppsTimeout _ => true
  | .eprKeepaliveSend _ => true
  | .eprKeepaliveTimeout _ => true
  | .cableDiscoveryStart _ => true
  | .discoverIdentityRetry _ => true
  | .senderResponseTimeout _ => true
  | .psHardResetEnd _ => true
  | .srcRecoverEnd _ => true
  | .sinkVbusReturnTimeout _ => true
  | .swapTimeout _ => true
  | .swapSourceStart _ => true
  | .pdGuard _ _ => true
  | .svcAttach _ => true
  | .svcDetach _ => true
  | .svcPathClose _ => true
  | .svcPathOpen _ _ => true
  | .svcPathRetry _ => true
  | .getId => true
  | .getStatus => true
  | .readSlate => true
  | .readCard => true
  | .updBegin => true
  | .updEraseEnd => true
  | .updData => true
  | .updEnd => true
  | .updAbort => true
  | .svcPdMessage _ bytes => decide (2 ≤ bytes.length)
  | .typecSendSourceCap _ => true
  | .chunkSenderTimeout _ => true
  | .enterEprTimeout _ => true
  | .gaugeStep _ => true
  | .gaugeLowEntry _ => true
  | .gauBlind _ => true
  | .rest _ _ => true
  | .gaugeInit _ _ => true
  | .levelJudge _ => true
  | .gauEn m _ _ => m.sends
  | .swap m _ => m.sends
  | .reload m _ => m.sends
  | .learnReset m _ => m.sends
  | .tapOpenClear m _ _ => m.sends
  | .taskSwitch _ => true
  | .faultContextStart _ => true
  | .engStart m _ => m.sends
  | .engHalt m _ => m.sends
  | .engResume m _ => m.sends
  | .engAbort m _ => m.sends
  | .mailboxPush m _ _ _ => m.sends
  | .mailboxPop m _ _ => m.sends
  | .softwareTrigger m _ _ => m.sends
  | .mpuLock m _ => m.sends
  | .dmaEn m _ _ => m.sends
  | .dmaAbort m _ => m.sends
  | .dmaTrigger _ => true
  | .dmaDescriptorFetch _ => true
  | .dmaElement => true
  | .capEn m _ _ => m.sends
  | .capRecordClose _ => true
  | .capRdWrite m _ _ => m.sends
  | .capAbort m _ => m.sends
  | .monConversion _ => true
  | .monResultRead m _ => m.sends
  | .timetableUp m => m.sends
  | .timetableDown m => m.sends
  | .ttEntryAction _ => true
  | .ttPgTimeout _ => true
  | .railOffTmo _ => true
  | .unnamedTimeout => true
  | .railRetryDelayEnd _ => true
  | .railRetryClear _ => true
  | .seqInQualified => true
  | .seqFltDetect => true
  | .chainDownDelayEnd => true
  | .interlockSample _ _ => true
  | .interlockAck m _ => m.sends
  | .pbPressBegin => true
  | .pbOn => true
  | .pbShort => true
  | .pbForceOff => true
  | .forceOffEnd => true
  | .manualReset => true
  | .vaonRise => true
  | .pbPressEnd _ => true
  | .read _ _ _ _ => true
  | .readFix _ _ _ _ => true
  | .write _ _ data _ => decide (data.length < 65536)
  | .writeFix _ _ data _ => decide (data.length < 65536)
  | .id _ _ _ _ => true
  | .spiAbort none => true
  | .spiAbort (some (_, _, n)) => decide (n.toNat ≤ 1024)
  | .twRead _ => true
  | .twNotice _ => true
  | .twSclTimeout => true
  | .twStuck _ => true
  | .twSdaRecovery _ => true
  | .twReset (.pin _) => true
  | .twReset (.ctrl m) => m.sends
  | .casLoss _ => true
  | .crown m => m.sends
  | .enumerate m => m.sends
  | .enum => true
  | .rollNow m => m.sends
  | .probe _ => true
  | .admitGrantPacket => true
  | .admitWithdrawPacket => true
  | .coherent => true
  | .coherentAck => true
  | .rollCall => true
  | .rollCallReceive => true
  | .rollAnswer => true
  | .rollResult => true
  | .rollcallMiss => true
  | .remoteAccess m _ _ => m.sends
  | .regReadPacket => true
  | .regWritePacket => true
  | .regResponsePacket => true
  | .remoteAccessTimeout => true
  | .seqPowerUpPacket => true
  | .seqPowerDownPacket => true
  | .imageReadPacket => true
  | .imageDataPacket => true
  | .imageLoadPacket => true
  | .cascadeLinkPacket => true
  | .cascadeFrame _ _ => true
  | .hostUnknownCommand _ cmd _ _ => !(namedCommands.contains cmd.toNat)
  | .corePll => true
  | .mainSupplyRise => true
  | .pllaLock _ => true
  | .coreResetRelease => true
  | .supplyOutOfRange => true
  | .softwareReset m => m.sends
  | .sleep m => m.sends
  | .wake => true

end Sys2Proof
end

