-- ==== Sys2Proof/Certificates/Slice0/Obligations.lean ====
section
/-! DEFINITION. The statements for the provers: what commands do, by the numbered rules of the spec. -/
open Sys2Proof Sys2Proof.Machine
-- One proof after another: side by side they take more memory than a check may have.
set_option Elab.async false

/-- R316: the integer ALU group. Each instruction of format A leaves its result in rd and the rest of the machine as it was, but
for the PC; the shift count is rb[4:0]; no flag is raised. CLZ leaves the n for which ra lies below 2^(32 − n) and, unless ra is
0, not below 2^(31 − n). -/
def Obligations.IntegerAluResults : Prop :=
  ∀ (s : State) (e : Fin 96) (c : Nat) (rd ra rb : BitVec 5), Issues s e c →
    let a := (s.ctx e c).reg ra
    let b := (s.ctx e c).reg rb
    let n := (b &&& 31#32).toNat
    Sets s e c (.add e rd ra rb) rd (BitVec.ofNat 32 (a.toNat + b.toNat)) 0 ∧
    Sets s e c (.sub e rd ra rb) rd (BitVec.ofInt 32 (a.toInt - b.toInt)) 0 ∧
    Sets s e c (.and e rd ra rb) rd (a &&& b) 0 ∧
    Sets s e c (.or e rd ra rb) rd (a ||| b) 0 ∧
    Sets s e c (.xor e rd ra rb) rd (a ^^^ b) 0 ∧
    Sets s e c (.andn e rd ra rb) rd (a &&& ~~~b) 0 ∧
    Sets s e c (.sll e rd ra rb) rd (a <<< n) 0 ∧
    Sets s e c (.srl e rd ra rb) rd (a >>> n) 0 ∧
    Sets s e c (.sra e rd ra rb) rd (a.sshiftRight n) 0 ∧
    Sets s e c (.ror e rd ra rb) rd ((a >>> n) ||| (a <<< (32 - n))) 0 ∧
    Sets s e c (.slt e rd ra rb) rd (if a.toInt < b.toInt then 1#32 else 0#32) 0 ∧
    Sets s e c (.sltu e rd ra rb) rd (if a.toNat < b.toNat then 1#32 else 0#32) 0 ∧
    Sets s e c (.min e rd ra rb) rd (BitVec.ofInt 32 (min a.toInt b.toInt)) 0 ∧
    Sets s e c (.max e rd ra rb) rd (BitVec.ofInt 32 (max a.toInt b.toInt)) 0 ∧
    Sets s e c (.minu e rd ra rb) rd (BitVec.ofNat 32 (min a.toNat b.toNat)) 0 ∧
    Sets s e c (.maxu e rd ra rb) rd (BitVec.ofNat 32 (max a.toNat b.toNat)) 0 ∧
    ∀ k : Nat, k ≤ 32 → a.toNat < 2 ^ (32 - k) → (a = 0#32 ∨ 2 ^ (32 - k) ≤ 2 * a.toNat) → (a = 0#32 → k = 32) →
      Sets s e c (.clz e rd ra) rd (BitVec.ofNat 32 k) 0

/-- R317: the immediate, shift, bit-field and permute instructions. A bit field lies in the word (pos + w ≤ 32). -/
def Obligations.ImmediateResults : Prop :=
  ∀ (s : State) (e : Fin 96) (c : Nat) (rd ra sh : BitVec 5) (imm : BitVec 16), Issues s e c →
    let a := (s.ctx e c).reg ra
    Sets s e c (.addi e rd ra imm) rd (BitVec.ofInt 32 (a.toInt + imm.toInt)) 0 ∧
    Sets s e c (.andi e rd ra imm) rd (a &&& imm.setWidth 32) 0 ∧
    Sets s e c (.ori e rd ra imm) rd (a ||| imm.setWidth 32) 0 ∧
    Sets s e c (.xori e rd ra imm) rd (a ^^^ imm.setWidth 32) 0 ∧
    Sets s e c (.lui e rd imm) rd (BitVec.ofNat 32 (imm.toNat * 65536)) 0 ∧
    Sets s e c (.slli e rd ra sh) rd (a <<< sh.toNat) 0 ∧
    Sets s e c (.srli e rd ra sh) rd (a >>> sh.toNat) 0 ∧
    Sets s e c (.srai e rd ra sh) rd (a.sshiftRight sh.toNat) 0 ∧
    Sets s e c (.rori e rd ra sh) rd ((a >>> sh.toNat) ||| (a <<< (32 - sh.toNat))) 0 ∧
    Sets s e c (.slti e rd ra imm) rd (if a.toInt < imm.toInt then 1#32 else 0#32) 0 ∧
    Sets s e c (.sltiu e rd ra imm) rd (if a.toNat < (imm.signExtend 32).toNat then 1#32 else 0#32) 0 ∧
    (∀ (sel : BitVec 8) (r : Word), (∀ i, i < 4 → byteOf r i = byteOf a (2 * (sel.getLsbD (2 * i + 1)).toNat + (sel.getLsbD (2 * i)).toNat)) →
      Sets s e c (.perm e rd ra sel) rd r 0) ∧
    ∀ pos wm1 : BitVec 5, pos.toNat + wm1.toNat < 32 →
      Sets s e c (.bfxu e rd ra pos wm1) rd ((a.extractLsb' pos.toNat (wm1.toNat + 1)).setWidth 32) 0 ∧
      Sets s e c (.bfxs e rd ra pos wm1) rd ((a.extractLsb' pos.toNat (wm1.toNat + 1)).signExtend 32) 0 ∧
      ∀ r : Word, (∀ k, k < 32 → r.getLsbD k = if pos.toNat ≤ k ∧ k ≤ pos.toNat + wm1.toNat then a.getLsbD (k - pos.toNat)
          else ((s.ctx e c).reg rd).getLsbD k) →
        Sets s e c (.bfi e rd ra pos wm1) rd r 0

/-- R318: loads. An aligned load that the checks of R308 allow and that does not wait for the boot scan (R456) leaves the bytes
from its address up in rd, least significant first, sign- or zero-extended. -/
def Claims.LoadResults : Prop :=
  ∀ (s : State) (e : Fin 96) (c : Nat) (rd ra : BitVec 5) (imm : BitVec 16), Issues s e c →
    let a := ((s.ctx e c).reg ra + imm.signExtend 32).toNat
    let b := fun k => engByte s e c (a + k)
    engWaits s false a = false →
    (a % 4 = 0 → engCheck s e c a 4 false = none →
      Sets s e c (.ldw e rd ra imm) rd (b 3 ++ b 2 ++ b 1 ++ b 0) 0) ∧
    (a % 2 = 0 → engCheck s e c a 2 false = none →
      Sets s e c (.ldh e rd ra imm) rd ((b 1 ++ b 0).signExtend 32) 0 ∧
      Sets s e c (.ldhu e rd ra imm) rd ((b 1 ++ b 0).setWidth 32) 0) ∧
    (engCheck s e c a 1 false = none →
      Sets s e c (.ldb e rd ra imm) rd ((b 0).signExtend 32) 0 ∧
      Sets s e c (.ldbu e rd ra imm) rd ((b 0).setWidth 32) 0)

/-- R318: stores and XCHG. An aligned store that the checks of R308 allow and that does not wait for a store of the slate or for the boot
scan (R445, R456) leaves the low bytes of rs from its address up and every other byte, register and unit as they were; XCHG also leaves in rs the
word that stood there. -/
def Claims.StoreResults : Prop :=
  ∀ (s : State) (e : Fin 96) (c : Nat) (rs ra : BitVec 5) (imm : BitVec 16), Issues s e c →
    let a := ((s.ctx e c).reg ra + imm.signExtend 32).toNat
    let v := (s.ctx e c).reg rs
    let y := (s.ctx e c).goto ((s.ctx e c).pc + 1)
    engWaits s true a = false →
    (a % 4 = 0 → engCheck s e c a 4 true = none →
      (∃ t, exec (.stw e rs ra imm) s = .next t ∧ Stored s t e c a 4 v y) ∧
      (engCheck s e c a 4 false = none → ∃ t, exec (.xchg e rs ra imm) s = .next t ∧
        Stored s t e c a 4 v (y.setReg rs (engByte s e c (a + 3) ++ engByte s e c (a + 2) ++ engByte s e c (a + 1) ++ engByte s e c a)))) ∧
    (a % 2 = 0 → engCheck s e c a 2 true = none → ∃ t, exec (.sth e rs ra imm) s = .next t ∧ Stored s t e c a 2 v y) ∧
    (engCheck s e c a 1 true = none → ∃ t, exec (.stb e rs ra imm) s = .next t ∧ Stored s t e c a 1 v y)

/-- R319, LDC and STC: the word of the instruction space at (ra + sx(imm16)) mod 4096, where the MPU allows it. STC changes the
four bytes of that word and no other. -/
def Claims.CodeAccessResults : Prop :=
  ∀ (s : State) (e : Fin 96) (c : Nat) (r ra : BitVec 5) (imm : BitVec 16), Issues s e c →
    let k := ((s.ctx e c).reg ra + imm.signExtend 32).toNat % 4096
    let h := 0x1000000 + 0x8000 * e.val + 4 * k
    (mpuOk s e c true (4 * k) (4 * k + 3) false = true → Sets s e c (.ldc e r ra imm) r (s.memWord h) 0) ∧
    (mpuOk s e c true (4 * k) (4 * k + 3) true = true → ∃ t, exec (.stc e r ra imm) s = .next t ∧
      t.memWord h = (s.ctx e c).reg r ∧ (∀ b, b < h ∨ h + 4 ≤ b → t.byte b = s.byte b) ∧
      ({ t with mem := s.mem } = s.setCtx e c ((s.ctx e c).goto ((s.ctx e c).pc + 1))))

/-- Loads, stores, XCHG, LDC and STC: what they read, what they write, and the frame of memory: `Claims.LoadResults`, `Claims.StoreResults` and `Claims.CodeAccessResults` together. -/
def Obligations.MemoryInstructions : Prop := Claims.LoadResults ∧ Claims.StoreResults ∧ Claims.CodeAccessResults

/-- R320: the compare-and-branch instructions. off13 counts from the branch itself, modulo 4096 (R305); a branch that is not taken
goes on; no register is written. FBR raises invalid as R320 says. -/
def Obligations.BranchResults : Prop :=
  ∀ (s : State) (e : Fin 96) (c : Nat) (ra rb : BitVec 5) (imm : BitVec 5) (off : BitVec 13), Issues s e c →
    let a := (s.ctx e c).reg ra
    let b := (s.ctx e c).reg rb
    let i := imm.signExtend 32
    let dest := fun t : Bool => if t then (((s.ctx e c).pc + off.toInt) % 4096).toNat else nextPc s e c
    let conds := fun b : Word => [(0#3, a == b), (1#3, a != b), (2#3, decide (a.toInt < b.toInt)), (3#3, decide (b.toInt ≤ a.toInt)),
      (4#3, decide (a.toNat < b.toNat)), (5#3, decide (b.toNat ≤ a.toNat))]
    (∀ p ∈ conds b, Goes s e c (.br e ra rb p.1 off) (dest p.2) 0) ∧
    (∀ p ∈ conds i, Goes s e c (.bri e ra p.1 imm off) (dest p.2) 0) ∧
    (let val : Word → Int := fun w => if w.getLsbD 31 then -((w.toNat % 2 ^ 31 : Nat) : Int) else ((w.toNat % 2 ^ 31 : Nat) : Int)
     let isNaN : Word → Bool := fun w => decide (0x7F800000 < w.toNat % 2 ^ 31)
     let nan := isNaN a || isNaN b
     let invalid := if nan then 1 else 0
     let sn := if (isNaN a && !a.getLsbD 22) || (isNaN b && !b.getLsbD 22) then 1 else 0
     Goes s e c (.fbr e ra rb 0#3 off) (dest (!nan && val a == val b)) sn ∧
     Goes s e c (.fbr e ra rb 1#3 off) (dest (nan || val a != val b)) sn ∧
     Goes s e c (.fbr e ra rb 2#3 off) (dest (!nan && decide (val a < val b))) invalid ∧
     Goes s e c (.fbr e ra rb 3#3 off) (dest (!nan && decide (val a ≤ val b))) invalid ∧
     Goes s e c (.fbr e ra rb 4#3 off) (dest nan) sn) ∧
    (∀ (k : BitVec 5) (sense : Bool), Goes s e c (.brb e ra k sense off) (dest (a.getLsbD k.toNat == sense)) 0) ∧
    (∀ (n : BitVec 12) (sense v : Bool), bitRead s e n.toNat = some v → Goes s e c (.bb e n sense off) (dest (v == sense)) 0)

/-- R321: J and JR set the PC, and R322: NOP does nothing, FENCE completes every earlier product. -/
def Claims.JumpResults : Prop :=
  ∀ (s : State) (e : Fin 96) (c : Nat) (ra : BitVec 5) (tgt : BitVec 12), Issues s e c →
    Goes s e c (.j e tgt) tgt.toNat 0 ∧
    Goes s e c (.jr e ra) (((s.ctx e c).reg ra).setWidth 12).toNat 0 ∧
    Goes s e c (.nop e) (nextPc s e c) 0 ∧
    ∃ t, exec (.fence e) s = .next t ∧ (t.engine e).prods = [] ∧ (t.ctx e c).pc = nextPc s e c ∧ t.mem = s.mem ∧
      t.regs = s.regs ∧ (∀ r, (t.ctx e c).reg r = (s.ctx e c).reg r) ∧
      ∀ p, (s.engine e).prods.getLast? = some p → (t.ctx e c).pl = p.pl

/-- R323, R324: CALL and CALLR. Where g2 is aligned, the new stack pointer lies between SL and g2, every word of the frame may be
written and neither a store of the slate nor the boot scan holds it back (R445, R456), the frame holds g1, the mask and the saved registers in ascending order from the
new g2 up, g2 and g1 take their new values, the PC is the target, which CALLR has read before, and nothing else has changed. The
frame has 8 bytes for each bit of mask beside its first 8. -/
def Claims.CallResults : Prop :=
  ∀ (s : State) (e : Fin 96) (c : Nat) (mask : BitVec 14) (tgt : BitVec 12) (ra : BitVec 5), Issues s e c →
    let x := s.ctx e c
    let size := 8 + 8 * ((List.range 14).filter (fun k => mask.getLsbD k)).length
    let new := (x.reg 2#5).toNat - size
    (x.reg 2#5).toNat % 8 = 0 → size ≤ (x.reg 2#5).toNat → x.sl.toNat ≤ new →
    (∀ i, i < size / 4 → engCheck s e c (new + 4 * i) 4 true = none ∧ engWaits s true (new + 4 * i) = false) →
    ∀ p ∈ [(Instr.call e mask tgt, tgt.toNat), (Instr.callr e mask ra, (x.reg ra).toNat % 4096)],
      ∃ t, exec p.1 s = .next t ∧ (t.ctx e c).pc = p.2 ∧ (t.ctx e c).reg 2#5 = BitVec.ofNat 32 new ∧
        (t.ctx e c).reg 1#5 = BitVec.ofNat 32 (nextPc s e c) ∧
        (∀ r, r ≠ 1#5 → r ≠ 2#5 → (t.ctx e c).reg r = x.reg r) ∧
        engLoad t e c new 4 = (x.reg 1#5).toNat ∧ engLoad t e c (new + 4) 4 = mask.toNat ∧
        (∀ i r, (maskRegs mask)[i]? = some r → engLoad t e c (new + 8 + 4 * i) 4 = (x.reg r).toNat) ∧
        (∀ k, k < new ∨ (x.reg 2#5).toNat ≤ k → engByte t e c k = engByte s e c k) ∧
        t.regs = s.regs ∧ (∀ k, k ≠ e.val → t.engine k = s.engine k)

/-- R325: RET. Where g2 is aligned, every word of the frame may be read, the boot scan holds none back (R456) and its second word is the mask, the saved registers, g1
and g2 take their values from the frame, the PC is g1[11:0] as it was before, and nothing else has changed. -/
def Claims.RetResults : Prop :=
  ∀ (s : State) (e : Fin 96) (c : Nat) (mask : BitVec 14), Issues s e c →
    let x := s.ctx e c
    let sp := (x.reg 2#5).toNat
    let size := 8 + 8 * ((List.range 14).filter (fun k => mask.getLsbD k)).length
    sp % 8 = 0 → sp + size ≤ 2 ^ 32 → (∀ i, i < size / 4 → engCheck s e c (sp + 4 * i) 4 false = none ∧ engWaits s false (sp + 4 * i) = false) →
    engLoad s e c (sp + 4) 4 = mask.toNat →
    ∃ t, exec (.ret e mask) s = .next t ∧ ∃ y, CtxTo s t e c y ∧ y.pc = (x.reg 1#5).toNat % 4096 ∧
      y.reg 1#5 = BitVec.ofNat 32 (engLoad s e c sp 4) ∧ y.reg 2#5 = x.reg 2#5 + BitVec.ofNat 32 size ∧
      (∀ i r, (maskRegs mask)[i]? = some r → y.reg r = BitVec.ofNat 32 (engLoad s e c (sp + 8 + 4 * i) 4)) ∧
      (∀ r, r ≠ 1#5 → r ≠ 2#5 → r ∉ maskRegs mask → y.reg r = x.reg r) ∧ y.pl = x.pl ∧ y.ph = x.ph ∧ y.sl = x.sl ∧ y.fps = x.fps

/-- Jumps, calls and returns: the PC, the frame on the stack and the registers it saves: `Claims.JumpResults`, `Claims.CallResults` and `Claims.RetResults` together. -/
def Obligations.JumpsCallsReturns : Prop := Claims.JumpResults ∧ Claims.CallResults ∧ Claims.RetResults

/-- R306, MFS: each special register by its number. PC is the address of the MFS itself; CYCLE, 0 at START, is
past its last value and not behind the core cycles of 1.25 ns in the time since START; how far past is free (log entry 30). -/
def Claims.SpecialRegisterReads : Prop :=
  ∀ (s : State) (e : Fin 96) (c : Nat) (g : BitVec 5), Issues s e c →
    let x := s.ctx e c
    let y := s.engine e
    (∀ p ∈ [(0#5, x.pl), (1#5, x.ph), (2#5, x.fps), (3#5, x.sl), (4#5, BitVec.ofNat 32 (x.pc % 4096)),
        (6#5, BitVec.ofNat 32 (e.val + 2 ^ 8 * s.position)), (7#5, 1#32),
        (8#5, BitVec.ofNat 32 (s.fld (engB e) F.ENG_STATUS_TASK)), (9#5, BitVec.ofNat 32 y.fcause),
        (10#5, BitVec.ofNat 32 y.fpc), (11#5, BitVec.ofNat 32 y.faddr)],
      Sets s e c (.mfs e g p.1) g p.2 0) ∧
    let now := max (y.cycle + 1) (4 * (s.lineNs - y.startNs) / 5) + (Config.freeWord s.freeCount).toNat
    ∃ t, exec (.mfs e g 5#5) s = .next t ∧
      Wrote ({ s with freeCount := s.freeCount + 1 }.setEngine e { y with cycle := now }) t e c (nextPc s e c) g (BitVec.ofNat 32 now) 0

/-- R306, R329, MTS: PL, PH and FPS take the register once every product in flight has completed, SL takes it with its low three
bits 0; reserved bits of FPS stay 0. -/
def Claims.SpecialRegisterWrites : Prop :=
  ∀ (s : State) (e : Fin 96) (c : Nat) (g : BitVec 5), Issues s e c →
    let v := (s.ctx e c).reg g
    ∀ p ∈ [(0#5, fun y : EngCtx => y.pl == v), (1#5, fun y => y.ph == v), (2#5, fun y => y.fps == (v &&& 0x1F#32)),
        (3#5, fun y => y.sl == (v &&& 0xFFFFFFF8#32))],
      ∃ t, exec (.mts e g p.1) s = .next t ∧ p.2 (t.ctx e c) = true ∧ (t.ctx e c).pc = nextPc s e c ∧
        (p.1 ≠ 3#5 → (t.engine e).prods = []) ∧ (p.1 = 3#5 → (t.engine e).prods = (s.engine e).prods) ∧
        (∀ r, (t.ctx e c).reg r = (s.ctx e c).reg r) ∧ t.mem = s.mem ∧ t.regs = s.regs ∧
        ∀ k, k ≠ e.val → t.engine k = s.engine k

/-- MFS and MTS: what each special register gives and takes: `Claims.SpecialRegisterReads` and `Claims.SpecialRegisterWrites` together. -/
def Obligations.SpecialRegisters : Prop := Claims.SpecialRegisterReads ∧ Claims.SpecialRegisterWrites

/-- R327, R328: a product instruction issues with the product of ra and rb, MAC and MACU added to the PH:PL that the product
instruction before it leaves, whether that one has completed or is in flight. -/
def Claims.ProductIssues : Prop :=
  ∀ (s : State) (e : Fin 96) (c : Nat) (ra rb : BitVec 5), Issues s e c →
    let a := (s.ctx e c).reg ra
    let b := (s.ctx e c).reg rb
    let last := match (s.engine e).prods.getLast? with
      | some p => (p.ph, p.pl)
      | none => ((s.ctx e c).ph, (s.ctx e c).pl)
    let acc := BitVec.ofNat 64 (last.1.toNat * 2 ^ 32 + last.2.toNat)
    (∃ t, exec (.mul e ra rb) s = .next t ∧ Started s t e c (wideProd (a.signExtend 64 * b.signExtend 64))) ∧
    (∃ t, exec (.mulu e ra rb) s = .next t ∧ Started s t e c (wideProd (a.setWidth 64 * b.setWidth 64))) ∧
    (∃ t, exec (.mac e ra rb) s = .next t ∧ Started s t e c (wideProd (acc + a.signExtend 64 * b.signExtend 64))) ∧
    (∃ t, exec (.macu e ra rb) s = .next t ∧ Started s t e c (wideProd (acc + a.setWidth 64 * b.setWidth 64))) ∧
    (∃ t, exec (.fmul e ra rb) s = .next t ∧ Started s t e c ⟨false, (fMulF a b).1, last.1, (fMulF a b).2⟩) ∧
    (∃ t, exec (.fmac e ra rb) s = .next t ∧ Started s t e c ⟨false, (fMacF a b last.2).1, last.1, (fMacF a b last.2).2⟩)

/-- R327, R328: the oldest product in flight becomes visible in PH:PL, a floating one in PL with its flags of FPS, and nothing else
changes. -/
def Claims.ProductCompletes : Prop :=
  ∀ (s : State) (e : Fin 96) (c : Nat) (p : EngProd) (l : List EngProd), Issues s e c → (s.engine e).prods = p :: l →
    ∃ t, exec (.productComplete e) s = .next t ∧ (t.engine e).prods = l ∧ (t.ctx e c).pl = p.pl ∧
      (t.ctx e c).ph = (if p.wide then p.ph else (s.ctx e c).ph) ∧ (t.ctx e c).fps = (s.ctx e c).fps ||| BitVec.ofNat 32 p.flags ∧
      (∀ r, (t.ctx e c).reg r = (s.ctx e c).reg r) ∧ (t.ctx e c).pc = (s.ctx e c).pc ∧ t.mem = s.mem ∧ t.regs = s.regs ∧
      ∀ k, k ≠ e.val → t.engine k = s.engine k

/-- Product instructions: what issues, in which order it completes, and what becomes visible: `Claims.ProductIssues` and `Claims.ProductCompletes` together. -/
def Obligations.ProductInstructions : Prop := Claims.ProductIssues ∧ Claims.ProductCompletes

/-- R330 to R334: the floating-point group. Each instruction leaves its rounded result in rd and raises its flags. -/
def Obligations.FloatResults : Prop :=
  ∀ (s : State) (e : Fin 96) (c : Nat) (rd ra rb : BitVec 5), Issues s e c →
    let a := (s.ctx e c).reg ra
    let b := (s.ctx e c).reg rb
    Sets s e c (.fadd e rd ra rb) rd (fAddF a b).1 (fAddF a b).2 ∧
    Sets s e c (.fsub e rd ra rb) rd (fAddF a (b ^^^ 0x80000000#32)).1 (fAddF a (b ^^^ 0x80000000#32)).2 ∧
    Sets s e c (.fmin e rd ra rb) rd (fMinF a b).1 (fMinF a b).2 ∧
    Sets s e c (.fmax e rd ra rb) rd (fMaxF a b).1 (fMaxF a b).2 ∧
    Sets s e c (.fabs e rd ra) rd (a &&& 0x7FFFFFFF#32) 0 ∧
    Sets s e c (.fneg e rd ra) rd (a ^^^ 0x80000000#32) 0 ∧
    Sets s e c (.frcp e rd ra) rd (fDivF 0x3F800000#32 a).1 (fDivF 0x3F800000#32 a).2 ∧
    Sets s e c (.i2f e rd ra) rd (fOfIntF a.toInt).1 (fOfIntF a.toInt).2 ∧
    Sets s e c (.u2f e rd ra) rd (fOfIntF a.toNat).1 (fOfIntF a.toNat).2 ∧
    (let r := fToIntF (-2147483648) 2147483647 true a; Sets s e c (.f2i e rd ra) rd (BitVec.ofInt 32 r.1) r.2) ∧
    (let r := fToIntF (-2147483648) 2147483647 false a; Sets s e c (.f2iZ e rd ra) rd (BitVec.ofInt 32 r.1) r.2) ∧
    (let r := fToIntF 0 4294967295 true a; Sets s e c (.f2u e rd ra) rd (BitVec.ofInt 32 r.1) r.2) ∧
    (let r := fToIntF 0 4294967295 false a; Sets s e c (.f2uZ e rd ra) rd (BitVec.ofInt 32 r.1) r.2)

/-- R335: the results and flags of its table. Against S = 0x0000_0001 and M = 0x7F7F_FFFF each operation gives the result and the
flags of its row, in either order where the row says so; a product is in flight with them, with PL as the input of FMAC. -/
def Obligations.FloatTable : Prop :=
  ∀ (s : State) (e : Fin 96) (c : Nat) (rd ra rb : BitVec 5) (off : BitVec 13), Issues s e c → (s.engine e).prods = [] →
    let a := (s.ctx e c).reg ra
    let b := (s.ctx e c).reg rb
    (∀ p ∈ ([(0x00000001#32, 0x00000001#32, 2#32, 0), (0x00000001#32, 0x3F800000#32, 0x3F800000#32, 16), (0x3F800000#32, 0x00000001#32, 0x3F800000#32, 16), (0x00000001#32, 0x80000001#32, 0#32, 0), (0x7F7FFFFF#32, 0x3F800000#32, 0x7F7FFFFF#32, 16), (0x3F800000#32, 0x7F7FFFFF#32, 0x7F7FFFFF#32, 16), (0x7F7FFFFF#32, 0x00000001#32, 0x7F7FFFFF#32, 16), (0x00000001#32, 0x7F7FFFFF#32, 0x7F7FFFFF#32, 16), (0x7F7FFFFF#32, 0x7F7FFFFF#32, 0x7F800000#32, 20), (0x7F7FFFFF#32, 0xFF7FFFFF#32, 0#32, 0)] : List (Word × Word × Word × Nat)),
      a = p.1 → b = p.2.1 → Sets s e c (.fadd e rd ra rb) rd p.2.2.1 p.2.2.2) ∧
    (∀ p ∈ ([(0x00000001#32, 0x00000001#32, 0#32, 0), (0x00000001#32, 0x3F800000#32, 0xBF800000#32, 16), (0x3F800000#32, 0x00000001#32, 0x3F800000#32, 16), (0x00800000#32, 0x00000001#32, 0x007FFFFF#32, 0), (0x7F7FFFFF#32, 0xFF7FFFFF#32, 0x7F800000#32, 20), (0xFF7FFFFF#32, 0x7F7FFFFF#32, 0xFF800000#32, 20)] : List (Word × Word × Word × Nat)),
      a = p.1 → b = p.2.1 → Sets s e c (.fsub e rd ra rb) rd p.2.2.1 p.2.2.2) ∧
    (∀ p ∈ ([(0x00000001#32, 0x3F000000#32, 0#32, 24), (0x3F000000#32, 0x00000001#32, 0#32, 24), (0x00000001#32, 0x40000000#32, 2#32, 0), (0x40000000#32, 0x00000001#32, 2#32, 0), (0x00000001#32, 0xBF800000#32, 0x80000001#32, 0), (0xBF800000#32, 0x00000001#32, 0x80000001#32, 0), (0x00000001#32, 0x00000001#32, 0#32, 24), (0x7F7FFFFF#32, 0x40000000#32, 0x7F800000#32, 20), (0x40000000#32, 0x7F7FFFFF#32, 0x7F800000#32, 20), (0x7F7FFFFF#32, 0x3F000000#32, 0x7EFFFFFF#32, 0), (0x3F000000#32, 0x7F7FFFFF#32, 0x7EFFFFFF#32, 0), (0x7F7FFFFF#32, 0x00000001#32, 0x34FFFFFF#32, 0), (0x00000001#32, 0x7F7FFFFF#32, 0x34FFFFFF#32, 0), (0x7F7FFFFF#32, 0xFF7FFFFF#32, 0xFF800000#32, 20)] : List (Word × Word × Word × Nat)),
      a = p.1 → b = p.2.1 → ∃ t, exec (.fmul e ra rb) s = .next t ∧ Started s t e c ⟨false, p.2.2.1, (s.ctx e c).ph, p.2.2.2⟩) ∧
    (∀ p ∈ ([(0x00000001#32, 0x3F000000#32, 0x00000001#32, 2#32, 24), (0x7F7FFFFF#32, 0x40000000#32, 0xFF7FFFFF#32, 0x7F7FFFFF#32, 0), (0x7F7FFFFF#32, 0x3F800000#32, 0x7F7FFFFF#32, 0x7F800000#32, 20)] : List (Word × Word × Word × Word × Nat)),
      a = p.1 → b = p.2.1 → (s.ctx e c).pl = p.2.2.1 →
        ∃ t, exec (.fmac e ra rb) s = .next t ∧ Started s t e c ⟨false, p.2.2.2.1, (s.ctx e c).ph, p.2.2.2.2⟩) ∧
    (∀ p ∈ ([(0x00000001#32, 0x80000000#32, 0x80000000#32, 0), (0x80000000#32, 0x00000001#32, 0x80000000#32, 0)] : List (Word × Word × Word × Nat)),
      a = p.1 → b = p.2.1 → Sets s e c (.fmin e rd ra rb) rd p.2.2.1 p.2.2.2) ∧
    (∀ p ∈ ([(0x7F7FFFFF#32, 0x00000001#32, 0x7F7FFFFF#32, 0), (0x00000001#32, 0x7F7FFFFF#32, 0x7F7FFFFF#32, 0)] : List (Word × Word × Word × Nat)),
      a = p.1 → b = p.2.1 → Sets s e c (.fmax e rd ra rb) rd p.2.2.1 p.2.2.2) ∧
    (a = 0x00000001#32 → Sets s e c (.frcp e rd ra) rd 0x7F800000#32 20 ∧ Sets s e c (.f2i e rd ra) rd 0#32 16 ∧
      Sets s e c (.f2iZ e rd ra) rd 0#32 16) ∧
    (a = 0x7F7FFFFF#32 → Sets s e c (.frcp e rd ra) rd 0x00200000#32 24 ∧ Sets s e c (.f2i e rd ra) rd 0x7FFFFFFF#32 1 ∧
      Sets s e c (.f2u e rd ra) rd 0xFFFFFFFF#32 1 ∧ Sets s e c (.fneg e rd ra) rd 0xFF7FFFFF#32 0) ∧
    (a = 0xFF7FFFFF#32 → Sets s e c (.f2i e rd ra) rd 0x80000000#32 1) ∧
    (a = 0x80000001#32 → Sets s e c (.f2uZ e rd ra) rd 0#32 16 ∧ Sets s e c (.fabs e rd ra) rd 0x00000001#32 0) ∧
    (a = 0x00000001#32 → b = 0#32 → Goes s e c (.fbr e ra rb 0#3 off) (nextPc s e c) 0) ∧
    (a = 0x80000001#32 → b = 0#32 → Goes s e c (.fbr e ra rb 2#3 off) ((((s.ctx e c).pc + off.toInt) % 4096).toNat) 0)

/-- R331: every NaN that a sum, a product, a quotient or a fused sum produces is 0x7FC0_0000, whatever the payloads; where binary32
holds the exact value of a finite sum or product other than 0, that value is delivered with no flag (R330, R332): nothing is
rounded, nothing is flushed to 0. -/
def Obligations.FloatExactness : Prop :=
  (∀ a b c : Word, (fIsNaN (fAddF a b).1 → (fAddF a b).1 = 0x7FC00000#32) ∧ (fIsNaN (fMulF a b).1 → (fMulF a b).1 = 0x7FC00000#32) ∧
    (fIsNaN (fDivF a b).1 → (fDivF a b).1 = 0x7FC00000#32) ∧ (fIsNaN (fMacF a b c).1 → (fMacF a b c).1 = 0x7FC00000#32)) ∧
  (∀ a b r : Word, fFinite a → fFinite b → fFinite r → fVal r ≠ 0 → fVal a + fVal b = fVal r → fAddF a b = (r, 0)) ∧
  (∀ a b r : Word, fFinite a → fFinite b → fFinite r → fVal r ≠ 0 → fVal a * fVal b = fVal r * 2 ^ 149 → fMulF a b = (r, 0))

/-- R310, R311, R352: BTST reads any bit; BSET, BCLR, BTGL and BWR leave a private flag, a software trigger or a DMA done bit set,
cleared, inverted or at rd[0], every other bit as it reads, and nothing else changed but the PC. -/
def Claims.BitResults : Prop :=
  ∀ (s : State) (e : Fin 96) (c : Nat) (ra rd : BitVec 5) (imm : BitVec 12) (v : Bool), Quiet s → Issues s e c →
    let b := ((s.ctx e c).reg ra + imm.setWidth 32).toNat % 4096
    bitRead s e b = some v →
    Sets s e c (.btst e ra rd imm) rd (if v then 1#32 else 0#32) 0 ∧
    (b < 0x400 ∨ (0x908 ≤ b ∧ b < 0x930) →
      ∀ p ∈ [(Instr.bset e ra imm, true), (.bclr e ra imm, false), (.btgl e ra imm, !v), (.bwr e ra rd imm, ((s.ctx e c).reg rd).getLsbD 0)],
        ∃ t, exec p.1 s = .next t ∧ bitRead t e b = some p.2 ∧ (∀ k, k ≠ b → bitRead t e k = bitRead s e k) ∧
          t.ctx e c = (s.ctx e c).goto ((s.ctx e c).pc + 1) ∧ (∀ k, k ≠ e.val → t.engine k = s.engine k) ∧ t.mem = s.mem ∧ t.regs = s.regs)

/-- R310, R353: the mailboxes as the engine reaches them. IN of a mailbox's inbound word pops it into rd, OUT to its outbound word
pushes rs where fewer than 16 words wait; the other FIFOs stay as they are. -/
def Claims.MailboxIo : Prop :=
  ∀ (s : State) (e : Fin 96) (c : Nat) (r ra : BitVec 5) (imm : BitVec 16) (k : Fin 4) (v : Word) (l : List Word), Quiet s → Issues s e c →
    let io := ((s.ctx e c).reg ra + imm.setWidth 32).toNat % 65536
    (io = 0x70 + 2 * k.val → mbxFifo s e k = v :: l →
      ∃ t, exec (.ioIn e r ra imm) s = .next t ∧ (t.ctx e c).reg r = (if r = 0#5 then 0#32 else v) ∧ (t.ctx e c).pc = nextPc s e c ∧
        mbxFifo t e k = l ∧ (∀ j, j ≠ k.val → mbxFifo t e j = mbxFifo s e j) ∧
        (∀ q, q ≠ r → (t.ctx e c).reg q = (s.ctx e c).reg q) ∧ t.mem = s.mem ∧ t.regs = s.regs) ∧
    (io = 0x71 + 2 * k.val → (mbxFifo s e (4 + k)).length < 16 →
      ∃ t, exec (.ioOut e r ra imm) s = .next t ∧ mbxFifo t e (4 + k) = mbxFifo s e (4 + k) ++ [(s.ctx e c).reg r] ∧
        (∀ j, j ≠ 4 + k.val → mbxFifo t e j = mbxFifo s e j) ∧
        t.ctx e c = (s.ctx e c).goto ((s.ctx e c).pc + 1) ∧ t.mem = s.mem ∧ t.regs = s.regs)

/-- R310, R319: IN and OUT of any word of the I/O space. IN of a word that the engine may read leaves what the read gives in rd; OUT
of a word that it may write leaves what the write leaves; either goes on to the next instruction. -/
def Claims.IoResults : Prop :=
  ∀ (s : State) (e : Fin 96) (c : Nat) (r ra : BitVec 5) (imm : BitVec 16), Issues s e c →
    let io := ((s.ctx e c).reg ra + imm.setWidth 32).toNat % 65536
    let s1 := s.setCtx e c ((s.ctx e c).goto ((s.ctx e c).pc + 1))
    (∀ w u, ioRead s1 e io = some (w, u) →
      ∃ t, exec (.ioIn e r ra imm) s = .next (finish s t) ∧ (t.ctx e c).reg r = (if r = 0#5 then 0#32 else w) ∧
        (∀ q, q ≠ r → (t.ctx e c).reg q = (u.ctx e c).reg q) ∧ (t.ctx e c).pc = (u.ctx e c).pc ∧ t.regs = u.regs ∧ t.mem = u.mem) ∧
    (∀ u, ioWrite s1 e io ((s.ctx e c).reg r) = some u → exec (.ioOut e r ra imm) s = .next (finish s u)) ∧
    (s1.ctx e c).pc = nextPc s e c

/-- Bit space, mailboxes, IN and OUT of an engine: `Claims.BitResults`, `Claims.MailboxIo` and `Claims.IoResults` together. -/
def Obligations.EngineInputOutput : Prop := Claims.BitResults ∧ Claims.MailboxIo ∧ Claims.IoResults

/-- Instruction i, issued by context c of engine e, faults with a cause and a FADDR (R336, R337). Every earlier product completes, every
register of the context, its PC and all of memory stay, FCAUSE, FPC and FADDR are written. In a task context the context is FAULTED,
ENG_FSTAT shows it, the kind of the cause is reported and the fault context is due (R345). In the fault context the fault is a double
fault (R348): the engine halts as by a fault, the felts it owns are held in the safe state (R35), and ENGINE_DOUBLE is reported. -/
def Claims.Faults (s : State) (e : Fin 96) (c : Nat) (i : Instr) (cause arg : Nat) : Prop :=
  ∃ t, exec i s = .next (finish s t) ∧ (t.engine e).fcause = cause ∧ (t.engine e).fpc = (s.ctx e c).pc ∧ (t.engine e).faddr = arg ∧
    (t.engine e).prods = [] ∧ (∀ r, (t.ctx e c).reg r = (s.ctx e c).reg r) ∧ (t.ctx e c).pc = (s.ctx e c).pc ∧ t.mem = s.mem ∧
    (c < 8 → (t.engine e).due = true ∧ taskState t e c = 4 ∧ t.fld (engB e) F.ENG_FSTAT_FTASK = c ∧
      t.reports = s.reports ++ [⟨9, e.val, causeKind cause, kindSev (causeKind cause), 0, arg⟩]) ∧
    (c = 8 → (t.engine e).due = false ∧ engState t e = 3 ∧ (∀ f ∈ ownFelts s e, f ∈ t.fc.heldFelts) ∧
      ⟨9, e.val, K.ENGINE_DOUBLE, kindSev K.ENGINE_DOUBLE, 0, cause⟩ ∈ t.reports)

/-- R313, R322, R336, R337, R345, R348: TRAP and a reserved encoding, in a task context and in the fault context. -/
def Claims.TaskFaults : Prop :=
  ∀ (s : State) (e : Fin 96) (c : Nat) (imm : BitVec 16) (w : Word), Issues s e c → c ≤ 8 →
    ∀ p ∈ [(Instr.trap e imm, 7, imm.toNat), (.illegal e w, 1, w.toNat)], Claims.Faults s e c p.1 p.2.1 p.2.2

/-- R308, R318, R319, R336, R355, R356, R445, R456: where loads, stores, XCHG, LDC and STC fault and wait. A misaligned address is ALIGN; one
that names nothing, that a hall pass or the block protection of the slate refuses, and one that the MPU refuses, is ACCESS; an allowed
one that must wait leaves the machine as it is. -/
def Claims.AccessFaults : Prop :=
  ∀ (s : State) (e : Fin 96) (c : Nat) (r ra : BitVec 5) (imm : BitVec 16), Issues s e c → c ≤ 8 →
    let a := ((s.ctx e c).reg ra + imm.signExtend 32).toNat
    let k := a % 4096
    (∀ p ∈ [(Instr.ldw e r ra imm, 4, false), (.ldh e r ra imm, 2, false), (.ldhu e r ra imm, 2, false), (.ldb e r ra imm, 1, false),
        (.ldbu e r ra imm, 1, false), (.stw e r ra imm, 4, true), (.sth e r ra imm, 2, true), (.stb e r ra imm, 1, true)],
      (a % p.2.1 ≠ 0 → Claims.Faults s e c p.1 2 a) ∧
      (a % p.2.1 = 0 → ∀ cause, engCheck s e c a p.2.1 p.2.2 = some cause → Claims.Faults s e c p.1 cause a) ∧
      (a % p.2.1 = 0 → engCheck s e c a p.2.1 p.2.2 = none → engWaits s p.2.2 a = true → exec p.1 s = .next s)) ∧
    (a % 4 ≠ 0 → Claims.Faults s e c (.xchg e r ra imm) 2 a) ∧
    (a % 4 = 0 → ∀ cause, engCheck s e c a 4 false = some cause → Claims.Faults s e c (.xchg e r ra imm) cause a) ∧
    (a % 4 = 0 → engCheck s e c a 4 false = none → engWaits s false a = false → ∀ cause, engCheck s e c a 4 true = some cause →
      Claims.Faults s e c (.xchg e r ra imm) cause a) ∧
    (a % 4 = 0 → engCheck s e c a 4 false = none → engCheck s e c a 4 true = none → engWaits s true a = true →
      exec (.xchg e r ra imm) s = .next s) ∧
    (∀ n w, let stack := c = 8 ∧ 0x4000 ≤ a ∧ a < 0x4100
      let slate := 0x3000000 ≤ a ∧ a < 0x3010000
      let outer := (0x2000000 ≤ a ∧ a < 0x2400000) ∨ slate
      let mpu := mpuOk s e c false a (a + n - 1) w
      (0x4000 ≤ a → ¬ stack → ¬ outer → engCheck s e c a n w = some 4) ∧
      (a < 0x4000 ∨ outer → mpu = false → engCheck s e c a n w = some 3) ∧
      (outer → mpu = true → passOk s (.engine e) w a = false → engCheck s e c a n w = some 4) ∧
      (slate → mpu = true → w = true → slateProtected s (a - 0x3000000) = true → engCheck s e c a n w = some 4)) ∧
    (mpuOk s e c true (4 * k) (4 * k + 3) false = false → Claims.Faults s e c (.ldc e r ra imm) 3 (4 * k)) ∧
    (mpuOk s e c true (4 * k) (4 * k + 3) true = false → Claims.Faults s e c (.stc e r ra imm) 3 (4 * k))

/-- R324, R325, R336, R348: where CALL, CALLR and RET fault: a misaligned g2 is ALIGN, a new stack pointer below SL or past g2 STACK, the
first word of the frame that may not be accessed ACCESS, and at RET a mask other than the one in the frame STACK; no part of the frame is
then written or restored. -/
def Claims.CallFaults : Prop :=
  ∀ (s : State) (e : Fin 96) (c : Nat) (mask : BitVec 14) (tgt : BitVec 12) (ra : BitVec 5), Issues s e c → c ≤ 8 →
    let x := s.ctx e c
    let g2 := (x.reg 2#5).toNat
    let size := 8 + 8 * ((List.range 14).filter (fun k => mask.getLsbD k)).length
    let new := (x.reg 2#5 - BitVec.ofNat 32 size).toNat
    let at_ := fun (base i : Nat) => (base + 4 * i) % 2 ^ 32
    let refused := fun (base : Nat) (w : Bool) (i cause : Nat) => i < size / 4 ∧ engCheck s e c (at_ base i) 4 w = some cause ∧
      ∀ j, j < i → engCheck s e c (at_ base j) 4 w = none
    (∀ p ∈ [Instr.call e mask tgt, .callr e mask ra],
      (g2 % 8 ≠ 0 → Claims.Faults s e c p 2 g2) ∧
      (g2 % 8 = 0 → new < x.sl.toNat ∨ g2 < new → Claims.Faults s e c p 5 new) ∧
      (g2 % 8 = 0 → x.sl.toNat ≤ new → new ≤ g2 → ∀ i cause, refused new true i cause → Claims.Faults s e c p cause (at_ new i))) ∧
    (g2 % 8 ≠ 0 → Claims.Faults s e c (.ret e mask) 2 g2) ∧
    (g2 % 8 = 0 → ∀ i cause, refused g2 false i cause → Claims.Faults s e c (.ret e mask) cause (at_ g2 i)) ∧
    (g2 % 8 = 0 → (∀ i, i < size / 4 → engCheck s e c (at_ g2 i) 4 false = none ∧ engWaits s false (at_ g2 i) = false) →
      engLoad s e c (at_ g2 1) 4 ≠ mask.toNat → Claims.Faults s e c (.ret e mask) 6 (engLoad s e c (at_ g2 1) 4))

/-- R306, R310, R311, R319, R320, R336, R337: where IN, OUT, the bit instructions, MFS and MTS fault: an I/O word or a bit that the engine may
not read or write is ACCESS with its number, a special register that is reserved, or that MTS may not write, ILLEGAL with the word. -/
def Claims.IoFaults : Prop :=
  ∀ (s : State) (e : Fin 96) (c : Nat) (r ra : BitVec 5) (imm : BitVec 16) (off : BitVec 12) (sense : Bool) (far : BitVec 13),
    Issues s e c → c ≤ 8 →
    let x := s.ctx e c
    let io := ((x.reg ra) + imm.setWidth 32).toNat % 65536
    let b := ((x.reg ra) + off.setWidth 32).toNat % 4096
    let s1 := s.setCtx e c (x.goto (x.pc + 1))
    (ioRead s1 e io = none → Claims.Faults s e c (.ioIn e r ra imm) 4 io) ∧
    (ioWrite s1 e io (x.reg r) = none → Claims.Faults s e c (.ioOut e r ra imm) 4 io) ∧
    (bitRead s1 e b = none → ∀ p ∈ [Instr.btst e ra r off, .bset e ra off, .bclr e ra off, .btgl e ra off, .bwr e ra r off], Claims.Faults s e c p 4 b) ∧
    (bitRead s1 e off.toNat = none → Claims.Faults s e c (.bb e off sense far) 4 off.toNat) ∧
    (∀ v, bitRead s1 e b = some v →
      ∀ p ∈ [(Instr.bset e ra off, true), (.bclr e ra off, false), (.btgl e ra off, !v), (.bwr e ra r off, (x.reg r).getLsbD 0)],
        bitWrite s1 e b p.2 = none → Claims.Faults s e c p.1 4 b) ∧
    (∀ (sr : BitVec 5) (w : Word),
      (12 ≤ sr.toNat → achalEncode (.mfs e r sr) = some (e, w) → Claims.Faults s e c (.mfs e r sr) 1 w.toNat) ∧
      (4 ≤ sr.toNat → achalEncode (.mts e r sr) = some (e, w) → Claims.Faults s e c (.mts e r sr) 1 w.toNat))

/-- R343, R347, R349: HALT, WAIT and RETI. HALT completes every product and leaves the engine halted on purpose. WAIT leaves the
running task context waiting (disabled where its EN is 0) with its registers and the PC of the next instruction. RETI in a task
context returns it to its entry address, stack pointer and stack limit; RETI in the fault context ends it and restarts, retries or
skips in the task that faulted, as ENG_FSTAT.ACTION says. -/
def Claims.TaskControl : Prop :=
  ∀ (s : State) (e : Fin 96) (c : Nat), Issues s e c →
    (∃ t, exec (.halt e) s = .next (finish s t) ∧ engState t e = 2 ∧ (t.engine e).prods = [] ∧ (t.ctx e c).pc = nextPc s e c ∧
      (∀ r, (t.ctx e c).reg r = (s.ctx e c).reg r) ∧ t.mem = s.mem) ∧
    (c < 8 →
      (∃ t, exec (.wait e) s = .next (finish s t) ∧ taskState t e c = b2n (taskEn s e c) ∧ (t.engine e).cur = none ∧
        (t.engine e).prods = [] ∧ (t.ctx e c).pc = nextPc s e c ∧ (∀ r, (t.ctx e c).reg r = (s.ctx e c).reg r) ∧ t.mem = s.mem) ∧
      (∃ t, exec (.reti e) s = .next (finish s t) ∧ taskState t e c = b2n (taskEn s e c) ∧ (t.engine e).cur = none ∧
        (t.ctx e c).pc = taskCfg s e c % 4096 ∧ (t.ctx e c).reg 2#5 = s.rd (engB e + 0x44 + 0x10 * c) ∧
        (t.ctx e c).sl = (s.rd (engB e + 0x48 + 0x10 * c) &&& 0xFFFFFFF8#32) ∧
        (∀ r, r ≠ 2#5 → (t.ctx e c).reg r = (s.ctx e c).reg r) ∧ t.mem = s.mem)) ∧
    (c = 8 → ∀ k, k < 8 → s.fld (engB e) F.ENG_FSTAT_FTASK = k →
      ∃ t, exec (.reti e) s = .next (finish s t) ∧ (t.engine e).cur = none ∧ t.mem = s.mem ∧
        (s.fld (engB e) F.ENG_FSTAT_ACTION = 0 → taskState t e k = taskState s e k) ∧
        (s.fld (engB e) F.ENG_FSTAT_ACTION = 1 → taskState t e k = b2n (taskEn s e k) ∧ (t.ctx e k).pc = taskCfg s e k % 4096 ∧
          (t.ctx e k).reg 2#5 = s.rd (engB e + 0x44 + 0x10 * k)) ∧
        (s.fld (engB e) F.ENG_FSTAT_ACTION = 2 → taskState t e k = 2 ∧ (t.ctx e k).pc = (s.engine e).fpc % 4096) ∧
        (s.fld (engB e) F.ENG_FSTAT_ACTION = 3 → taskState t e k = 2 ∧ (t.ctx e k).pc = ((s.engine e).fpc + 1) % 4096))

/-- Tasks of an engine: faults, traps, waits, returns and halts: `Claims.TaskFaults`, `Claims.AccessFaults`, `Claims.CallFaults`,
`Claims.IoFaults` and `Claims.TaskControl` together. -/
def Obligations.EngineTasks : Prop :=
  Claims.TaskFaults ∧ Claims.AccessFaults ∧ Claims.CallFaults ∧ Claims.IoFaults ∧ Claims.TaskControl

/-- R349, R352, R353, R357, R341, R345: what the host and the engine's own boundaries do to an engine. START runs task context 0 from
ENTRY in the state of R307; HALT, RESUME and ABORT; a push into and a pop from a mailbox; the software triggers; the lock of the
MPU; the start of the fault context, which keeps its other registers. -/
def Claims.EngineCommands : Prop :=
  ∀ (s : State) (e : Fin 96) (m : Master),
    (Accepts s m (engB e + R.ENG_CTRL) 1#32 →
      ∃ t, exec (.engStart m e) s = .next (finish s t) ∧ (t.engine e).cur = some 0 ∧ (t.engine e).prods = [] ∧ (t.engine e).bits = [] ∧
        (t.engine e).cycle = 0 ∧ (t.engine e).startNs = s.lineNs ∧ (t.engine e).due = false ∧ engState t e = 1 ∧ taskState t e 0 = 3 ∧ (t.ctx e 0).pc = s.fld (engB e) F.ENG_ENTRY_ENTRY ∧
        (t.ctx e 0).reg 2#5 = 0x4000#32 ∧ (∀ r, r ≠ 2#5 → (t.ctx e 0).reg r = 0#32) ∧ (t.ctx e 0).sl = 0#32 ∧
        (t.ctx e 0).pl = 0#32 ∧ (t.ctx e 0).ph = 0#32 ∧ (t.ctx e 0).fps = 0#32) ∧
    (Accepts s m (engB e + R.ENG_CTRL) 4#32 → engState s e = 1 →
      ∃ t, exec (.engHalt m e) s = .next (finish s t) ∧ engState t e = 2 ∧ (∀ c, (s.engine e).cur = some c → (t.engine e).prods = []) ∧ t.mem = s.mem) ∧
    (Accepts s m (engB e + R.ENG_CTRL) 2#32 → engState s e = 2 →
      ∃ t, exec (.engResume m e) s = .next (finish s t) ∧ engState t e = 1 ∧ t.engines = s.engines ∧ t.mem = s.mem) ∧
    (Accepts s m (engB e + R.ENG_CTRL) 8#32 → engState s e = 1 ∨ engState s e = 2 →
      ∃ t, exec (.engAbort m e) s = .next (finish s t) ∧ engState t e = 4 ∧ (t.engine e).prods = [] ∧ t.mem = s.mem) ∧
    (∀ (k : Fin 4) (v : Word), Accepts s m (engB e + (R.ENG_MBX_IN + 8 * k)) v →
      ∃ t, exec (.mailboxPush m e k v) s = .next (finish s t) ∧
        ((mbxFifo s e k).length < 16 → mbxFifo t e k = mbxFifo s e k ++ [v]) ∧
        (¬ (mbxFifo s e k).length < 16 → mbxFifo t e k = mbxFifo s e k ∧ t.fld (engB e) ⟨R.ENG_MBX_STAT, 24 + k, 24 + k⟩ = 1)) ∧
    (∀ (k : Fin 4), Readable s m (engB e + R.ENG_MBX_OUT + 8 * k) → ∀ (v : Word) (l : List Word), mbxFifo s e (4 + k) = v :: l →
      ∃ t, exec (.mailboxPop m e k) s = .next (finish s t) ∧ mbxFifo t e (4 + k) = l ∧ SameRegs s t) ∧
    (∀ mask : BitVec 8, Accepts s m (engB e + R.ENG_SWTRIG) (mask.setWidth 32) →
      ∃ t, exec (.softwareTrigger m e mask) s = .next (finish s t) ∧ (t.engine e).sw = (s.engine e).sw ||| mask.toNat ∧ SameRegs s t) ∧
    (Accepts s m (engB e + R.ENG_MPU_CTRL) (fset (s.kept (engB e + R.ENG_MPU_CTRL)) F.ENG_MPU_CTRL_LOCK 1) →
      ∃ t, exec (.mpuLock m e) s = .next (finish s t) ∧ t.fld (engB e) F.ENG_MPU_CTRL_LOCK = 1 ∧
        t.fld (engB e) F.ENG_MPU_CTRL_EN = s.fld (engB e) F.ENG_MPU_CTRL_EN) ∧
    (Awake s → engState s e = 1 → (s.engine e).due = true → s.fld (engB e) F.ENG_CFG_FV_EN ≠ 0 →
      ∃ t, exec (.faultContextStart e) s = .next (finish s t) ∧ (t.engine e).cur = some 8 ∧ (t.engine e).due = false ∧
        t.fld (engB e) F.ENG_STATUS_IN_FAULT = 1 ∧ (t.ctx e 8).pc = s.fld (engB e) F.ENG_CFG_FAULT_VEC % 4096 ∧
        (t.ctx e 8).reg 1#5 = 0#32 ∧ (t.ctx e 8).reg 2#5 = 0x4100#32 ∧ (t.ctx e 8).sl = 0x4000#32 ∧ (t.ctx e 8).pl = 0#32 ∧
        (t.ctx e 8).ph = 0#32 ∧ (t.ctx e 8).fps = 0#32 ∧ ∀ r, r ≠ 1#5 → r ≠ 2#5 → (t.ctx e 8).reg r = (s.ctx e 8).reg r)

/-- R342: at an instruction boundary of a running engine, a waiting task context whose trigger reads 1 runs where its priority is
above that of every other context that is ready, running, or waiting with its trigger at 1. -/
def Claims.TaskDispatch : Prop :=
  ∀ (s : State) (e : Fin 96) (k : Nat), Awake s → engState s e = 1 → (s.engine e).due = false → (s.engine e).cur ≠ some 8 →
    k < 8 → taskState s e k = 1 → taskTrig s e k = true →
    (s.engine e).cur ≠ some k → (∀ j, j < 8 → j ≠ k → taskState s e j = 2 ∨ taskState s e j = 3 ∨ (taskState s e j = 1 ∧ taskTrig s e j = true) →
      bits (taskCfg s e j) 14 12 < bits (taskCfg s e k) 14 12) →
    ∃ t, exec (.taskSwitch e) s = .next (finish s t) ∧ (t.engine e).cur = some k ∧ taskState t e k = 3 ∧ t.mem = s.mem

/-- Commands to an engine, and the dispatch of its tasks: `Claims.EngineCommands` and `Claims.TaskDispatch` together. -/
def Obligations.EngineCommands : Prop := Claims.EngineCommands ∧ Claims.TaskDispatch

/-- R373, R374, R375, R379: a tick of the clock that a counting timer counts (SRC 0 to 3; SRC 4 to 6 tick with the edges of their
pin, SRC 7 with the overflows of the neighbour). The phase accumulator takes 65,536 and gives DIV back at a count tick,
which counts TMR_COUNT up; the tick that passes RELOAD takes it to 0, sets OVF_FLAG, lets a staged RELOAD take effect, pulses
its event line, and is a tick of the next timer where that one counts overflows. -/
def Claims.TimerTicks : Prop :=
  ∀ (s : State) (n : Fin 64), Awake s → tmrCounting s n = true →
    let b := tmrB n
    let x := s.timer n
    let d := max 0x10000 (s.fld b F.TMR_DIV_DIV)
    let cfg := s.fld b F.TMR_CFG_OUT
    s.fld b F.TMR_CFG_SRC < 4 →
    (x.acc + 0x10000 < d →
      ∃ t, exec (.timerCountTick n) s = .next (finish s t) ∧ Upd s.timer t.timer n { x with acc := x.acc + 0x10000 } ∧ SameRegs s t) ∧
    (d ≤ x.acc + 0x10000 → s.fld b F.TMR_COUNT_COUNT ≠ activeReload s n →
      ∃ t fr, exec (.timerCountTick n) s = .next (finish s t) ∧
        Upd s.timer t.timer n { x with acc := x.acc + 0x10000 - d, fresh := fr } ∧
        RegsTo s t [(b, F.TMR_COUNT_COUNT, s.fld b F.TMR_COUNT_COUNT + 1)] ∧ t.mem = s.mem) ∧
    (d ≤ x.acc + 0x10000 → s.fld b F.TMR_COUNT_COUNT = activeReload s n → s.fld (tmrB ((n + 1) % 64)) F.TMR_CFG_SRC ≠ 7 →
      ∃ t, exec (.timerOverflow n) s = .next (finish s t) ∧
        RegsTo s t ([(b, F.TMR_COUNT_COUNT, 0), (b, F.TMR_STATUS_OVF_FLAG, 1)] ++ if x.atOverflow then [(b, F.TMR_STATUS_ARMED, 1)] else []) ∧
        (t.timer n).acc = x.acc + 0x10000 - d ∧ (t.timer n).active = none ∧ (t.timer n).out = (if cfg = 2 then false else if cfg = 3 then true else x.out) ∧
        (∀ k, k ≠ n.val → t.timer k = s.timer k) ∧
        t.pulses = (if s.flag b F.TMR_EVT_EN_OVF then setAdd s.pulses (64 + n) else s.pulses) ∧ t.mem = s.mem)

/-- R380, R381, R382: the judgement of an armed compare. Not due, it has been judged once; due, it fires: CMP_FLAG is set, a fire
behind the compare value counts as late, the event line pulses, the output follows OUT, and REARM arms the next one. -/
def Claims.CompareFires : Prop :=
  ∀ (s : State) (n : Fin 64), Awake s → tmrCounting s n = true → s.flag (tmrB n) F.TMR_STATUS_ARMED = true →
    let b := tmrB n
    let x := s.timer n
    let m := activeReload s n + 1
    let past := (((s.fld b F.TMR_COUNT_COUNT : Int) - s.fld b F.TMR_CMP_CMP) % (m : Int)).toNat
    let i := s.fld b F.TMR_INTERVAL_INTERVAL
    let again := s.fld b F.TMR_CFG_REARM = 1 ∧ i ≠ 0
    (max 1 (m / 2) ≤ past →
      ∃ t, exec (.compareFire n) s = .next (finish s t) ∧ Upd s.timer t.timer n { x with fresh := false } ∧ SameRegs s t) ∧
    (past < max 1 (m / 2) →
      ∃ t, exec (.compareFire n) s = .next (finish s t) ∧
        RegsTo s t ([(b, F.TMR_STATUS_CMP_FLAG, 1)] ++
          (if x.fresh = true ∧ past ≠ 0 then [(b, F.TMR_CNT_LATE, min 65535 (s.fld b F.TMR_CNT_LATE + 1))] else []) ++
          (if again then [(b, F.TMR_CMP_CMP, (s.fld b F.TMR_CMP_CMP + i) % m)] else [(b, F.TMR_STATUS_ARMED, 0)])) ∧
        (t.timer n).out = (match s.fld b F.TMR_CFG_OUT with | 1 => !x.out | 2 => true | 3 => false | _ => x.out) ∧
        (s.fld b F.TMR_CFG_REARM = 2 → (t.timer n).atOverflow = true) ∧
        (∀ k, k ≠ n.val → t.timer k = s.timer k) ∧
        t.pulses = (if s.flag b F.TMR_EVT_EN_CMP then setAdd s.pulses n else s.pulses) ∧ t.mem = s.mem)

/-- R377, R378: EN = 0 stops a timer, its count held and its compare disarmed; EN = 1 begins to count at once, or waits for a start
where WAIT_START is 1, and leaves a counting timer counting; ABORT stops and clears the count. -/
def Claims.TimerControl : Prop :=
  ∀ (s : State) (m : Master) (n : Fin 64) (wait : Bool),
    let b := tmrB n
    let x := s.timer n
    let word := fun en => fset (fset (s.kept b) F.TMR_CTRL_EN en) F.TMR_CTRL_WAIT_START (b2n wait)
    let ctrl := fun en => [(b, F.TMR_CTRL_EN, en), (b, F.TMR_CTRL_WAIT_START, b2n wait)]
    let stopped : TimerX := { x with rise := false, fresh := false, stored := false, atOverflow := false }
    (Accepts s m b (word 0) →
      ∃ t, exec (.tmrEn m n false wait) s = .next (finish s t) ∧ Upd s.timer t.timer n stopped ∧
        RegsTo s t (ctrl 0 ++ [(b, F.TMR_STATUS_STATE, 0), (b, F.TMR_STATUS_ARMED, 0)]) ∧ t.mem = s.mem) ∧
    (Accepts s m b (word 1) →
      ∃ t, exec (.tmrEn m n true wait) s = .next (finish s t) ∧ t.mem = s.mem ∧
        (tmrCounting s n = true → RegsTo s t (ctrl 1) ∧ t.tmrs = s.tmrs) ∧
        (tmrCounting s n = false → wait = true → RegsTo s t (ctrl 1 ++ [(b, F.TMR_STATUS_STATE, 1)]) ∧ t.tmrs = s.tmrs) ∧
        (tmrCounting s n = false → wait = false → x.stored = false → RegsTo s t (ctrl 1 ++ [(b, F.TMR_STATUS_STATE, 2)]) ∧ t.tmrs = s.tmrs) ∧
        (tmrCounting s n = false → wait = false → x.stored = true →
          RegsTo s t (ctrl 1 ++ [(b, F.TMR_STATUS_STATE, 2), (b, F.TMR_STATUS_ARMED, 1)]) ∧
          Upd s.timer t.timer n { x with fresh := compareDue s n && decide (comparePast s n ≠ 0), stored := false, atOverflow := false })) ∧
    (Accepts s m b (fset (s.kept b) F.TMR_CTRL_ABORT 1) →
      ∃ t, exec (.tmrAbort m n) s = .next (finish s t) ∧ Upd s.timer t.timer n { stopped with acc := 0 } ∧
        RegsTo s t [(b, F.TMR_STATUS_STATE, 0), (b, F.TMR_STATUS_ARMED, 0), (b, F.TMR_COUNT_COUNT, 0)] ∧ t.mem = s.mem)

/-- Timers: ticks, compares, start and stop: `Claims.TimerTicks`, `Claims.CompareFires` and `Claims.TimerControl` together. -/
def Obligations.TimerCounting : Prop := Claims.TimerTicks ∧ Claims.CompareFires ∧ Claims.TimerControl

/-- R376, R381: a write of TMR_RELOAD is staged while the timer counts, the value in force staying that of before; a write of
TMR_COUNT is taken at once; a write of TMR_CMP arms the compare while the timer counts and is stored until it does otherwise. -/
def Claims.TimerRegisterWrites : Prop :=
  ∀ (s : State) (m : Master) (n : Fin 64) (v : Word),
    let b := tmrB n
    (Accepts s m (b + R.TMR_RELOAD) v →
      ∃ t, exec (.tmrReloadWrite m n v) s = .next (finish s t) ∧ RegsTo s t [(b, F.TMR_RELOAD_RELOAD, v.toNat)] ∧ t.mem = s.mem ∧
        activeReload t n = (if tmrCounting s n = true then activeReload s n else v.toNat) ∧ ∀ k, k ≠ n.val → t.timer k = s.timer k) ∧
    (Accepts s m (b + R.TMR_COUNT) v →
      ∃ t, exec (.tmrCountWrite m n v) s = .next (finish s t) ∧ RegsTo s t [(b, F.TMR_COUNT_COUNT, v.toNat)] ∧ t.tmrs = s.tmrs ∧ t.mem = s.mem) ∧
    (Accepts s m (b + R.TMR_CMP) v →
      ∃ t, exec (.tmrCmpWrite m n v) s = .next (finish s t) ∧ t.mem = s.mem ∧
        (tmrCounting s n = true → RegsTo s t [(b, F.TMR_CMP_CMP, v.toNat), (b, F.TMR_STATUS_ARMED, 1)]) ∧
        (tmrCounting s n = false → RegsTo s t [(b, F.TMR_CMP_CMP, v.toNat)] ∧ Upd s.timer t.timer n { s.timer n with stored := true }))

/-- R377, R378: a start releases the waiting timers of its mask and no other; a stop stops every timer of its mask. -/
def Claims.TimerStartsStops : Prop :=
  ∀ (s : State) (m : Master) (high : Bool) (mask : Word),
    let k := if high then 32 else 0
    let st := fun (s : State) (n : Nat) => s.fld (tmrB n) F.TMR_STATUS_STATE
    (Accepts s m (evtB + if high then R.EVT_TSTART_HI else R.EVT_TSTART_LO) mask →
      ∃ t, exec (.evtTstart m high mask) s = .next (finish s t) ∧ t.mem = s.mem ∧
        ∀ n, n < 64 → st t n = if k ≤ n ∧ n < k + 32 ∧ mask.getLsbD (n - k) = true ∧ st s n = 1 then 2 else st s n) ∧
    (Accepts s m (evtB + if high then R.EVT_TSTOP_HI else R.EVT_TSTOP_LO) mask →
      ∃ t, exec (.evtTstop m high mask) s = .next (finish s t) ∧ t.mem = s.mem ∧
        ∀ n, n < 64 → (if k ≤ n ∧ n < k + 32 ∧ mask.getLsbD (n - k) = true
          then st t n = 0 ∧ s.fld (tmrB n) F.TMR_COUNT_COUNT = t.fld (tmrB n) F.TMR_COUNT_COUNT ∧ t.fld (tmrB n) F.TMR_STATUS_ARMED = 0
          else st t n = st s n ∧ t.timer n = s.timer n))

/-- R383, R384, R385: an edge at a pin of timer I/O. The pin's level follows the edge; a rising one pulses the pin's event line; a
counting timer that captures the pin takes its count, and the width at a falling edge after a rising one. -/
def Claims.PinEdges : Prop :=
  ∀ (s : State) (pin : Fin 8) (rising : Bool), Awake s →
    (∃ t, exec (.tioEdge pin rising) s = .next (finish s t) ∧ t.tio.getLsbD pin = rising ∧
      (∀ k, k ≠ pin.val → t.tio.getLsbD k = s.tio.getLsbD k) ∧ (rising = true → 376 + pin.val ∈ t.pulses) ∧ t.mem = s.mem) ∧
    ∀ n, n < 64 → tmrCounting s n = true → s.flag (tmrB n) F.TMR_CFG_CAP_EN = true → s.fld (tmrB n) F.TMR_CFG_CPIN = pin →
      s.flag (tmrB n) F.TMR_CFG_CAPV = false →
      ∃ t, exec (.tioEdge pin rising) s = .next (finish s t) ∧
        (rising = true → t.fld (tmrB n) F.TMR_CAP_R_VALUE = s.fld (tmrB n) F.TMR_COUNT_COUNT ∧ t.flag (tmrB n) F.TMR_STATUS_CAP_R_NEW = true) ∧
        (rising = false → t.fld (tmrB n) F.TMR_CAP_F_VALUE = s.fld (tmrB n) F.TMR_COUNT_COUNT ∧ t.flag (tmrB n) F.TMR_STATUS_CAP_F_NEW = true ∧
          ((s.timer n).rise = true → t.fld (tmrB n) F.TMR_WIDTH_VALUE =
            (((s.fld (tmrB n) F.TMR_COUNT_COUNT : Int) - s.fld (tmrB n) F.TMR_CAP_R_VALUE) % ((activeReload s n + 1 : Nat) : Int)).toNat))

/-- Timers and pins: register writes, group starts and stops, edges at the pins: `Claims.TimerRegisterWrites`, `Claims.TimerStartsStops` and `Claims.PinEdges` together. -/
def Obligations.TimerWritesAndPins : Prop := Claims.TimerRegisterWrites ∧ Claims.TimerStartsStops ∧ Claims.PinEdges

/-- R361, R362, R363: EN = 0 stops a running DMA channel after its element; EN = 1 starts a stopped-for-good or never started channel
at DMA_DESC, resumes a stopped or faulted one, and leaves a running one alone; ABORT makes the channel idle with nothing pending. -/
def Claims.DmaControl : Prop :=
  ∀ (s : State) (m : Master) (c : Fin 32),
    let b := dmaB c
    let st := dmaState s c
    (Accepts s m b (fset (s.kept b) F.DMA_CTRL_EN 0) →
      ∃ t, exec (.dmaEn m c false) s = .next (finish s t) ∧ t.mem = s.mem ∧
        (st = 1 ∨ st = 2 → RegsTo s t [(b, F.DMA_CTRL_EN, 0), (b, F.DMA_STATUS_STATE, 3)] ∧
          Upd s.dma t.dma c { s.dma c with mid := st == 2 }) ∧
        (st ≠ 1 → st ≠ 2 → RegsTo s t [(b, F.DMA_CTRL_EN, 0)] ∧ t.dmas = s.dmas)) ∧
    (Accepts s m b (fset (s.kept b) F.DMA_CTRL_EN 1) →
      ∃ t, exec (.dmaEn m c true) s = .next (finish s t) ∧ t.mem = s.mem ∧
        (st = 1 ∨ st = 2 → RegsTo s t [(b, F.DMA_CTRL_EN, 1)] ∧ t.dmas = s.dmas) ∧
        (st = 0 ∨ st = 5 → s.flag b F.DMA_TRIG_EN = false →
          RegsTo s t [(b, F.DMA_CTRL_EN, 1), (b, F.DMA_STATUS_ERR, 0), (b, F.DMA_REMAIN_REMAIN, 0), (b, F.DMA_STATUS_STATE, 2)] ∧
          Upd s.dma t.dma c { s.dma c with desc := [], next := some (s.rd (b + R.DMA_DESC)).toNat, fresh := false, mid := false }) ∧
        (st = 0 ∨ st = 5 → s.flag b F.DMA_TRIG_EN = true → s.fld b F.DMA_STATUS_PEND = 0 → dmaState t c = 1) ∧
        (st = 3 ∨ st = 4 → (s.dma c).fresh = false → (s.dma c).mid = true →
          RegsTo s t [(b, F.DMA_CTRL_EN, 1), (b, F.DMA_STATUS_ERR, 0), (b, F.DMA_STATUS_STATE, 2)] ∧ t.dmas = s.dmas)) ∧
    (Accepts s m b (fset (s.kept b) F.DMA_CTRL_ABORT 1) →
      ∃ t, exec (.dmaAbort m c) s = .next (finish s t) ∧ t.mem = s.mem ∧
        RegsTo s t [(b, F.DMA_STATUS_STATE, 0), (b, F.DMA_STATUS_PEND, 0)] ∧
        Upd s.dma t.dma c { s.dma c with desc := [], next := none, fresh := true, mid := false })

/-- R361: a trigger that has reached a triggered channel is taken: an armed one runs; a running, stopped or faulted one counts it,
and loses it where 255 are pending; any other one ignores it. R361 speaks of a busy channel; that one that stands in FAULT counts its
triggers too is the model's choice (log entry 120). -/
def Claims.DmaTriggers : Prop :=
  ∀ (s : State) (c : Fin 32) (n : Nat), Awake s → sparseGet (fun _ => 0) s.dmaArr c = n + 1 → s.flag (dmaB c) F.DMA_TRIG_EN = true →
    let b := dmaB c
    let st := dmaState s c
    let p := s.fld b F.DMA_STATUS_PEND
    ∃ t, exec (.dmaTrigger c) s = .next (finish s t) ∧ t.mem = s.mem ∧ t.dmas = s.dmas ∧
      sparseGet (fun _ => 0) t.dmaArr c = n ∧ (∀ k, k ≠ c.val → sparseGet (fun _ => 0) t.dmaArr k = sparseGet (fun _ => 0) s.dmaArr k) ∧
      RegsTo s t (if st = 1 then [(b, F.DMA_STATUS_STATE, 2)]
        else if st = 2 ∨ st = 3 ∨ st = 4 then
          (if p < 255 then [(b, F.DMA_STATUS_PEND, p + 1)] else [(b, F.DMA_STATUS_LOST, min 255 (s.fld b F.DMA_STATUS_LOST + 1))])
        else [])

/-- R358, R359: the fetch of a descriptor. From an address that is aligned, in shared memory and allowed, eight words are read: a
well-formed descriptor is taken up with its count and its addresses; an ill-formed one, or another address, stops the channel with
FAULT and is reported. R359 gives ERR 3 to a refused fetch; that an address that is misaligned or outside shared memory gives it too
is the model's choice (log entry 122). -/
def Claims.DmaDescriptors : Prop :=
  ∀ (s : State) (c : Fin 32) (a : Nat), Awake s → dmaState s c = 2 → (s.dma c).next = some a →
    let b := dmaB c
    let w := fun k => s.memWord (a + 4 * k)
    let ctl := (w 2).toNat
    let size := 2 ^ bits ctl 17 16
    let good := bits ctl 31 28 = 0 ∧ bits (w 3).toNat 31 24 = 0 ∧ w 6 = 0#32 ∧ w 7 = 0#32 ∧ bits ctl 27 24 < 12 ∧
      (w 0).toNat % size = 0 ∧ (w 1).toNat % size = 0
    let place := a % 32 = 0 ∧ 0x2000000 ≤ a ∧ a < 0x2400000 ∧ passOk s (.dma c) false a = true
    ∃ t, exec (.dmaDescriptorFetch c) s = .next (finish s t) ∧ t.mem = s.mem ∧
      (place → good →
        RegsTo s t [(b, F.DMA_CUR_CUR, a), (b, F.DMA_REMAIN_REMAIN, bits ctl 15 0 + 1)] ∧ t.reports = s.reports ∧
        Upd s.dma t.dma c { s.dma c with desc := [w 0, w 1, w 2, w 3, w 4, w 5, w 6, w 7], next := none, src := (w 0).toNat, dst := (w 1).toNat }) ∧
      (place → ¬ good →
        RegsTo s t [(b, F.DMA_CUR_CUR, a), (b, F.DMA_STATUS_STATE, 4), (b, F.DMA_STATUS_ERR, 2)] ∧
        t.reports = s.reports ++ [⟨0xA, c, K.DMA_DESC, kindSev K.DMA_DESC, 0, a % 2 ^ 32⟩]) ∧
      (¬ place →
        RegsTo s t [(b, F.DMA_STATUS_STATE, 4), (b, F.DMA_STATUS_ERR, 3)] ∧
        t.reports = s.reports ++ [⟨0xA, c, K.DMA_DESC, kindSev K.DMA_DESC, 0, a % 2 ^ 32⟩])

/-- R358, R360: one element of the channel whose turn it is moves within the memories of the engines and shared memory. The bytes of the element at the source stand
at the destination, every other byte keeps its value, the addresses go on as the descriptor says, and one element fewer remains. -/
def Claims.DmaElements : Prop :=
  ∀ (s : State) (c : Fin 32), Awake s → dmaTurn s = some c.val →
    let b := dmaB c
    let x := s.dma c
    let ctl := (x.desc.getD 2 0#32).toNat
    let size := 2 ^ bits ctl 17 16
    let left := s.fld b F.DMA_REMAIN_REMAIN
    inRam x.src = true → inRam x.dst = true → passOk s (.dma c) false x.src = true → passOk s (.dma c) true x.dst = true →
    bits ctl 27 24 = 0 → bits ctl 22 22 = 0 → 1 < left →
    ∃ t, exec .dmaElement s = .next (finish s t) ∧
      (∀ i, i < size → t.byte (x.dst + i) = s.byte (x.src + i)) ∧
      (∀ a, a < x.dst ∨ x.dst + size ≤ a → t.byte a = s.byte a) ∧
      RegsTo s t [(b, F.DMA_REMAIN_REMAIN, left - 1)] ∧
      Upd s.dma t.dma c { x with src := if bits ctl 18 18 = 1 then x.src else (x.src + size) % 2 ^ 32,
                                 dst := if bits ctl 19 19 = 1 then x.dst else (x.dst + size) % 2 ^ 32 }

/-- DMA channels: enable, triggers, descriptors and elements: `Claims.DmaControl`, `Claims.DmaTriggers`, `Claims.DmaDescriptors` and `Claims.DmaElements` together. -/
def Obligations.DmaChannels : Prop := Claims.DmaControl ∧ Claims.DmaTriggers ∧ Claims.DmaDescriptors ∧ Claims.DmaElements

/-- R365, R369: EN = 1 checks a capture unit's setting and leaves the code of the first check that fails; where none does the unit
waits for its start or captures at once. EN = 0 ends a wait at once and closes the record in progress early. ABORT drops it. -/
def Claims.CaptureControl : Prop :=
  ∀ (s : State) (m : Master) (u : Fin 8),
    let b := capB u
    let x := s.cap u
    let st := capState s u
    let start := s.fld b F.CAP_CTRL_START
    (Accepts s m b (fset (s.kept b) F.CAP_CTRL_EN 1) → st ≠ 1 → st ≠ 2 →
      ∃ t, exec (.capEn m u true) s = .next (finish s t) ∧ t.mem = s.mem ∧
        (capCheck s u ≠ 0 → RegsTo s t [(b, F.CAP_CTRL_EN, 1), (b, F.CAP_STATUS_CODE, capCheck s u)] ∧ t.caps = s.caps) ∧
        (capCheck s u = 0 →
          RegsTo s t [(b, F.CAP_CTRL_EN, 1), (b, F.CAP_STATUS_CODE, 0), (b, F.CAP_STATUS_STATE, if start = 1 ∨ start = 2 then 1 else 2)] ∧
          Upd s.cap t.cap u { x with pair := 0, keep := false, begun := false, cur := none })) ∧
    (Accepts s m b (fset (s.kept b) F.CAP_CTRL_EN 0) →
      ∃ t, exec (.capEn m u false) s = .next (finish s t) ∧ t.mem = s.mem ∧
        (st = 1 → RegsTo s t [(b, F.CAP_CTRL_EN, 0), (b, F.CAP_STATUS_STATE, 0)] ∧ t.caps = s.caps) ∧
        (st = 2 → ∀ r, x.cur = some r → RegsTo s t [(b, F.CAP_CTRL_EN, 0), (b, F.CAP_STATUS_STATE, 3)] ∧
          Upd s.cap t.cap u { x with cur := none, closed := x.closed ++ [{ r with trunc := true }] }) ∧
        (st ≠ 1 → st ≠ 2 → RegsTo s t [(b, F.CAP_CTRL_EN, 0)] ∧ t.caps = s.caps)) ∧
    (Accepts s m b (fset (s.kept b) F.CAP_CTRL_ABORT 1) →
      ∃ t, exec (.capAbort m u) s = .next (finish s t) ∧ t.mem = s.mem ∧ RegsTo s t [(b, F.CAP_STATUS_STATE, 0)] ∧
        Upd s.cap t.cap u { x with cur := none, begun := false })

/-- R367, R368: the oldest closed record of a capture unit leaves for its ring with the next SEQ, whole where the ring has room for it
and the DMA hall pass allows every word of it; where the ring has no room it is dropped and counted. A write of CAP_RD that stays
within what has been written frees what it passes. -/
def Claims.CaptureRecords : Prop :=
  ∀ (s : State) (m : Master) (u : Fin 8) (r : CapRec) (l : List CapRec) (v : Word),
    let b := capB u
    let seq := s.rd (b + R.CAP_SEQ)
    let bs := recBytes r u seq
    let n := bs.length
    let wr := s.fld b F.CAP_WR_WR
    let base := (s.rd (b + R.CAP_RING_BASE)).toNat
    (s.pwr.core = true → (s.cap u).closed = r :: l → r.lost = false → s.flag b F.CAP_CTRL_DEST = false → capState s u = 2 →
      ∃ t, exec (.capRecordClose u) s = .next (finish s t) ∧ Upd s.cap t.cap u { s.cap u with closed := l } ∧
        (capSize s u - 4 - capUnread s u < n →
          RegsTo s t [(b, F.CAP_SEQ_SEQ, seq.toNat + 1), (b, F.CAP_DROP_DROP, min (2 ^ 32 - 1) (s.fld b F.CAP_DROP_DROP + 1))] ∧ t.mem = s.mem) ∧
        (n ≤ capSize s u - 4 - capUnread s u → (∀ k, k < n / 4 → passOk s (.dma 0) true (base + (wr + 4 * k) % capSize s u) = true) →
          RegsTo s t [(b, F.CAP_SEQ_SEQ, seq.toNat + 1), (b, F.CAP_WR_WR, (wr + n) % capSize s u)] ∧
            (∀ i, i < n → t.byte (base + (wr + i) % capSize s u) = bs.getD i 0#8) ∧
            ∀ a, (∀ i, i < n → a ≠ base + (wr + i) % capSize s u) → t.byte a = s.byte a)) ∧
    (Accepts s m (b + R.CAP_RD) v → ∃ t, exec (.capRdWrite m u v) s = .next (finish s t) ∧ RegsTo s t [(b, F.CAP_RD_RD, v.toNat)] ∧
      { t with regs := [] } = { s with regs := [] })

/-- Capture units: enable, records, read pointer: `Claims.CaptureControl` and `Claims.CaptureRecords` together. -/
def Obligations.CaptureUnits : Prop := Claims.CaptureControl ∧ Claims.CaptureRecords

/-- R8, R25: REGISTER_WRITE of a word of shared memory by a master that its hall passes allow writes the word, and no other byte
changes; a misaligned or refused one changes no register and no memory. -/
def Claims.MemoryWordWrite : Prop :=
  ∀ (s : State) (m : Master) (a v : Word), Quiet s → 0x2000000 ≤ a.toNat → a.toNat < 0x2400000 →
    (a.toNat % 4 = 0 → passOk s m true a.toNat = true →
      ∃ t, exec (.registerWrite m a v) s = .next t ∧ t.memWord a.toNat = v ∧
        (∀ k, k < a.toNat ∨ a.toNat + 4 ≤ k → t.byte k = s.byte k) ∧ t.regs = s.regs) ∧
    (a.toNat % 4 ≠ 0 ∨ passOk s m true a.toNat = false →
      ∃ t, exec (.registerWrite m a v) s = .next (finish s t) ∧ t.regs = s.regs ∧ t.mem = s.mem)

/-- R8, R10, R25, R63, R65, R67: REGISTER_WRITE of a register that does nothing but hold its fields. An accepted write sets the
fields of codes RW and RWL, clears the W1C bits and sets the W1S bits that it names, and changes no other bit and nothing else. Of a
coherent register it also exchanges the register's term in the digest, and on the crown the write is broadcast with the next epoch;
while a live reload applies it is held. A write that is misaligned, to no register, not allowed by the hall pass, of an RWL field under
the image lock, or of a coherent register on a brim by a master other than the cascade and the loader is dropped and reported. A read
gives the word and clears its RC bits. -/
def Claims.RegisterWrite : Prop :=
  ∀ (s : State) (m : Master) (a v : Word), Awake s → a.toNat < 0x1000000 →
    let h := a.toNat
    let old := s.rd h
    let report := match masterSource m with
      | none => []
      | some (c, i) => [⟨c, i, K.ACCESS, kindSev K.ACCESS, 0, h⟩]
    (h % 4 ≠ 0 ∨ regRow h = none ∨ passOk s m true h = false →
      ∃ t, exec (.registerWrite m a v) s = .next (finish s t) ∧ SameRegs s t ∧ t.reports = s.reports ++ report) ∧
    ∀ r, regRow h = some r → h % 4 = 0 →
      let others := fun t : State => ∀ b, b ≠ h → t.rd b = s.rd b
      let stored := fun w : Word => ∀ i, i < 32 → w.getLsbD i =
        if bit r.w1s i && v.getLsbD i then true else if bit r.w1c i && v.getLsbD i then false
        else if bit r.rw i || bit r.rwl i then v.getLsbD i else old.getLsbD i
      let plain := isCst h = false ∧ ¬ (fcB + R.FC_REACT ≤ h ∧ h < fcB + R.FC_REACT + 0x400) ∧ isPulseReg h = false ∧ h ≠ busB + R.BUS_CFG ∧
        ∀ u, regAction u m h v old = u
      ((r.rwl ≠ 0 ∧ s.fld 0 F.SYS_IMG_STATUS_LOCKED = 1 ∧ m ≠ .loader) ∨
        (r.coh = true ∧ s.isBrim = true ∧ m ≠ .loader ∧ m ≠ .cascade ∧ m ≠ .coherent) →
        ∃ t, exec (.registerWrite m a v) s = .next (finish s t) ∧ SameRegs s t ∧ t.reports = s.reports ++ report) ∧
      (regRefused s m false h v = false → plain → r.coh = false →
        ∃ t, exec (.registerWrite m a v) s = .next (finish s t) ∧ stored (t.rd h) ∧ others t ∧ { t with regs := [] } = { s with regs := [] }) ∧
      (regRefused s m false h v = false → plain → r.coh = true → (m = .loader ∨ liveApplies s = false) →
        ∃ t, exec (.registerWrite m a v) s = .next (finish s t) ∧ stored (t.rd h) ∧ t.mem = s.mem ∧
          t.img = { s.img with digest := s.img.digest ^^^ digTerm h (digValue h old) ^^^ digTerm h (digValue h (t.rd h)) } ∧
          (s.isCrown = false ∨ m = .loader ∨ m = .coherent → others t ∧ t.casOut = s.casOut) ∧
          (s.isCrown = true → m ≠ .loader → m ≠ .coherent → r.rw ||| r.rwl ≠ 0 →
            let e := if s.img.loaded = false then 0#32 else if s.rd R.SYS_EPOCH = 0xFFFFFFFF#32 then 1#32 else s.rd R.SYS_EPOCH + 1#32
            t.rd R.SYS_EPOCH = e ∧ t.casOut = s.casOut ++ [⟨6, s.position, 0, true, 0, [e, a, v]⟩] ∧
              ∀ b, b ≠ h → b ≠ R.SYS_EPOCH → b ≠ casB + F.CAS_STATUS_PENDING.off → t.rd b = s.rd b)) ∧
      (regRefused s m false h v = false → r.coh = true → m ≠ .loader → liveApplies s = true →
        exec (.registerWrite m a v) s = .next (finish s { s with img := { s.img with held := s.img.held ++ [(m, h, v)] } })) ∧
      (passOk s m false h = true → readSpecial s m h = none → h ≠ busB + R.BUS_ADM_STAT → h ≠ hostB + R.HOST_TW_STAT →
        ∃ u, masterRead m h s = (old, u) ∧ (∀ i, i < 32 → (u.rd h).getLsbD i = (old.getLsbD i && !bit r.rc i)) ∧ others u ∧
          { u with regs := [] } = { s with regs := [] })

/-- R56, R60: LOAD of an image from slot A, slot B or shared memory begins its pass 1; while a load runs it is dropped and CMD_DROP
says so; a full image for a loaded device whose outputs are active is rejected with 0x10. LOCK sets LOCKED. -/
def Claims.ImageCommands : Prop :=
  ∀ (s : State) (m : Master) (src : Fin 8),
    (Accepts s m R.SYS_IMG_CTRL (BitVec.ofNat 32 (1 + 2 * src.val)) →
      ∃ t, exec (.load m src) s = .next (finish s t) ∧ t.mem = s.mem ∧ t.flash = s.flash ∧
        (loading s = true → RegsTo s t [(0, F.SYS_IMG_CTRL_SRC, src), (0, F.SYS_IMG_STATUS_CMD_DROP, 1)] ∧ t.img = s.img) ∧
        (loading s = false → src.val = 1 ∨ src.val = 2 ∨ src.val = 3 → s.img.loaded = false ∨ outputsActive s = false →
          RegsTo s t [(0, F.SYS_IMG_CTRL_SRC, src), (0, F.SYS_IMG_STATUS_STATE, 1)] ∧
          t.img = { s.img with src := src, cand := [], crcs := [], rx := [], rxEnd := 0, want := none }) ∧
        (loading s = false → src.val = 1 ∨ src.val = 2 ∨ src.val = 3 → s.img.loaded = true → outputsActive s = true →
          headCheck s src = 0 → (imgHead s src).live = false →
          RegsTo s t [(0, F.SYS_IMG_CTRL_SRC, src), (0, F.SYS_IMG_STATUS_ERR, 0x10), (0, F.SYS_IMG_STATUS_STATE, 3)] ∧ t.img.loaded = true)) ∧
    (Accepts s m R.SYS_IMG_CTRL 0x100#32 →
      ∃ t, exec (.imageLock m) s = .next (finish s t) ∧ { t with regs := [] } = { s with regs := [] } ∧
        RegsTo s t [(0, F.SYS_IMG_CTRL_SRC, 0), (0, F.SYS_IMG_CTRL_LOCK, 1), (0, F.SYS_IMG_STATUS_LOCKED, 1)])

/-- R53: the choice of the boot image, once, after the boot scan. With both slots of the boot flash empty no image is loaded; where
slot A's image passes preamble and HEADER and slot B is empty, pass 1 of slot A begins; where both pass, the one of the higher
IMAGE_SERIAL goes first. That STATE reads 4, rejected, also where both slots were empty is the model's choice (log entry 146). -/
def Claims.BootImage : Prop :=
  ∀ (s : State), s.pwr.core = true → s.flag nvB F.NV_STATUS_READY = true → s.img.chosen = false → loading s = false → s.img.loaded = false →
    let empty := fun src => imgNum s src 0 4 = 0xFFFFFFFF
    ∃ t, exec .bootImageSelect s = .next (finish s t) ∧ t.img.chosen = true ∧ t.mem = s.mem ∧ t.flash = s.flash ∧
      (empty 1 → empty 2 → RegsTo s t [(0, F.SYS_IMG_STATUS_STATE, 4)]) ∧
      (¬ empty 1 → headCheck s 1 = 0 → empty 2 → RegsTo s t [(0, F.SYS_IMG_STATUS_STATE, 1)] ∧ t.img.src = 1 ∧ t.img.cand = []) ∧
      (¬ empty 1 → headCheck s 1 = 0 → ¬ empty 2 → headCheck s 2 = 0 →
        RegsTo s t [(0, F.SYS_IMG_STATUS_STATE, 1)] ∧
        (if (imgHead s 1).serial < (imgHead s 2).serial then t.img.src = 2 ∧ t.img.cand = [1] else t.img.src = 1 ∧ t.img.cand = [2]))

/-- Writes to memory and to registers, and the commands that load, lock and boot a fabric image: `Claims.MemoryWordWrite`, `Claims.RegisterWrite`, `Claims.ImageCommands` and `Claims.BootImage` together. -/
def Obligations.MemoryAndImages : Prop := Claims.MemoryWordWrite ∧ Claims.RegisterWrite ∧ Claims.ImageCommands ∧ Claims.BootImage

/-- R54, R55: the end of pass 1. An image that fails a check is rejected with the code of the first one that fails, and where no other
source is left the image in place stays; one that passes goes on to pass 2 with its sections' CRCs kept, and a full one halts every
running engine. Which check comes first, and the codes of what R54 to R58 leave without one, are the model's choice (log entries 43,
147, 148 and 149). Nothing waits here for the load's end. -/
def Claims.ImagePass1 : Prop :=
  ∀ (s : State), s.pwr.core = true → s.fld 0 F.SYS_IMG_STATUS_STATE = 1 → s.img.src ≠ 4 →
    (imgCheck s s.img.src ≠ 0 → s.img.cand = [] → (∀ f, f < 96 → feltState s f ≠ 2) →
      (∀ h, h < 8 → s.flag (hseB h) F.HSE_CTRL_EN = false ∨ houseOn s h = true) →
      ∃ t, exec .imagePass1End s = .next (finish s t) ∧ t.mem = s.mem ∧ t.img.loaded = s.img.loaded ∧ t.img.src = 0 ∧
        RegsTo s t [(0, F.SYS_IMG_STATUS_ERR, imgCheck s s.img.src), (0, F.SYS_IMG_STATUS_STATE, if s.img.loaded then 3 else 4)] ∧
        t.reports = s.reports ++ [⟨0, 0, K.IMAGE_REJECT, kindSev K.IMAGE_REJECT, 0, imgCheck s s.img.src % 2 ^ 32⟩]) ∧
    (imgCheck s s.img.src = 0 → s.img.want ≠ some (!(imgHead s s.img.src).live) → s.img.loaded = false ∨ outputsActive s = false ∨ (imgHead s s.img.src).live = true →
      ∃ t, exec .imagePass1End s = .next (finish s t) ∧ t.mem = s.mem ∧ t.fld 0 F.SYS_IMG_STATUS_STATE = 2 ∧
        t.img.crcs = (imgSecs s s.img.src).2.map (fun x => x.crc) ∧ t.img.live = (imgHead s s.img.src).live ∧
        ((imgHead s s.img.src).live = true → RegsTo s t [(0, F.SYS_IMG_STATUS_STATE, 2)]) ∧
        ∀ e, e < 96 → engState t e = if (imgHead s s.img.src).live = false ∧ engState s e = 1 then 2 else engState s e)

/-- R54, R55, R58, R65: the end of pass 2. A section that has changed since pass 1 takes every change back and leaves no image loaded,
with 0x0E; a live image that has not, and that loads no register, where no port is bound and no interlock stops anything, is in place with its LIVE_ID and its digest unsettled, which
DIGEST_RECOMPUTE_END settles; a brim whose image is not the crown's is then loaded from the crown (R57). By what a brim knows that,
and that a change of its position counts, is the model's choice (log entries 46 and 48). -/
def Claims.ImagePass2 : Prop :=
  ∀ (s : State), s.pwr.core = true →
    let r := imgSecs s s.img.src
    let h := imgHead s s.img.src
    let changed := headCheck s s.img.src ≠ 0 ∨ r.1 ≠ 0 ∨ r.2.map (fun x => x.crc) ≠ s.img.crcs
    (s.fld 0 F.SYS_IMG_STATUS_STATE = 2 → s.img.src ≠ 4 → changed → s.img.cand = [] →
      ∃ t, exec .imagePass2End s = .next (finish s t) ∧ t.img.loaded = false ∧ t.fld 0 F.SYS_IMG_STATUS_STATE = 4 ∧
        t.fld 0 F.SYS_IMG_STATUS_ERR = 0x0E ∧ t.portFelt = [] ∧ (∀ a, 0x1000000 ≤ a → a < 0x1300000 → t.byte a = 0#8)) ∧
    (s.fld 0 F.SYS_IMG_STATUS_STATE = 2 → s.img.src ≠ 4 → ¬ changed → s.img.live = true → (∀ c ∈ r.2, loadTypes.contains c.typ = false) →
      s.portFelt = [] → (∀ n, n < 4 → ilkStop s n = false) → s.ilkHold = [] → s.ilkHouse = [] →
      ∃ t, exec .imagePass2End s = .next (finish s t) ∧ t.img.loaded = true ∧ t.fld 0 F.SYS_IMG_STATUS_STATE = 3 ∧
        t.rd R.SYS_LIVE_ID = BitVec.ofNat 32 h.id ∧ t.rd R.SYS_LIVE_SERIAL = BitVec.ofNat 32 h.serial ∧
        t.fld 0 F.SYS_IMG_STATUS_LIVE = 1 ∧ t.fld 0 F.SYS_DIGEST_STAT_BUSY = 1 ∧
        t.fld 0 F.SYS_IMG_STATUS_LOADS = min 255 (s.fld 0 F.SYS_IMG_STATUS_LOADS + 1)) ∧
    (s.flag 0 F.SYS_DIGEST_STAT_BUSY = true → s.img.held = [] → (s.isBrim = true → s.cas.same = true ∧ s.cas.imgPos = s.position) →
      ∃ t, exec .digestRecomputeEnd s = .next (finish s t) ∧ RegsTo s t [(0, F.SYS_DIGEST_STAT_BUSY, 0)] ∧ t.mem = s.mem ∧
        t.img.waits = false ∧ t.img.digest = (s.img.sums.foldl (fun d e => d ^^^ e.2) (regTerms t)) ∧
        (s.img.waits = true → t.casOut = s.casOut ++ [⟨7, s.position, 0, false, 1,
          [t.img.digest.setWidth 32, (t.img.digest >>> 32).setWidth 32, s.rd R.SYS_EPOCH, s.rd R.SYS_IMG_ID, 0#32]⟩])) ∧
    (s.flag 0 F.SYS_DIGEST_STAT_BUSY = true → s.img.held = [] → s.img.waits = false → s.isBrim = true → s.cas.same = false →
      s.fld 0 F.SYS_IMG_STATUS_STATE = 3 →
      ∃ t, exec .digestRecomputeEnd s = .next (finish s t) ∧ t.mem = s.mem ∧ t.img.src = 4 ∧
        RegsTo s t [(0, F.SYS_DIGEST_STAT_BUSY, 0), (0, F.SYS_IMG_STATUS_STATE, 1)])

/-- R47 to R50, R54, R58, R68: an image of which nothing has changed since pass 1 and whose records keep their sections' ranges is
applied as pass 2 ends. Of the phase coefficients, a field that a record of this device names holds the word of the last record that
names it. A live image shows its identity and leaves the digest to be settled. A full image on a device that is not and does not become a brim shows its
own, with epoch 1, and takes the structure table; each engine with a record of this device holds the record's words and 0 elsewhere
and its ENTRY, and runs from there where the record says START. -/
def Claims.ImageApplied : Prop :=
  ∀ (s : State) (src : Fin 5), s.pwr.core = true → s.fld 0 F.SYS_IMG_STATUS_STATE = 2 → s.img.src = src.val → 1 ≤ src.val → src.val ≤ 3 →
    let r := imgSecs s src
    let cs := r.2
    let h := imgHead s src
    let mine := fun c => ((secRecs s src c).getD []).filter (fun r => r.mine)
    let words := ((cs.filter (fun c => c.typ == 6)).flatMap mine).flatMap
      (fun r => (List.range r.cnt).map (fun i => (r.addr + 4 * i, imgWord s src (r.off + 4 * i))))
    headCheck s src = 0 → r.1 = 0 → cs.map (fun x => x.crc) = s.img.crcs →
    (∀ c ∈ cs, loadTypes.contains c.typ = true → ∀ rs, secRecs s src c = some rs → rs.all (recInRange c.typ) = true) →
    (∀ c ∈ cs, c.typ = 3 → c.len = h.size * 0xC40) →
    let loads := min 255 (s.fld 0 F.SYS_IMG_STATUS_LOADS + 1)
    let taken := fun t : State => ∀ l1 a w l2 q, words = l1 ++ (a, w) :: l2 → (∀ e ∈ l2, e.1 ≠ a) → 0x100000 ≤ a → a < 0x160000 →
      regRow a = some q → ∀ k, k < 32 → bit (q.rw ||| q.rwl) k = true → (t.rd a).getLsbD k = w.getLsbD k
    (s.img.live = true →
      ∃ t, exec .imagePass2End s = .next (finish s t) ∧ taken t ∧ t.img.loaded = true ∧ t.img.src = 0 ∧ t.fld 0 F.SYS_IMG_STATUS_STATE = 3 ∧
        t.rd R.SYS_LIVE_ID = BitVec.ofNat 32 h.id ∧ t.rd R.SYS_LIVE_SERIAL = BitVec.ofNat 32 h.serial ∧ t.fld 0 F.SYS_IMG_STATUS_LIVE = 1 ∧
        t.rd R.SYS_IMG_ID = s.rd R.SYS_IMG_ID ∧ t.rd R.SYS_IMG_SERIAL = s.rd R.SYS_IMG_SERIAL ∧
        t.fld 0 F.SYS_DIGEST_STAT_BUSY = 1 ∧ t.fld 0 F.SYS_IMG_STATUS_LOADS = loads) ∧
    (s.img.live = false → s.isCrown = true ∨ (s.role = 0 ∧ h.size ≤ 1) →
      ∃ t, exec .imagePass2End s = .next (finish s t) ∧ taken t ∧ t.img.loaded = true ∧ t.img.src = 0 ∧ t.fld 0 F.SYS_IMG_STATUS_STATE = 3 ∧
        t.rd R.SYS_IMG_ID = BitVec.ofNat 32 h.id ∧ t.rd R.SYS_IMG_SERIAL = BitVec.ofNat 32 h.serial ∧ t.rd R.SYS_EPOCH = 1#32 ∧
        t.rd R.SYS_LIVE_ID = 0#32 ∧ t.rd R.SYS_LIVE_SERIAL = 0#32 ∧ t.fld 0 F.SYS_IMG_STATUS_LIVE = 0 ∧
        t.fld 0 F.SYS_IMG_STATUS_SRC_USED = src.val ∧ t.fld 0 F.SYS_IMG_VER_CABINET_SIZE = h.size ∧
        (bit h.flags 1 = true → t.fld 0 F.SYS_IMG_STATUS_LOCKED = 1) ∧ t.fld 0 F.SYS_IMG_STATUS_LOADS = loads ∧
        (∀ c, secOf cs 3 = some c → ∀ d k, d < h.size → k < 768 →
          t.rd (0x4000 + 0xC00 * d + 4 * k) = imgWord s src (c.off + 0xC40 * d + 4 * k) &&&
            (if k % 8 < 6 then 0xFFFFFFFF#32 else if k % 8 = 6 then 0x17F#32 else 0#32)) ∧
        (∀ c rs, secOf cs 8 = some c → secProgs s src c = some rs → (rs.map (fun r => r.w0 % 128)).Nodup →
          ∀ r ∈ rs, r.mine s.position = true →
            let e := r.w0 % 128
            let b := 0x1000000 + 0x8000 * e
            (∀ i, i < r.ni → t.memWord (b + 4 * i) = imgWord s src (r.off + 4 * i)) ∧
            (∀ i, i < r.nd → t.memWord (b + 0x4000 + 4 * i) = imgWord s src (r.off + 4 * r.ni + 4 * i)) ∧
            (∀ k, (4 * r.ni ≤ k ∧ k < 0x4000) ∨ (0x4000 + 4 * r.nd ≤ k ∧ k < 0x8000) → t.byte (b + k) = 0#8) ∧
            t.fld (engB e) F.ENG_ENTRY_ENTRY = r.entry ∧
            (bit r.w0 16 = true → engState t e = 1 ∧ (t.engine e).cur = some 0 ∧ (t.ctx e 0).pc = r.entry)))

/-- R61, R62, R66: re-felting and the roll call's answer. GO with a set of no phase, or of more than 24, is refused with RESULT 1; GO
on a felt of this device that is stopped, with phases in no other felt and no sense slot among those it gains, gives the felt the
phases named, with RESULT 0. A roll call that has waited for a settled digest is answered as busy. -/
def Claims.Refelting : Prop :=
  ∀ (s : State) (m : Master) (f : Fin 96),
    let word := BitVec.ofNat 32 (s.position * 2 ^ 16 + 2 ^ 8 + f.val)
    let named := refeltNamed s
    let go := Instr.refeltGo m ⟨s.position % 16, Nat.mod_lt _ (by decide)⟩ ⟨f.val, by omega⟩
    (Accepts s m R.SYS_REFELT_CTRL word → named.length < 1 ∨ 24 < named.length →
      ∃ t, exec go s = .next (finish s t) ∧ t.fld 0 F.SYS_REFELT_STATUS_RESULT = 1 ∧ (∀ g, feltPhases t g = feltPhases s g) ∧ t.mem = s.mem) ∧
    (Accepts s m R.SYS_REFELT_CTRL word → s.isCrown = false → 1 ≤ named.length → named.length ≤ 24 → feltDefined s f = true →
      feltState s f = 1 → named.any (inOtherFelt s s.position f) = false → named.any (isSense s) = false → loading s = false →
      ∃ t, exec go s = .next (finish s t) ∧ t.fld 0 F.SYS_REFELT_STATUS_RESULT = 0 ∧ t.mem = s.mem ∧
        ∀ k, k < 6 → t.rd (cstAt s.position f + 4 * k) = s.rd (R.SYS_REFELT_MASK + 4 * k)) ∧
    (s.pwr.core = true → s.img.waits = true →
      ∃ t, exec .digestBusyTimeout s = .next (finish s t) ∧ t.img.waits = false ∧ t.regs = s.regs ∧ t.mem = s.mem ∧
        t.casOut = s.casOut ++ [⟨7, s.position, 0, false, 1, [s.img.digest.setWidth 32, (s.img.digest >>> 32).setWidth 32, s.rd R.SYS_EPOCH,
          s.rd R.SYS_IMG_ID, 1#32]⟩])

/-- The two passes of an image load, what they apply, and re-felting: `Claims.ImagePass1`, `Claims.ImagePass2`, `Claims.ImageApplied` and `Claims.Refelting` together. -/
def Obligations.ImagePasses : Prop := Claims.ImagePass1 ∧ Claims.ImagePass2 ∧ Claims.ImageApplied ∧ Claims.Refelting

/-- R415, R418, R432: the oldest report on its way reaches the collector. Where no entry of its source and kind waits unread, the queue
has room and its severity asks for no store and no card, it becomes the youngest entry with the present stamp, and awaits its
decision. -/
def Claims.ReportQueued : Prop :=
  ∀ (s : State) (m : Msg) (l : List Msg), Awake s → s.reports = m :: l →
    (s.fc.queue.all (fun e => !sameSource e.msg m && !e.marker) = true → s.fc.queue.length < 63 →
      (⟨m, s.stamp, false⟩ : QEntry).marker = false → m.sev < s.fld fcB F.FC_CFG_STORE_SEV → m.sev < s.fld fcB F.FC_CFG_CARD_SEV →
      ∃ t, exec .faultReport s = .next (finish { s with reports := l } t) ∧ t.reports = l ∧ t.fc.queue = s.fc.queue ++ [⟨m, s.stamp, false⟩] ∧
        t.fc.undecided = s.fc.undecided ++ [⟨m, false⟩] ∧ 375 ∈ t.pulses ∧ t.mem = s.mem ∧
        RegsTo s t [(fcB, F.FC_STATUS_DEPTH, s.fc.queue.length + 1), (fcB, F.FC_STATUS_MARKER, 0)]) ∧
    (∀ e q, s.fc.queue = e :: q → sameSource e.msg m = true → e.read = false → e.marker = false → e.msg.count < 255 →
      ∃ t, exec .faultReport s = .next (finish { s with reports := l } t) ∧ t.reports = l ∧
        t.fc.queue = { e with msg := { e.msg with count := e.msg.count + 1 } } :: q ∧
        t.fc.undecided = s.fc.undecided ++ [⟨m, false⟩] ∧ t.pulses = s.pulses ∧ SameRegs s t)

/-- R422, R437: the queue as a master uses it. A read of FC_Q_MSG_LO marks the head entry as read and changes no register; a pop takes
the head entry away and shows the depth that is left; an injected message joins the reports on their way. -/
def Claims.QueueAccess : Prop :=
  ∀ (s : State) (m : Master),
    (∀ e q, s.fc.queue = e :: q → Readable s m (fcB + R.FC_Q_MSG_LO) →
      ∃ t, exec (.queueHeadRead m) s = .next (finish s t) ∧ t.fc.queue = { e with read := true } :: q ∧ SameRegs s t ∧
        t.snap m 0 = (msgWords e.msg).2 ∧ t.snap m 1 = e.stamp.setWidth 32 ∧ t.snap m 2 = (e.stamp >>> 32).setWidth 32) ∧
    (Accepts s m (fcB + R.FC_Q_POP) 1#32 →
      ∃ t, exec (.queuePop m) s = .next (finish s t) ∧ t.fc.queue = s.fc.queue.drop 1 ∧ t.mem = s.mem ∧
        RegsTo s t [(fcB, F.FC_STATUS_DEPTH, ((s.fc.queue.drop 1).filter (fun e => !e.marker)).length),
          (fcB, F.FC_STATUS_MARKER, b2n ((s.fc.queue.drop 1).any (fun e => e.marker)))]) ∧
    (∀ k : BitVec 8, Accepts s m (fcB + R.FC_INJ_HI) (k.setWidth 32) →
      ∃ t, exec (.faultInject m k) s = .next (finish s t) ∧ SameRegs s t ∧
        t.reports = s.reports ++ [⟨15, 1, k.toNat, 0, 0, s.fld fcB F.FC_INJ_LO_ARG⟩])

/-- The fault collector: an entry enters the queue, is read, popped and injected: `Claims.ReportQueued` and `Claims.QueueAccess` together. -/
def Obligations.FaultQueue : Prop := Claims.ReportQueued ∧ Claims.QueueAccess

/-- R423, R424, R425: the decision of the oldest report that has arrived. Scope 0 acts on nothing and changes no register, scope
1 sets ENTRY and no more; either keeps its condition in the fault state. A scope that acts, where no reaction runs, sets
ENTRY and SAFE, holds the felts that it covers, each OFF with STOP_CAUSE 4 and EN kept, keeps its condition and shows the collector as
acting. From scope 4 on the cabinet is held, with the bus in MODE 0 and EN kept; scope 5 awaits the reset. A group reaction that covers
no felt holds nothing. -/
def Claims.ReactionDecided : Prop :=
  ∀ (s : State) (r : Report) (l : List Report), s.pwr.core = true → s.fc.undecided = r :: l → r.spread = false →
    let n := (scopeOf s r.msg).1
    let fs := (scopeOf s r.msg).2
    reactFld s r.msg.kind F.FC_REACT_HOLD = 0 → reactFld s r.msg.kind F.FC_REACT_SPREAD = 0 →
    (n = 0 ∨ n = 1 → r.msg.kind ≠ K.HUB_TRIP → r.msg.kind ≠ K.PD_GUARD →
      ∃ t, exec .reactionStart s = .next (finish s t) ∧ t.mem = s.mem ∧
        t.fc = { s.fc with undecided := l, conds := if faultState s = true ∧ r.msg.cls ≠ 15 then s.fc.conds ++ [r.msg] else s.fc.conds } ∧
        (n = 0 → SameRegs s t) ∧ (n = 1 → RegsTo s t [(fcB, F.FC_INT_STATUS_ENTRY, 1)])) ∧
    (2 ≤ n → s.fc.running = none → r.msg.cls ≠ 15 → s.fld fcB F.FC_STATUS_STATE ≠ 3 →
      ∃ t, exec .reactionStart s = .next (finish s t) ∧ t.fc.undecided = l ∧
        t.fc.running = some ⟨n, fs, [r.msg]⟩ ∧ t.fc.heldFelts = setUnion s.fc.heldFelts fs ∧ (n ≤ 4 → t.mem = s.mem) ∧
        t.fld fcB F.FC_INT_STATUS_ENTRY = 1 ∧ t.fld fcB F.FC_INT_STATUS_SAFE = 1 ∧
        t.fld fcB F.FC_STATUS_STATE = 1 ∧ t.fld fcB F.FC_STATUS_SCOPE = n ∧
        (fs ≠ [] ∨ 4 ≤ n → t.fc.wide = max s.fc.wide n ∧ t.fc.conds = s.fc.conds ++ [r.msg]) ∧
        (fs = [] → n ≤ 3 → t.fc.wide = s.fc.wide ∧ t.fc.conds = if faultState s then s.fc.conds ++ [r.msg] else s.fc.conds) ∧
        (∀ f ∈ fs, f < 96 → feltState s f ∈ [1, 2, 3, 4, 5, 6, 7, 8, 9, 12, 13] → feltState t f = 10 ∧
          t.fld (feltB f) F.FELT_STATUS_STOP_CAUSE = 4 ∧ t.fld (feltB f) F.FELT_CTRL_EN = s.fld (feltB f) F.FELT_CTRL_EN) ∧
        (4 ≤ n → t.fc.heldCab = true ∧ (s.fc.heldCab = false → t.fld busB F.BUS_STATUS_MODE = 0 ∧
          t.fld busB F.BUS_CTRL_EN = s.fld busB F.BUS_CTRL_EN ∧ t.rd (busB + R.BUS_P_IN) = 0#32 ∧ t.rd (busB + R.BUS_P_SHELF) = 0#32 ∧
          t.rd (busB + R.BUS_P_DUMP) = 0#32)) ∧
        (n = 5 → t.fc.resetWait = true))

/-- R423, R425, R426: a running reaction that has held its outputs ends, and with no reaction waiting the collector shows the fault
state; one of cabinet scope ends once every channel but the KEEP ones is off, and runs on before; one of reset scope runs on, and 20 ms after its decision the device resets with cause 2 shown. -/
def Claims.ReactionEnds : Prop :=
  ∀ (s : State), s.pwr.core = true →
    (∀ r, s.fc.running = some r → r.scope < 5 → s.fc.backlog = [] → (∀ m ∈ r.conds, m.kind ≠ K.HUB_TRIP ∧ m.kind ≠ K.PD_GUARD) →
      s.fc.wide ≠ 0 → s.fld fcB F.FC_STATUS_STATE ≠ 3 →
      (r.scope = 4 → ∀ h, h < 8 → houseOn s h = true → houseKeep s h = true ∧ houseLocal s h = true) →
      ∃ t, exec .reactionEnd s = .next (finish s t) ∧ t.fc = { s.fc with running := none } ∧ t.mem = s.mem ∧
        RegsTo s t [(fcB, F.FC_STATUS_STATE, 2), (fcB, F.FC_STATUS_SCOPE, s.fc.wide)]) ∧
    (∀ r, s.fc.running = some r → (r.scope = 4 ∧ ∃ h, h < 8 ∧ houseOn s h = true ∧ houseKeep s h = false) ∨ 5 ≤ r.scope →
      exec .reactionEnd s = .next (finish s s)) ∧
    (s.fc.resetWait = true →
      ∃ t, exec .resetScopeTimeout s = .next (finish s t) ∧ t.pwr.core = false ∧ t.fc.queue = [] ∧ t.engines = [] ∧
        bit (t.fld 0 F.SYS_RST_CAUSE_CAUSE) 2 = true ∧ t.flash = s.flash ∧ t.nv.copyA = s.nv.copyA ∧ t.nv.copyB = s.nv.copyB ∧
        ∀ a, t.byte a = if 0x3100000 ≤ a ∧ a < 0x3120000 then s.byte a else memDefault a)

/-- R429, R430, R431: recess and recovery. Where recess runs and fewer than FC_RECOV.MAX recoveries stand in the window, the device
recovers: nothing is held, the held felts whose EN was written 0 are stopped (R430), the recovery is counted, the window opens. Where
they are spent, the device latches, which CLEAR alone ends; the window's close forgets the count. -/
def Claims.Recovery : Prop :=
  ∀ (s : State) (m : Master),
    let n := s.fld fcB F.FC_RECOV_STAT_COUNT
    let limit := max 1 (s.fld fcB F.FC_RECOV_MAX)
    (s.pwr.core = true → recessRuns s = true → limit ≤ n →
      ∃ t, exec .recessEnd s = .next (finish s t) ∧ { t with regs := [] } = { s with regs := [] } ∧
        RegsTo s t [(fcB, F.FC_STATUS_STATE, 3), (fcB, F.FC_INT_STATUS_LATCHED, 1)]) ∧
    (s.pwr.core = true → recessRuns s = true → n < limit → s.fc.heldCab = false → (∀ f, f < 96 → feltState s f ≠ 2) →
      (∀ f ∈ s.fc.heldFelts, feltState s f = 10 ∧ (s.felt f).brkLat = false ∧ s.flag (feltB f) F.FELT_CTRL_EN = false) →
      ∃ t, exec .recessEnd s = .next (finish s t) ∧ t.fc.wide = 0 ∧ t.fc.conds = [] ∧ t.fc.window = true ∧ t.mem = s.mem ∧
        t.fc.heldFelts = [] ∧ (∀ f ∈ s.fc.heldFelts, feltState t f = 1) ∧
        t.fld fcB F.FC_INT_STATUS_RECOVERED = 1 ∧ t.fld fcB F.FC_STATUS_STATE = 0 ∧
        t.fld fcB F.FC_RECOV_STAT_COUNT = min 255 (n + 1) ∧ t.fld fcB F.FC_RECOV_STAT_TOTAL = min (2 ^ 24 - 1) (s.fld fcB F.FC_RECOV_STAT_TOTAL + 1)) ∧
    (s.pwr.core = true → s.fc.window = true →
      ∃ t, exec .recoveryWindowClose s = .next (finish s t) ∧ t.fc = { s.fc with window := false } ∧ t.mem = s.mem ∧
        RegsTo s t [(fcB, F.FC_RECOV_STAT_COUNT, 0)]) ∧
    (Accepts s m (fcB + R.FC_CTRL) 1#32 → s.fld fcB F.FC_STATUS_STATE = 3 → s.fc.running = none →
      ∃ t, exec (.fcClear m) s = .next (finish s t) ∧ t.fc = { s.fc with window := false } ∧ t.mem = s.mem ∧
        RegsTo s t [(fcB, F.FC_RECOV_STAT_COUNT, 0), (fcB, F.FC_STATUS_STATE, if s.fc.wide = 0 then 0 else 2), (fcB, F.FC_STATUS_SCOPE, s.fc.wide)])

/-- R427: a spread fault. The FAULT packet at the head of the packets received from the cascade is taken: a report of class CAS with
the origin's position enters the queue and its scope, with every defined felt, is acted on at once. -/
def Claims.SpreadFault : Prop :=
  ∀ (s : State) (p : CasPkt) (l : List CasPkt), Awake s → s.casRx = p :: l → p.cls = 5 → p.sub = 0 →
    (p.word 0).toNat = 4 → s.fc.running = none → s.fc.queue = [] → s.fc.heldCab = true → s.fld fcB F.FC_STATUS_STATE ≠ 3 →
    let m : Msg := ⟨14, p.src, bits (p.word 2).toNat 19 12, bits (p.word 2).toNat 11 8, 0, (p.word 1).toNat⟩
    let fs := natsWhere 96 (feltDefined s)
    m.sev < s.fld fcB F.FC_CFG_STORE_SEV → m.sev < s.fld fcB F.FC_CFG_CARD_SEV →
    ∃ t, exec .faultPacket s = .next (finish s t) ∧ t.casRx = l ∧ t.fc.queue = [⟨m, s.stamp, false⟩] ∧
      t.fc.running = some ⟨4, fs, []⟩ ∧ t.fc.heldFelts = setUnion s.fc.heldFelts fs ∧ t.fc.conds = s.fc.conds ∧
      t.fld fcB F.FC_STATUS_STATE = 1 ∧ t.fld fcB F.FC_STATUS_SCOPE = 4

/-- Fault reactions: decision, end, recess and spread to the cascade: `Claims.ReactionDecided`, `Claims.ReactionEnds`, `Claims.Recovery` and `Claims.SpreadFault` together. -/
def Obligations.FaultReactions : Prop := Claims.ReactionDecided ∧ Claims.ReactionEnds ∧ Claims.Recovery ∧ Claims.SpreadFault

/-- R77, R99, R104: a frame time of a lane in LOCK and in RUN. In LOCK the 32nd good frame of type 2 in a row begins NEGOTIATE, and a
frame that is missing or bad counts as a CRC error and starts the count again. In RUN a missing frame is counted, and the run of bad
frames that reaches LOSS_LIMIT makes the loss of the lane due. -/
def Claims.UplinkFrames : Prop :=
  ∀ (s : State) (l : Fin 12) (fr : BitVec 280) (u : UpFrame) (mm : BitVec 16), s.pwr.core = true →
    let b := slB l
    let x := s.lane l
    (laneState s l = 2 → judgeFrame x.seq (some fr) = (some u, false) → u.typ = 2 →
      ∃ t, exec (.uplinkFrame l (some fr) mm) s = .next (finish s t) ∧ t.mem = s.mem ∧ (t.lane l).seq = some u.seq ∧ (t.lane l).bad = 0 ∧
        (x.good < 31 → laneState t l = 2 ∧ (t.lane l).good = x.good + 1) ∧ (31 ≤ x.good → laneState t l = 3 ∧ (t.lane l).good = 0)) ∧
    (laneState s l = 2 →
      ∃ t, exec (.uplinkFrame l none mm) s = .next (finish s t) ∧ t.mem = s.mem ∧ laneState t l = 2 ∧ (t.lane l).seq = none ∧ (t.lane l).good = 0 ∧
        t.fld b F.SL_CNT_CRC_COUNT = min (2 ^ 32 - 1) (s.fld b F.SL_CNT_CRC_COUNT + 1)) ∧
    (laneState s l = 6 → laneFelts s l = [] →
      ∃ t, exec (.uplinkFrame l none mm) s = .next (finish s t) ∧ t.mem = s.mem ∧ laneState t l = 6 ∧ (t.lane l).bad = x.bad + 1 ∧
        t.fld b F.SL_CNT_CRC_COUNT = min (2 ^ 32 - 1) (s.fld b F.SL_CNT_CRC_COUNT + 1) ∧
        (t.lane l).loss = if lossLimit s l ≤ x.bad + 1 ∧ x.loss = 0 ∧ x.closing = none then 1 else x.loss)

/-- R82, R94, R98, R111 to R113, R129 to R133, R164 to R166, R364, R366: a good RUN frame on a lane in RUN. A slot's valid code is shown
in its unit and ends the run of missing samples, the no-sample code is counted and, at its limit, reported. A current outside the
cycle's limits cuts the cycle, a voltage at V_OV for long enough latches the felt. A felt whose phases all lie on the lane judges its
breaker on the sum of their currents, two frames in a row above FELT_I_BRK_FAST tripping it, and its surge trigger on the mean of their
voltages. A capturing unit takes the codes of its slots. RUN_TRIP raises TRIP_PENDING, HUB_SAFE makes the loss of the lane due. -/
def Claims.RunSamples : Prop :=
  ∀ (s : State) (l : Fin 12) (j : Fin 16) (fr : BitVec 280) (u : UpFrame) (mm : BitVec 16), s.pwr.core = true → laneState s l = 6 →
    Assigned s → judgeFrame (s.lane l).seq (some fr) = (some u, false) → u.typ = 0 ∨ u.typ = 1 ∨ u.typ = 5 →
    let b := slB l
    let y := s.lane l
    let p := 16 * l.val + j.val
    let x := s.phase p
    let code := u.slot j
    let even := u.seq % 2 = 0
    let val := fun q => sampleVal (u.slot (q % 16)) (if even then y.iLsb else y.vLsb)
    let v := val p
    let rep := fun (c i k a : Nat) => (⟨c, i, k, kindSev k, 0, a % 2 ^ 32⟩ : Msg)
    let misses := ((List.range 16).filter (fun i => u.slot i == 0x2000 && bit (s.fld b F.SL_HUB_CAPS_POPULATED) i)).length
    ∃ t, exec (.uplinkFrame l (some fr) mm) s = .next (finish s t) ∧ t.mem = s.mem ∧ (t.lane l).seq = some u.seq ∧ (t.lane l).bad = 0 ∧
      (t.lane l).idx = y.idx + 1 ∧ t.fld b F.SL_CNT_SAMPLE_COUNT = min (2 ^ 32 - 1) (s.fld b F.SL_CNT_SAMPLE_COUNT + misses) ∧
      (u.typ = 1 → y.tripRun = false → t.fld b F.SL_STATUS_TRIP_PENDING = 1) ∧
      (u.typ ≠ 1 → t.fld b F.SL_STATUS_TRIP_PENDING = s.fld b F.SL_STATUS_TRIP_PENDING) ∧
      (u.typ = 5 → t.fld b F.SL_STATUS_HUB_SAFE = 1 ∧ (y.loss = 0 → y.closing = none → (t.lane l).loss = 2)) ∧
      (phaseFelt s p = none →
        (code ≠ 0x2000 → (t.phase p).miss = 0 ∧ t.fld (phsB p) F.PHS_CNT_MISS_COUNT = s.fld (phsB p) F.PHS_CNT_MISS_COUNT ∧
          (even → t.rd (phsB p + R.PHS_MEAS_I) = v ∧ (t.phase p).iLast = v) ∧ (¬ even → t.rd (phsB p + R.PHS_MEAS_V) = v ∧ (t.phase p).v = v)) ∧
        (code = 0x2000 → (t.phase p).miss = x.miss + 1 ∧ (t.phase p).iLast = x.iLast ∧ (t.phase p).v = x.v ∧
          t.rd (phsB p + R.PHS_MEAS_I) = s.rd (phsB p + R.PHS_MEAS_I) ∧ t.rd (phsB p + R.PHS_MEAS_V) = s.rd (phsB p + R.PHS_MEAS_V) ∧
          t.fld (phsB p) F.PHS_CNT_MISS_COUNT = min (2 ^ 32 - 1) (s.fld (phsB p) F.PHS_CNT_MISS_COUNT + 1))) ∧
      (∀ f, phaseFelt s p = some f → even →
        (code = 0x2000 → x.miss + 1 = max 1 (phsCo s p F.PHS_PROT_MISS_LIMIT) → rep 2 p K.PHS_SAMPLE (x.miss + 1) ∈ t.reports) ∧
        (code ≠ 0x2000 → feltSwitching s f = true → phsLatched s p = false → phsTripped s p = false → (s.felt f).brkFast = false →
          let hit := fun c => (t.phase p).cut = c ∧ (t.phase p).limited = true ∧ (x.limited = false → (t.phase p).lim = x.lim + 1 ∧
            t.fld (phsB p) F.PHS_CNT_LIMIT_LIMITED = min 65535 (s.fld (phsB p) F.PHS_CNT_LIMIT_LIMITED + 1) ∧
            (x.lim + 1 = max 1 (phsCo s p F.PHS_PROT_OC_CYCLES) → rep 2 p K.PHS_OC (x.lim + 1) ∈ t.reports))
          (x.gate = 1 → fLt (phsCoW s p R.PHS_I_PK) v = true → hit 1) ∧
          (x.gate = 2 ∨ x.gate = 6 → fLt v (fNeg (phsCoW s p R.PHS_I_NEG)) = true → hit 2)) ∧
        (feltSwitching s f = true → (∀ q ∈ feltPhases s f, q / 16 = l ∧ u.slot (q % 16) ≠ 0x2000) →
          let sum := fSum ((feltPhases s f).map val)
          let fast := fLt (feltW s f R.FELT_I_BRK_FAST) (fAbs sum)
          let n := s.fld (feltB f) F.FELT_STATUS_RETRIES
          ((fast && (s.felt f).brkFast) = true → rep 3 f K.FELT_BREAKER n ∈ t.reports ∧ t.fld (feltB f) F.FELT_STATUS_STOP_CAUSE = 3 ∧
            feltState t f = (if s.fld (feltB f) F.FELT_CTRL_EN = 0 then 1 else if n < feltF s f F.FELT_BRK2_N_RETRY then 8 else 9)) ∧
          ((fast && (s.felt f).brkFast) = false → feltState t f = feltState s f ∧ (t.felt f).brkFast = fast ∧
            (t.felt f).brkI = fAbs sum :: (s.felt f).brkI ∧ (t.felt f).sumsUs = sum :: (s.felt f).sumsUs))) ∧
      (∀ f, phaseFelt s p = some f → ¬ even →
        (code ≠ 0x2000 → feltState s f ≠ 11 → fLe (phsCoW s p R.PHS_V_OV) v = true → phsCo s p F.PHS_PROT_OV_COUNT ≤ x.ov →
          feltState t f = 11 ∧ t.fld (feltB f) F.FELT_CTRL_EN = 0 ∧ t.fld (feltB f) F.FELT_STATUS_STOP_CAUSE = 5 ∧
          (∀ q ∈ feltPhases s f, t.fld (phsB q) F.PHS_STATUS_LATCHED = 1) ∧
          ∃ q ∈ feltPhases s f, rep 2 q K.PHS_OV (q % 16) ∈ t.reports) ∧
        (∀ v0, (s.felt f).vPrev = some v0 → feltSwitching s f = true → vMode s f = true → (s.felt f).sink = false → (s.felt f).surgeHold = false →
          (s.felt f).surge = false →
          (∀ q ∈ feltPhases s f, q / 16 = l ∧ u.slot (q % 16) ≠ 0x2000 ∧ fLe (phsCoW s q R.PHS_V_OV) (val q) = false) →
          let lp := leadPhase s f
          let m := fMean ((feltPhases s f).map val)
          fLe (fSub m v0) (fNeg (phsCoW s lp R.PHS_SURGE_SLOPE)) = true → fLe m (fSub (s.felt f).vRef (phsCoW s lp R.PHS_SURGE_MIN)) = true →
          phsCo s lp F.PHS_SURGE_EN ≠ 0 → phsCo s lp F.PHS_SURGE_COUNT ≤ (s.felt f).slopeN →
          (t.felt f).surge = true ∧ (t.felt f).surgeHold = true ∧ rep 2 lp K.PHS_SURGE f ∈ t.reports ∧
          t.fld (phsB lp) F.PHS_CNT_SURGE_COUNT = min (2 ^ 32 - 1) (s.fld (phsB lp) F.PHS_CNT_SURGE_COUNT + 1) ∧
          ∀ q ∈ feltPhases s f, (t.phase q).cut = 0 ∧ (t.phase q).lead = none)) ∧
      (∀ (n : Fin 8) (r : CapRec), capState s n = 2 → s.fld (capB n) F.CAP_SRC_LANE = l → s.fld (capB n) F.CAP_SRC_QTY % 2 = 1 → even →
        (s.cap n).pair = 0 → (s.cap n).cur = some r → r.lost = false →
        let r1 := { r with frames := r.frames + 1, samples := r.samples ++ (capSlots r.slots).map (fun i => unint 16 (sint 14 (u.slot i))) }
        if r.frames = s.fld (capB n) F.CAP_REC_FRAMES then (t.cap n).cur = none ∧ (t.cap n).closed = (s.cap n).closed ++ [r1]
        else (t.cap n).cur = some r1 ∧ (t.cap n).closed = (s.cap n).closed)

/-- R78 to R80, R83, R90, R93, R115, R117 to R119, R125, R128, R130, R131, R133 to R135: the slot of a phase in a downlink frame of a
lane in RUN in which no round begins. A latched phase sends LOW_LATCH; a phase in no felt, of a felt that does not switch, or held by a
trip sends OFF, and so does a lane that is off. A switching phase goes HIGH in a surge unless a limit has cut it, and OFF in a burst's
pause; else its leading edge, where the on-time has its least value, and the trailing edge that the latest duty gives go into the
window in which they lie, a late one to offset 0 and counted, and every other frame holds. The SIDE word goes on with the packet in
progress; else the oldest waiting packet of the best priority starts, and IDLE goes out where none may. -/
def Claims.RunFrames : Prop :=
  ∀ (s : State) (l : Fin 12) (j : Fin 16), s.pwr.core = true → laneState s l = 6 → (s.lane l).closing = none →
    let y := s.lane l
    let k := nextFrame s l
    let w : Int := ((320 * k + 320 + laneTdn s l : Nat) : Int)
    let p := 16 * l.val + j.val
    let x := s.phase p
    (∀ g ∈ laneFelts s l, feltSwitching s g = true → w + 320 ≤ ((nextRound s g).felt g).roundT) →
    (∀ i, i < 16 → (s.phase (16 * l + i)).gate < 8) →
    let low := if s.flag (phsB p) F.PHS_STATUS_DE then 6 else 2
    ∃ (t : State) (slots side : Nat), exec (.downlinkFrameBuild l) s = .next (finish s t) ∧ t.mem = s.mem ∧ (t.lane l).built = k + 1 ∧
      (t.lane l).tx = some (frameOf 0 (k % 16) slots side) ∧
      (let slot := fun gate offset => bits slots (223 - 14 * j) (210 - 14 * j) = gate * 2 ^ 11 + offset * 2 ^ 2 ∧ (t.phase p).gate = gate
       let force := fun gate => slot gate (if x.gate = gate then 0x1FF else 0)
       let edge := fun (gate : Nat) (at_ : Int) => slot gate (at_ - w).toNat ∧
         t.fld (phsB p) F.PHS_CNT_LIMIT_LATE = min 65535 (s.fld (phsB p) F.PHS_CNT_LIMIT_LATE + b2n (decide (at_ < w)))
       (x.latchTx = true → force 3) ∧
       (x.latchTx = false → y.off = true → force 0) ∧
       (x.latchTx = false → y.off = false → phaseFelt s p = none → force 0) ∧
       (∀ f, x.latchTx = false → y.off = false → phaseFelt s p = some f →
         (feltSwitching s f = false ∨ phsTripped s p = true ∨ phsLatched s p = true → force 0) ∧
         (feltSwitching s f = true → phsTripped s p = false → phsLatched s p = false →
           let fx := s.felt f
           let d := if fx.full then fClamp (fAdd fx.d (s.rd (phsB p + R.PHS_TRIM))) (fRatio (phsCo s (leadPhase s f) F.PHS_DUTY_LIM_D_MIN) 65536)
             (fRatio (phsCo s (leadPhase s f) F.PHS_DUTY_LIM_D_MAX) 65536) else fx.d
           (fx.surge = true → force (if x.cut = 2 then 0 else if x.cut = 1 then low else 1)) ∧
           (fx.surge = false → fx.burst = 1 → force 0) ∧
           (fx.surge = false → fx.burst ≠ 1 → ∀ t0, x.gate = 1 → x.lead = some t0 → x.cut ≠ 1 →
             let trail := min (t0 + (max (tonMin s p) (tOn d fx.period) : Nat)) (nextOwnLead s f p - (toffMin s p : Int))
             (trail < w + 320 → edge low trail ∧ (t.phase p).lead = none) ∧
             (w + 320 ≤ trail → slot 1 0x1FF ∧ (t.phase p).lead = some t0)) ∧
           (fx.surge = false → fx.burst ≠ 1 → x.gate = 1 → x.cut = 1 ∨ x.lead = none → force low) ∧
           (fx.surge = false → fx.burst ≠ 1 → x.gate ≠ 1 → x.cut = 2 → x.gate ≠ 0 → force 0) ∧
           (fx.surge = false → fx.burst ≠ 1 → x.gate ≠ 1 → (x.cut ≠ 2 ∨ x.gate = 0) → ∀ lead rest, x.leads = lead :: rest →
             (w + 320 ≤ lead → slot x.gate 0x1FF ∧ (t.phase p).leads = x.leads) ∧
             (lead < w + 320 → fx.full = false →
               (tonMin s p ≤ tOn fx.d fx.period → edge 1 lead ∧ (t.phase p).lead = some lead ∧ (t.phase p).leads = rest) ∧
               (tOn fx.d fx.period < tonMin s p → slot x.gate 0x1FF ∧ (t.phase p).leads = rest ∧ t.fld (phsB p) F.PHS_ON_ON_TICKS = 0)) ∧
             (lead < w + 320 → fx.full = true → 2 ≤ (feltPhases s f).length → x.limited = false → x.iPer ≠ [] →
               let most := phsCoW s p R.PHS_TRIM_MAX
               let e := fSub (fDiv (fMean x.sPer.reverse) (fOfNat (feltPhases s f).length)) (fMean x.iPer.reverse)
               t.rd (phsB p + R.PHS_TRIM) = fClamp (fAdd (s.rd (phsB p + R.PHS_TRIM)) (fMul (phsCoW s p R.PHS_FULL) e)) (fNeg most) most ∧
                 t.rd (phsB p + R.PHS_MEAS_I) = fMean x.iPer.reverse))))) ∧
      (∀ w0 ws, y.txBody = w0 :: ws → side = w0.toNat ∧ (t.lane l).txBody = ws ∧ (t.lane l).waiting = y.waiting) ∧
      (y.txBody = [] → y.resync = false → y.again = [] → 8 ≤ y.sent.length ∨ y.waiting = [] → side = y.ackOut % 16 * 2 ^ 16 ∧
        (t.lane l).waiting = y.waiting ∧ (t.lane l).sent = y.sent) ∧
      (y.txBody = [] → y.resync = false → y.again = [] → y.sent.length < 8 → ∀ (l1 l2 : List SidePkt) (q : SidePkt),
        y.waiting = l1 ++ q :: l2 → (∀ r ∈ l1, sidePrio q.cls < sidePrio r.cls) → (∀ r ∈ l2, sidePrio q.cls ≤ sidePrio r.cls) → q.cls ≠ 7 →
        side = q.cls % 16 * 2 ^ 28 + y.nextSeq % 16 * 2 ^ 24 + q.body.length % 16 * 2 ^ 20 + y.ackOut % 16 * 2 ^ 16 + q.arg % 2 ^ 16 ∧
          (t.lane l).waiting = l1 ++ l2 ∧ (t.lane l).sent = y.sent ++ [{ q with pseq := y.nextSeq }] ∧
          (t.lane l).nextSeq = (y.nextSeq + 1) % 16 ∧ (t.lane l).txBody = q.body)

/-- R73, R77, R80, R99, R100: the downlink frame that a lane builds. In LOCK and in MEASURE it is a frame of TYPE 2 or 4 with every slot and
the SIDE word 0, in NEGOTIATE one of TYPE 3 with the lane's words, in the last training state one of TYPE 0 with every slot OFF, and SEQ counts the frame times; a lane that is disabled,
in BACKOFF or halted sends nothing. -/
def Claims.DownlinkFrames : Prop :=
  ∀ (s : State) (l : Fin 12), s.pwr.core = true →
    let k := nextFrame s l
    ∀ p ∈ [(2, some (frameOf 2 (k % 16) 0 0)), (4, some (frameOf 4 (k % 16) 0 0)),
        (3, some (frameOf 3 (k % 16) ((((0x534C0000 + versionsOffered s l * 2 ^ 8 + l) * 2 ^ 32 + 0x71920000) * 2 ^ 32 + (s.lane l).chosen) * 2 ^ 128) 0)), (5, some (frameOf 0 (k % 16) offSlots 0x000F0000)), (0, none), (1, none), (7, none), (8, none)],
      laneState s l = p.1 →
      ∃ t, exec (.downlinkFrameBuild l) s = .next (finish s t) ∧ Upd s.lane t.lane l { s.lane l with built := k + 1, tx := p.2 } ∧ SameRegs s t

/-- R73, R75, R76, R77: a frame that is built reads back at the other end as it was sent: TYPE, SEQ, slots and SIDE, and nothing is bad. -/
def Claims.FramesReadBack : Prop :=
  ∀ (typ : Fin 6) (seq : Fin 16) (slots : BitVec 224) (side : BitVec 32),
    judgeFrame none (some (frameOf typ seq slots.toNat side.toNat)) = (some ⟨typ, seq, slots.toNat * 2 ^ 32 + side.toNat⟩, false)

/-- R71: the symbols of a frame: symbol i carries the bits b(2i) and b(2i + 1), Gray-coded on four levels, 00 the lowest, then 01, 11
and 10; the symbols give back the frame. A lane drives the symbols of the frame it sends. -/
def Claims.FrameSymbols : Prop :=
  (∀ fr : BitVec 280, symbolsFrame (frameSymbols fr) = fr ∧
    ∀ i : Fin 140, (fr.getMsbD (2 * i) = false → fr.getMsbD (2 * i + 1) = false → frameSymbol fr i = -3) ∧
      (fr.getMsbD (2 * i) = false → fr.getMsbD (2 * i + 1) = true → frameSymbol fr i = -1) ∧
      (fr.getMsbD (2 * i) = true → fr.getMsbD (2 * i + 1) = true → frameSymbol fr i = 1) ∧
      (fr.getMsbD (2 * i) = true → fr.getMsbD (2 * i + 1) = false → frameSymbol fr i = 3)) ∧
  ∀ (s : State) (l : Nat) (fr : BitVec 280), (s.lane l).tx = some fr → laneDrives s l = some (frameSymbols fr)

/-- Frames of the stage link: what a received frame does, what is sent, that a frame read back is the frame sent, and its symbols: `Claims.UplinkFrames`, `Claims.RunSamples`, `Claims.RunFrames`, `Claims.DownlinkFrames`, `Claims.FramesReadBack` and `Claims.FrameSymbols` together. -/
def Obligations.StageLinkFrames : Prop := Claims.UplinkFrames ∧ Claims.RunSamples ∧ Claims.RunFrames ∧ Claims.DownlinkFrames ∧ Claims.FramesReadBack ∧ Claims.FrameSymbols

/-- R99, R480: the timers of training. On a stage lane the end of IDLE begins LOCK; the timer of LOCK, NEGOTIATE, MEASURE or the last
state fails the attempt with code 1, 2, 7 or 6, back to IDLE where fewer than eight have failed in a row; the end of BACKOFF begins a
new attempt. A cascade lane, numbered from 12 on, leaves IDLE and BACKOFF likewise. -/
def Claims.TrainingTimers : Prop :=
  ∀ (s : State) (l : Fin 12) (k : Fin 4), s.pwr.core = true →
    let b := slB l
    let lane : Fin 16 := ⟨l.val, by omega⟩
    let cas : Fin 16 := ⟨12 + k.val, by omega⟩
    (laneState s l = 1 →
      ∃ t, exec (.trainIdleEnd lane) s = .next (finish s t) ∧ RegsTo s t [(b, F.SL_STATUS_STATE, 2)] ∧ t.mem = s.mem ∧
        Upd s.lane t.lane l { s.lane l with good := 0, measN := 0 }) ∧
    (∀ p ∈ [(2, 1), (3, 2), (4, 7), (5, 6)], laneState s l = p.1 → (s.lane l).fails < 7 → s.flag b F.SL_HUB_STAT_BUSY = false →
      ∃ t, exec (.trainTimeout lane) s = .next (finish s t) ∧ t.mem = s.mem ∧ t.reports = s.reports ∧
        RegsTo s t [(b, F.SL_STATUS_TRAIN_FAILS, min 255 (s.fld b F.SL_STATUS_TRAIN_FAILS + 1)), (b, F.SL_STATUS_LAST_FAIL, p.2),
          (b, F.SL_STATUS_STATE, 1), (b, F.SL_STATUS_VERSION, 0), (b, F.SL_STATUS_SIDE_UP, 0)] ∧
        (t.lane l).fails = (s.lane l).fails + 1 ∧ (t.lane l).waiting = [] ∧ (t.lane l).sent = [] ∧ (t.lane l).rx = [] ∧
        ∀ j, j ≠ l.val → t.lane j = s.lane j) ∧
    (laneState s l = 7 → s.flag b F.SL_HUB_STAT_BUSY = false →
      ∃ t, exec (.backoffEnd lane) s = .next (finish s t) ∧ t.mem = s.mem ∧
        RegsTo s t [(b, F.SL_STATUS_STATE, 1), (b, F.SL_STATUS_VERSION, 0), (b, F.SL_STATUS_SIDE_UP, 0)]) ∧
    (casState s k = 1 → ∃ t, exec (.trainIdleEnd cas) s = .next (finish s t) ∧ RegsTo s t [(casB + 4 * k, F.CAS_LANE01_STATE, 2)] ∧ t.mem = s.mem) ∧
    (casState s k = 7 → ∃ t, exec (.backoffEnd cas) s = .next (finish s t) ∧ RegsTo s t [(casB + 4 * k, F.CAS_LANE01_STATE, 1)] ∧ t.mem = s.mem)

/-- R104, R98, R95: a lane in RUN that is lost reports SL_LOSS with its cause and, with AUTO_RETRAIN, begins a new attempt; a
millisecond of tracking moves T_DN by at most a tick toward what M_NOW gives; a TIME packet that is due joins the packets waiting. -/
def Claims.LaneRuns : Prop :=
  ∀ (s : State) (l : Fin 12), s.pwr.core = true → laneState s l = 6 →
    let b := slB l
    let x := s.lane l
    let rt := s.fld b F.SL_LAT_TRACK_M_NOW - 640 - s.fld b F.SL_LAT_MEAS_D_TURN
    let want := tDnOf s l rt
    let now := s.fld b F.SL_LAT_CAL_T_DN
    (x.loss ≠ 0 → s.flag b F.SL_CTRL_AUTO_RETRAIN = true → s.flag b F.SL_STATUS_TRIP_PENDING = false → s.portFelt = [] → s.flag b F.SL_HUB_STAT_BUSY = false →
      ∃ t, exec (.slLoss l) s = .next (finish s t) ∧ t.mem = s.mem ∧ (t.lane l).loss = 0 ∧
        RegsTo s t [(b, F.SL_CNT_EVENTS_LOSSES, min 255 (s.fld b F.SL_CNT_EVENTS_LOSSES + 1)), (b, F.SL_STATUS_STATE, 1),
          (b, F.SL_STATUS_VERSION, 0), (b, F.SL_STATUS_SIDE_UP, 0)] ∧
        t.reports = s.reports ++ [⟨1, l, K.SL_LOSS, kindSev K.SL_LOSS, 0, x.loss % 2 ^ 32⟩]) ∧
    ((driftOf s l).natAbs ≤ s.fld b F.SL_LAT_TRACK_DRIFT_LIMIT → (driftOf s l).natAbs ≤ 320 →
      ∃ t, exec (.latencyTrackStep l) s = .next (finish s t) ∧ t.mem = s.mem ∧
        RegsTo s t [(b, F.SL_LAT_CAL_T_DN, if now < want then now + 1 else if want < now then now - 1 else now)] ∧
        Upd s.lane t.lane l { x with drifted := false }) ∧
    (∃ t, exec (.timePacketSend l) s = .next (finish s t) ∧ Upd s.lane t.lane l { x with waiting := x.waiting ++ [⟨7, 0, 0, []⟩] } ∧ SameRegs s t)

/-- R84, R106: the host's writes to a lane. GO queues an access to the stage end's registers on a lane in RUN, and gives result 5 on one
that is not; EN = 0 stops a lane that is not in RUN, EN = 1 and RETRAIN begin an attempt, and ABORT halts the lane; the chosen version holds until the
next training begins (R101). -/
def Claims.LaneControl : Prop :=
  ∀ (s : State) (m : Master) (l : Fin 12),
    let b := slB l
    let x := s.lane l
    (∀ (write : Bool) (count : Fin 8), Accepts s m (b + R.SL_HUB_CMD) (BitVec.ofNat 32 (1 + 2 * b2n write + 16 * count)) → s.flag b F.SL_HUB_STAT_BUSY = false →
      ∃ t, exec (.hubAccessGo m l write count) s = .next (finish s t) ∧ t.mem = s.mem ∧
        (laneState s l ≠ 6 → RegsTo s t [(b, F.SL_HUB_CMD_COUNT, count), (b, F.SL_HUB_CMD_WRITE, b2n write), (b, F.SL_HUB_STAT_RESULT, 5)] ∧ t.lanes = s.lanes) ∧
        (laneState s l = 6 → RegsTo s t [(b, F.SL_HUB_CMD_COUNT, count), (b, F.SL_HUB_CMD_WRITE, b2n write), (b, F.SL_HUB_STAT_BUSY, 1)] ∧
          Upd s.lane t.lane l { x with
            accs := x.accs ++ [⟨true, write, s.fld b F.SL_HUB_ADDR_ADDR, count + 1⟩]
            waiting := x.waiting ++ [if write
              then ⟨1, 0, s.fld b F.SL_HUB_ADDR_ADDR, (List.range (count + 1)).map (fun k => s.rd (b + R.SL_HUB_DATA + 4 * k))⟩
              else ⟨2, 0, s.fld b F.SL_HUB_ADDR_ADDR, [BitVec.ofNat 32 (min (count + 1) 7)]⟩] })) ∧
    (laneState s l ≠ 6 → s.flag b F.SL_HUB_STAT_BUSY = false →
      (Accepts s m b (fset (s.kept b) F.SL_CTRL_EN 0) → s.fld b F.SL_CTRL_EN = 1 →
        ∃ t, exec (.slEn m l false) s = .next (finish s t) ∧ t.mem = s.mem ∧
          RegsTo s t [(b, F.SL_CTRL_EN, 0), (b, F.SL_STATUS_STATE, 0), (b, F.SL_STATUS_SIDE_UP, 0)]) ∧
      (Accepts s m b (fset (s.kept b) F.SL_CTRL_EN 1) → s.fld b F.SL_CTRL_EN = 0 →
        ∃ t, exec (.slEn m l true) s = .next (finish s t) ∧ t.mem = s.mem ∧ (t.lane l).fails = 0 ∧
          RegsTo s t [(b, F.SL_CTRL_EN, 1), (b, F.SL_STATUS_STATE, 1), (b, F.SL_STATUS_VERSION, 0), (b, F.SL_STATUS_SIDE_UP, 0)]) ∧
      (Accepts s m b (fset (s.kept b) F.SL_CTRL_RETRAIN 1) → s.fld b F.SL_CTRL_EN = 1 →
        ∃ t, exec (.slRetrain m l) s = .next (finish s t) ∧ t.mem = s.mem ∧ (t.lane l).fails = 0 ∧
          RegsTo s t [(b, F.SL_STATUS_STATE, 1), (b, F.SL_STATUS_VERSION, 0), (b, F.SL_STATUS_SIDE_UP, 0)]) ∧
      (Accepts s m b (fset (s.kept b) F.SL_CTRL_ABORT 1) → s.fld b F.SL_CTRL_EN = 1 →
        ∃ t, exec (.slAbort m l) s = .next (finish s t) ∧ t.mem = s.mem ∧
          RegsTo s t [(b, F.SL_STATUS_STATE, 8), (b, F.SL_STATUS_SIDE_UP, 0)]))

/-- Stage lanes: training, drift, loss and the lane commands: `Claims.TrainingTimers`, `Claims.LaneRuns` and `Claims.LaneControl` together. -/
def Obligations.StageLanes : Prop := Claims.TrainingTimers ∧ Claims.LaneRuns ∧ Claims.LaneControl

/-- R88, R84, R85, R89, R94, R102, R133, R134: what a packet at the head of a lane's received packets does. STATUS page 0 gives the
stage end's counts and masks, another page is kept whole; a response to the host's access gives its words and its result, one to the
reading of the common registers the units of the samples; a packet that this end does not take is discarded and counted; IDLE gives
the two status bits. A TRIP is counted at its phase; of kind 3 it latches the phase's felt, of kinds 4, 5, 6 and 0xF it holds the
phase, each reported as HUB_TRIP; that another kind is only counted is the model's choice (log entry 158). -/
def Claims.SidePackets : Prop :=
  ∀ (s : State) (l : Fin 12) (p : SidePkt) (rest : List SidePkt), s.pwr.core = true →
    let b := slB l
    let x := s.lane l
    let errs := (p.word 3).toNat % 65536
    let more := (errs + 65536 - x.slotErrs) % 65536
    (x.rx = p :: rest → p.cls = 6 → p.arg % 16 ≠ 0 →
      ∃ t, exec (.statusPage l) s = .next (finish s t) ∧ SameRegs s t ∧
        Upd s.lane t.lane l { x with rx := rest, pages := x.pages.filter (fun q => q.1 != p.arg % 16) ++ [(p.arg % 16, p.body)] }) ∧
    (x.rx = p :: rest → p.cls = 6 → p.arg % 16 = 0 →
      ∃ t, exec (.statusPage l) s = .next (finish s t) ∧ t.mem = s.mem ∧
        RegsTo s t [(b, F.SL_CNT_DN_COUNT, (p.word 0).toNat), (b, F.SL_CNT_SAMPLE_COUNT, min (2 ^ 32 - 1) (s.fld b F.SL_CNT_SAMPLE_COUNT + more)),
          (b, F.SL_STATUS_HUB_LATCH, b2n ((p.word 1).toNat % 65536 != 0))] ∧
        Upd s.lane t.lane l { x with rx := rest, latchMask := (p.word 1).toNat % 65536, tripMask := (p.word 1).toNat / 65536,
                                     temp := (p.word 2).toNat % 65536, slotErrs := errs }) ∧
    (x.rx = p :: rest → p.cls = 3 →
      let code := bits (p.word 0).toNat 3 0
      let data := p.body.drop 1
      ∃ t, exec (.regRsp l) s = .next (finish s t) ∧ t.mem = s.mem ∧
        (x.accs = [] → Upd s.lane t.lane l { x with rx := rest } ∧ SameRegs s t) ∧
        ∀ a as, x.accs = a :: as →
          (a.host = true → Upd s.lane t.lane l { x with rx := rest, accs := as } ∧
            t.fld b F.SL_HUB_STAT_BUSY = 0 ∧ t.fld b F.SL_HUB_STAT_RESULT = code ∧
            (a.write = true ∨ code ≠ 0 → RegsTo s t [(b, F.SL_HUB_STAT_BUSY, 0), (b, F.SL_HUB_STAT_RESULT, code)]) ∧
            (a.write = false → code = 0 → (∀ k w, k < 7 → data[k]? = some w → t.rd (b + R.SL_HUB_DATA + 4 * k) = w) ∧
              ∀ q, q ≠ b + F.SL_HUB_STAT_BUSY.off → (∀ k, k < min 7 data.length → q ≠ b + R.SL_HUB_DATA + 4 * k) → t.rd q = s.rd q)) ∧
          (a.host = false → SameRegs s t ∧ Upd s.lane t.lane l (if code = 0 ∧ 4 ≤ data.length
            then { x with rx := rest, accs := as, iLsb := data.getD 2 0#32, vLsb := data.getD 3 0#32, common := true }
            else { x with rx := rest, accs := as }))) ∧
    (x.rx = p :: rest → 10 ≤ p.cls ∨ p.cls = 1 ∨ p.cls = 2 ∨ p.cls = 7 ∨ (p.cls = 9 ∧ (p.arg / 4096 = 1 ∨ 4 ≤ p.arg / 4096)) ∨
        (p.cls = 5 ∧ 7 ≤ bits p.arg 11 8) ∨ ((p.cls = 4 ∨ p.cls = 5) ∧ s.fld b F.SL_STATUS_VERSION = 1 ∧ 0 < bits p.arg 15 14) →
      ∃ t, exec (.reservedPacket l) s = .next (finish s t) ∧ t.mem = s.mem ∧ Upd s.lane t.lane l { x with rx := rest } ∧
        RegsTo s t [(b, F.SL_CNT_RETX_DISCARDED, min 65535 (s.fld b F.SL_CNT_RETX_DISCARDED + 1))]) ∧
    (∀ a, x.idle = some a →
      ∃ t, exec (.sideIdle l) s = .next (finish s t) ∧ t.mem = s.mem ∧ Upd s.lane t.lane l { x with idle := none } ∧
        RegsTo s t [(b, F.SL_STATUS_HUB_SAFE, a % 2), (b, F.SL_STATUS_HUB_LATCH, a / 2 % 2)]) ∧
    (x.rx = p :: rest → p.cls = 8 →
      let kind := bits p.arg 11 8
      let n := 16 * l.val + bits p.arg 15 12
      let ph := phsB n
      let count := min (2 ^ 32 - 1) (s.fld ph F.PHS_CNT_TRIP_COUNT + 1)
      let told : Msg := ⟨1, l, K.HUB_TRIP, kindSev K.HUB_TRIP, 0, bits p.arg 15 12 * 2 ^ 12 + kind * 2 ^ 8⟩
      ∃ t, exec (.trip l) s = .next (finish s t) ∧ t.mem = s.mem ∧ Upd s.lane t.lane l { x with rx := rest } ∧
        t.fld b F.SL_STATUS_TRIP_PENDING = 0 ∧ t.fld ph F.PHS_CNT_TRIP_COUNT = count ∧
        (kind ∉ [3, 4, 5, 6, 15] → t.reports = s.reports ∧
          RegsTo s t [(b, F.SL_STATUS_TRIP_PENDING, 0), (ph, F.PHS_CNT_TRIP_COUNT, count)]) ∧
        (kind ∈ [4, 5, 6, 15] → t.fld ph F.PHS_STATUS_TRIPPED = 1 ∧ t.fld ph F.PHS_LF_INFO_VALID = 1 ∧ t.reports = s.reports ++ [told]) ∧
        (kind = 3 → ∀ f, phaseFelt s n = some f → feltDefined s f = true → feltState s f ≠ 11 →
          feltState t f = 11 ∧ t.fld (feltB f) F.FELT_CTRL_EN = 0 ∧ t.fld (feltB f) F.FELT_STATUS_STOP_CAUSE = 5 ∧
          (∀ q ∈ feltPhases s f, t.fld (phsB q) F.PHS_STATUS_LATCHED = 1 ∧ (t.phase q).latchTx = true) ∧
          t.reports = s.reports ++ [told, ⟨2, n, K.PHS_OV, kindSev K.PHS_OV, 0, 256 + bits p.arg 15 12⟩]) ∧
        (kind = 3 → phaseFelt s n = none → t.reports = s.reports ++ [told] ∧ t.felts = s.felts))

/-- R85, R89, R90, R91, R92, R106, R167, R518: the rest of the side channel. A segment of a PD message joins those before it, in order
and of one SOP, the last one hands the message to its port, and one out of order discards the message; a retraining request begins a new attempt; a
RESYNC empties every list of the channel; a timeout sends again what is not acknowledged, and the eighth in a row gives the channel up
with a RESYNC of this end. LATCH_STATE shows a phase as latched, with its felt in over-voltage latch; read as clear, it confirms the
clearing of a felt that waits for this lane. -/
def Claims.SideControl : Prop :=
  ∀ (s : State) (l : Fin 12) (p : SidePkt) (rest : List SidePkt), s.pwr.core = true →
    let b := slB l
    let x := s.lane l
    let unsent := ∀ k, k < 4 → (s.port (4 * l + k)).cur = none
    (x.rx = p :: rest → p.cls = 9 → p.arg / 4096 = 2 → s.flag b F.SL_HUB_STAT_BUSY = false →
      (laneState s l = 6 → s.flag b F.SL_STATUS_TRIP_PENDING = false ∧ unsent) →
      ∃ t, exec (.retrainReq l) s = .next (finish s t) ∧ t.mem = s.mem ∧
        RegsTo s t [(b, F.SL_STATUS_STATE, 1), (b, F.SL_STATUS_VERSION, 0), (b, F.SL_STATUS_SIDE_UP, 0)] ∧ (t.lane l).rx = []) ∧
    (x.rx = p :: rest → p.cls = 9 → p.arg / 4096 = 0 →
      ∃ t, exec (.resync l) s = .next (finish s t) ∧ t.mem = s.mem ∧
        (unsent → (t.lane l).waiting = []) ∧ (t.lane l).sent = [] ∧ (t.lane l).again = [] ∧ (t.lane l).rx = [] ∧ (t.lane l).nextSeq = 0 ∧ (t.lane l).ackOut = 15 ∧ (t.lane l).resync = false) ∧
    (x.sent ≠ [] → x.timeouts < 7 →
      ∃ t, exec (.sideRetxTimeout l) s = .next (finish s t) ∧ t.mem = s.mem ∧
        Upd s.lane t.lane l { x with again := x.sent, timeouts := x.timeouts + 1 } ∧
        RegsTo s t [(b, F.SL_CNT_RETX_RETX, min 65535 (s.fld b F.SL_CNT_RETX_RETX + x.sent.length))]) ∧
    (x.sent ≠ [] → 7 ≤ x.timeouts → s.flag b F.SL_HUB_STAT_BUSY = false → unsent →
      ∃ t, exec (.sideRetxTimeout l) s = .next (finish s t) ∧ t.mem = s.mem ∧
        Upd s.lane t.lane l { x with nextSeq := 0, ackOut := 15, waiting := [], sent := [], again := [], timeouts := 0, rxPart := none,
                                     rx := [], idle := none, pdIn := [], accs := [], resync := true } ∧
        RegsTo s t [(b, F.SL_CNT_EVENTS_SIDE_FAILS, min 255 (s.fld b F.SL_CNT_EVENTS_SIDE_FAILS + 1))] ∧
        t.reports = s.reports ++ [⟨1, l, K.SL_SIDE_FAIL, kindSev K.SL_SIDE_FAIL, 0, 0⟩]) ∧
    (x.rx = p :: rest → p.cls = 9 → p.arg / 4096 = 3 → (∀ g, g < 96 → l.val ∉ (s.felt g).clearing) →
      ∃ t, exec (.latchState l) s = .next (finish s t) ∧ t.mem = s.mem ∧ (t.lane l).latchMask = (p.word 0).toNat % 65536 ∧
        t.fld b F.SL_STATUS_HUB_LATCH = b2n ((p.word 0).toNat % 65536 != 0) ∧ t.reports = s.reports ∧
        ∀ j, j < 16 → t.fld (phsB (16 * l + j)) F.PHS_STATUS_LATCHED =
            (if bit (p.word 0).toNat j then 1 else s.fld (phsB (16 * l + j)) F.PHS_STATUS_LATCHED) ∧
          (bit (p.word 0).toNat j = true → ∀ f, phaseFelt s (16 * l + j) = some f → feltState t f = 11 ∧
            (feltState s f ≠ 11 → t.fld (feltB f) F.FELT_CTRL_EN = 0 ∧ t.fld (feltB f) F.FELT_STATUS_STOP_CAUSE = 5))) ∧
    (x.rx = p :: rest → p.cls = 9 → p.arg / 4096 = 3 → (p.word 0).toNat % 65536 = 0 →
      ∃ t, exec (.latchState l) s = .next (finish s t) ∧ t.mem = s.mem ∧ (t.lane l).latchMask = 0 ∧ t.fld b F.SL_STATUS_HUB_LATCH = 0 ∧
        ∀ f ∈ laneFelts s l, l.val ∈ (s.felt f).clearing → (t.felt f).clearing = setDel (s.felt f).clearing l ∧
          feltState t f = (if setDel (s.felt f).clearing l.val = [] then 1 else feltState s f) ∧
          (setDel (s.felt f).clearing l.val = [] → ∀ q ∈ feltPhases s f, t.fld (phsB q) F.PHS_STATUS_LATCHED = 0)) ∧
    (x.rx = p :: rest → p.cls = 4 →
      let port := bits p.arg 15 14
      let sop := bits p.arg 13 12
      let seg := bits p.arg 11 8
      let part := (p.body.flatMap wordBytes).take (bits p.arg 5 0)
      let others := x.pdIn.filter (fun e => e.port != port)
      let joined := if seg = 0 then some part else match x.pdIn.find? (fun e => e.port == port) with
        | none => none
        | some e => if e.seg = seg ∧ e.sop = sop then some (e.bytes ++ part) else none
      port = 0 ∨ s.fld b F.SL_STATUS_VERSION = 2 →
      (joined = none → ∃ t, exec (.pdMsg l) s = .next (finish s t) ∧ SameRegs s t ∧ Upd s.lane t.lane l { x with rx := rest, pdIn := others }) ∧
      ∀ m, joined = some m →
        (bit p.arg 7 = false → ∃ t, exec (.pdMsg l) s = .next (finish s t) ∧ SameRegs s t ∧
          Upd s.lane t.lane l { x with rx := rest, pdIn := others ++ [⟨port, sop, seg + 1, m⟩] }) ∧
        (bit p.arg 7 = true → exec (.pdMsg l) s =
          .next (finish s (portArrive (s.setLane l { x with rx := rest, pdIn := others }) (4 * l + port) sop m))))

/-- The side channel of the stage link: packets received, acknowledgements, resends and RESYNC: `Claims.SidePackets` and `Claims.SideControl` together. -/
def Obligations.SideChannel : Prop := Claims.SidePackets ∧ Claims.SideControl

/-- R158, R159: a start. A write of EN = 1 to a stopped felt that passes every check asks the admission budget, or waits where a hold,
a fault, an interlock or a force-off blocks it; one that fails a check leaves EN at 0 with the check's code and START_FAIL. When
nothing blocks a waiting start any longer it asks; a start ramp that has reached its target ends in the running state. -/
def Claims.FeltStarts : Prop :=
  ∀ (s : State) (m : Master) (f : Fin 96) (test bell : Bool),
    let b := feltB f
    let c := startCheck s f
    let word := fset (fset (fset (s.kept b) F.FELT_CTRL_EN 1) F.FELT_CTRL_TEST (b2n test)) F.FELT_CTRL_AT_BELL (b2n bell)
    (Accepts s m b word → feltState s f = 1 → s.fld b F.FELT_CTRL_EN = 0 → startBarred s = false →
      ∃ t, exec (.feltStart m f test bell) s = .next (finish s t) ∧ t.mem = s.mem ∧
        t.fld b F.FELT_CTRL_TEST = b2n test ∧ t.fld b F.FELT_CTRL_AT_BELL = b2n bell ∧ t.fld b F.FELT_STATUS_RETRIES = 0 ∧
        (c = 0 → feltState t f = (if feltBlocked s f then 2 else 3) ∧ t.fld b F.FELT_CTRL_EN = 1 ∧ t.fld b F.FELT_RESULT_CODE = 0) ∧
        (c ≠ 0 → feltState t f = 1 ∧ t.fld b F.FELT_CTRL_EN = 0 ∧ t.fld b F.FELT_RESULT_CODE = c ∧ t.fld b F.FELT_EVT_START_FAIL = 1)) ∧
    (s.pwr.core = true → feltState s f = 2 → feltBlocked s f = false → (s.felt f).restart = true → startBarred s = false → c = 0 →
      ∃ t, exec (.startWaitClear f) s = .next (finish s t) ∧ t.mem = s.mem ∧ feltState t f = 3) ∧
    (s.pwr.core = true → feltState s f = 2 → feltBlocked s f = false → (s.felt f).restart = false →
      ∃ t, exec (.startWaitClear f) s = .next (finish s t) ∧ t.mem = s.mem ∧ RegsTo s t [(b, F.FELT_STATUS_STATE, 3)] ∧ t.felts = s.felts ∧
        t.adm.asked = s.adm.asked ++ [⟨0, s.position, f, feltF s f F.FELT_ADMIT_CHARGE, feltF s f F.FELT_ADMIT_PRIO,
          waitMs (feltF s f F.FELT_ADMIT_WAIT_WAIT), 100 * waitMs (feltF s f F.FELT_ADMIT_WAIT_WAIT), s.adm.nextId⟩]) ∧
    (s.pwr.core = true → feltState s f = 5 → (s.felt f).ramp ≠ 0 → rampReached s f = true →
      ∃ t, exec (.startRampEnd f) s = .next (finish s t) ∧ t.mem = s.mem ∧ RegsTo s t [(b, F.FELT_STATUS_STATE, 6)] ∧
        Upd s.felt t.felt f { s.felt f with ramp := 0 })

/-- R161, R162, R163: a stop. EN = 0 of a running felt begins the stop profile with cause 1; its end, and its timeout with STOP_TMO,
leave the felt stopped with STOPPED, one that an interlock holds off with EN = 1 waiting for its restart (R408); ABORT leaves a
switching felt stopped at once with cause 2. TEST changes in a stopped felt and in no other. -/
def Claims.FeltStops : Prop :=
  ∀ (s : State) (m : Master) (f : Fin 96),
    let b := feltB f
    let x := s.felt f
    let rest := if f.val ∈ s.ilkHold ∧ s.flag b F.FELT_CTRL_EN = true then 2 else 1
    (Accepts s m b (fset (s.kept b) F.FELT_CTRL_EN 0) → s.fld b F.FELT_CTRL_EN = 1 → feltState s f = 5 ∨ feltState s f = 6 →
      feltF s f F.FELT_STOP_MODE ≠ 1 → s.fld b F.FELT_WF_STAT_STATE = 0 →
      ∃ t, exec (.feltStop m f) s = .next (finish s t) ∧ t.mem = s.mem ∧
        RegsTo s t [(b, F.FELT_CTRL_EN, 0), (b, F.FELT_STATUS_STOP_CAUSE, 1), (b, F.FELT_STATUS_IN_REG, 0), (b, F.FELT_STATUS_STATE, 7)] ∧
        Upd s.felt t.felt f { x with ramp := 0, stop := if feltMode s f = 1 ∨ feltMode s f = 5 then 1 else 2, rampV := x.vRef, again := false }) ∧
    (s.pwr.core = true → feltState s f = 7 → x.again = false →
      (stopReached s f = true →
        ∃ t, exec (.stopProfileEnd f) s = .next (finish s t) ∧ t.mem = s.mem ∧ feltState t f = rest ∧ t.rd (b + R.FELT_IREF) = 0#32 ∧
          t.fld b F.FELT_STATUS_IN_REG = 0 ∧ t.fld b F.FELT_EVT_STOPPED = 1 ∧ t.fld b F.FELT_STATUS_STOP_CAUSE = s.fld b F.FELT_STATUS_STOP_CAUSE) ∧
      (∃ t, exec (.stopTmo f) s = .next (finish s t) ∧ t.mem = s.mem ∧ feltState t f = rest ∧ t.rd (b + R.FELT_IREF) = 0#32 ∧
          t.fld b F.FELT_EVT_STOPPED = 1 ∧ t.fld b F.FELT_EVT_STOP_TMO = 1)) ∧
    (Accepts s m b (fset (s.kept b) F.FELT_CTRL_ABORT 1) → feltSwitching s f = true →
      ∃ t, exec (.feltAbort m f) s = .next (finish s t) ∧ t.mem = s.mem ∧ feltState t f = 1 ∧ t.fld b F.FELT_CTRL_EN = 0 ∧
        t.fld b F.FELT_STATUS_STOP_CAUSE = 2 ∧ t.fld b F.FELT_EVT_STOPPED = 1 ∧ t.rd (b + R.FELT_IREF) = 0#32) ∧
    (∀ test : Bool, Accepts s m b (fset (s.kept b) F.FELT_CTRL_TEST (b2n test)) → s.fld b F.FELT_CTRL_EN = 1 ∨ feltState s f = 1 →
      ∃ t, exec (.feltTestWrite m f test) s = .next (finish s t) ∧ t.mem = s.mem ∧
        (feltState s f = 1 → s.fld b F.FELT_CTRL_EN = 0 → RegsTo s t [(b, F.FELT_CTRL_TEST, b2n test)]) ∧
        (feltState s f = 6 → s.fld b F.FELT_CTRL_EN = 1 → s.fld b F.FELT_CTRL_TEST ≠ b2n test → RegsTo s t [(b, F.FELT_RESULT_CODE, 11)]))

/-- Starting and stopping a felt: `Claims.FeltStarts` and `Claims.FeltStops` together. -/
def Obligations.FeltStartAndStop : Prop := Claims.FeltStarts ∧ Claims.FeltStops

/-- R164, R166: a felt's breaker. A microsecond whose mean current lies at or under I_BRK takes the breaker's time back by one, one above
it adds eight, and the trip point turns the felt OFF for a retry; a retry starts the felt again and counts; IN_REG that has held
forgets the count; BRK_CLEAR leaves a latched felt stopped, and is refused with code 14 otherwise. -/
def Claims.FeltBreaker : Prop :=
  ∀ (s : State) (m : Master) (f : Fin 96),
    let b := feltB f
    let x := s.felt f
    let time := if fLt (feltW s f R.FELT_I_BRK) (fMean x.brkI.reverse) then x.brkT + 8 else x.brkT - 1
    let limit := 8 * max 1 (feltF s f F.FELT_BRK_T_BRK)
    (s.pwr.core = true → feltSwitching s f = true → x.brkI ≠ [] →
      ∃ t, exec (.breakerTick f) s = .next (finish s t) ∧ t.mem = s.mem ∧
        (time < limit → SameRegs s t ∧ Upd s.felt t.felt f { x with brkI := [], brkT := time, sumsUs := [] }) ∧
        (limit ≤ time → s.fld b F.FELT_CTRL_EN = 1 → s.fld b F.FELT_STATUS_RETRIES < feltF s f F.FELT_BRK2_N_RETRY →
          feltState t f = 8 ∧ t.fld b F.FELT_STATUS_STOP_CAUSE = 3 ∧ t.fld b F.FELT_EVT_BRK_TRIP = 1 ∧
          t.reports = s.reports ++ [⟨3, f, K.FELT_BREAKER, kindSev K.FELT_BREAKER, 0, s.fld b F.FELT_STATUS_RETRIES % 2 ^ 32⟩])) ∧
    (s.pwr.core = true → feltState s f = 8 → startBarred s = false → startCheck s f = 0 →
      ∃ t, exec (.breakerRetry f) s = .next (finish s t) ∧ t.mem = s.mem ∧ feltState t f = (if feltBlocked s f then 2 else 3) ∧
        t.fld b F.FELT_STATUS_RETRIES = min 15 (s.fld b F.FELT_STATUS_RETRIES + 1) ∧ (t.felt f).recovery = true) ∧
    (s.pwr.core = true → s.flag b F.FELT_STATUS_IN_REG = true →
      ∃ t, exec (.breakerCountClear f) s = .next (finish s t) ∧ RegsTo s t [(b, F.FELT_STATUS_RETRIES, 0)] ∧
        { t with regs := [] } = { s with regs := [] }) ∧
    (Accepts s m b (fset (s.kept b) F.FELT_CTRL_BRK_CLEAR 1) →
      (feltState s f = 9 → s.fld b F.FELT_CTRL_EN = 0 →
        ∃ t, exec (.brkClear m f) s = .next (finish s t) ∧ t.mem = s.mem ∧
          RegsTo s t [(b, F.FELT_STATUS_RETRIES, 0), (b, F.FELT_STATUS_STATE, 1)] ∧ Upd s.felt t.felt f { x with brkLat := false }) ∧
      (feltState s f ≠ 9 → feltState s f ≠ 7 →
        ∃ t, exec (.brkClear m f) s = .next (finish s t) ∧ RegsTo s t [(b, F.FELT_RESULT_CODE, 14)] ∧ { t with regs := [] } = { s with regs := [] }))

/-- R167, R169, R170, R171: the latch's clear and the sense lines. OV_CLEAR of a latched felt whose voltages lie under PHS_V_OV asks
every lane of the felt to unlatch, and is refused with code 12 otherwise; without the lanes' answers it ends with code 13. The lead
resistance of a start is the quotient of the means; a sense drop too small raises SENSE_OPEN and goes back to local sense: the frames
that wait for the next update count with their v_force. -/
def Claims.FeltLatchAndSense : Prop :=
  ∀ (s : State) (m : Master) (f : Fin 96) (dv i : Word),
    let b := feltB f
    let x := s.felt f
    let drop := fAbs (fSub (s.rd (b + R.FELT_MEAS_VFORCE)) (s.rd (b + R.FELT_MEAS_VFB)))
    (Accepts s m b (fset (s.kept b) F.FELT_CTRL_OV_CLEAR 1) →
      (feltState s f = 11 → s.fld b F.FELT_CTRL_EN = 0 → feltCovered s f = false → (∀ l ∈ feltLanes s f, laneState s l = 6) →
        (∀ p ∈ feltPhases s f, fLt (s.rd (phsB p + R.PHS_MEAS_V)) (phsCoW s p R.PHS_V_OV) = true) →
        ∃ t, exec (.ovClear m f) s = .next (finish s t) ∧ t.mem = s.mem ∧ RegsTo s t [(b, F.FELT_RESULT_CODE, 0)] ∧
          (t.felt f).clearing = feltLanes s f ∧ ∀ p ∈ feltPhases s f, (t.phase p).latchTx = false) ∧
      (feltState s f ≠ 11 → feltState s f ≠ 7 →
        ∃ t, exec (.ovClear m f) s = .next (finish s t) ∧ RegsTo s t [(b, F.FELT_RESULT_CODE, 12)] ∧ { t with regs := [] } = { s with regs := [] })) ∧
    (s.pwr.core = true → x.clearing ≠ [] →
      ∃ t, exec (.ovClearTimeout f) s = .next (finish s t) ∧ t.mem = s.mem ∧ RegsTo s t [(b, F.FELT_RESULT_CODE, 13)] ∧
        Upd s.felt t.felt f { x with clearing := [] }) ∧
    (s.pwr.core = true → feltRemote s f = true → feltSwitching s f = true → x.learned = false → x.regSeen = true → senseCurrent s f i = true →
      fLt 0#32 (feltW s f R.FELT_R_MIN) = false →
      ∃ t, exec (.leadResistanceLearned f dv i) s = .next (finish s t) ∧ t.mem = s.mem ∧
        RegsTo s t [(b, ⟨R.FELT_R_LEAD, 31, 0⟩, (fDiv dv i).toNat)] ∧ Upd s.felt t.felt f { x with learned := true }) ∧
    (s.pwr.core = true → feltRemote s f = true → x.learned = true → senseCurrent s f x.iAvg = true →
      fLt drop (fDiv (fAbs (fMul (s.rd (b + R.FELT_R_LEAD)) x.iAvg)) (fOfNat 4)) = true →
      ∃ t, exec (.senseOpen f) s = .next (finish s t) ∧ t.mem = s.mem ∧ Upd s.felt t.felt f { x with senseOpen := true, vAcc := x.vfAcc } ∧
        RegsTo s t [(b, F.FELT_STATUS_SENSE_LOCAL, 1), (b, F.FELT_EVT_SENSE_OPEN, 1)] ∧
        t.reports = s.reports ++ [⟨3, f, K.FELT_SENSE, kindSev K.FELT_SENSE, 0, (s.rd (b + R.FELT_R_LEAD)).toNat % 2 ^ 32⟩])

/-- A felt breaker, its over-voltage latch and its sense lines: `Claims.FeltBreaker` and `Claims.FeltLatchAndSense` together. -/
def Obligations.FeltProtection : Prop := Claims.FeltBreaker ∧ Claims.FeltLatchAndSense

/-- R114: the current loop on the samples of one current frame of a switching felt: the mean of the frames of its window, the error, the
integrator unless it is held or would drive the duty further past its bounds, and the duty within its bounds. -/
def Obligations.CurrentLoop : Prop :=
  ∀ (s : State) (f : Fin 96) (q : Nat), s.pwr.core = true → feltSwitching s f = true →
    let ps := feltPhases s f
    let lp := leadPhase s f
    let x := s.felt f
    (s.phase lp).iSeq = some q → frameDone s f true q = true → (∀ p ∈ ps, (s.phase p).iBad = false) →
    let sums := feltIsum s f :: x.sums.take (loopWindow x.period ps.length - 1)
    let avg := fMean sums.reverse
    let e := fSub x.iOut avg
    let vbus := if phsCo s lp F.PHS_PWM_FF_SRC = 1 then phsCoW s lp R.PHS_VBUS_FIX else s.rd (busB + R.BUS_MEAS_V)
    let ff := match feltVout s f with
      | none => 0#32
      | some v => if fPos vbus && fFinite vbus then fClamp (fDiv v vbus) 0#32 fOne else 0#32
    let hi := fRatio (phsCo s lp F.PHS_DUTY_LIM_D_MAX) 65536
    let lo := fRatio (phsCo s lp F.PHS_DUTY_LIM_D_MIN) 65536
    let kp := fAdd ff (fMul (phsCoW s lp R.PHS_KP) e)
    let raw := fAdd kp x.x
    let xm := phsCoW s lp R.PHS_XMAX
    let held := (fLt hi raw = true ∧ fPos e = true) ∨ (fLt raw lo = true ∧ fLt e 0#32 = true) ∨ integratorHeld s f = true
    let integ := if held then x.x else fClamp (fAdd x.x (fMul (phsCoW s lp R.PHS_KI) e)) (fNeg xm) xm
    ∃ t, exec (.currentLoopUpdate f) s = .next (finish s t) ∧ t.mem = s.mem ∧ (t.felt f).sums = sums ∧ (t.felt f).iAvg = avg ∧
      (t.felt f).x = integ ∧ (t.felt f).d = fClamp (fAdd kp integ) lo hi ∧ (t.felt f).iOut = x.iOut ∧ (t.felt f).vRef = x.vRef

/-- R120, R121, R123, R130, R136, R139: what the felt's other timers and SYNC_IN bring. The surge windows and the hold-off end; the first
edge at SYNC_IN dates the next, its absence forgets them; a glide ends at its period; a write of 1 to VALID arms the last-fault capture
again; an update of a felt that does not switch shows the mean voltage of its frames. -/
def Claims.FeltTimers : Prop :=
  ∀ (s : State) (m : Master) (f : Fin 96), s.pwr.core = true →
    let b := feltB f
    let x := s.felt f
    let lp := leadPhase s f
    let st := s.fld (phsB lp) F.PHS_SYNC_STAT_STATE
    (∃ t, exec (.surgeEnd f) s = .next (finish s t) ∧ Upd s.felt t.felt f { x with surge := false } ∧ SameRegs s t) ∧
    (∃ t, exec (.surgeHoldoffEnd f) s = .next (finish s t) ∧ Upd s.felt t.felt f { x with surgeHold := false } ∧ SameRegs s t) ∧
    (∀ (d : BitVec 40), (∀ g, g < 96 → feltSwitching s g = false) →
      (∃ t, exec (.syncInEdge d) s = .next (finish s t) ∧ SameRegs s t ∧ t.felts = s.felts ∧
        (s.sync.last = none → t.sync = ⟨some ((64 * s.lineNs : Nat) : Int), []⟩) ∧
        (∀ u, s.sync.last = some u → s.sync.ivals.length < 16 → t.sync = ⟨some (u + d.toNat), d.toNat :: s.sync.ivals⟩)) ∧
      (∃ t, exec .syncInTimeout s = .next (finish s t) ∧ SameRegs s t ∧ t.felts = s.felts ∧ t.sync = ⟨none, []⟩)) ∧
    (feltSwitching s f = true → st = 3 ∨ st = 4 →
      ∃ t, exec (.periodGlideEnd f) s = .next (finish s t) ∧ t.mem = s.mem ∧
        Upd s.felt t.felt f { x with period := x.glideP, glide := 0, roundT := x.roundT + x.glideE, glideE := 0 } ∧
        RegsTo s t [(phsB lp, F.PHS_SYNC_STAT_STATE, if st = 3 then 2 else 0), (phsB lp, F.PHS_SYNC_STAT_PERIOD_NOW, x.glideP)]) ∧
    (∀ p : Fin 192, Accepts s m (phsB p + R.PHS_LF_INFO) 0x80000000#32 →
      ∃ t, exec (.phsLfRearm m p) s = .next (finish s t) ∧ RegsTo s t [(phsB p, F.PHS_LF_INFO_VALID, 0)] ∧ { t with regs := [] } = { s with regs := [] }) ∧
    (feltSwitching s f = false → feltDefined s f = true → max 1 (feltF s f F.FELT_LOOP_DEC) ≤ x.vCnt → x.vAcc ≠ [] →
      (∀ n, portFelt? s n ≠ some f.val) → x.next = none →
      ∃ t, exec (.feltLoopUpdate f) s = .next (finish s t) ∧ t.mem = s.mem ∧ (t.felt f).vFb = fMean x.vAcc ∧ (t.felt f).vAcc = [] ∧ (t.felt f).vCnt = 0 ∧
        RegsTo s t [(b, ⟨R.FELT_MEAS_VFB, 31, 0⟩, (fMean x.vAcc).toNat), (b, ⟨R.FELT_MEAS_VFORCE, 31, 0⟩, (x.vOut.getD (fMean x.vAcc)).toNat),
          (b, ⟨R.FELT_MEAS_I, 31, 0⟩, x.iAvg.toNat), (b, ⟨R.FELT_MEAS_P, 31, 0⟩, (fMul (fMean x.vAcc) x.iAvg).toNat)])

/-- R121, R122, R123: an edge at SYNC_IN as a switching felt takes it whose source it is and whose lead phase no other such felt has.
An edge outside 5 % of the mean of 16 intervals, and the absence of one, lose it: SYNC_LOST, and a glide of 64 cycles to the period of
PHS_PWM. Else a locked felt takes the period of the last 16 intervals, and at each DIV-th edge the phase error, to be removed in the
next MUL rounds; a felt that is not locked begins, once the intervals qualify, a glide of 64 cycles to that period and to the edge in
phase. -/
def Claims.SyncFollows : Prop :=
  ∀ (s : State) (f : Fin 96), s.pwr.core = true → feltSwitching s f = true →
    (∀ g, g < 96 → g ≠ f.val → feltSwitching s g = true → leadPhase s g ≠ leadPhase s f) →
    let lp := leadPhase s f
    let x := s.felt f
    let st := s.fld (phsB lp) F.PHS_SYNC_STAT_STATE
    let mul := phsCo s lp F.PHS_PWM_MUL + 1
    let div := phsCo s lp F.PHS_PWM_DIV + 1
    let away := { x with glide := 64, glideP := pwmPeriod s lp, glideE := 0, syncE := 0, syncN := 0 }
    (∀ (u : Int) (d : BitVec 40), s.sync.last = some u → phsCo s lp F.PHS_PWM_SRC = 1 →
      let lost := s.sync.ivals.length = 16 ∧ (syncMean s.sync.ivals + syncMean s.sync.ivals / 20 < d.toNat ∨
        d.toNat + syncMean s.sync.ivals / 20 < syncMean s.sync.ivals)
      let iv := if lost then [d.toNat] else (d.toNat :: s.sync.ivals).take 16
      let v := { s with sync := ⟨some (u + d.toNat), iv⟩ }
      let per := (2 * iv.sum * div + 16 * mul) / (2 * (16 * mul))
      let edge := u + d.toNat + (phsCo s lp F.PHS_SYNC_SYNC_DLY : Int)
      ∃ t, exec (.syncInEdge d) s = .next (finish s t) ∧ t.mem = s.mem ∧ t.sync = v.sync ∧
        (∀ g, g < 96 → feltSwitching s g = false → t.felt g = s.felt g) ∧
        (lost → st = 2 ∨ st = 3 → t.felt f = away ∧ t.fld (phsB lp) F.PHS_SYNC_STAT_STATE = 4 ∧
          ⟨2, lp, K.SYNC_LOST, kindSev K.SYNC_LOST, 0, d.toNat % 2 ^ 32⟩ ∈ t.reports) ∧
        (¬ lost → st = 2 → t.felt f = { x with
          period := per
          syncK := if div ≤ x.syncK + 1 then 0 else x.syncK + 1
          syncE := if div ≤ x.syncK + 1 then syncError edge x.roundT x.round mul x.period else x.syncE
          syncN := if div ≤ x.syncK + 1 then mul else x.syncN }) ∧
        (¬ lost → st = 0 ∨ st = 1 ∨ st = 4 → syncQualifies v f = true →
          t.felt f = { x with glide := 64, glideP := per, glideE := syncError edge (x.roundT + glideSpan x.period per 64) (x.round + 64) mul per, syncK := 0 } ∧
          t.fld (phsB lp) F.PHS_SYNC_STAT_STATE = 3) ∧
        (¬ lost → st = 0 ∨ st = 1 → syncQualifies v f = false → t.felt f = x ∧ t.fld (phsB lp) F.PHS_SYNC_STAT_STATE = 1)) ∧
    (st = 2 ∨ st = 3 →
      ∃ t, exec .syncInTimeout s = .next (finish s t) ∧ t.mem = s.mem ∧ t.sync = ⟨none, []⟩ ∧ t.felt f = away ∧
        t.fld (phsB lp) F.PHS_SYNC_STAT_STATE = 4 ∧
        ⟨2, lp, K.SYNC_LOST, kindSev K.SYNC_LOST, 0, s.sync.ivals.headD 0 % 2 ^ 32⟩ ∈ t.reports)

/-- The timers of a felt and SYNC_IN: `Claims.FeltTimers` and `Claims.SyncFollows` together. -/
def Obligations.FeltTimers : Prop := Claims.FeltTimers ∧ Claims.SyncFollows

/-- R151, R152, R157: regulation and its ends. A running felt within its band and with no slew sets IN_REG with its event; one out of it
clears it with OUT_REG; a discharged battery ends its mode with BATT_DONE and cause 7, a lost leader ends the follower's with TRACK_LOST
and cause 8, each with EN cleared. -/
def Claims.RegulationEnds : Prop :=
  ∀ (s : State) (f : Fin 96), s.pwr.core = true →
    let b := feltB f
    (feltRuns s f = true → s.flag b F.FELT_STATUS_IN_REG = false → noSlew s f = true → s.fld b F.FELT_STATUS_ALLOW_LIM = 0 → inBand s f = true →
      ∃ t, exec (.inRegSet f) s = .next (finish s t) ∧ t.mem = s.mem ∧ Upd s.felt t.felt f { s.felt f with regSeen := true } ∧
        RegsTo s t [(b, F.FELT_STATUS_IN_REG, 1), (b, F.FELT_EVT_IN_REG, 1)]) ∧
    (s.flag b F.FELT_STATUS_IN_REG = true → noSlew s f = true → inBand s f = false →
      ∃ t, exec (.outReg f) s = .next (finish s t) ∧ t.mem = s.mem ∧ t.felts = s.felts ∧
        RegsTo s t [(b, F.FELT_STATUS_IN_REG, 0), (b, F.FELT_EVT_OUT_REG, 1)]) ∧
    (feltRuns s f = true → battTaper s f = false → battEmpty s f = true →
      ∃ t, exec (.battDone f) s = .next (finish s t) ∧ t.fld b F.FELT_CTRL_EN = 0 ∧ t.fld b F.FELT_EVT_BATT_DONE = 1 ∧
        t.fld b F.FELT_STATUS_STOP_CAUSE = 7 ∧ (feltF s f F.FELT_STOP_MODE ≠ 1 → feltState t f = 7)) ∧
    (feltRuns s f = true → leaderLost s f = true →
      ∃ t, exec (.trackLost f) s = .next (finish s t) ∧ t.fld b F.FELT_CTRL_EN = 0 ∧ t.fld b F.FELT_EVT_TRACK_LOST = 1 ∧
        t.fld b F.FELT_STATUS_STOP_CAUSE = 8 ∧ (feltF s f F.FELT_STOP_MODE ≠ 1 → feltState t f = 7))

/-- R140, R143, R146 to R150, R156, R159, R161: an update of a switching felt whose list does not run and no port of which follows
v_fb, with the coefficients as they stand. v_ref moves to the set's voltage, the tracked one or the end of its ramp, and no further than
V_MAX; the compensator's output is clamped and kept; i_ref follows the mode's rule and any ramp, within the limits; QUAD and ALLOW_LIM
show what determined it; IREF and VREF show both references. -/
def Claims.FeltUpdate : Prop :=
  ∀ (s : State) (f : Fin 96) (t : SpSet), s.pwr.core = true → feltDefined s f = true → feltSwitching s f = true → feltState s f ≠ 13 →
    let b := feltB f
    let x := s.felt f
    let dec := max 1 (feltF s f F.FELT_LOOP_DEC)
    dec ≤ x.vCnt → x.vAcc ≠ [] → x.set = some t → x.next = none → s.fld b F.FELT_WF_STAT_STATE = 0 → x.portTrack = false →
    x.stop = 0 ∨ x.ramp = 0 → (∀ n, portFelt? s n ≠ some f.val) →
    let w := fun (o : Nat) => s.rd (b + o)
    let u := feltLatch s f
    let vfb := fMean x.vAcc
    let vd := fMax vfb (w R.FELT_CP_VMIN)
    let up := slewTo x.rampV t.v (w R.FELT_START_SLEW) dec
    let down := fMin (slewTo x.rampV (w R.FELT_V_OFF) (w R.FELT_STOP_SLEW) dec) (w R.FELT_V_MAX)
    let vref := fMin (if x.stop = 1 then down
      else if x.ramp = 1 then (if feltTracks u f then fMin up (trackV u f t.v) else up)
      else slewTo x.vRef (trackV u f t.v) t.slewV dec) (w R.FELT_V_MAX)
    let iref := slewTo x.iRef t.i t.slewI dec
    let e := fSub vref vfb
    let c := fun (k : Nat) => w (R.FELT_BANK + 0x20 * s.fld b F.FELT_STATUS_BANK + 4 * k)
    let y := fAdd (fSub (fSub (fSub (fAdd (fAdd (fAdd (fMul (c 0) e) (fMul (c 1) (x.eh.getD 0 0#32))) (fMul (c 2) (x.eh.getD 1 0#32)))
      (fMul (c 3) (x.eh.getD 2 0#32))) (fMul (c 4) (x.yh.getD 0 0#32))) (fMul (c 5) (x.yh.getD 1 0#32))) (fMul (c 6) (x.yh.getD 2 0#32))) 0#32
    let raw := if t.mode = 2 then (if fLt iref 0#32 then fMax iref y else fMin iref y)
      else if t.mode = 3 then fNeg (fDiv vfb t.x)
      else if t.mode = 4 then (if fPos vd then fDiv t.x vd else 0#32)
      else if t.mode = 7 then fNeg (fAbs iref)
      else y
    let discharge := x.stop = 1 ∧ s.fld b F.FELT_STOP_MODE = 2
    let oneWay := ((t.mode = 1 ∨ t.mode = 6) ∨ x.stop = 1) ∧ ¬ discharge
    let source := fMin (let a := fMin (fMin t.iSrc (w R.FELT_I_SRC_MAX)) (perVolt (w R.FELT_P_SRC_MAX) vd)
      if t.mode = 6 then fMin a (fAbs iref) else a) (x.portHi.getD fInf)
    let sink := fMin (fMin (fMin t.iSnk (w R.FELT_I_SNK_MAX)) (perVolt (w R.FELT_P_SNK_MAX) vd)) (x.portLo.getD fInf)
    let aSrc := perVolt (w R.FELT_ALLOW_SRC) vd
    let aSnk := perVolt (w R.FELT_ALLOW_SNK) vd
    let hi := if t.mode = 3 ∨ t.mode = 7 then 0#32 else fMin source aSrc
    let low := if oneWay then 0#32 else fNeg (fMin sink aSnk)
    let noBias := x.ramp ≠ 0 ∧ s.fld b F.FELT_LOOP_PREBIAS_SINK = 0
    let lo := if noBias then 0#32 else low
    let useY := (t.mode = 1 ∨ t.mode = 2 ∨ t.mode = 5 ∨ t.mode = 6) ∧ x.stop ≠ 2
    let ramp := slewTo x.rampV (fClamp raw low hi) t.slewI dec
    let wanted := if x.stop = 2 then (if fIsZero t.slewI then 0#32 else slewTo x.iOut 0#32 t.slewI dec)
      else if x.ramp = 2 then ramp else raw
    let out := fClamp wanted lo hi
    let inV := useY ∧ fEq raw y = true ∧ fEq out y = true
    let h := f256 (s.fld b F.FELT_LOOP_QUAD_HYST) (w R.FELT_I_RANGE)
    let sinks := if fLt h x.iAvg then false else if fLt x.iAvg (fNeg h) then true else x.sink
    let limited := (fLe aSrc source = true ∧ t.mode ≠ 3 ∧ t.mode ≠ 7 ∧ fLt hi raw = true ∧ fEq out hi = true) ∨
      (fLe aSnk sink = true ∧ ¬ oneWay ∧ ¬ noBias ∧ fLt raw lo = true ∧ fEq out lo = true)
    ∃ t', exec (.feltLoopUpdate f) s = .next (finish s t') ∧ t'.mem = s.mem ∧
      (t'.felt f).vRef = vref ∧ (t'.felt f).iRef = iref ∧ (t'.felt f).iRaw = raw ∧ (t'.felt f).iOut = out ∧
      (t'.felt f).eh = (if useY then e else fSub t.v vfb) :: x.eh.take 2 ∧ (t'.felt f).yh = (if useY then fClamp y lo hi else out) :: x.yh.take 2 ∧
      (t'.felt f).sink = sinks ∧ t'.rd (b + R.FELT_IREF) = out ∧ t'.rd (b + R.FELT_VREF) = vref ∧ t'.rd (b + R.FELT_MEAS_VFB) = vfb ∧
      t'.fld b F.FELT_STATUS_QUAD = 2 * b2n sinks + (if inV then 0 else 1) ∧ t'.fld b F.FELT_STATUS_ALLOW_LIM = (if limited then 1 else 0) ∧
      ∀ g, g ≠ f.val → t'.felt g = s.felt g

/-- The regulation of a felt: `Claims.FeltUpdate` and `Claims.RegulationEnds` together. -/
def Obligations.FeltRegulation : Prop := Claims.FeltUpdate ∧ Claims.RegulationEnds

/-- R144, R145, R153: the sources of a felt's set. The write of word 0 of the host's or the engine's set takes the set up where it is
valid, and raises SET_REFUSED and keeps the one before where it is not; a write of FELT_SRC that selects the host's set offers it for
the next update; a strobe of the BLK pins selects the block that both samples show, and one within the dead time selects none. -/
def Obligations.FeltSources : Prop :=
  ∀ (s : State) (m : Master) (f : Fin 96) (v : Word),
    let b := feltB f
    let x := s.felt f
    let new := fun (a : Nat) => { setAt s a with ctrl := v }
    (Accepts s m (b + R.FELT_SP_HOST) v →
      ∃ t, exec (.setpointSetWrite m f false v) s = .next (finish s t) ∧ t.mem = s.mem ∧ (t.felt f).eng = x.eng ∧
        ((new (b + R.FELT_SP_HOST)).valid = true → (t.felt f).host = some (new (b + R.FELT_SP_HOST)) ∧
          (feltSel s f = 0 → (t.felt f).next = some (new (b + R.FELT_SP_HOST)))) ∧
        ((new (b + R.FELT_SP_HOST)).valid = false → (t.felt f).host = x.host ∧ t.fld b F.FELT_EVT_SET_REFUSED = 1)) ∧
    (Accepts s m (b + R.FELT_SP_ENG) v → x.portHold = false →
      ∃ t, exec (.setpointSetWrite m f true v) s = .next (finish s t) ∧ t.mem = s.mem ∧ (t.felt f).host = x.host ∧
        ((new (b + R.FELT_SP_ENG)).valid = true → (t.felt f).eng = some (new (b + R.FELT_SP_ENG))) ∧
        ((new (b + R.FELT_SP_ENG)).valid = false → (t.felt f).eng = x.eng ∧ t.fld b F.FELT_EVT_SET_REFUSED = 1)) ∧
    (∀ h, x.host = some h → h.valid = true → Accepts s m (b + R.FELT_SRC) v → bits v.toNat 2 0 = 0 →
      bits v.toNat 7 4 = s.fld b F.FELT_SRC_BLK_SEL → feltSel s f = 1 →
      ∃ t, exec (.feltSrcWrite m f v) s = .next (finish s t) ∧ t.mem = s.mem ∧ feltSel t f = 0 ∧ Upd s.felt t.felt f { x with next := some h, nextBlk := none }) ∧
    (∀ k j : BitVec 4, s.pwr.core = true →
      (∃ t, exec (.blkStrobe k j true) s = .next (finish s t) ∧ SameRegs s t ∧ t.felts = s.felts) ∧
      (s.flag b F.FELT_SRC_PIN_EN = true → feltDefined s f = true →
        ∃ t, exec (.blkStrobe k k false) s = .next (finish s t) ∧ t.mem = s.mem ∧ (t.felt f).blk = k.toNat))

/-- R178, R179, R180: cabinet time. A read of TIME_NS latches SEC[31:0]. A GO of MODE 0 on a device without brims steps the time to the
staged one, the offset by a whole multiple of 80 ns, the nearest, a tie toward zero, and the residue by a slew; a GO of MODE 1 keeps the
staged time for the next bell; an NS of 10^9 or more, and a MODE 0 in a cabinet, set WR_ERR and do nothing. The slew's end has moved the
time by the residue. -/
def Claims.CabinetTime : Prop :=
  ∀ (s : State) (m : Master),
    let b := timeB
    let staged := timeOfWords (s.rd (b + R.TIME_WR_SEC)) (s.rd (b + R.TIME_WR_NS))
    let sound := s.fld b F.TIME_WR_NS_NS < 1000000000 ∧ s.time.counting = true
    let d : Int := (staged : Int) - (s.cabNs : Int)
    (Readable s m (b + R.TIME_NS) →
      ∃ t, exec (.timeNsRead m) s = .next (finish s t) ∧ SameRegs s t ∧ t.snap m 4 = timeW0 s.cabNs ∧
        (masterRead m (b + R.TIME_NS) s).1 = timeW1 s.cabNs) ∧
    (Accepts s m (b + R.TIME_APPLY) 1#32 →
      (sound → s.cabinetSize ≤ 1 → s.isBrim = false → s.time.residue = 0 →
        ∃ t, exec (.timeApplyNow m) s = .next (finish s t) ∧ t.mem = s.mem ∧ t.time.pendApply = none ∧ 373 ∈ t.pulses ∧
          RegsTo s t [(b, F.TIME_STATUS_APPLY_PENDING, 0), (b, F.TIME_STATUS_SLEWING, b2n (t.time.residue != 0))] ∧
          t.timeOfs = s.timeOfs + (d - t.time.residue) ∧ (d - t.time.residue) % 80 = 0 ∧ 2 * t.time.residue.natAbs ≤ 80 ∧
          (2 * t.time.residue.natAbs = 80 → (d - t.time.residue).natAbs ≤ d.natAbs)) ∧
      (¬ sound ∨ 1 < s.cabinetSize →
        ∃ t, exec (.timeApplyNow m) s = .next (finish s t) ∧ RegsTo s t [(b, F.TIME_STATUS_WR_ERR, 1)] ∧
          { t with regs := [] } = { s with regs := [] })) ∧
    (Accepts s m (b + R.TIME_APPLY) 3#32 →
      (sound →
        ∃ t, exec (.timeApplyAtBell m) s = .next (finish s t) ∧ t.mem = s.mem ∧ t.time = { s.time with pendApply := some staged } ∧
          RegsTo s t [(b, F.TIME_STATUS_APPLY_PENDING, 1)]) ∧
      (¬ sound →
        ∃ t, exec (.timeApplyAtBell m) s = .next (finish s t) ∧ RegsTo s t [(b, F.TIME_STATUS_WR_ERR, 1)] ∧ t.time = s.time)) ∧
    (s.pwr.core = true → s.isBrim = false →
      ∃ t, exec .residueSlewEnd s = .next (finish s t) ∧ t.mem = s.mem ∧ RegsTo s t [(b, F.TIME_STATUS_SLEWING, 0)] ∧
        t.lineNs = ((s.lineNs : Int) + s.time.residue).toNat ∧ t.time = { s.time with residue := 0 })

/-- R184 to R187: the reference of the time PLL. The first lock makes the time count, locked to the reference of PLL A. A qualified
reference of higher priority than the one in use, and the loss of the one in use while another is usable, begin a glide to it; the
glide's end locks; with no reference left the time is held over, and the limit of a holdover is reported. A glide to the cascade removes
the phase error that TIME_ALIGN_ERR shows, and one that is turned elsewhere has removed at most its own (the model's reading, log entry
55). -/
def Claims.TimeReferences : Prop :=
  ∀ (s : State) (r : Fin 3), s.pwr.core = true →
    let b := timeB
    let qual : Fld := if r.val = 0 then F.TIME_STATUS_QUAL_CAS else if r.val = 1 then F.TIME_STATUS_QUAL_REFIN else F.TIME_STATUS_QUAL_XTAL
    let enabled : Bool := if r.val = 0 then s.isBrim && s.flag b F.TIME_REF_CFG_CAS_EN else
      if r.val = 1 then s.flag b F.TIME_REF_CFG_REFIN_EN else s.flag b F.TIME_REF_CFG_XTAL_EN
    let left := [0, 1, 2].filter (fun k => k != r.val && refUsable s k)
    let limit := max 1 (min 3600 (s.fld b F.TIME_HOLD_LIMIT))
    let toCas : Int := -((s.rd (b + R.TIME_ALIGN_ERR)).toInt.tdiv 64)
    let moved := fun t : State => ((t.lineNs : Int) - (s.lineNs : Int)).natAbs ≤ s.time.glide.natAbs
    (∀ refIn : Bool, s.time.counting = false →
      ∃ t, exec (.timePllLock refIn) s = .next (finish s t) ∧ t.mem = s.mem ∧ t.time = { s.time with counting := true } ∧
        t.fld b F.TIME_STATUS_STATE = 1 ∧ t.fld b F.TIME_STATUS_REF = (if refIn then 1 else 2) ∧
        t.fld b (if refIn then F.TIME_STATUS_QUAL_REFIN else F.TIME_STATUS_QUAL_XTAL) = 1) ∧
    (s.time.counting = true → enabled = true → s.fld b F.TIME_STATUS_REF ≠ r.val → (∀ k : Fin 3, k < r → refUsable s k.val = false) →
      (r.val = 0 → casState s (s.fld casB F.CAS_STATUS_UPSTREAM) = 6) →
      ∃ t, exec (.refQualify r) s = .next (finish s t) ∧ t.mem = s.mem ∧ t.time = { s.time with glide := if r.val = 0 then toCas else 0 } ∧ moved t ∧
        t.fld b qual = 1 ∧ t.fld b F.TIME_STATUS_STATE = 2 ∧ t.fld b F.TIME_STATUS_REF = r.val) ∧
    (s.time.counting = true → s.flag b qual = true → s.fld b F.TIME_STATUS_REF = r.val → s.fld b F.TIME_STATUS_STATE ≠ 3 →
      ∃ t, exec (.timeRef r) s = .next (finish s t) ∧ t.mem = s.mem ∧ moved t ∧ t.fld b qual = 0 ∧
        ⟨4, 0, K.TIME_REF, kindSev K.TIME_REF, 0, r.val⟩ ∈ t.reports ∧
        (∀ k, left.head? = some k → t.fld b F.TIME_STATUS_STATE = 2 ∧ t.fld b F.TIME_STATUS_REF = k ∧
          t.time = { s.time with glide := if k = 0 then toCas else 0 }) ∧
        (left.head? = none → t.time = { s.time with glide := 0, holdAt := t.lineNs } ∧
          t.fld b F.TIME_STATUS_STATE = 3 ∧ t.fld b F.TIME_STATUS_REF = 3 ∧ t.fld b F.TIME_STATUS_HOLD_S = 0)) ∧
    (∀ ppb : BitVec 32, s.fld b F.TIME_STATUS_STATE = 2 →
      ∃ t, exec (.timeGlideEnd ppb) s = .next (finish s t) ∧ t.mem = s.mem ∧ t.time = { s.time with glide := 0 } ∧
        t.lineNs = ((s.lineNs : Int) + s.time.glide).toNat ∧ t.fld b F.TIME_STATUS_STATE = 1 ∧ t.rd (b + R.TIME_FREQ) = ppb) ∧
    (s.fld b F.TIME_STATUS_STATE = 3 → s.fld b F.TIME_STATUS_HOLD_S < limit →
      ∃ t, exec .timeHoldover s = .next (finish s t) ∧ t.mem = s.mem ∧ t.lineNs = max s.lineNs (s.time.holdAt + limit * 1000000000) ∧ RegsTo s t [(b, F.TIME_STATUS_HOLD_S, limit)] ∧
        t.reports = s.reports ++ [⟨4, 0, K.TIME_HOLDOVER, kindSev K.TIME_HOLDOVER, 0, limit⟩])

/-- R189, R190: alignment of the brims. The crown sends each brim a probe with its time; a probe's answer gives the one-way latency, half
of the round trip less the brim's turnaround and the forwarding on the way, plus the brim's TIME_CAS_ASYM, a signed 16-bit value that no
packet brings (log entry 16), held within that half either way, and the brim is sent its offset error; the brim shows the error in
TIME_ALIGN_ERR. A glide to the cascade has then that error to remove, a brim that joined takes the whole of it, by steps of 80 ns, or by
a glide where it has joined before and a felt of its runs, and any other moves by a tick. -/
def Claims.TimeProbes : Prop :=
  ∀ (s : State) (p : CasPkt) (q : List CasPkt) (mc : BitVec 32), s.pwr.core = true →
    let w := fun k => p.body.getD k 0#32
    let half := (mc.toNat - (w 3).toNat - (w 0).toNat) / 2
    let sent := sparseGet (fun _ => 0) s.time.probes p.src
    let err : Int := 64 * ((timeOfWords (w 1) (w 2) : Int) - (sent : Int)) - (half : Int)
    let shown := (w 0).toInt
    let rejoins := s.time.joined = true ∧ ∃ f, f < 96 ∧ feltSwitching s f = true
    let gliding := s.fld timeB F.TIME_STATUS_STATE = 2 ∧ s.fld timeB F.TIME_STATUS_REF = 0
    (s.isCrown = true →
      ∃ t, exec .probeSend s = .next (finish s t) ∧ SameRegs s t ∧
        t.casOut = s.casOut ++ (brimPositions s).map (fun d => ⟨2, s.position, d, false, 0, [timeW0 s.cabNs, timeW1 s.cabNs, 0#32]⟩) ∧
        ∀ d ∈ brimPositions s, sparseGet (fun _ => 0) t.time.probes d = s.cabNs) ∧
    (s.casRx = p :: q → p.cls = 2 → p.sub = 1 → (w 3).toNat + (w 0).toNat ≤ mc.toNat →
      ∃ (t : State) (asym : Int), exec (.probeAnswer mc) s = .next (finish s t) ∧ t.mem = s.mem ∧ t.casRx = q ∧ -32768 ≤ asym ∧ asym ≤ 32767 ∧
        -(half : Int) ≤ asym ∧ asym ≤ half ∧
        t.casOut = s.casOut ++ [⟨2, s.position, p.src, false, 2, [BitVec.ofInt 32 (err - asym)]⟩] ∧
        sparseGet (fun _ => 0) t.time.lats p.src = ((half : Int) + asym).toNat ∧ RegsTo s t [(timeB, F.TIME_BELL_LEAD_L_MIN, bellLead t)]) ∧
    (s.casRx = p :: q → p.cls = 2 → p.sub = 2 →
      (s.time.joinAt = none →
        ∃ t, exec .probeError s = .next (finish s t) ∧ t.mem = s.mem ∧ t.casRx = q ∧ t.rd (timeB + R.TIME_ALIGN_ERR) = w 0 ∧
          t.time.goodProbes = (if shown.natAbs ≤ 64 then s.time.goodProbes + 1 else 0) ∧
          (gliding → t.time.glide = -(shown.tdiv 64) ∧ t.lineNs = s.lineNs) ∧
          (¬ gliding → t.time.glide = s.time.glide ∧ t.time.phase = (s.time.phase - shown.sign) % 64 ∧
            t.lineNs = ((s.lineNs : Int) + (s.time.phase - shown.sign) / 64).toNat)) ∧
      (∀ d, s.time.joinAt = some d →
        ∃ t, exec .probeError s = .next (finish s t) ∧ t.mem = s.mem ∧ t.casRx = q ∧ t.rd (timeB + R.TIME_ALIGN_ERR) = w 0 ∧
          t.time.joinAt = none ∧ t.time.joined = true ∧
          (¬ rejoins → t.time.glide = 0 ∧ (t.timeOfs - s.timeOfs) % 80 = 0) ∧
          (rejoins → t.time.glide = -((wideErr d shown).tdiv 64) ∧ t.timeOfs = s.timeOfs ∧ t.lineNs = s.lineNs ∧
            t.fld timeB F.TIME_STATUS_STATE = 2 ∧ t.fld timeB F.TIME_STATUS_REF = 0)))

/-- Cabinet time, its references and its probes: `Claims.CabinetTime`, `Claims.TimeReferences` and `Claims.TimeProbes` together. -/
def Obligations.CabinetTimeAndReferences : Prop := Claims.CabinetTime ∧ Claims.TimeReferences ∧ Claims.TimeProbes

/-- R193: arming and cancelling the bell. A sound bell at or past its lead is pending, and the crown sends it to every brim; without
brims it is acknowledged at once; any other ARM sets REFUSED. CANCEL removes it here and on every brim. A brim takes the crown's bell,
acknowledges it, and drops it again; the crown counts the acknowledgements. -/
def Claims.BellArming : Prop :=
  ∀ (s : State) (m : Master) (p : CasPkt) (q : List CasPkt),
    let b := timeB
    let words := [s.rd (b + R.TIME_BELL_SEC), s.rd (b + R.TIME_BELL_NS)]
    let at_ := timeOfWords (s.rd (b + R.TIME_BELL_SEC)) (s.rd (b + R.TIME_BELL_NS))
    let lead := if s.isCrown then bellLead s else 1000
    let sound := s.time.bell = none ∧ s.fld b F.TIME_BELL_NS_NS < 1000000000 ∧ s.time.counting = true ∧ s.cabNs + lead ≤ at_
    let dropped : List (Nat × Fld × Nat) := [(b, F.TIME_BELL_CTRL_PENDING, 0), (b, F.TIME_BELL_CTRL_ACKED, 0)]
    (Accepts s m (b + R.TIME_BELL_CTRL) 1#32 →
      (sound →
        ∃ t, exec (.bellArm m) s = .next (finish s t) ∧ t.mem = s.mem ∧ t.time = { s.time with bell := some at_, acked := [] } ∧
          RegsTo s t [(b, F.TIME_BELL_CTRL_PENDING, 1), (b, F.TIME_BELL_CTRL_ACKED, b2n (!s.isCrown))] ∧
          t.casOut = s.casOut ++ if s.isCrown then [⟨3, s.position, 0, true, 0, words⟩] else []) ∧
      (¬ sound →
        ∃ t, exec (.bellArm m) s = .next (finish s t) ∧ RegsTo s t [(b, F.TIME_BELL_CTRL_REFUSED, 1)] ∧
          { t with regs := [] } = { s with regs := [] })) ∧
    (Accepts s m (b + R.TIME_BELL_CTRL) 2#32 →
      ∃ t, exec (.bellCancel m) s = .next (finish s t) ∧ t.mem = s.mem ∧ t.time = { s.time with bell := none } ∧ RegsTo s t dropped ∧
        t.casOut = s.casOut ++ if s.isCrown ∧ s.time.bell ≠ none then [⟨3, s.position, 0, true, 1, []⟩] else []) ∧
    (s.pwr.core = true → s.casRx = p :: q → p.cls = 3 →
      (p.sub = 0 → s.cabNs ≤ timeOfWords (p.body.getD 0 0#32) (p.body.getD 1 0#32) →
        ∃ t, exec .bellPacketArm s = .next (finish s t) ∧ t.mem = s.mem ∧ t.casRx = q ∧
          t.time = { s.time with bell := some (timeOfWords (p.body.getD 0 0#32) (p.body.getD 1 0#32)) } ∧
          RegsTo s t [(b, F.TIME_BELL_CTRL_PENDING, 1)] ∧ t.casOut = s.casOut ++ [⟨3, s.position, 0, false, 2, []⟩]) ∧
      (p.sub = 1 →
        ∃ t, exec .bellPacketCancel s = .next (finish s t) ∧ t.mem = s.mem ∧ t.casRx = q ∧ t.time = { s.time with bell := none } ∧
          RegsTo s t dropped) ∧
      (p.sub = 2 → s.isCrown = true → s.time.bell ≠ none →
        ∃ t, exec .bellAck s = .next (finish s t) ∧ t.mem = s.mem ∧ t.casRx = q ∧
          (∀ k, k ∈ t.time.acked ↔ k ∈ s.time.acked ∨ k = p.src) ∧
          RegsTo s t [(b, F.TIME_BELL_CTRL_ACKED, b2n (decide (∀ k ∈ brimPositions s, k ∈ s.time.acked ∨ k = p.src)))]))

/-- R194: the bell rings. COUNT increments, the bell is no longer pending, the timers it names that wait are counting, armed lists take
their origin, the bell line pulses, and LATE tells a ring after the bell time. -/
def Claims.BellRings : Prop :=
  ∀ (s : State) (at_ : Nat), Awake s → s.time.bell = some at_ → s.time.counting = true → s.isCrown = false → s.time.pendApply = none →
    let b := timeB
    ∃ t, exec .bellRing s = .next (finish s t) ∧ t.time.bell = none ∧ 372 ∈ t.pulses ∧
      t.fld b F.TIME_BELL_CTRL_COUNT = (s.fld b F.TIME_BELL_CTRL_COUNT + 1) % 65536 ∧
      t.fld b F.TIME_BELL_CTRL_PENDING = 0 ∧ t.fld b F.TIME_BELL_CTRL_ACKED = 0 ∧
      (at_ < s.cabNs → t.fld b F.TIME_BELL_CTRL_LATE = 1) ∧ (s.cabNs ≤ at_ → t.fld b F.TIME_BELL_CTRL_LATE = s.fld b F.TIME_BELL_CTRL_LATE) ∧
      (∀ n : Fin 32, s.fld (tmrB n) F.TMR_STATUS_STATE = 1 → (s.rd (b + R.TIME_BELL_TMR_LO)).getLsbD n.val = true →
        t.fld (tmrB n) F.TMR_STATUS_STATE = 2) ∧
      (∀ f : Fin 96, s.fld (feltB f) F.FELT_WF_STAT_STATE = 1 → (t.wf f).due = true)

/-- The bell: armed, cancelled and rung: `Claims.BellArming` and `Claims.BellRings` together. -/
def Obligations.Bell : Prop := Claims.BellArming ∧ Claims.BellRings

/-- R199, R204: the control of a waveform list. A START that meets every condition arms the list, at once where START_MODE says so and
for the next bell otherwise; the first condition that fails gives the code of WF_REFUSED. STOP lets a running list end with its point;
ABORT holds a running list where it is and disarms an armed one. -/
def Claims.ListControl : Prop :=
  ∀ (s : State) (m : Master) (f : Fin 96) (v : Word),
    let b := feltB f
    let base := s.fld b F.FELT_WF_BASE_BASE
    let len := s.fld b F.FELT_WF_LEN_LEN
    let code := if feltSel s f ≠ 3 then 1 else if feltMode s f ≠ 1 ∧ feltMode s f ≠ 2 ∧ feltMode s f ≠ 5 then 2
      else if feltState s f ≠ 6 then 3 else if s.hold then 4
      else if s.fld b F.FELT_WF_STAT_STATE = 1 ∨ s.fld b F.FELT_WF_STAT_STATE = 2 then 5
      else if len = 0 ∨ 4096 < len ∨ len ≤ s.fld b F.FELT_WF_LEN_LOOP_IDX then 6
      else if base % 8 ≠ 0 ∨ base < 0x2000000 ∨ 0x2400000 < base + 8 * len then 7
      else if v.getLsbD 4 = true ∧ s.cabinetSize ≠ 1 then 8 else 0
    let kept : List (Nat × Fld × Nat) := [(b, F.FELT_WF_CTRL_LOOPS, (v >>> 16).toNat), (b, F.FELT_WF_CTRL_END, (v >>> 8).toNat % 4),
      (b, F.FELT_WF_CTRL_START_MODE, b2n (v.getLsbD 4))]
    (Accepts s m (b + R.FELT_WF_CTRL) v → v.getLsbD 0 = true → v.getLsbD 1 = false → v.getLsbD 2 = false →
      ∃ t, exec (.listStart m f v) s = .next (finish s t) ∧ t.mem = s.mem ∧
        (code = 0 → RegsTo s t (kept ++ [(b, F.FELT_WF_STAT_STATE, 1), (b, F.FELT_WF_STAT_CODE, 0)]) ∧
          (t.wf f).pts = [] ∧ (t.wf f).due = v.getLsbD 4 ∧ (t.wf f).stopping = false) ∧
        (code ≠ 0 → RegsTo s t (kept ++ [(b, F.FELT_WF_STAT_CODE, code), (b, F.FELT_WF_EVT_WF_REFUSED, 1)]) ∧ t.wf f = s.wf f)) ∧
    (Accepts s m (b + R.FELT_WF_CTRL) (fset (s.kept (b + R.FELT_WF_CTRL)) F.FELT_WF_CTRL_STOP 1) → s.fld b F.FELT_WF_STAT_STATE = 2 →
      ∃ t, exec (.listStop m f) s = .next (finish s t) ∧ SameRegs s t ∧ Upd s.wf t.wf f { s.wf f with stopping := true }) ∧
    (Accepts s m (b + R.FELT_WF_CTRL) (fset (s.kept (b + R.FELT_WF_CTRL)) F.FELT_WF_CTRL_ABORT 1) →
      s.fld b F.FELT_WF_STAT_STATE = 1 ∨ s.fld b F.FELT_WF_STAT_STATE = 2 →
      ∃ t, exec (.listAbort m f) s = .next (finish s t) ∧ t.mem = s.mem ∧ (t.wf f).frozen = true ∧
        RegsTo s t [(b, F.FELT_WF_STAT_STATE, if s.fld b F.FELT_WF_STAT_STATE = 1 then 0 else 3)])

/-- R198, R199, R202: a waveform list runs. At the origin an armed list that still meets the conditions begins with point 0; the end of a
sound point goes on to the next, to LOOP_IDX while passes are left, or to the end, where END 0 holds the last value and END 1 hands the
felt back. A point that arrives, at most 64 ahead of the one in use, is the two words of its place in shared memory. -/
def Claims.ListRuns : Prop :=
  ∀ (s : State) (f : Fin 96) (n : Fin 4096) (p : WfPoint), s.pwr.core = true →
    let b := feltB f
    let x := s.wf f
    let k := s.fld b F.FELT_WF_STAT_POINT
    let left := s.fld b F.FELT_WF_LOOP_LOOPS_LEFT
    let sound := fun j => ∀ y, wfPoint s f j = some y → y.ok = true
    let more := s.fld b F.FELT_WF_CTRL_LOOPS = 0 ∨ left ≠ 0
    (s.fld b F.FELT_WF_STAT_STATE = 1 → x.due = true → wfCheck s f true = 0 → sound 0 →
      ∃ t, exec (.listOrigin f) s = .next (finish s t) ∧ t.mem = s.mem ∧ t.fld b F.FELT_WF_STAT_STATE = 2 ∧ t.fld b F.FELT_WF_STAT_POINT = 0 ∧
        t.fld b F.FELT_WF_LOOP_LOOPS_LEFT = s.fld b F.FELT_WF_CTRL_LOOPS - 1 ∧ t.fld b F.FELT_WF_EVT_WF_START = 1 ∧
        (t.wf f).t = x.org ∧ (t.wf f).due = false ∧ (t.wf f).pts = x.pts ∧
        t.rd (b + R.FELT_WF_ORG_SEC) = timeW0 x.orgC ∧ t.rd (b + R.FELT_WF_ORG_NS) = timeW1 x.orgC) ∧
    (s.fld b F.FELT_WF_STAT_STATE = 2 → wfPoint s f k = some p → x.stopping = false →
      ∃ t, exec (.listPointEnd f) s = .next (finish s t) ∧ t.mem = s.mem ∧
        (k + 1 < s.fld b F.FELT_WF_LEN_LEN → sound (k + 1) →
          t.fld b F.FELT_WF_STAT_STATE = 2 ∧ t.fld b F.FELT_WF_STAT_POINT = (k + 1) % 4096 ∧ t.wf f = { x with t := x.t + p.dur, prev := p.w1 }) ∧
        (s.fld b F.FELT_WF_LEN_LEN ≤ k + 1 → more → s.hold = false → sound (s.fld b F.FELT_WF_LEN_LOOP_IDX) →
          t.fld b F.FELT_WF_STAT_STATE = 2 ∧ t.fld b F.FELT_WF_STAT_POINT = s.fld b F.FELT_WF_LEN_LOOP_IDX % 4096 ∧
          t.fld b F.FELT_WF_LOOP_LOOPS_LEFT = left - 1 ∧ t.wf f = { x with t := x.t + p.dur, prev := p.w1 }) ∧
        (s.fld b F.FELT_WF_LEN_LEN ≤ k + 1 → ¬ more → s.fld b F.FELT_WF_CTRL_END ≤ 1 →
          t.fld b F.FELT_WF_EVT_WF_END = 1 ∧ t.fld b F.FELT_WF_STAT_STATE = (if s.fld b F.FELT_WF_CTRL_END = 1 then 4 else 3) ∧
          (s.fld b F.FELT_WF_CTRL_END = 0 → (t.wf f).frozen = true ∧ (t.wf f).out = p.w1))) ∧
    (wfReads s f n = false → ∃ t, exec (.listPointArrive f n) s = .next (finish s t) ∧ t = s) ∧
    (s.fld b F.FELT_WF_STAT_STATE = 1 ∨ s.fld b F.FELT_WF_STAT_STATE = 2 ∧ k ≠ n → wfReads s f n = true →
      ∃ t, exec (.listPointArrive f n) s = .next (finish s t) ∧ SameRegs s t ∧
        wfPoint t f n = some ⟨s.memWord (s.fld b F.FELT_WF_BASE_BASE + 8 * n), s.memWord (s.fld b F.FELT_WF_BASE_BASE + 8 * n + 4)⟩ ∧
        ∀ j, j ≠ n.val → wfPoint t f j = wfPoint s f j)

/-- R200, R202: an update of a switching felt whose list drives it, with no ramp and no stop profile. The target is the list's value at
the time of the update and ADV, v_ref or in mode 2 the current; where a point is missing it is the value supplied last, before the first
the one it stands at, with WF_UNDERRUN. -/
def Claims.ListSupplies : Prop :=
  ∀ (s : State) (f : Fin 96) (t : SpSet), s.pwr.core = true → feltDefined s f = true → feltSwitching s f = true → feltState s f ≠ 13 →
    let b := feltB f
    let x := s.felt f
    let u := feltLatch s f
    let base := if t.mode = 2 then t.i else t.v
    let given := wfValue u f (s.lineNs + wfAdv u f) base
    max 1 (feltF s f F.FELT_LOOP_DEC) ≤ x.vCnt → x.vAcc ≠ [] → x.set = some t → x.next = none → x.stop = 0 → x.ramp = 0 →
    x.portTrack = false → (∀ n, portFelt? s n ≠ some f.val) → wfDrives u f = true → feltMode s f = t.mode →
    ∃ t', exec (.feltLoopUpdate f) s = .next (finish s t') ∧ t'.mem = s.mem ∧
      (∀ v, given = some v → (t'.wf f).out = v ∧ (t'.wf f).under = false ∧
        (t.mode = 2 → (t'.felt f).iRef = v) ∧ (t.mode ≠ 2 → (t'.felt f).vRef = fMin v (s.rd (b + R.FELT_V_MAX)))) ∧
      (given = none →
        let v := if (s.wf f).fed then (s.wf f).out else if t.mode = 2 then x.iRef else x.vRef
        (t'.wf f).under = true ∧ ((s.wf f).under = false → t'.fld b F.FELT_WF_EVT_WF_UNDERRUN = 1) ∧
        (t.mode = 2 → (t'.felt f).iRef = v) ∧ (t.mode ≠ 2 → (t'.felt f).vRef = fMin v (s.rd (b + R.FELT_V_MAX))))

/-- Waveform lists: start, stop, abort, the running timeline and what it supplies: `Claims.ListControl`, `Claims.ListRuns` and
`Claims.ListSupplies` together. -/
def Obligations.WaveformLists : Prop := Claims.ListControl ∧ Claims.ListRuns ∧ Claims.ListSupplies

/-- R208 to R213: a house channel. A period publishes its means and clears the comparators that have been good; a BUSIN pulse has the peak
code of its power. Its period begins at the next leading edge, a multiple of PERIOD after PHASE. A comparator's trip ends the pulse and is counted; OC reports after OC_CYCLES periods in a row. EN of an AUX or POL
channel asks the admission budget, after the load where one runs (log entry 178), EN = 0 and ABORT take it off with its next period, and a KEEP channel keeps running. A sampled channel
fires a pulse of TON where its sense lies below REG. -/
def Claims.HouseChannels : Prop :=
  ∀ (s : State) (m : Master) (h : Fin 8) (v i : Word),
    let b := hseB h
    let x := s.house h
    let role := houseRole s h
    let ocBad := x.ocNow = true ∨ fLe (curDacMv (s.fld b F.HSE_THR_OC)) (fAbs i) = true
    let ovBad := x.ovNow = true ∨ fLe (volDacV (dacCode s h 2)) v = true
    let good : List (Nat × Fld × Nat) := (if ocBad then [] else [(b, F.HSE_STATUS_OC, 0)]) ++ if ovBad then [] else [(b, F.HSE_STATUS_OV, 0)]
    let judged : HouseX := { x with ocNow := false, ovNow := false, ocN := if x.ocNow then x.ocN else 0, sampled := s.flag b F.HSE_CTRL_SAMPLED && houseLocal s h }
    let edge := houseEdge s h
    let per := max 500 (min 10000 (s.fld b F.HSE_PWM_PERIOD))
    let amps := fMax 0#32 (fDiv (s.rd (busB + R.BUS_P_IN)) s.bus.vSrc)
    let code := fToIntRne (fDiv (fDiv amps (s.rd (b + R.HSE_SCALE_I))) (fRatio 15 100))
    let ton := s.fld b F.HSE_PWM_DMAX * per / 256
    let pulse := fun n : Nat => if min n ton < 20 then 0 else min n ton
    let tick := max s.lineNs (x.tick + 1000 * max 1 (min 1024 (s.fld b F.HSE_SAMP_TICK)))
    let row := x.ocN + 1
    let full := max 1 (s.fld b F.HSE_PROT_OC_CYCLES) ≤ row
    let ocs := min 65535 (s.fld b F.HSE_CNT_OC + 1)
    let wait := s.fld b F.HSE_ADMIT_WAIT_WAIT
    (s.lineNs ≤ edge ∧ x.lead < edge ∧ (edge : Int) % per = ((16 * s.fld b F.HSE_PWM_PHASE : Nat) : Int) % per ∧ edge ≤ max s.lineNs (x.lead + 1) + per) ∧
    (s.pwr.core = true → role ≠ 0 → x.off = false → x.sampled = false →
      (houseOn s h = false →
        ∃ t, exec (.housePeriod h v i) s = .next (finish s t) ∧ t.mem = s.mem ∧ t.lineNs = edge ∧ Upd s.house t.house h { judged with lead := edge, tick := if judged.sampled then edge else x.tick } ∧
          RegsTo s t ([(b, F.HSE_MEAS_V_VALUE, (fMul v (s.rd (b + R.HSE_SCALE_V))).toNat),
            (b, F.HSE_MEAS_I_VALUE, (fMul i (s.rd (b + R.HSE_SCALE_I))).toNat)] ++ good)) ∧
      (houseOn s h = true → role = 1 → ¬ ovBad →
        fFinite (fDiv (fDiv amps (s.rd (b + R.HSE_SCALE_I))) (fRatio 15 100)) = true →
        0 ≤ code → code ≤ 1000 →
        ∃ t, exec (.housePeriod h v i) s = .next (finish s t) ∧ t.mem = s.mem ∧
          t.fld b F.HSE_STATUS_DAC_PK = code.toNat / 4 ∧ Upd s.house t.house h { judged with lead := edge, dac := code.toNat, ton := if code = 0 then 0 else pulse ton })) ∧
    (s.pwr.core = true → role ≠ 0 → houseOn s h = true →
      (x.ocNow = false →
        ∃ t, exec (.hseOcTrip h) s = .next (finish s t) ∧ t.mem = s.mem ∧ RegsTo s t [(b, F.HSE_STATUS_OC, 1), (b, F.HSE_CNT_OC, ocs)] ∧
          Upd s.house t.house h { x with ocNow := true, ton := 0, ocN := if full then 0 else row } ∧
          t.reports = s.reports ++ if full then [⟨5, h, K.HSE_OC, kindSev K.HSE_OC, 0, ocs⟩] else []) ∧
      (x.sampled = true → ∃ t, exec (.hseOvTrip h) s = .next (finish s t) ∧ t = s) ∧
      (x.sampled = false → s.fld b F.HSE_STATUS_OV = 0 →
        ∃ t, exec (.hseOvTrip h) s = .next (finish s t) ∧ t.mem = s.mem ∧
          RegsTo s t [(b, F.HSE_STATUS_OV, 1), (b, F.HSE_CNT_OV, min 65535 (s.fld b F.HSE_CNT_OV + 1))] ∧
          Upd s.house t.house h { x with ovNow := true, ton := if role = 3 then x.ton else 0 } ∧
          t.reports = s.reports ++ if role = 3 then [] else [⟨5, h, K.HSE_OV, kindSev K.HSE_OV, 0, 0⟩])) ∧
    (Accepts s m b (fset (s.kept b) F.HSE_CTRL_EN 1) → houseLocal s h = true → houseOn s h = false → houseBlocked s h = false →
      admWaits s 3 h = false → startBarred s = false →
      ∃ t, exec (.hseEn m h true) s = .next (finish s t) ∧ t.mem = s.mem ∧ RegsTo s t [(b, F.HSE_CTRL_EN, 1)] ∧
        t.adm.asked = s.adm.asked ++ if loadRuns s then [] else
          [⟨3, s.position, h, s.fld b F.HSE_ADMIT_CHARGE, s.fld b F.HSE_ADMIT_PRIO, waitMs wait, 100 * waitMs wait, s.adm.nextId⟩]) ∧
    (Accepts s m b (fset (s.kept b) F.HSE_CTRL_EN 0) → s.fld b F.HSE_CTRL_EN = 1 → houseOn s h = true → admWaits s 3 h = false →
      ∃ t, exec (.hseEn m h false) s = .next (finish s t) ∧ t.mem = s.mem ∧
        (houseKeep s h = true → SameRegs s t ∧ t.house h = x) ∧
        (houseKeep s h = false → RegsTo s t [(b, F.HSE_CTRL_EN, 0)] ∧ Upd s.house t.house h { x with off := true })) ∧
    (Accepts s m b (fset (s.kept b) F.HSE_CTRL_ABORT 1) → houseOn s h = true → admWaits s 3 h = false →
      ∃ t, exec (.hseAbort m h) s = .next (finish s t) ∧ t.mem = s.mem ∧ RegsTo s t [(b, F.HSE_CTRL_EN, 0)] ∧
        Upd s.house t.house h { x with off := true }) ∧
    (∀ on : Bool, Accepts s m b (fset (s.kept b) F.HSE_CTRL_SAMPLED (b2n on)) → houseOn s h = true ∨ s.fld b F.HSE_CTRL_EN = 0 →
      ∃ t, exec (.hseSampled m h on) s = .next (finish s t) ∧ RegsTo s t [(b, F.HSE_CTRL_SAMPLED, b2n on)] ∧
        { t with regs := [] } = { s with regs := [] }) ∧
    (s.pwr.core = true → s.flag b F.HSE_CTRL_SAMPLED = true → houseLocal s h = true → houseOn s h = true → x.off = false → x.ovNow = false →
      fLe (fRatio (s.fld b F.HSE_THR_OV * 25) 10000) v = false →
      ∃ t, exec (.sampledTick h v) s = .next (finish s t) ∧ t.mem = s.mem ∧ t.lineNs = tick ∧
        RegsTo s t ((b, F.HSE_STATUS_OV, 0) :: if x.ocNow then [] else [(b, F.HSE_STATUS_OC, 0)]) ∧
        Upd s.house t.house h { judged with tick := tick, ton := if fLt v (fRatio (s.fld b F.HSE_THR_REG * 25) 10000) then pulse (s.fld b F.HSE_SAMP_TON) else 0 }) ∧
    -- the outputs over the running period (the model's function of the current sense, log entry 84)
    (∀ (sense : Nat → Int) (dt : Nat),
      (role = 3 → s.flag busB F.BUS_STATUS_OV_LATCH = true → houseGates s h sense dt = (true, false)) ∧
      (role ≠ 3 → houseOn s h = false ∨ x.ton = 0 → houseGates s h sense dt = (false, false)) ∧
      ¬ ((houseGates s h sense dt).1 = true ∧ (houseGates s h sense dt).2 = true) ∧
      (role ≠ 3 → x.sampled = false → 20 ≤ x.ton → s.fld b F.HSE_DEAD_LEB ≤ dt → 20 ≤ dt → dt < x.ton →
        ((150000 * x.dac : Nat) : Int) - ((250 * s.fld b F.HSE_RAMP_RAMP * dt : Nat) : Int) ≤ (if role = 2 then ((sense dt).natAbs : Int) else sense dt) →
        housePulse s h sense ≤ dt))

/-- R215, R217, R220, R227: a cycle of the balancer on a bus that runs publishes the power asked of it, the input's measured power and the
rooms; a latched over-voltage leaves every allocation at 0. On a bus that is off it publishes the voltage and nothing else. Hold-up that
has run out is reported and powers the bus down. -/
def Claims.Balancer : Prop :=
  ∀ (s : State) (vIn vDump : Word), s.pwr.core = true →
    let b := busB
    let v := vBusNow (busSample (busLatch s) vIn vDump)
    let src := fSum ((feltsOf s false).map (fun f => s.rd (feltB f + R.FELT_MEAS_P)))
    let snk := fSum ((feltsOf s true).map (fun f => fAbs (s.rd (feltB f + R.FELT_MEAS_P))))
    let hse := fSum (((List.range 8).filter (houseLocal s)).map (fun h => fMul (s.rd (hseB h + R.HSE_MEAS_V)) (s.rd (hseB h + R.HSE_MEAS_I))))
    (busMode s = 0 ∨ busMode s = 4 →
      ∃ t, exec (.balancerCycle vIn vDump) s = .next (finish s t) ∧ t.mem = s.mem ∧ RegsTo s t [(b, F.BUS_MEAS_V_VALUE, v.toNat)] ∧
        t.felts = s.felts ∧ t.phases = s.phases ∧ t.adm = s.adm) ∧
    (busMode s = 1 ∨ busMode s = 2 → s.bus.ramp = false →
      ∃ t, exec (.balancerCycle vIn vDump) s = .next (finish s t) ∧ t.mem = s.mem ∧ busMode t = busMode s ∧ t.rd (b + R.BUS_MEAS_V) = v ∧
        t.rd (b + R.BUS_P_REQ) = fAdd (fAdd (fSub src snk) hse) (fMul (s.rd (b + R.BUS_K)) (fSub (s.rd (b + R.BUS_V_SET)) v)) ∧
        t.rd (b + R.BUS_P_INPUT) = fMul (s.rd (b + R.BUS_HS_MEAS_VIN)) (s.rd (b + R.BUS_HS_MEAS_I)) ∧
        (s.flag b F.BUS_STATUS_OV_LATCH = true →
          t.rd (b + R.BUS_P_IN) = 0#32 ∧ t.rd (b + R.BUS_P_SHELF) = 0#32 ∧ t.rd (b + R.BUS_P_DUMP) = 0#32)) ∧
    (busMode s = 3 → shelfShows s F.GAU_STATUS_EDF = true ∨ fLt (s.rd (b + R.BUS_MEAS_V)) (busW s R.BUS_V_HOLD_END) = true →
      ∃ t, exec .busHoldup s = .next (finish s t) ∧ busMode t = 4 ∧
        ⟨6, 0, K.BUS_HOLDUP, kindSev K.BUS_HOLDUP, 0, if shelfShows s F.GAU_STATUS_EDF then 1 else 2⟩ ∈ t.reports)

/-- R220, R222 to R224, R226: the stages of a balancer cycle in modes 1 to 3. The cap, the input's allocation moved toward the goal, then
the absorb order of a surplus or the supply order of a deficit; the dump resistor's account; the rooms, and each switching felt's share of
the room of its direction by its own maximum, infinite at or above that (where the maxima add up to 0 the share is open, log entry 1). In
hold-up, unless the last shed is younger than BUS_SHED.INT, a deficit beyond the shelf or a voltage below BUS_V_SHED sheds every running
felt of the lowest priority that is not 15. -/
def Claims.BalancerStages : Prop :=
  ∀ (s : State) (vIn vDump : Word), s.pwr.core = true → busMode s = 1 ∨ busMode s = 2 ∨ busMode s = 3 →
    let b := busB
    let r := fun (o : Nat) => s.rd (b + o)
    let u := busLatch s
    let v := vBusNow (busSample u vIn vDump)
    let src := fSum ((feltsOf s false).map (fun f => s.rd (feltB f + R.FELT_MEAS_P)))
    let snk := fSum ((feltsOf s true).map (fun f => fAbs (s.rd (feltB f + R.FELT_MEAS_P))))
    let hse := fSum (((List.range 8).filter (houseLocal s)).map (fun h => fMul (s.rd (hseB h + R.HSE_MEAS_V)) (s.rd (hseB h + R.HSE_MEAS_I))))
    let vSet := if s.bus.ramp then moveTo s.bus.vSet (r R.BUS_V_SET) (fMul (r R.BUS_START_SLEW) (fRatio 1 1000)) else r R.BUS_V_SET
    let req := fAdd (fAdd (fSub src snk) hse) (fMul (r R.BUS_K) (fSub vSet v))
    let meas := fMul (r R.BUS_HS_MEAS_VIN) (r R.BUS_HS_MEAS_I)
    let eta := if fLt meas fOne = true ∨ fIsNaN meas = true then s.bus.eta else
      fClamp (fAdd s.bus.eta (fMul (fSub (fDiv (r R.BUS_P_IN) meas) s.bus.eta) (fRatio 1 10000))) (fRatio 1 2) fOne
    let cap := fMin (fMin (r R.BUS_IN_PMAX) (fMul eta (r R.BUS_CAP_P))) (fMul (fMul eta (r R.BUS_CAP_I)) (r R.BUS_HS_MEAS_VIN))
    let above := fLt (r R.BUS_CAP_P) meas
    let top := if busMode s = 3 then 0#32
      else if above ∧ s.bus.excess then fMin cap (fSub (r R.BUS_P_IN) (fSub meas (r R.BUS_CAP_P))) else cap
    let gauges := shelfGauges u
    let pref := if gauges ≠ [] ∧ fLt (fMean (gauges.map (fun g => s.rd (gauB g + R.GAU_SOC_REP)))) (r R.BUS_SOC_TGT) = true then r R.BUS_P_PREF else 0#32
    let hold := fun (x : Word) => fMin (fMax x 0#32) top
    let input := hold (moveTo (r R.BUS_P_IN) (hold (fAdd req pref)) (fMul (r R.BUS_IN_SLEW) (fRatio 1 1000)))
    let full := shelfShows u F.GAU_STATUS_ECW = true ∨ shelfShows u F.GAU_STATUS_ECF = true
    let empty := if busMode s = 3 then shelfShows u F.GAU_STATUS_EDF = true else shelfShows u F.GAU_STATUS_EDW = true
    let chg := if houseHas s 2 = true ∧ ¬ full then r R.BUS_SHELF_CHG else 0#32
    let dis := if houseHas s 2 = true ∧ ¬ empty then r R.BUS_SHELF_DIS else 0#32
    let dump := if houseHas s 3 = true ∧ s.flag b F.BUS_STATUS_DUMP_HOT = false then r R.BUS_DUMP_PMAX else 0#32
    let gap := fSub req input
    let surplus := fLt gap 0#32 = true
    let a := fMin (fNeg gap) chg
    let a' := fSub (fNeg gap) a
    let c := fMin a' input
    let c' := fSub a' c
    let d := fMin c' dump
    let d' := fSub c' d
    let p := fMin gap dis
    let p' := fSub gap p
    let i := fMin p' (fSub top input)
    let i' := fSub p' i
    let given := fun (x : Word) => if s.flag b F.BUS_STATUS_OV_LATCH then 0#32 else x
    let pDump := given (if surplus then d else 0#32)
    let energy := fMax 0#32 (fSub (fAdd s.bus.energy (fMul pDump (fRatio 1 1000000))) (fMul (r R.BUS_DUMP_PAVG) (fRatio 1 1000000)))
    let roomSnk := fAdd (fAdd (fAdd src hse) chg) dump
    let roomSrc := fSub (fAdd (fAdd top dis) snk) hse
    let share := fun (room pmax total : Word) =>
      let x := fDiv (fMul (fMax 0#32 room) pmax) total
      if fLt x pmax then x else fInf
    let totalSnk := fSum ((feltsOf s true).map (fun f => feltW s f R.FELT_P_SNK_MAX))
    let totalSrc := fSum ((feltsOf s false).map (fun f => feltW s f R.FELT_P_SRC_MAX))
    let run := (List.range 96).filter (fun f => feltSwitching s f && shedPrio u f != 15)
    let sheds := busMode s = 3 ∧ s.bus.shedLeft = 0 ∧ run ≠ [] ∧
      ((¬ surplus ∧ fLe dis p = true ∧ fPos i' = true) ∨ fLt v (r R.BUS_V_SHED) = true)
    ∃ t, exec (.balancerCycle vIn vDump) s = .next (finish s t) ∧ t.mem = s.mem ∧ busMode t = busMode s ∧
      t.rd (b + R.BUS_P_IN) = given (if surplus then fSub input c else fAdd input i) ∧
      t.rd (b + R.BUS_P_SHELF) = given (if surplus then fNeg a else p) ∧ t.rd (b + R.BUS_P_DUMP) = pDump ∧
      t.rd (b + R.BUS_ROOM_SNK) = roomSnk ∧ t.rd (b + R.BUS_ROOM_SRC) = roomSrc ∧
      t.bus.eta = eta ∧ t.bus.excess = above ∧ t.bus.energy = energy ∧
      t.fld b F.BUS_STATUS_STAGE = (if surplus then (if fPos d' then 4 else if fPos d then 3 else if fPos c then 2 else if fPos a then 1 else 0)
        else if fPos i' then 7 else if fPos i then 6 else if fPos p then 5 else 0) ∧
      t.fld b F.BUS_STATUS_SHELF_FULL = (if full then 1 else 0) ∧
      t.fld b F.BUS_STATUS_DUMP_HOT = (if fLe (r R.BUS_DUMP_E) energy then 1 else if fLe energy (fMul (r R.BUS_DUMP_E) (fRatio 1 2)) then 0
        else s.fld b F.BUS_STATUS_DUMP_HOT) ∧
      (¬ sheds → t.bus.shedLeft = (if busMode s = 3 then s.bus.shedLeft - 1 else s.bus.shedLeft) ∧ (∀ f, f < 96 → feltState t f = feltState s f) ∧
        (fIsZero totalSnk = false → ∀ f ∈ feltsOf s true, t.rd (feltB f + R.FELT_ALLOW_SRC) = fInf ∧
          t.rd (feltB f + R.FELT_ALLOW_SNK) = share roomSnk (feltW s f R.FELT_P_SNK_MAX) totalSnk) ∧
        (fIsZero totalSrc = false → ∀ f ∈ feltsOf s false, t.rd (feltB f + R.FELT_ALLOW_SNK) = fInf ∧
          t.rd (feltB f + R.FELT_ALLOW_SRC) = share roomSrc (feltW s f R.FELT_P_SRC_MAX) totalSrc)) ∧
      (sheds → t.bus.shedLeft = max 1 (s.fld b F.BUS_SHED_INT) - 1 ∧
        ∃ q, q < 15 ∧ (∃ f ∈ run, shedPrio u f = q) ∧ (∀ f ∈ run, q ≤ shedPrio u f) ∧
          ⟨6, 0, K.BUS_SHED, kindSev K.BUS_SHED, 0, q⟩ ∈ t.reports ∧
          ∀ f, f < 96 → if f ∈ run ∧ shedPrio u f = q then feltState t f = 12 ∧ t.fld (feltB f) F.FELT_STATUS_STOP_CAUSE = 6 ∧
              t.fld (feltB f) F.FELT_CTRL_EN = s.fld (feltB f) F.FELT_CTRL_EN
            else feltState t f = feltState s f)

/-- House channels and the bus balancer: `Claims.HouseChannels`, `Claims.Balancer` and `Claims.BalancerStages` together. -/
def Obligations.HousesAndBalancer : Prop := Claims.HouseChannels ∧ Claims.Balancer ∧ Claims.BalancerStages

/-- R215, R217, R218, R219: the bus is watched and switched. A reading that differs between the two channels, an over-voltage and an
under-voltage are each reported once; the latch is cleared below BUS_V_HI and otherwise CODE 2 is set. EN = 1 with sound thresholds and
the hot-swap controller ON starts the bus in mode 1, a voltage in band brings mode 2, EN = 0 powers it down, and mode 0 comes when every
channel of the bus is off, with no allowance on any felt. -/
def Claims.BusControl : Prop :=
  ∀ (s : State) (m : Master) (vIn vDump : Word) (hi hd : Nat),
    let b := busB
    let a := fMul vIn (s.rd (hseB hi + R.HSE_SCALE_V))
    let d := fMul vDump (s.rd (hseB hd + R.HSE_SCALE_V))
    let v := if busF s F.BUS_CFG_VBUS_SRC = 1 then d else a
    let ofBus := (List.range 8).filter (houseOfBus s)
    (s.pwr.core = true → houseWith s 1 = some hi → houseWith s 3 = some hd → busF s F.BUS_CFG_VBUS_SRC ≠ 2 → s.fld b F.BUS_STATUS_SENSE_ERR = 0 →
      (fLt (busW s R.BUS_SENSE_TOL) (fAbs (fSub a d)) = true →
        ∃ t, exec (.busSense vIn vDump) s = .next (finish s t) ∧ t.mem = s.mem ∧ RegsTo s t [(b, F.BUS_STATUS_SENSE_ERR, 1)] ∧
          t.reports = s.reports ++ [⟨6, 0, K.BUS_SENSE, kindSev K.BUS_SENSE, 0, milliArg (fAbs (fSub a d)) % 2 ^ 32⟩]) ∧
      (s.bus.loadOv = true → s.flag (hseB hd) F.HSE_STATUS_OV = true → s.flag b F.BUS_STATUS_OV_LATCH = false →
        ∃ t, exec (.busOv vIn vDump) s = .next (finish s t) ∧ t.mem = s.mem ∧ RegsTo s t [(b, F.BUS_STATUS_OV_LATCH, 1)] ∧
          (s.bus.dumpGood = true → t.lineNs = s.lineNs) ∧ (s.bus.dumpGood = false → t.lineNs = max s.lineNs (s.bus.loadAt + 1000000)) ∧
          t.reports = s.reports ++ [⟨6, 0, K.BUS_OV, kindSev K.BUS_OV, 0, milliArg v % 2 ^ 32⟩]) ∧
      (busMode s = 2 ∨ busMode s = 3 → fLt v (busW s R.BUS_V_UV) = true → s.bus.uvTold = false →
        ∃ t, exec (.busUv vIn vDump) s = .next (finish s t) ∧ t.mem = s.mem ∧ SameRegs s t ∧ t.bus.uvTold = true ∧
          t.reports = s.reports ++ [⟨6, 0, K.BUS_UV, kindSev K.BUS_UV, 0, milliArg v % 2 ^ 32⟩])) ∧
    (Accepts s m b (fset (s.kept b) F.BUS_CTRL_OV_CLEAR 1) → s.fc.running = none →
      ∃ t, exec (.busOvClear m) s = .next (finish s t) ∧ { t with regs := [] } = { s with regs := [] } ∧
        RegsTo s t (if fLt (vBusNow s) (busW s R.BUS_V_HI) then [(b, F.BUS_STATUS_OV_LATCH, 0), (b, F.BUS_STATUS_CODE, 0)]
          else [(b, F.BUS_STATUS_CODE, 2)])) ∧
    (Accepts s m b (fset (s.kept b) F.BUS_CTRL_EN 1) → s.fld b F.BUS_CTRL_EN = 0 →
      ∃ t, exec (.busEn m true) s = .next (finish s t) ∧ t.mem = s.mem ∧
        (busOrderOk s = false → RegsTo s t [(b, F.BUS_STATUS_CODE, 1)]) ∧
        (busOrderOk s = true → vbusAbsent s (s.fld b F.BUS_CFG_VBUS_SRC) = true → RegsTo s t [(b, F.BUS_STATUS_CODE, 3)]) ∧
        (busOrderOk s = true → vbusAbsent s (s.fld b F.BUS_CFG_VBUS_SRC) = false →
          (hsState s ≠ 5 → RegsTo s t [(b, F.BUS_CTRL_EN, 1)] ∧ t.bus = s.bus) ∧
          (hsState s = 5 → busMode s = 0 →
            t.fld b F.BUS_CTRL_EN = 1 ∧ busMode t = 1 ∧ t.fld b F.BUS_ADM_STAT_RESTRICTED = 1 ∧ t.bus.eta = fOne ∧ t.bus.ramp = true ∧
            t.bus.vSet = s.rd (b + R.BUS_MEAS_V)))) ∧
    (Accepts s m b (fset (s.kept b) F.BUS_CTRL_EN 0) → s.fld b F.BUS_CTRL_EN = 1 → busMode s = 1 ∨ busMode s = 2 ∨ busMode s = 3 →
      ∃ t, exec (.busEn m false) s = .next (finish s t) ∧ t.mem = s.mem ∧ t.fld b F.BUS_CTRL_EN = 0 ∧ busMode t = 4 ∧
        t.fld b F.BUS_ADM_STAT_FROZEN = 0 ∧ t.rd (b + R.BUS_P_IN) = 0#32 ∧ t.rd (b + R.BUS_P_SHELF) = 0#32 ∧ t.rd (b + R.BUS_P_DUMP) = 0#32 ∧
        (∀ h ∈ ofBus, houseOn s h = true → (t.house h).off = true)) ∧
    (s.pwr.core = true → busMode s = 1 → fLe (busW s R.BUS_V_LO) (s.rd (b + R.BUS_MEAS_V)) = true →
      fLe (s.rd (b + R.BUS_MEAS_V)) (busW s R.BUS_V_HI) = true →
      ∃ t, exec .busStartDone s = .next (finish s t) ∧ { t with regs := [] } = { s with regs := [] } ∧
        RegsTo s t [(b, F.BUS_STATUS_MODE, 2), (b, F.BUS_ADM_STAT_RESTRICTED, 0), (b, F.BUS_ADM_STAT_QUEUED, s.adm.queue.length)]) ∧
    (s.pwr.core = true → busMode s = 4 → s.fld b F.BUS_CTRL_EN = 0 → (∀ h ∈ ofBus, houseOn s h = false) →
      ∃ t, exec .busPowerdownEnd s = .next (finish s t) ∧ { t with regs := [] } = { s with regs := [] } ∧
        RegsTo s t ([(b, F.BUS_STATUS_MODE, 0), (b, F.BUS_ADM_STAT_RESTRICTED, 1), (b, F.BUS_ADM_STAT_QUEUED, s.adm.queue.length)] ++
          (List.range 96).flatMap (fun f => [(feltB f, F.FELT_ALLOW_SRC_VALUE, fInf.toNat), (feltB f, F.FELT_ALLOW_SNK_VALUE, fInf.toNat)]) ++
          ofBus.map (fun h => (hseB h, F.HSE_CTRL_EN, 0))))

/-- R232 to R235: the hot-swap controller. EN = 1 leaves OFF for WAIT, and for DELAY where the window is good and nothing holds it; the
delay's end asks admission; power-good in RAMP brings ON; a fault of the timer, the fast comparator or power-good's timeout cools down
while retries are left and latches otherwise; the cool-down's end and a CLEAR go back. A sample publishes input voltage and current. -/
def Claims.HotSwap : Prop :=
  ∀ (s : State) (m : Master) (vin src shunt : Word), (∀ r ∈ s.adm.asked ++ s.adm.queue, r.kind ≠ 2) →
    let b := busB
    let st := hsState s
    let enter := fun n : Nat => [(b, F.BUS_HS_STATUS_STATE, n), (b, F.BUS_HS_STATUS_PG, b2n (n == 5)), (b, F.BUS_HS_STATUS_LIMIT, 0)] ++
      if n = 0 then [(b, F.BUS_HS_STATUS_WIN_GOOD, 0)] else []
    let first := if s.flag b F.BUS_HS_STATUS_WIN_GOOD = true ∧ s.fc.heldCab = false ∧ s.forcedOff = false then 2 else 1
    let n := s.fld b F.BUS_HS_STATUS_RETRIES
    let fault := fun (code : Nat) (t : State) => t.mem = s.mem ∧
      (n < busF s F.BUS_HS_FLT_RETRIES → RegsTo s t (enter 6 ++ [(b, F.BUS_HS_STATUS_RETRIES, n + 1)]) ∧
        t.reports = s.reports ++ [⟨6, 1, K.HS_FAULT, kindSev K.HS_FAULT, 0, code⟩]) ∧
      (busF s F.BUS_HS_FLT_RETRIES ≤ n → RegsTo s t (enter 7) ∧
        t.reports = s.reports ++ [⟨6, 1, K.HS_FAULT, kindSev K.HS_FAULT, 0, code⟩, ⟨6, 1, K.HS_LATCH, kindSev K.HS_LATCH, 0, n⟩])
    (Accepts s m (b + R.BUS_HS_CTRL) (fset (s.kept (b + R.BUS_HS_CTRL)) F.BUS_HS_CTRL_EN 1) → st = 0 →
      ∃ t, exec (.hsEn m true) s = .next (finish s t) ∧ t.mem = s.mem ∧ RegsTo s t ((b, F.BUS_HS_CTRL_EN, 1) :: enter first)) ∧
    (Accepts s m (b + R.BUS_HS_CTRL) (fset (s.kept (b + R.BUS_HS_CTRL)) F.BUS_HS_CTRL_EN 0) → s.fld b F.BUS_HS_CTRL_EN = 1 → st ≠ 7 →
      ∃ t, exec (.hsEn m false) s = .next (finish s t) ∧ t.mem = s.mem ∧ RegsTo s t ((b, F.BUS_HS_CTRL_EN, 0) :: enter 0)) ∧
    (Accepts s m (b + R.BUS_HS_CTRL) (fset (s.kept (b + R.BUS_HS_CTRL)) F.BUS_HS_CTRL_CLEAR 1) → st = 7 →
      ∃ t, exec (.hsClear m) s = .next (finish s t) ∧ t.mem = s.mem ∧ RegsTo s t (enter (s.fld b F.BUS_HS_CTRL_EN))) ∧
    (s.pwr.core = true →
      (st = 2 →
        ∃ t, exec .hsInsertionDelayEnd s = .next (finish s t) ∧ t.mem = s.mem ∧ RegsTo s t (enter 3) ∧
          t.adm.asked = s.adm.asked ++ [⟨2, s.position, 0, busF s F.BUS_HS_ADMIT_CHARGE, busF s F.BUS_HS_ADMIT_PRIO,
            waitMs (busF s F.BUS_HS_WAIT_WAIT), 100 * waitMs (busF s F.BUS_HS_WAIT_WAIT), s.adm.nextId⟩]) ∧
      (st = 4 → s.flag b F.BUS_HS_STATUS_LIMIT = false →
        fLt (fSub (s.rd (b + R.BUS_HS_MEAS_VIN)) s.bus.vSrc) (busW s R.BUS_HS_PG_DROP) = true → busMode s ≠ 3 →
        s.fld b F.BUS_CTRL_EN = 0 →
        ∃ t, exec .hsPowerGood s = .next (finish s t) ∧ t.mem = s.mem ∧ RegsTo s t (enter 5)) ∧
      (st = 4 → s.flag b F.BUS_HS_STATUS_LIMIT = true → ∃ t, exec .hsFaultTimer s = .next (finish s t) ∧ fault 1 t) ∧
      (st = 4 ∨ st = 5 → ∃ t, exec .hsFastLimit s = .next (finish s t) ∧ fault 2 t) ∧
      (st = 4 → ∃ t, exec .hsPgTimeout s = .next (finish s t) ∧ fault 3 t) ∧
      (st = 6 → ∃ t, exec .hsCoolEnd s = .next (finish s t) ∧ t.mem = s.mem ∧ RegsTo s t (enter first)) ∧
      (st = 5 → ∃ t, exec .hsRetryClear s = .next (finish s t) ∧ RegsTo s t [(b, F.BUS_HS_STATUS_RETRIES, 0)] ∧
        { t with regs := [] } = { s with regs := [] }) ∧
      (∃ t, exec (.hotswapSample vin src shunt) s = .next (finish s t) ∧
        t.rd (b + R.BUS_HS_MEAS_VIN) = fMul vin (busW s R.BUS_HS_SCALE) ∧
        t.rd (b + R.BUS_HS_MEAS_I) = fDiv (fDiv shunt (fOfNat 1000)) (busW s R.BUS_HS_RSNS) ∧
        t.bus.vSrc = fMul src (busW s R.BUS_HS_SCALE) ∧
        (st = 5 → s.fld b F.BUS_HS_STATUS_WIN_GOOD = 0 → s.bus.wGood = 0 → t.fld b F.BUS_HS_STATUS_PG = 0 ∧ hsState t ≠ 5) ∧
        (st = 0 → RegsTo s t [(b, F.BUS_HS_MEAS_VIN_VALUE, (fMul vin (busW s R.BUS_HS_SCALE)).toNat),
          (b, F.BUS_HS_MEAS_I_VALUE, (fDiv (fDiv shunt (fOfNat 1000)) (busW s R.BUS_HS_RSNS)).toNat)])))

/-- The bus and the hot-swap controller: `Claims.BusControl` and `Claims.HotSwap` together. -/
def Obligations.BusAndHotSwap : Prop := Claims.BusControl ∧ Claims.HotSwap

/-- R228 to R231: the start-admission budget. A request enters the queue behind every one of its priority or a higher one; a 10 µs step
refills the level up to the capacity, admits the request at the head that the level covers and leaves one that it does not cover waiting;
a request whose wait has run out leaves with ADMIT_TIMEOUT. The crown queues a brim's request, whose kind
is not told (log entry 49), or turns it away where the queue is full, and takes a returned charge back. -/
def Obligations.Admission : Prop :=
  ∀ (s : State) (r : AdmReq) (p : CasPkt) (q : List CasPkt), s.pwr.core = true →
    let b := busB
    let cap : Int := (100 * admCap s : Nat)
    let level := min cap (s.adm.level + ((busW s R.BUS_ADM_RATE).toNat : Int))
    let shown := fun n : Nat => [(b, F.BUS_ADM_STAT_QUEUED, n), (b, F.BUS_ADM_STAT_RESTRICTED, b2n (busMode s != 2))]
    let enter := fun y : AdmReq => s.adm.queue.takeWhile (fun z => y.prio ≤ z.prio) ++ y :: s.adm.queue.dropWhile (fun z => y.prio ≤ z.prio)
    let theirs : Nat → AdmReq := fun kind => ⟨kind, p.src, 0, (p.body.getD 1 0#32).toNat, (p.body.getD 2 0#32).toNat % 16, (p.body.getD 3 0#32).toNat, 1,
      (p.body.getD 0 0#32).toNat % 65536⟩
    (∀ l, s.adm.asked = r :: l → s.adm.queue.length < 160 → s.isBrim = false →
      ∃ t, exec .admissionRequest s = .next (finish s t) ∧ t.mem = s.mem ∧ RegsTo s t (shown (s.adm.queue.length + 1)) ∧
        t.adm = { s.adm with asked := l, queue := enter r }) ∧
    (s.isBrim = false → s.adm.queue = [] →
      ∃ t, exec .admissionStep s = .next (finish s t) ∧ t.mem = s.mem ∧ RegsTo s t (shown 0) ∧ t.adm = { s.adm with level := level }) ∧
    (s.isBrim = false → s.adm.queue = [r] → r.left ≠ 0 → r.kind = 2 → r.pos = s.position → s.adm.asked = [] → hsState s = 3 →
      ((100 * r.q : Nat) ≤ level →
        ∃ t, exec .admissionStep s = .next (finish s t) ∧ t.mem = s.mem ∧ hsState t = 4 ∧ t.fld b F.BUS_ADM_STAT_QUEUED = 0 ∧
          t.adm = { s.adm with queue := [], level := level - (100 * r.q : Nat) }) ∧
      (level < (100 * r.q : Nat) → level < cap →
        ∃ t, exec .admissionStep s = .next (finish s t) ∧ t.mem = s.mem ∧ RegsTo s t (shown 1) ∧
          t.adm = { s.adm with queue := [{ r with left := r.left - 1 }], level := level })) ∧
    (∀ l, s.adm.queue = r :: l → r.left = 0 → r.kind = 3 → r.inst < 8 → s.isBrim = false → l.length < 160 →
      ∃ t, exec .admitTimeout s = .next (finish s t) ∧ t.mem = s.mem ∧ t.adm = { s.adm with queue := l } ∧
        RegsTo s t (shown l.length ++ [(b, F.BUS_ADM_STAT_TIMEOUTS, min 255 (s.fld b F.BUS_ADM_STAT_TIMEOUTS + 1)), (hseB r.inst, F.HSE_CTRL_EN, 0)]) ∧
        t.reports = s.reports ++ [⟨6, 2, K.ADMIT_TIMEOUT, kindSev K.ADMIT_TIMEOUT, 0, 3 * 4096 + r.pos % 16 * 256 + r.inst⟩]) ∧
    (s.casRx = p :: q → p.cls = 4 →
      (p.sub = 0 → s.isCrown = true → s.adm.queue.length < 160 →
        ∃ (t : State) (kind : Nat), exec .admitRequestPacket s = .next (finish s t) ∧ t.mem = s.mem ∧ t.casRx = q ∧ kind ≤ 3 ∧
          t.adm = { s.adm with queue := enter (theirs kind) } ∧ RegsTo s t (shown (s.adm.queue.length + 1))) ∧
      (p.sub = 0 → s.isCrown = true → 160 ≤ s.adm.queue.length →
        ∃ t, exec .admitRequestPacket s = .next (finish s t) ∧ t.mem = s.mem ∧ t.casRx = q ∧ t.adm = s.adm ∧
          t.reports = s.reports ++ [⟨6, 2, K.ADMIT_TIMEOUT, kindSev K.ADMIT_TIMEOUT, 0, 0xFFFF⟩]) ∧
      (p.sub = 2 →
        ∃ t, exec .admitReturnPacket s = .next (finish s t) ∧ t.mem = s.mem ∧ t.casRx = q ∧ SameRegs s t ∧
          t.adm = { s.adm with level := min cap (s.adm.level + (100 * (p.body.getD 1 0#32).toNat : Nat)) }))

/-- R443, R444, R446, R456: the slate's store. A STORE with none running begins one onto the copy that does not hold the newest content,
with the next sequence and no COMMIT; while one runs, or before the boot scan has ended, it waits as PENDING. A store that reads back
right commits, becomes the newest and shows its sequence; one that does not sets STORE_ERR and reports. The boot scan runs once and loads
the newest valid copy; its end sets READY. A slate write that was held lands with either end. -/
def Claims.SlateStore : Prop :=
  ∀ (s : State) (m : Master),
    let b := nvB
    let x := s.nv
    let k := if x.newest = 1 then 2 else 1
    let c := nvCopy x x.storing
    (Accepts s m b 1#32 →
      (s.flag b F.NV_STATUS_READY = true → x.storing = 0 →
        ∃ t, exec (.store m) s = .next (finish s t) ∧ t.mem = s.mem ∧ RegsTo s t [(b, F.NV_STATUS_STORE_BUSY, 1)] ∧ t.nv.storing = k ∧
          t.nv.newest = x.newest ∧ nvCopy t.nv (3 - k) = nvCopy x (3 - k) ∧ (nvCopy t.nv k).commit = 0#32 ∧
          (nvCopy t.nv k).seq = (if x.newest = 0 then 1#32 else (nvCopy x x.newest).seq + 1#32) ∧ (nvCopy t.nv k).slate = slateCells s ∧
          (nvCopy t.nv k).imgId = s.rd R.SYS_IMG_ID ∧ (nvCopy t.nv k).crc = shadowCrc (nvCopy t.nv k)) ∧
      (s.flag b F.NV_STATUS_READY = false ∨ x.storing ≠ 0 →
        ∃ t, exec (.store m) s = .next (finish s t) ∧ RegsTo s t [(b, F.NV_STATUS_PENDING, 1)] ∧
          { t with regs := [] } = { s with regs := [] })) ∧
    (s.pwr.core = true → x.storing = 1 ∨ x.storing = 2 → s.flag b F.NV_STATUS_PENDING = false → s.fc.resetWait = false → x.held = [] →
      (∃ t, exec (.storeComplete true) s = .next (finish s t) ∧ t.mem = s.mem ∧ t.fld b F.NV_STATUS_STORE_BUSY = 0 ∧
        t.nv.storing = 0 ∧ t.nv.newest = x.storing ∧ nvCopy t.nv x.storing = { c with commit := 0x5C0A11ED#32 } ∧
        t.rd (b + R.NV_SLATE_SEQ) = c.seq ∧ t.reports = s.reports) ∧
      (∃ t, exec (.storeComplete false) s = .next (finish s t) ∧ t.mem = s.mem ∧ t.nv = { x with storing := 0 } ∧
        RegsTo s t [(b, F.NV_STATUS_STORE_BUSY, 0), (b, F.NV_STATUS_STORE_ERR, 1)] ∧
        t.reports = s.reports ++ [⟨0xC, 0, K.NV_STORE_FAIL, kindSev K.NV_STORE_FAIL, 0, x.storing - 1⟩])) ∧
    (s.pwr.core = true →
      (x.scanned = false →
        ∃ t, exec .bootScan s = .next (finish s t) ∧ t.nv.scanned = true ∧ t.nv.newest = newestCopy x ∧
          t.fld b F.NV_STATUS_SLATE_SRC = newestCopy x ∧
          (newestCopy x = 0 → t.rd (b + R.NV_SLATE_SEQ) = 0#32 ∧ ∀ i, i < 0x10000 → t.byte (slateB + i) = 0#8) ∧
          (newestCopy x ≠ 0 → t.rd (b + R.NV_SLATE_SEQ) = (nvCopy x (newestCopy x)).seq)) ∧
      (x.scanned = true → s.flag b F.NV_STATUS_READY = false → s.flag b F.NV_STATUS_PENDING = false → x.held = [] →
        ∃ t, exec .bootScanEnd s = .next (finish s t) ∧ RegsTo s t [(b, F.NV_STATUS_READY, 1)] ∧
          { t with regs := [] } = { s with regs := [] })) ∧
    (∀ (k : Master) (a : Nat) (v : Word), s.pwr.core = true → x.held = [.word k a v] → inSlate a = true → s.flag b F.NV_STATUS_PENDING = false →
      let lands := fun t : State => t.nv.held = [] ∧ t.memWord a = v ∧ ∀ j, j < a ∨ a + 4 ≤ j → t.byte j = s.byte j
      (x.scanned = true → s.flag b F.NV_STATUS_READY = false → ∃ t, exec .bootScanEnd s = .next (finish s t) ∧ lands t) ∧
      (x.storing = 1 ∨ x.storing = 2 → s.fc.resetWait = false → ∃ t, exec (.storeComplete true) s = .next (finish s t) ∧ lands t))

/-- R449 to R452: the record array. An erase of a user sector that no protection covers marks it ERASING, and any other sets CMD_ERR; its
end leaves every byte of the sector 0xFF and the header BLANK, and no other byte changed. A sound record write holds its words with MARK
0 until it ends, with MARK on success and without on a bad cell, which is reported; an unsound one is refused with RESULT 2. A word
written raw into a sector that can be written lands there.
Before the boot scan has ended the commands of the unit wait for it (R456; log entry 42). -/
def Claims.RecordArray : Prop :=
  ∀ (s : State) (m : Master) (k : Fin 32) (tag : BitVec 16) (off : Fin 131072) (v : Word) (r : RecWrite),
    let b := nvB
    let addr := s.fld b F.NV_REC_ADDR_ADDR
    let len := s.fld b F.NV_REC_LEN_LEN
    let src := s.fld b F.NV_REC_SRC_SRC
    let header := fun j : Nat => (⟨R.NV_SECHDR + 4 * j, 31, 0⟩ : Fld)
    let sound := addr % 4 = 0 ∧ 1 ≤ len ∧ len ≤ 4093 ∧ addr + 4 * (len + 3) ≤ 0x20000 ∧ (∀ j ∈ recSectors addr len, secWritable s j = true)
    let readable := src % 4 = 0 ∧ ∀ i, i < len → 0x2000000 ≤ src + 4 * i ∧ src + 4 * i < 0x2400000 ∧ passOk s (.dma 0) false (src + 4 * i) = true
    let waits := fun (t : State) (o n : Nat) => t.mem = s.mem ∧ t.nv = { s.nv with held := s.nv.held ++ [.command o n] }
    (s.flag b F.NV_STATUS_READY = false →
      (Accepts s m (b + R.NV_ERASE) (BitVec.ofNat 32 (2 ^ 8 + k)) → ∃ t, exec (.nvErase m k) s = .next (finish s t) ∧ waits t R.NV_ERASE (2 ^ 8 + k)) ∧
      (Accepts s m (b + R.NV_REC_CTRL) (BitVec.ofNat 32 (tag.toNat * 2 ^ 16 + 1)) →
        ∃ t, exec (.recWrite m tag) s = .next (finish s t) ∧ waits t R.NV_REC_CTRL (tag.toNat * 2 ^ 16 + 1)) ∧
      (Accepts s m b 4#32 → ∃ t, exec (.cardClear m) s = .next (finish s t) ∧ waits t R.NV_CTRL 4)) ∧
    (Accepts s m (b + R.NV_ERASE) (BitVec.ofNat 32 (2 ^ 8 + k)) → s.flag b F.NV_STATUS_READY = true → s.nv.erasing = [] →
      ∃ t, exec (.nvErase m k) s = .next (finish s t) ∧ t.mem = s.mem ∧
        (secHardware s k = true ∨ secProtected s k = true →
          RegsTo s t [(b, F.NV_ERASE_SECT, k.val), (b, F.NV_STATUS_CMD_ERR, 1)] ∧ t.nv = s.nv) ∧
        (secHardware s k = false → secProtected s k = false → t.nv.erasing = [k.val] ∧ secHeader t k = 0xE5E5#32 ∧
          RegsTo s t [(b, F.NV_ERASE_SECT, k.val), (b, F.NV_STATUS_ERASE_BUSY, 1), (b, header k, 0xE5E5)])) ∧
    (s.pwr.core = true → s.nv.erasing = [k.val] → s.nv.clearing = false →
      ∃ t, exec .eraseComplete s = .next (finish s t) ∧ RegsTo s t [(b, header k, 0xB1B1), (b, F.NV_STATUS_ERASE_BUSY, 0)] ∧
        t.nv.erasing = [] ∧ secHeader t k = 0xB1B1#32 ∧
        (∀ a, t.byte a = if recB + 0x1000 * k ≤ a ∧ a < recB + 0x1000 * (k + 1) then 0xFF#8 else s.byte a)) ∧
    (Accepts s m (b + R.NV_REC_CTRL) (BitVec.ofNat 32 (tag.toNat * 2 ^ 16 + 1)) → s.flag b F.NV_STATUS_READY = true → s.fld b F.NV_REC_CTRL_RESULT ≠ 1 →
      ∃ t, exec (.recWrite m tag) s = .next (finish s t) ∧
        (sound → readable → t.fld b F.NV_REC_CTRL_RESULT = 1 ∧ t.fld b F.NV_STATUS_REC_BUSY = 1 ∧ t.memWord (recB + addr) = 0#32 ∧
          t.nv.recw = some ⟨addr, tag.toNat, (List.range len).map (fun i => s.memWord (src + 4 * i))⟩) ∧
        (sound → ¬ readable → RegsTo s t [(b, F.NV_REC_CTRL_TAG, tag.toNat), (b, F.NV_REC_CTRL_RESULT, 4)] ∧ t.mem = s.mem) ∧
        (¬ sound → RegsTo s t [(b, F.NV_REC_CTRL_TAG, tag.toNat), (b, F.NV_REC_CTRL_RESULT, 2)] ∧ t.mem = s.mem)) ∧
    (s.pwr.core = true → s.nv.recw = some r → r.addr % 4 = 0 → r.addr + 4 * (r.data.length + 3) ≤ 0x20000 →
      (∃ t, exec (.recWriteComplete none) s = .next (finish s t) ∧ t.nv.recw = none ∧ t.fld b F.NV_REC_CTRL_RESULT = 0 ∧
        t.fld b F.NV_STATUS_REC_BUSY = 0 ∧ t.memWord (recB + r.addr) = 0xA55A#32 ∧ t.reports = s.reports ∧
        (∀ i, i < (recWords r).length → t.memWord (recB + r.addr + 4 + 4 * i) = (recWords r).getD i 0#32)) ∧
      (∀ n : Fin 4096, ∃ t, exec (.recWriteComplete (some n)) s = .next (finish s t) ∧ t.nv.recw = none ∧
        t.fld b F.NV_REC_CTRL_RESULT = 3 ∧ t.memWord (recB + r.addr) = s.memWord (recB + r.addr) ∧
        t.reports = s.reports ++ [⟨0xC, 0, K.NV_WRITE_FAIL, kindSev K.NV_WRITE_FAIL, 0, recB + r.addr + 4 * n⟩])) ∧
    (Awake s → passOk s m true (recB + off) = true → s.flag b F.NV_STATUS_READY = true → off.val % 4 = 0 → secWritable s (off / 0x1000) = true →
      ∃ t, exec (.nvRawWrite m off 2 v) s = .next (finish s t) ∧ t.memWord (recB + off) = v ∧
        (∀ a, a < recB + off ∨ recB + off + 4 ≤ a → t.byte a = s.byte a))

/-- R457, R458, R460: report cards and counters. A card trigger keeps a card waiting, and counts one lost when eight wait; the oldest is
written to its slot with the next sequence, MARK last; CARD_CLEAR begins to erase the ring. A counter's increment, and its clear, change
the counters of the mask and no other. -/
def Claims.CardsAndCounters : Prop :=
  ∀ (s : State) (m : Master),
    let b := nvB
    let waits := s.nv.cards.length
    let next := (s.rd (b + R.NV_CARD_SEQ)).toNat
    let slot := recB + 0x1000 * s.nv.ring + 256 * (next % 256)
    (Accepts s m b 2#32 →
      (waits < 7 →
        ∃ t, exec (.card m) s = .next (finish s t) ∧ t.mem = s.mem ∧ t.nv = { s.nv with cards := s.nv.cards ++ [cardWords s 5 none (fcStatusRead s).1] } ∧
          RegsTo s t [(b, F.NV_CARD_STAT_WAITING, waits + 1), (b, F.NV_CARD_STAT_VALID, s.nv.valid.length), (b, F.NV_STATUS_CARD_BUSY, 1)]) ∧
      (8 ≤ waits →
        ∃ t, exec (.card m) s = .next (finish s t) ∧ { t with regs := [] } = { s with regs := [] } ∧
          RegsTo s t [(b, F.NV_CARD_STAT_LOST, min 255 (s.fld b F.NV_CARD_STAT_LOST + 1))])) ∧
    (∀ c l, s.nv.cards = c :: l → s.pwr.core = true → s.fc.resetWait = false → s.nv.storing = 0 → s.flag b F.NV_STATUS_PENDING = false →
      s.flag b F.NV_STATUS_READY = true → s.nv.ring = 0 ∨ s.nv.ring = 16 → s.nv.ring + next % 256 / 16 ∉ s.nv.erasing → c.length = 64 →
      ∃ t, exec .cardWriteComplete s = .next (finish s t) ∧ t.nv.cards = l ∧ t.rd (b + R.NV_CARD_SEQ) = BitVec.ofNat 32 (next + 1) ∧
        t.memWord slot = c.getD 0 0#32 ∧ t.memWord (slot + 8) = BitVec.ofNat 32 next ∧
        (∀ i, 3 ≤ i → i < 63 → t.memWord (slot + 4 * i) = c.getD i 0#32)) ∧
    (Accepts s m b 4#32 → s.flag b F.NV_STATUS_READY = true → s.nv.erasing = [] →
      ∃ t, exec (.cardClear m) s = .next (finish s t) ∧ t.mem = s.mem ∧ t.nv.erasing = (List.range 16).map (fun k => s.nv.ring + k) ∧
        t.nv.clearing = true ∧ RegsTo s t [(b, F.NV_STATUS_ERASE_BUSY, 1), (b, ⟨R.NV_SECHDR + 4 * s.nv.ring, 31, 0⟩, 0xE5E5)]) ∧
    (∀ mask : BitVec 12, Accepts s m (b + R.NV_CNT_INC) (mask.setWidth 32) → (∀ n : Fin 12, cntValue s.nv.cells n < 0xFFFFFFFF) →
      ∃ t, exec (.nvCntInc m mask) s = .next (finish s t) ∧ t.mem = s.mem ∧
        RegsTo s t (((List.range 12).filter (fun n => mask.getLsbD n)).map (fun n => (b, ⟨R.NV_CNT + 4 * n, 31, 0⟩, cntValue s.nv.cells n + 1)))) ∧
    (∀ mask : BitVec 16, Accepts s m (b + R.NV_CNT_CLR) (mask.setWidth 32) →
      ∃ t, exec (.nvCntClr m mask) s = .next (finish s t) ∧ t.mem = s.mem ∧
        RegsTo s t (((List.range 12).filter (fun n => mask.getLsbD n)).map (fun n => (b, ⟨R.NV_CNT + 4 * n, 31, 0⟩, 0))) ∧
        (∀ n : Fin 12, mask.getLsbD n.val = true → cntValue t.nv.cells n = 0))

/-- The slate, the record array, report cards and event counters: `Claims.SlateStore`, `Claims.RecordArray` and `Claims.CardsAndCounters` together. -/
def Obligations.NonVolatile : Prop := Claims.SlateStore ∧ Claims.RecordArray ∧ Claims.CardsAndCounters

/-- R277 to R282: a gauge counts. A microsecond with valid samples publishes its mean current, the voltage and the temperature, adds the
charge exactly, shows the direction past the dead band and the estimate; one without samples counts a MISS. A second within GAU_LOW_I
begins low-current operation; a millisecond without samples makes the gauge blind, and reports it. -/
def Claims.GaugeCounts : Prop :=
  ∀ (s : State) (g : Fin 100) (i : Word), s.pwr.core = true → (s.gauge g).run = true →
    let b := gauB g
    let x := s.gauge g
    let total : Int := x.q * 2 ^ 149 + x.frac + fVal i * 1000
    let db := gauW s g R.GAU_DEADBAND
    (gauIb s g = some i → s.flag b F.GAU_CTRL_EN = true → s.flag b F.GAU_STATUS_LOW = false → s.fld b F.GAU_STATUS_LEARN ≠ 1 →
      -(2 : Int) ^ 212 ≤ total → total < 2 ^ 212 →
      ∃ t, exec (.gaugeStep g) s = .next (finish s t) ∧ t.mem = s.mem ∧ t.rd (b + R.GAU_I) = i ∧ t.rd (b + R.GAU_V) = gauVb s g ∧
        t.rd (b + R.GAU_T) = gauTemp s g ∧ t.fld b F.GAU_STATUS_BLIND = 0 ∧
        (t.gauge g).q * 2 ^ 149 + (t.gauge g).frac = total ∧ (t.gauge g).frac < 2 ^ 149 ∧
        t.rd (b + R.GAU_Q_PASS_LO) = BitVec.ofInt 32 (t.gauge g).q ∧
        t.fld b F.GAU_STATUS_DIR = (if fLt i (fNeg db) then 2 else if fLt db i then 1 else 0) ∧
        (x.based = true →
          t.rd (b + R.GAU_SOC_EST) = fClamp (fAdd (s.rd (b + R.GAU_SOC_REST)) (fDiv (fMul (fOfNat 100) (fOfInt (t.gauge g).q))
            (fMul (fOfNat 3600000000000) (s.rd (b + R.GAU_Q_MAX))))) 0#32 (fOfNat 100)) ∧
        (∀ k, k ≠ g.val → t.gauge k = s.gauge k)) ∧
    (gauIb s g = none → ∃ t, exec (.gaugeStep g) s = .next (finish s t) ∧ t.mem = s.mem ∧
      t.fld b F.GAU_CNT_MISS = min 0xFFFFFFFF (s.fld b F.GAU_CNT_MISS + 1)) ∧
    (s.flag b F.GAU_STATUS_LOW = false → fLe (fAbs (s.rd (b + R.GAU_I))) (gauW s g R.GAU_LOW_I) = true →
      ∃ t, exec (.gaugeLowEntry g) s = .next (finish s t) ∧ t.mem = s.mem ∧ RegsTo s t [(b, F.GAU_STATUS_LOW, 1)] ∧
        Upd s.gauge t.gauge g { x with lowSum := 0, lowN := 0 }) ∧
    (s.flag b F.GAU_STATUS_LOW = true → ∃ t, exec (.gaugeLowEntry g) s = .next (finish s t) ∧ t = s) ∧
    (gauIb s g = none → s.flag b F.GAU_STATUS_BLIND = false → s.fld b F.GAU_STATUS_LEARN ≠ 1 →
      ∃ t, exec (.gauBlind g) s = .next (finish s t) ∧ t.mem = s.mem ∧ RegsTo s t [(b, F.GAU_STATUS_BLIND, 1), (b, F.GAU_I_VALUE, 0)] ∧
        t.reports = s.reports ++ [⟨8, g, K.GAU_BLIND, kindSev K.GAU_BLIND, 0, 0⟩])

/-- R284, R286, R288, R293: the points of a gauge. A first rest with a sound table sets the state of charge and the charge passed, and
makes a felt's gauge valid; a rest of REST_S seconds over which the voltage has changed by less than DV sets them again and begins to
learn, and one that is not calm or not steady does nothing; a table that fails is reported once. Each level is
set when its condition, and cleared when its clear condition, has held for T judgements in a row. -/
def Claims.GaugePoints : Prop :=
  ∀ (s : State) (g : Fin 100) (v dv : Word), s.pwr.core = true → (s.gauge g).run = true →
    let b := gauB g
    let x := s.gauge g
    let steady := fLt (fMul (fAbs dv) (fOfNat 1000)) (fOfNat (gauF s g F.GAU_REST_DV)) = true
    let then_ := max s.lineNs (x.quietAt + 1000000000 * max 1 (gauF s g F.GAU_REST_REST_S))
    let base := (gauW s g R.GAU_OCV_BASE).toNat
    let t16 := fun k => fMul (fOfInt (ocvT s base k)) (fRatio 1 16)
    let calm := fLt (fAbs (s.rd (b + R.GAU_I))) (gauW s g R.GAU_REST_I) = true
    let rep := s.rd (b + R.GAU_SOC_REP)
    let vb := gauVb s g
    let pct := fun k : Nat => fOfNat ((gauW s g R.GAU_WARN_PCT).toNat / 256 ^ k % 256)
    let volt := fun k : Nat => gauW s g (R.GAU_EDV_W + 4 * k)
    let hp := fOfNat (gauF s g F.GAU_WARN_T_HYST)
    let hv := fRatio (gauF s g F.GAU_WARN_T_HYST_MV) 1000
    let sets := fun k : Nat => if k < 2 then fLe vb (volt k) || fLe rep (pct k) else fLe (volt k) vb || fLe (pct k) rep
    let clears := fun k : Nat => if k < 2 then fLe (fAdd (pct k) hp) rep && fLe (fAdd (volt k) hv) vb
      else fLe rep (fSub (pct k) hp) && fLe vb (fSub (volt k) hv)
    let times := max 1 (gauF s g F.GAU_WARN_T_T)
    (calm → x.started = false → ∀ soc, ocvLookup s g v = some soc →
      ∃ t, exec (.gaugeInit g v) s = .next (finish s t) ∧ t.mem = s.mem ∧ t.rd (b + R.GAU_SOC_REST) = soc ∧ t.rd (b + R.GAU_SOC_REP) = soc ∧
        t.rd (b + R.GAU_SOC_EST) = fClamp soc 0#32 (fOfNat 100) ∧ t.fld b F.GAU_LEARN_INFO_INIT = 1 ∧ (g.val < 96 → t.fld b F.GAU_STATUS_VALID = 1) ∧
        Upd s.gauge t.gauge g { x with q := 0, q1 := x.q1 - x.q, frac := 0, est := soc, started := true, based := true, tableTold := false } ∧ t.reports = s.reports) ∧
    (calm → x.started = false → tableOk s base = false → x.tableTold = false → s.fld b F.GAU_STATUS_LEARN ≠ 1 →
      ∃ t, exec (.gaugeInit g v) s = .next (finish s t) ∧ SameRegs s t ∧ Upd s.gauge t.gauge g { x with tableTold := true } ∧
        t.reports = s.reports ++ [⟨8, g, K.GAU_TABLE, kindSev K.GAU_TABLE, 0, base⟩]) ∧
    (calm → steady → x.rested = false → fLe (t16 0) (gauTemp s g) = true → fLe (gauTemp s g) (t16 7) = true →
      s.fld b F.GAU_STATUS_LEARN ≠ 1 → ∀ soc, ocvLookup s g v = some soc →
      ∃ t, exec (.rest g ⟨v, dv⟩) s = .next (finish s t) ∧ t.mem = s.mem ∧ t.reports = s.reports ∧ t.lineNs = then_ ∧
        RegsTo s t [(b, F.GAU_STATUS_LEARN, 1), (b, F.GAU_SOC_REST_VALUE, soc.toNat), (b, F.GAU_LEARN_INFO_INIT, 0),
          (b, F.GAU_SOC_EST_VALUE, (fClamp soc 0#32 (fOfNat 100)).toNat), (b, F.GAU_EVT_REST, 1)] ∧
        (t.gauge g).q = 0 ∧ (t.gauge g).rested = true ∧ (t.gauge g).soc1 = soc ∧ (t.gauge g).at1 = then_) ∧
    (¬ calm ∨ ¬ steady ∨ x.rested = true → ∃ t, exec (.rest g ⟨v, dv⟩) s = .next (finish s t) ∧ t = s) ∧
    (s.flag b F.GAU_STATUS_VALID = true → (96 ≤ g.val ∨ feltSwitching s g = false) → fLe vb (volt 1) = false →
      x.setN.length = 4 → x.clrN.length = 4 →
      ∃ t, exec (.levelJudge g) s = .next (finish s t) ∧ t.mem = s.mem ∧
        ∀ k : Fin 4, t.flag b (levelFld k) =
          if s.flag b (levelFld k) then !(clears k && decide (times ≤ x.clrN.getD k 0 + 1)) else sets k && decide (times ≤ x.setN.getD k 0 + 1))

/-- R295, R296, R297, R298, R301: the control of a gauge. EN = 1 of a gauge that is off starts it without an estimate and with every level
set, or with the state taken up at boot;
EN = 0 keeps every other register; SWAP discards the estimate and raises its event; RELOAD checks the table again; LEARN_RESET takes Q_MAX
back to the design capacity. Writing 1 to open taps clears them. -/
def Claims.GaugeControl : Prop :=
  ∀ (s : State) (m : Master) (g : Fin 100), s.fld (gauB g) F.GAU_STATUS_LEARN ≠ 1 →
    let b := gauB g
    let x := s.gauge g
    let fresh : List (Nat × Fld × Nat) := [(b, F.GAU_SOC_REST_VALUE, 0), (b, F.GAU_SOC_EST_VALUE, 0), (b, F.GAU_SOC_REP_VALUE, 0),
      (b, F.GAU_Q_PASS_LO_Q, 0), (b, ⟨R.GAU_STATUS, 31, 0⟩, 0xF0), (b, F.GAU_LEARN_INFO_INIT, 0)]
    let told := fun (t : State) (base : Nat) =>
      t.reports = s.reports ++ if tableOk s base then [] else [⟨8, g, K.GAU_TABLE, kindSev K.GAU_TABLE, 0, base⟩]
    (Accepts s m b (fset (s.kept b) F.GAU_CTRL_EN 1) → s.fld b F.GAU_CTRL_EN = 0 → x.tableTold = false →
      ∃ t, exec (.gauEn m g true) s = .next (finish s t) ∧ t.mem = s.mem ∧ (t.gauge g).run = true ∧ told t (s.rd (b + R.GAU_OCV_BASE)).toNat ∧
        (x.kept = false → RegsTo s t ((b, F.GAU_CTRL_EN, 1) :: fresh) ∧ (t.gauge g).started = false ∧ (t.gauge g).q = 0) ∧
        (x.kept = true → RegsTo s t [(b, F.GAU_CTRL_EN, 1)] ∧ (t.gauge g).started = x.started ∧ (t.gauge g).q = x.q)) ∧
    (Accepts s m b (fset (s.kept b) F.GAU_CTRL_EN 0) → s.fld b F.GAU_CTRL_EN = 1 →
      ∃ t, exec (.gauEn m g false) s = .next (finish s t) ∧ RegsTo s t [(b, F.GAU_CTRL_EN, 0)] ∧ { t with regs := [] } = { s with regs := [] }) ∧
    (s.fld b F.GAU_CTRL_EN = 1 → x.run = true →
      (Accepts s m b (fset (s.kept b) F.GAU_CTRL_SWAP 1) →
        ∃ t, exec (.swap m g) s = .next (finish s t) ∧ t.mem = s.mem ∧ RegsTo s t (fresh ++ [(b, F.GAU_STATUS_BLIND, s.fld b F.GAU_STATUS_BLIND), (b, F.GAU_EVT_SWAP, 1)]) ∧
          (t.gauge g).run = true ∧ (t.gauge g).started = false ∧ (t.gauge g).q = 0 ∧ t.reports = s.reports) ∧
      (Accepts s m b (fset (s.kept b) F.GAU_CTRL_RELOAD 1) → x.tableTold = false →
        ∃ t, exec (.reload m g) s = .next (finish s t) ∧ SameRegs s t ∧ told t (gauW s g R.GAU_OCV_BASE).toNat) ∧
      (Accepts s m b (fset (s.kept b) F.GAU_CTRL_LEARN_RESET 1) →
        ∃ t, exec (.learnReset m g) s = .next (finish s t) ∧ { t with regs := [] } = { s with regs := [] } ∧
          RegsTo s t [(b, F.GAU_Q_MAX_Q_MAX, (gauW s g R.GAU_Q_DESIGN).toNat), (b, F.GAU_STATUS_LEARN, 0)])) ∧
    (∀ mask : BitVec 17, Accepts s m (b + R.GAU_TAP_STAT) (mask.setWidth 32) →
      ∃ t, exec (.tapOpenClear m g mask) s = .next (finish s t) ∧ t.mem = s.mem ∧ t.reports = s.reports ∧
        (∀ k, 1 ≤ k → k ≤ 16 → (t.rd (b + R.GAU_TAP_STAT)).getLsbD k = ((s.rd (b + R.GAU_TAP_STAT)).getLsbD k && !mask.getLsbD k)) ∧
        (t.gauge g).openN = x.openN.filter (fun e => !mask.getLsbD e.1))

/-- Gauges: counting, points of the table and commands: `Claims.GaugeCounts`, `Claims.GaugePoints` and `Claims.GaugeControl` together. -/
def Obligations.Gauges : Prop := Claims.GaugeCounts ∧ Claims.GaugePoints ∧ Claims.GaugeControl

/-- R392, R394, R397: the monitor scan. A conversion of a MON input writes its result register in one piece, with its range flags, FRESH,
PULSED and the next SEQ, and the scan goes on; the last one counts the scan and begins the next. A read of a result clears FRESH and
nothing else. -/
def Claims.MonitorScan : Prop :=
  ∀ (s : State) (m : Master) (v : Word) (k : Fin 32),
    let b := supB
    let a := R.SUP_MON + 4 * k
    let code := monCode v
    let count := s.fld b F.SUP_SCAN_STAT_COUNT
    (s.pwr.core = true → s.sup.pos = k → tapsOn s k = [] →
      ∃ t, exec (.monConversion v) s = .next (finish s t) ∧ t.mem = s.mem ∧ t.sup.pos = k.val + 1 ∧
        t.rd (b + a) = BitVec.ofNat 32 (code % 2 ^ 18 + 2 ^ 18 + count % 2 * 2 ^ 19 + ((s.rd (b + a)).toNat / 2 ^ 24 + 1) % 256 * 2 ^ 24) ∧
        sparseGet (fun _ => 0) t.monTrk k = code) ∧
    (s.pwr.core = true → s.sup.pos = 39 →
      ∃ t, exec (.monConversion v) s = .next (finish s t) ∧ t.mem = s.mem ∧ t.sup.pos = 0 ∧ t.fld b F.SUP_SCAN_STAT_COUNT = (count + 1) % 65536) ∧
    (Readable s m (b + a) →
      ∃ t, exec (.monResultRead m (k.castLE (by decide))) s = .next (finish s t) ∧ RegsTo s t [(b, ⟨a, 18, 18⟩, 0)] ∧
        { t with regs := [] } = { s with regs := [] } ∧ (masterRead m (b + a) s).1 = s.rd (b + a))

/-- What a master reads at these addresses in their order, the state it leaves, and whether a word was refused. -/
def Claims.readAll (m : Master) (l : List Nat) (s : State) : List Word × State × Bool :=
  l.foldl (fun r a => (r.1 ++ [(masterRead m a r.2.1).1], (masterRead m a r.2.1).2, r.2.2 || !(busGet m a r.2.1).2.2)) ([], s, false)

/-- What a master's writes of words to addresses leave, up to one that begins a reset, and whether a word was refused. -/
def Claims.writeAll (m : Master) (l : List (Nat × Word)) (s : State) : State × Bool :=
  l.foldl (fun r e => if r.1.pwr.core then (masterWrite m e.1 e.2 r.1, r.2 || !(busPut m e.1 e.2 r.1).2) else r) (s, false)

/-- R465 to R469, R471 to R473: host frames. A sound frame of n words reads or writes them in order as its master does, from its address
up, or with FIX all at its address, and answers STATUS with the data; one whose words wait (R445, R456) is answered BUSY and does
nothing; ID answers the ID word and changes nothing; an unknown command, a length of 0 or beyond the interface's, is answered BAD and
changes nothing; a frame whose check fails does nothing but count and report it. On the two-wire interface the answer queues as STATUS,
command and data, most significant byte first. A frame cut short by SPI_CS_N is counted, and of a read the words that have left take
effect. -/
def Claims.HostFrames : Prop :=
  ∀ (s : State) (h : HostItf) (a : Word) (n : BitVec 16) (ws : List Word), Awake s → s.host.twIn = [] → s.host.twOut.length < 4 →
    s.host.stuck = false → s.host.rstLow = false →
    let m : Master := match h with | .spi => .spi | .twoWire => .twoWire
    let most : Nat := match h with | .spi => 1024 | .twoWire => 60
    let answered := fun (t u : State) (cmd status : Nat) (data : List Word) => { t with host := s.host } = { u with host := s.host } ∧
      match h with
      | .spi => t.host = { u.host with spiStatus := status, spiData := data }
      | .twoWire => t.host.twIn = [] ∧ t.host.twOut = u.host.twOut ++ [[BitVec.ofNat 8 status, BitVec.ofNat 8 cmd] ++
          data.flatMap (fun w => (wordBytes w).reverse)]
    let status := fun (u : State) (refused bad : Bool) => 64 + b2n refused * 16 + b2n bad * 4 + b2n (alertLow u) * 2 + b2n (faultLow u)
    let addrs := fun (fix : Bool) (k : Nat) => (List.range k).map (fun i => if fix then a.toNat else (a.toNat + 4 * i) % 2 ^ 32)
    let zeros : Nat := match h with | .spi => n.toNat | .twoWire => min 60 n.toNat
    let sized := fun (k : Nat) => a.toNat % 4 = 0 ∧ 1 ≤ k ∧ k ≤ most
    let free := fun (write fix : Bool) (k : Nat) => ∀ b ∈ addrs fix k, busWaits s write b = false
    let got := fun (fix : Bool) => Claims.readAll m (addrs fix n.toNat) s
    let put := fun (fix : Bool) => Claims.writeAll m ((addrs fix ws.length).zip ws) s
    let code := fun (write fix : Bool) => if write then (if fix then 10 else 2) else if fix then 11 else 3
    let reads := fun (fix : Bool) (c : BitVec 16) => if fix then Instr.readFix h a n c else Instr.read h a n c
    let writes := fun (fix : Bool) (c : BitVec 16) => if fix then Instr.writeFix h a ws c else Instr.write h a ws c
    let failed := fun (t : State) (cmd : Nat) => t.mem = s.mem ∧ t.host.twOut = s.host.twOut ∧
      match h with
      | .spi => RegsTo s t [(hostB, F.HOST_SPI_STAT_CRC_ERR, min 65535 (s.fld hostB F.HOST_SPI_STAT_CRC_ERR + 1))] ∧
          t.reports = s.reports ++ [⟨13, 0, K.HOST_CRC, kindSev K.HOST_CRC, 0, cmd⟩]
      | .twoWire => RegsTo s t [(hostB, F.HOST_TW_STAT_PEC_ERR, min 255 (s.fld hostB F.HOST_TW_STAT_PEC_ERR + 1))] ∧
          t.reports = s.reports ++ [⟨13, 1, K.HOST_CRC, kindSev K.HOST_CRC, 0, cmd⟩]
    (∀ fix : Bool,
      let cr := code false fix
      let cw := code true fix
      let okR := frameCheck h cr a.toNat n.toNat []
      let okW := frameCheck h cw a.toNat ws.length ws
      (sized n.toNat →
        (free false fix n.toNat → (got fix).2.1.pwr.core = true →
          ∃ t, exec (reads fix okR) s = .next (finish s t) ∧ answered t (got fix).2.1 cr (status (got fix).2.1 (got fix).2.2 false) (got fix).1) ∧
        (¬ free false fix n.toNat →
          ∃ t, exec (reads fix okR) s = .next (finish s t) ∧ answered t s cr (status s false false + 32) (List.replicate n.toNat 0#32))) ∧
      (sized ws.length →
        (free true fix ws.length → (put fix).1.pwr.core = true →
          ∃ t, exec (writes fix okW) s = .next (finish s t) ∧ answered t (put fix).1 cw (status (put fix).1 (put fix).2 false) []) ∧
        (free true fix ws.length → (put fix).1.pwr.core = false →
          ∃ t, exec (writes fix okW) s = .next (finish s t) ∧ { t with host := s.host } = { (put fix).1 with host := s.host }) ∧
        (¬ free true fix ws.length →
          ∃ t, exec (writes fix okW) s = .next (finish s t) ∧ answered t s cw (status s false false + 32) [])) ∧
      (n = 0#16 ∨ most < n.toNat →
        ∃ t, exec (reads fix okR) s = .next (finish s t) ∧ answered t s cr (status s false true) (List.replicate zeros 0#32)) ∧
      (∀ c, c ≠ okR → ∃ t, exec (reads fix c) s = .next (finish s t) ∧ failed t cr) ∧
      (∀ c, c ≠ okW → ∃ t, exec (writes fix c) s = .next (finish s t) ∧ failed t cw)) ∧
    (a.toNat % 4 = 0 →
      ∃ t, exec (.id h a 1#16 (frameCheck h 159 a.toNat 1 [])) s = .next (finish s t) ∧
        answered t s 159 (status s false false) [BitVec.ofNat 32 (s.fld 0 F.SYS_ID_PART * 65536 + 256 + s.fld 0 F.SYS_ID_REV)]) ∧
    (∀ cmd : BitVec 8, cmd.toNat ∉ [0x02, 0x03, 0x0A, 0x0B, 0x9F] →
      (∃ t, exec (.hostUnknownCommand h cmd n (frameCheck h cmd.toNat 0 n.toNat [])) s = .next (finish s t) ∧ answered t s cmd.toNat (status s false true) []) ∧
      (∀ c, c ≠ frameCheck h cmd.toNat 0 n.toNat [] → ∃ t, exec (.hostUnknownCommand h cmd n c) s = .next (finish s t) ∧ failed t cmd.toNat)) ∧
    (∃ t, exec (.spiAbort none) s = .next (finish s t) ∧ { t with regs := [] } = { s with regs := [] } ∧
      RegsTo s t [(hostB, F.HOST_SPI_STAT_ABORTS, min 65535 (s.fld hostB F.HOST_SPI_STAT_ABORTS + 1))]) ∧
    (∀ fix : Bool, a.toNat % 4 = 0 → n ≠ 0#16 → free false fix n.toNat →
      let r := Claims.readAll .spi (addrs fix n.toNat) (s.bump hostB F.HOST_SPI_STAT_ABORTS 1)
      ∃ t, exec (.spiAbort (some (fix, a, n))) s = .next (finish s t) ∧ t = { r.2.1 with host := { r.2.1.host with spiData := r.1 } })

/-- R472, R473, R475, R476: the two-wire target. A whole read takes the oldest response, a broken one leaves it; a notice that has gone, or
whose last try has failed and is counted, no longer waits; a stuck line is reported once an episode and shown; the end of the episode
shows 0; the block's reset empties both queues. -/
def Claims.TwoWire : Prop :=
  ∀ (s : State) (m : Master) (sda : Bool), s.pwr.core = true →
    let b := hostB
    let x := s.host
    let code := 1 + b2n sda
    (∀ p q, x.twOut = p :: q → s.pwr.asleep = false → x.stuck = false → x.rstLow = false →
      (x.twIn = [] → ∃ t, exec (.twRead true) s = .next (finish s t) ∧ t = { s with host := { x with twSent := p, twOut := q } }) ∧
      (∃ t, exec (.twRead false) s = .next (finish s t) ∧ t = s)) ∧
    (x.notice ≠ 0 → x.rstLow = false →
      (∃ t, exec (.twNotice true) s = .next (finish s t) ∧ t = { s with host := { x with notice := 0, noticeSent := noticeBytes s } }) ∧
      (∃ t, exec (.twNotice false) s = .next (finish s t) ∧ t.host = { x with notice := 0 } ∧ t.mem = s.mem ∧
        RegsTo s t [(b, F.HOST_TW_STAT_NOTICE_LOST, min 255 (s.fld b F.HOST_TW_STAT_NOTICE_LOST + 1))])) ∧
    (x.stuck = true →
      (∃ t, exec .twSclTimeout s = .next (finish s t) ∧ t.mem = s.mem ∧ t.host.stuck = false ∧ t.host.twOut = x.twOut ∧
        RegsTo s t [(b, F.HOST_TW_STAT_STUCK, 0)]) ∧
      (∃ t, exec (.twSdaRecovery true) s = .next (finish s t) ∧ t.mem = s.mem ∧ t.host.stuck = false ∧ t.host.twOut = x.twOut ∧
        RegsTo s t [(b, F.HOST_TW_STAT_STUCK, 0)])) ∧
    (x.stuck = false →
      (∃ t, exec (.twStuck sda) s = .next (finish s t) ∧ t.mem = s.mem ∧ t.host = { x with stuck := true } ∧
        RegsTo s t [(b, F.HOST_TW_STAT_STUCK, code)] ∧ t.reports = s.reports ++ [⟨13, 1, K.TW_STUCK, kindSev K.TW_STUCK, 0, code⟩]) ∧
      (∃ t, exec (.twSdaRecovery false) s = .next (finish s t) ∧ t.mem = s.mem ∧ t.host = { x with stuck := true } ∧
        RegsTo s t [(b, F.HOST_TW_STAT_STUCK, 2)] ∧ t.reports = s.reports ++ [⟨13, 1, K.TW_STUCK, kindSev K.TW_STUCK, 0, 2⟩]) ∧
      (∀ held, ∃ t, exec (.twReset (.pin held)) s = .next (finish s t) ∧
        t = { s with host := { x with twIn := [], twOut := [], notice := 0, rstLow := held } })) ∧
    (Accepts s m (b + R.HOST_TW_CTRL) 1#32 → x.stuck = false →
      ∃ t, exec (.twReset (.ctrl m)) s = .next (finish s t) ∧ SameRegs s t ∧ t.host = { x with twIn := [], twOut := [], notice := 0 })

/-- The scan converter, the SPI frames and the two-wire block: `Claims.MonitorScan`, `Claims.HostFrames` and `Claims.TwoWire` together. -/
def Obligations.MonitorAndHosts : Prop := Claims.MonitorScan ∧ Claims.HostFrames ∧ Claims.TwoWire

/-- R402, R403, R406: the timetable starts and stops. UP is dropped in a power-down and recorded; with CHAIN_IN it waits for SEQ_IN; else its
first step begins, and with no entry the cabinet is ON at once. DOWN, and a pin chain whose delay has passed, bring SEQ_OUT low and stop
what the timetable does not name; the end of that stage begins the named steps with the highest. -/
def Claims.TimetableRuns : Prop :=
  ∀ (s : State) (m : Master), s.isCrown = false →
    let b := supB
    let x := s.sup
    let downs := x.seq = 3 ∨ x.seq = 4
    let idle := unnamedFelts s = [] ∧ unnamedHouses s = []
    let up := fun t : State => (∀ r, nextStep s 0 = none → t.sup.seq = 0 ∧ t.fld b F.SUP_STATUS_CAB = 2 ∧ t.fld b F.SUP_STATUS_SEQ_OUT = 1 ∧
        t.fld b F.SUP_EVT_PU_DONE = 1 ∧ t.rail r = s.rail r) ∧
      (∀ j, nextStep s 0 = some j → t.sup.seq = 2 ∧ t.fld b F.SUP_STATUS_CAB = 1 ∧ t.fld b F.SUP_STATUS_STEP = j ∧
        ∀ r ∈ ttValid s, ttStep s r = j → ttGroup s r ∉ x.groups → ttSrc s r = 0 → (s.rail r).st ≠ 3 → (t.rail r).st = 1)
    (Accepts s m (b + R.SUP_TT_CTRL) 1#32 →
      ∃ t, exec (.timetableUp m) s = .next (finish s t) ∧ t.mem = s.mem ∧
        (downs → RegsTo s t [(b, F.SUP_TT_STAT_UP_DROP, 1)] ∧ t.sup = x) ∧
        (¬ downs → s.forcedOff = false → s.flag b F.SUP_TT_CFG_CHAIN_IN = true → x.seq ≠ 2 →
          RegsTo s t [(b, F.SUP_STATUS_CAB, 1)] ∧ t.sup = { x with seq := 1 }) ∧
        (¬ downs → s.forcedOff = false → s.flag b F.SUP_TT_CFG_CHAIN_IN = false → up t)) ∧
    (Accepts s m (b + R.SUP_TT_CTRL) 2#32 → ¬ downs →
      ∃ t, exec (.timetableDown m) s = .next (finish s t) ∧ t.mem = s.mem ∧ t.sup.seq = 3 ∧ t.fld b F.SUP_STATUS_CAB = 3 ∧
        t.fld b F.SUP_STATUS_SEQ_OUT = 0 ∧ (idle → RegsTo s t [(b, F.SUP_STATUS_CAB, 3), (b, F.SUP_STATUS_SEQ_OUT, 0)])) ∧
    (s.pwr.core = true →
      (x.seq = 3 →
        ∃ t, exec .unnamedTimeout s = .next (finish s t) ∧ t.sup.seq = 4 ∧ RegsTo s t [(b, F.SUP_STATUS_STEP, topStep s (ttValid s))] ∧
          ∀ r ∈ ttValid s, (t.rail r).st = if ttStep s r = topStep s (ttValid s) then 5 else 9) ∧
      (x.flt = [] →
        ∃ t, exec .seqInQualified s = .next (finish s t) ∧ t.mem = s.mem ∧ t.fld b F.SUP_STATUS_SEQ_IN = 1 ∧ t.fld b F.SUP_STATUS_SEQ_FLT = 0 ∧
          (x.seq ≠ 1 → RegsTo s t [(b, F.SUP_STATUS_SEQ_IN, 1), (b, F.SUP_STATUS_SEQ_FLT, 0)] ∧ t.sup = x) ∧ (x.seq = 1 → up t)) ∧
      (¬ downs →
        ∃ t, exec .seqFltDetect s = .next (finish s t) ∧ t.mem = s.mem ∧ RegsTo s t [(b, F.SUP_STATUS_SEQ_FLT, 1)] ∧
          t.sup = { x with chain := x.chain || s.flag b F.SUP_TT_CFG_FLT_IN }) ∧
      (x.chain = true → ¬ downs →
        ∃ t, exec .chainDownDelayEnd s = .next (finish s t) ∧ t.mem = s.mem ∧ t.sup.chain = false ∧ t.sup.seq = 3 ∧
          t.fld b F.SUP_STATUS_CAB = 3 ∧ t.fld b F.SUP_STATUS_SEQ_OUT = 0))

/-- R400 to R404: an entry of the timetable. Its delay's end takes its action, for a pin driving it high or low, and so does the end of a
retry's delay. A missed power-good sets RAIL and LAST_FAULT; REACT 0 records and reports it, REACT 3 pulls SEQ_FLT_N low and ends a
power-up as FAILED. A rail that has not gone off in time is forced and reported; 60 s of a good rail forget its retries. -/
def Claims.TimetableEntries : Prop :=
  ∀ (s : State) (r : Fin 32), s.pwr.core = true →
    let b := supB
    let x := s.rail r
    let i := ttIndex s r
    let pin := ttKind s r = 3
    let told := fun k : Nat => ({ cls := 11, inst := 32 + r, kind := k, sev := kindSev k, count := 0, arg := r } : Msg)
    let fault : List (Nat × Fld × Nat) := [(b, F.SUP_EVT_RAIL, 1), (b, F.SUP_TT_STAT_LAST_FAULT, r.val)]
    (x.st = 1 → s.sup.seq = 2 →
      ∃ t, exec (.ttEntryAction r) s = .next (finish s t) ∧ (t.rail r).st = 2 ∧
        (pin → SameRegs s t ∧ t.sup.pins = setAdd s.sup.pins i ∧ Upd s.rail t.rail r { x with st := 2 })) ∧
    (x.st = 5 →
      ∃ t, exec (.ttEntryAction r) s = .next (finish s t) ∧ (t.rail r).st = 6 ∧
        (pin → SameRegs s t ∧ t.sup.pins = setDel s.sup.pins i ∧ Upd s.rail t.rail r { x with st := 6 })) ∧
    (x.st = 7 →
      ∃ t, exec (.railRetryDelayEnd r) s = .next (finish s t) ∧ (t.rail r).st = 2 ∧
        (pin → SameRegs s t ∧ t.sup.pins = setAdd s.sup.pins i ∧ Upd s.rail t.rail r { x with st := 2 })) ∧
    (x.st = 2 → railGood s r = false →
      (s.fld (ttB r) F.SUP_TTE_A_REACT = 0 →
        ∃ t, exec (.ttPgTimeout r) s = .next (finish s t) ∧ t.mem = s.mem ∧ t.reports = s.reports ++ [told K.RAIL_LOG] ∧
          RegsTo s t (fault ++ if r.val < 16 then [(b, F.SUP_TT_STAT_FAILED, s.fld b F.SUP_TT_STAT_FAILED ||| 2 ^ r.val)] else []) ∧
          Upd s.rail t.rail r { x with st := 4 }) ∧
      (s.fld (ttB r) F.SUP_TTE_A_REACT = 3 →
        ∃ t, exec (.ttPgTimeout r) s = .next (finish s t) ∧ t.mem = s.mem ∧ t.reports = s.reports ++ [told K.RAIL_RESET] ∧
          Upd s.rail t.rail r { x with st := 8 } ∧ 1 ∈ t.sup.flt ∧
          RegsTo s t (fault ++ [(b, F.SUP_STATUS_SEQ_FLT, 1)] ++
            if s.sup.seq = 2 then [(b, F.SUP_STATUS_CAB, 4), (b, F.SUP_EVT_PU_DONE, 1)] else []))) ∧
    (x.st = 6 → railDone s r (railOwn s r) = false →
      ∃ t, exec (.railOffTmo r) s = .next (finish s t) ∧ (t.rail r).st = 0 ∧ told K.RAIL_OFF_TMO ∈ t.reports ∧
        (pin → SameRegs s t ∧ t.sup.pins = setDel s.sup.pins i)) ∧
    (x.st = 3 →
      ∃ t, exec (.railRetryClear r) s = .next (finish s t) ∧ SameRegs s t ∧ Upd s.rail t.rail r { x with retries := 0 })

/-- The supply timetable: steps, rails and their faults: `Claims.TimetableRuns` and `Claims.TimetableEntries` together. -/
def Obligations.SupplyTimetable : Prop := Claims.TimetableRuns ∧ Claims.TimetableEntries

/-- R407, R408: the interlocks. A sample of the inputs moves each interlock by its rule: both at run, run or a wait for the acknowledgement;
both at stop, stop; apart, stop, and latched once they have stayed apart for the discrepancy time; a latched one arms at both stop and
leaves at both run. The acknowledgement lets a waiting one run whose inputs say run. What a stop names is held, and nothing else. -/
def Claims.Interlocks : Prop :=
  ∀ (s : State) (m : Master) (a b : BitVec 4),
    let cfg := fun n => supB + 0x20 * n
    let nib := ilkNib s
    let inA := fun n => a.getLsbD n
    let inB := fun n => b.getLsbD n != s.flag (cfg n) F.SUP_ILK_CFG_B_ANTI
    let run := fun n => if s.flag (cfg n) F.SUP_ILK_CFG_RESTART then 2 else 1
    let apart := fun n => if 8 ≤ nib n then cntOf s.sup.ilkN n + 1 else 0
    let next := fun n =>
      if nib n % 8 = 3 ∨ nib n % 8 = 4 then
        (if inA n = false ∧ inB n = false then 4 + nib n / 8 * 8 else if nib n % 8 = 4 ∧ inA n = true ∧ inB n = true then run n else nib n)
      else if inA n ≠ inB n then (if ilkDisc s n ≤ apart n then 11 else 8)
      else if inA n = true then (if nib n % 8 = 0 then run n else if nib n % 8 = 2 then 2 else 1)
      else 0
    let raw := fun n => s.fld supB F.SUP_ILK_STAT_RAW / 16 ^ n % 16
    let acked := fun (mask : BitVec 4) n =>
      if mask.getLsbD n = true ∧ nib n % 8 = 2 ∧ raw n % 2 = 1 ∧ (raw n / 2 % 2 = 1 ↔ s.flag (cfg n) F.SUP_ILK_CFG_B_ANTI = false) then 1 else nib n
    let held := fun t : State => ∀ f : Fin 96, f.val ∈ t.ilkHold ↔ ∃ n : Fin 4, ilkNib t n % 8 ≠ 1 ∧ f.val ∈ ilkFelts s n
    (s.pwr.core = true →
      ∃ t, exec (.interlockSample a b) s = .next (finish s t) ∧ t.mem = s.mem ∧ (∀ n : Fin 4, ilkNib t n = next n) ∧ held t ∧
        (∀ n : Fin 4, t.fld supB F.SUP_ILK_STAT_RAW / 16 ^ n.val % 16 = b2n (a.getLsbD n) + 2 * b2n (b.getLsbD n)) ∧
        (∀ n : Fin 4, nib n % 8 = 1 → next n % 8 ≠ 1 →
          ⟨11, 16 + n, K.ILK_STOP, kindSev K.ILK_STOP, 0, n⟩ ∈ t.reports ∧ t.fld supB F.SUP_EVT_ILK_STOP = 1)) ∧
    (∀ mask : BitVec 4, Accepts s m (supB + R.SUP_ILK_CTRL) (mask.setWidth 32) →
      ∃ t, exec (.interlockAck m mask) s = .next (finish s t) ∧ t.mem = s.mem ∧ (∀ n : Fin 4, ilkNib t n = acked mask n) ∧ held t)

/-- R409, R410, R412: the push-button. A press is shown from its beginning to its end, with its length; held for ON_MS it raises PWR_EN of a
cabinet that is off; a short one of a cabinet that is not off is reported; held for LONG_S it forces everything off with SEQ_FLT_N low, and
the end of the force-off lowers PWR_EN and lets SEQ_FLT_N go (R405). VAON's rise raises PWR_EN where AUTO_ON says so. -/
def Claims.PushButton : Prop :=
  ∀ (s : State) (ms : BitVec 32),
    let b := supB
    let x := s.sup
    let live := s.flag b F.SUP_PB_STAT_PRESSED = true ∧ x.pbDone = false
    let off := (s.fld b F.SUP_STATUS_CAB = 0 ∨ s.fld b F.SUP_STATUS_CAB = 5) ∧ s.flag b F.SUP_STATUS_PWR_EN = false
    let long := 1000 * max 2 (min 16 (s.fld b F.SUP_PB_CFG_LONG_S))
    (s.flag b F.SUP_PB_STAT_PRESSED = false → s.pwr.asleep = false →
      ∃ t, exec .pbPressBegin s = .next (finish s t) ∧ t.mem = s.mem ∧ RegsTo s t [(b, F.SUP_PB_STAT_PRESSED, 1)] ∧
        t.sup = { x with pbDone := s.forceOff }) ∧
    (s.flag b F.SUP_PB_STAT_PRESSED = true →
      ∃ t, exec (.pbPressEnd ms) s = .next (finish s t) ∧ t.mem = s.mem ∧ t.sup = { x with pbDone := false } ∧
        RegsTo s t [(b, F.SUP_PB_STAT_PRESSED, 0), (b, F.SUP_PB_STAT_PRESS_MS, min 65535 ms.toNat)]) ∧
    (live → off →
      ∃ t, exec .pbOn s = .next (finish s t) ∧ t.mem = s.mem ∧ RegsTo s t [(b, F.SUP_STATUS_PWR_EN, 1)] ∧ t.forceOff = s.forceOff ∧
        t.sup = { x with pbDone := true }) ∧
    (live → ¬ off →
      (s.flag b F.SUP_PB_CFG_SHORT_ACT = false →
        ∃ t, exec .pbShort s = .next (finish s t) ∧ t.mem = s.mem ∧ RegsTo s t [(b, F.SUP_EVT_PB_SHORT, 1)] ∧ t.sup = { x with pbDone := true } ∧
          t.reports = s.reports ++ [⟨11, 64, K.PB_SHORT, kindSev K.PB_SHORT, 0, 0⟩]) ∧
      (∃ t, exec .pbForceOff s = .next (finish s t) ∧ t.mem = s.mem ∧ t.forceOff = true ∧ t.fld b F.SUP_EVT_PB_LONG = 1 ∧
        t.fld b F.SUP_STATUS_SEQ_FLT = 1 ∧ 2 ∈ t.sup.flt ∧ ⟨11, 64, K.PB_FORCE_OFF, kindSev K.PB_FORCE_OFF, 0, long⟩ ∈ t.reports)) ∧
    (s.forceOff = true →
      ∃ t, exec .forceOffEnd s = .next (finish s t) ∧
        RegsTo s t [(b, F.SUP_STATUS_PWR_EN, 0), (b, F.SUP_STATUS_CAB, 5), (b, F.SUP_STATUS_SEQ_FLT, b2n (setDel x.flt 2 != []))] ∧
        { t with regs := [] } = { s with regs := [], forceOff := false, sup := { x with flt := setDel x.flt 2 } }) ∧
    (∃ t, exec .vaonRise s = .next (finish s t) ∧ t.mem = s.mem ∧ t.pwr = { s.pwr with vaon := true, aux := true } ∧
      RegsTo s t (if s.flag b F.SUP_PB_CFG_AUTO_ON then [(b, F.SUP_STATUS_PWR_EN, 1)] else []))

/-- Interlocks and the push-button: `Claims.Interlocks` and `Claims.PushButton` together. -/
def Obligations.InterlocksAndPushButton : Prop := Claims.Interlocks ∧ Claims.PushButton

/-- R30, R411, R503 to R508: supplies, resets and sleep. The manual reset, the software reset and a supply out of range begin a system
reset: the core domain is in reset, every register but those of the always-on domain has its reset value, the cause is recorded beside the
ones before, PWR_EN and AUTO_ON stay. The core leaves reset with its supplies in range and PLL A locked, and the lock of PLL A and its loss
are shown, the loss reported. SLEEP stops the core clock of a machine at rest, and is dropped otherwise; a wake event starts it again. -/
def Obligations.ResetsAndSleep : Prop :=
  ∀ (s : State) (m : Master) (crystal : Bool),
    let rst := fun (cause : Nat) (t : State) => t.pwr.core = false ∧ t.pwr.asleep = false ∧
      t.fld 0 F.SYS_RST_CAUSE_CAUSE = s.fld 0 F.SYS_RST_CAUSE_CAUSE ||| 2 ^ cause ∧
      t.fld supB F.SUP_STATUS_PWR_EN = s.fld supB F.SUP_STATUS_PWR_EN ∧ t.fld supB F.SUP_PB_CFG_AUTO_ON = s.fld supB F.SUP_PB_CFG_AUTO_ON ∧
      (∀ a, alwaysOn a = false → a ≠ supB → a ≠ supB + R.SUP_PB_CFG → t.rd a = State.reset.rd a) ∧
      t.rd (svcB + R.SVC_STATUS) = s.rd (svcB + R.SVC_STATUS) ∧ t.engines = State.reset.engines ∧ t.felts = State.reset.felts ∧
      t.fc = State.reset.fc ∧ t.nv.copyA = s.nv.copyA ∧ t.nv.copyB = s.nv.copyB ∧ t.flash = s.flash ∧ t.pending = s.pending
    (∃ t, exec .manualReset s = .next (finish s t) ∧ rst 1 t ∧ t.pwr.main = s.pwr.main ∧ t.fld supB F.SUP_PB_STAT_MR = 1) ∧
    (Accepts s m R.SYS_RST_CTRL 0x71920001#32 → ∃ t, exec (.softwareReset m) s = .next (finish s t) ∧ rst 3 t ∧ t.pwr.main = s.pwr.main) ∧
    (∃ t, exec .supplyOutOfRange s = .next (finish s t) ∧ rst 0 t ∧ t.pwr.main = false ∧ t.pwr.pll = false ∧
      t.fld 0 F.SYS_CLK_STAT_PLLA_LOCK = 0) ∧
    (∃ t, exec .mainSupplyRise s = .next (finish s t) ∧ t = { s with pwr := { s.pwr with main := true, aux := true } }) ∧
    (s.pwr.main = true →
      ∃ t, exec (.pllaLock crystal) s = .next (finish s t) ∧ t.mem = s.mem ∧ t.pwr = { s.pwr with pll := true } ∧
        RegsTo s t [(0, F.SYS_CLK_STAT_PLLA_LOCK, 1), (0, F.SYS_CLK_STAT_PLLA_SRC, b2n (!crystal))]) ∧
    (s.pwr.main = true → s.pwr.pll = true → s.pwr.core = false →
      ∃ t, exec .coreResetRelease s = .next (finish s t) ∧ t.mem = s.mem ∧ t.pwr = { s.pwr with core := true } ∧
        RegsTo s t [(0, F.SYS_CLK_STAT_PLLA_LOCK, 1), (supB, F.SUP_PB_STAT_MR, 0)]) ∧
    (∃ t, exec .corePll s = .next (finish s t) ∧ t.mem = s.mem ∧ t.pwr = { s.pwr with pll := false } ∧
      RegsTo s t [(0, F.SYS_CLK_STAT_PLLA_LOCK, 0)] ∧ t.reports = s.reports ++ [⟨0, 0, K.CORE_PLL, kindSev K.CORE_PLL, 0, 0⟩]) ∧
    (Accepts s m R.SYS_PWR 1#32 →
      ∃ t, exec (.sleep m) s = .next (finish s t) ∧ t.mem = s.mem ∧
        (maySleep s = true → t.pwr = { s.pwr with asleep := true } ∧ RegsTo s t [(0, F.SYS_PWR_SLEEP, 1), (0, F.SYS_PWR_AWAKE, 0)]) ∧
        (maySleep s = false → t.pwr = s.pwr ∧ SameRegs s t)) ∧
    (s.pwr.core = true → s.pwr.asleep = true → (∀ f : Fin 96, feltState s f ≠ 2) →
      ∃ t, exec .wake s = .next (finish s t) ∧ t.mem = s.mem ∧ t.pwr = { s.pwr with asleep := false } ∧
        RegsTo s t [(0, F.SYS_PWR_SLEEP, 0), (0, F.SYS_PWR_AWAKE, 1)])

/-- A good frame of a cascade lane (R480): TYPE, a zero bit, SEQ, the eight words as one number, with the CRC and the scrambler of R75
and R76. -/
def Claims.cascadeFrame (typ seq pay : Nat) : BitVec 280 :=
  let head := typ % 8 * 32 + seq % 16
  let body := pay % 2 ^ 256
  BitVec.ofNat 280 (head * 2 ^ 272 + ((body * 2 ^ 16 + crc16 (natBE 33 (head * 2 ^ 256 + body))) ^^^ scramble (seq % 16)))

/-- R483, R487: the cascade's order. A device with a cabinet's image that a master makes crown, a brim too, takes position 0 and enumerates, as it does
whenever it is asked to; the crown notes each brim that reports, enumerates when one reports again, whose lane is back in RUN (the model's
choice, log entry 51), and closes the ring when the enumeration comes round; a brim takes its
position, sends the next one on, reports its serial and, where its image is not the crown's, asks for that (R57, R491). A coherent change
is applied, sets the epoch of a loaded device and is acknowledged, and what it may not write is reported (R10); the crown counts the
broadcasts that some brim has not acknowledged. -/
def Claims.CascadeOrder : Prop :=
  ∀ (s : State) (m : Master) (p : CasPkt) (q : List CasPkt),
    let b := casB
    let lo := s.rd R.SYS_SERIAL_LO
    let hi := s.rd R.SYS_SERIAL_HI
    let w := fun k => p.body.getD k 0#32
    let n := (w 0).toNat
    let others := s.cas.found.filter (fun e => e.1 != p.src) ++ [(p.src, w 1, w 2)]
    let nearer := s.cas.found.filter (fun e => decide (e.1 < n))
    let left := (s.cas.coh.map (fun c => if c.1 = n then (c.1, c.2.erase p.src) else c)).filter (fun c => c.2 != [])
    (Accepts s m b 1#32 → s.img.loaded = true → 1 < s.cabinetSize → s.role = 0 → s.position = 0 →
      ∃ t, exec (.crown m) s = .next (finish s t) ∧ t.mem = s.mem ∧ t.casOut = s.casOut ++ [⟨1, 0, 1, false, 0, [1#32, lo, hi]⟩] ∧
        RegsTo s t [(b, F.CAS_CTRL_CROWN, 1), (b, F.CAS_STATUS_ROLE, 1), (b, F.CAS_STATUS_POSITION, 0), (0, F.SYS_IMG_VER_POSITION, 0)]) ∧
    (Accepts s m b 1#32 → s.img.loaded = true → 1 < s.cabinetSize → s.isCrown = false →
      ∃ t, exec (.crown m) s = .next (finish s t) ∧ t.role = 1 ∧ t.position = 0) ∧
    (Accepts s m b 2#32 → s.isCrown = true →
      ∃ t, exec (.enumerate m) s = .next (finish s t) ∧ SameRegs s t ∧
        t.casOut = s.casOut ++ [⟨1, s.position, 1, false, 0, [1#32, lo, hi]⟩]) ∧
    (s.pwr.core = true → s.casRx = p :: q → p.cls = 1 → p.sub = 0 →
      (s.isCrown = true →
        ∃ t, exec .enum s = .next (finish s t) ∧ t.mem = s.mem ∧ t.casRx = q ∧
          (p.dst = 0 → n = p.src → t.cas.found = others ∧ RegsTo s t [(b, F.CAS_STATUS_FOUND, others.length)] ∧
            t.casOut = s.casOut ++ (if p.src ∈ s.cas.reported then [⟨1, s.position, 1, false, 0, [1#32, lo, hi]⟩] else [])) ∧
          (p.dst ≠ 0 ∨ n ≠ p.src → t.casOut = s.casOut ∧ t.cas.found = nearer ∧ RegsTo s t [(b, F.CAS_STATUS_FOUND, nearer.length), (b, F.CAS_STATUS_RING, 0)])) ∧
      (s.isCrown = false → n < 16 → s.img.loaded = true → s.cas.imgPos = n → loading s = false →
        (n ≠ s.position → s.adm.queue = []) →
        ∃ t, exec .enum s = .next (finish s t) ∧ t.casRx = q ∧ t.fld b F.CAS_STATUS_ROLE = 2 ∧ t.fld b F.CAS_STATUS_POSITION = n ∧
          t.position = n ∧ t.time.joining = (s.time.joining || s.time.away) ∧ t.time.away = false ∧
          let told : List CasPkt := [⟨1, n, n + 1, false, 0, [BitVec.ofNat 32 (n + 1), lo, hi]⟩, ⟨1, n, 0, false, 0, [BitVec.ofNat 32 n, lo, hi]⟩]
          (t.cas.same = true ↔ t.cas.crown = some (s.rd R.SYS_IMG_ID, s.rd R.SYS_IMG_SERIAL)) ∧
          (t.cas.same = true → t.casOut = s.casOut ++ told ∧ t.img = s.img) ∧
          (t.cas.same = false → t.casOut = s.casOut ++ told ++ [⟨10, n, 0, false, 0, [0#32, 254#32]⟩] ∧ t.img.src = 4 ∧
            t.fld 0 F.SYS_IMG_STATUS_STATE = 1))) ∧
    (s.pwr.core = true → s.casRx = p :: q → p.cls = 6 →
      (p.sub = 0 →
        (p.body.length = 1 → ∃ t, exec .coherent s = .next (finish s t) ∧ t.mem = s.mem ∧ t.casRx = q ∧
          RegsTo s t (if s.img.loaded then [(0, ⟨R.SYS_EPOCH, 31, 0⟩, n)] else []) ∧ t.cas = { s.cas with epoch := some (w 0) } ∧
          t.casOut = s.casOut ++ [⟨6, s.position, 0, false, 1, [w 0]⟩]) ∧
        (∀ a v : Word, p.body = [w 0, a, v] →
          let u := { s with casRx := q }
          let r := (regWrite .coherent true a.toNat v u).1
          ∃ t, exec .coherent s = .next (finish s t) ∧ t.casRx = q ∧ t.cas.epoch = some (w 0) ∧
          (∀ k, t.rd k = (if r.img.loaded then r.wr R.SYS_EPOCH (w 0) else r).rd k) ∧
          (regRefused u .coherent true a.toNat v = true → ⟨14, 0, K.ACCESS, kindSev K.ACCESS, 0, a.toNat⟩ ∈ t.reports) ∧
          ⟨6, r.position, 0, false, 1, [w 0]⟩ ∈ t.casOut)) ∧
      (p.sub = 1 →
        ∃ t, exec .coherentAck s = .next (finish s t) ∧ t.mem = s.mem ∧ t.casRx = q ∧ t.cas.coh = left ∧
          RegsTo s t [(b, F.CAS_STATUS_PENDING, min 255 left.length)]))

/-- R66, R488, R489: roll calls. The crown calls every brim it has found and misses one that has not answered the call before; a brim with
a settled digest answers with it, its epoch and its image; the crown judges an answer as match or mismatch, reports a mismatch, and sends
every brim a result, with bit 1 where it counts neither way (the model's code for it, log entry 50); a closed ring round which the last call
has not come is shown broken (the model's choice, log entry 51); enough matches in a row end a brim's hold, a call that brings no match breaks the row, and a mismatch is reported there too. A brim that is not called reports it. -/
def Claims.RollCalls : Prop :=
  ∀ (s : State) (m : Master) (p : CasPkt) (q : List CasPkt),
    let b := casB
    let call : CasPkt := ⟨7, s.position, 0, true, 0, [s.rd R.SYS_EPOCH]⟩
    let d := s.img.digest.toNat
    let answer : CasPkt := ⟨7, s.position, 0, false, 1,
      [BitVec.ofNat 32 d, BitVec.ofNat 32 (d / 2 ^ 32), s.rd R.SYS_EPOCH, s.rd R.SYS_IMG_ID, 0#32]⟩
    let w := fun k => p.body.getD k 0#32
    let agrees := w 0 = BitVec.ofNat 32 d ∧ w 1 = BitVec.ofNat 32 (d / 2 ^ 32)
    let result := fun (j : Nat) (c : Word) => CasPkt.mk 7 s.position j false 2 [c, s.rd R.SYS_EPOCH]
    let called := fun t : State => t.mem = s.mem ∧ t.cas.asked = foundBrims s ∧
      t.casOut = s.casOut ++ s.cas.asked.map (fun j => result j 2#32) ++ [call] ∧
      (s.cas.asked = [] → t.reports = s.reports ∧
        RegsTo s t (if s.fld b F.CAS_STATUS_RING = 0 ∧ s.cas.round = false then [(b, F.CAS_STATUS_RING, 1)] else [])) ∧
      (∀ j : Fin 16, j.val ∈ s.cas.asked → ⟨14, j, K.ROLLCALL_MISS, kindSev K.ROLLCALL_MISS, 0, 0⟩ ∈ t.reports ∧
        (t.fld b F.CAS_ROLL_STAT_MISS).testBit j = true)
    let told := fun inst : Nat => Msg.mk 14 inst K.COHERENCE (kindSev K.COHERENCE) 0 ((s.rd R.SYS_EPOCH).toNat % 2 ^ 24 * 256)
    (Accepts s m b 4#32 → s.isCrown = true → ∃ t, exec (.rollNow m) s = .next (finish s t) ∧ called t) ∧
    (s.pwr.core = true → s.isCrown = true → ∃ t, exec .rollCall s = .next (finish s t) ∧ called t) ∧
    (s.pwr.core = true → s.isBrim = true →
      ∃ t, exec .rollcallMiss s = .next (finish s t) ∧ SameRegs s t ∧
        t.reports = s.reports ++ [⟨14, 0, K.ROLLCALL_MISS, kindSev K.ROLLCALL_MISS, 0, 0⟩]) ∧
    (s.pwr.core = true → s.casRx = p :: q → p.cls = 7 →
      (p.sub = 0 →
        ∃ t, exec .rollCallReceive s = .next (finish s t) ∧ SameRegs s t ∧ t.casRx = q ∧
          t.cas = { s.cas with epoch := some (w 0), agreed := if s.cas.matched then s.cas.agreed else 0, matched := false } ∧
          (s.flag 0 F.SYS_DIGEST_STAT_BUSY = true → t.img = { s.img with waits := true } ∧ t.casOut = s.casOut) ∧
          (s.flag 0 F.SYS_DIGEST_STAT_BUSY = false → t.img = { s.img with waits := false } ∧ t.casOut = s.casOut ++ [answer])) ∧
      (p.sub = 1 → s.isCrown = true → s.img.loaded = true → w 3 = s.rd R.SYS_IMG_ID → (w 4).getLsbD 0 = false →
        s.flag 0 F.SYS_DIGEST_STAT_BUSY = false → p.src < 16 →
        ∃ t, exec .rollAnswer s = .next (finish s t) ∧ t.mem = s.mem ∧ t.casRx = q ∧ t.cas.asked = s.cas.asked.erase p.src ∧
          (t.fld b F.CAS_ROLL_STAT_MISS).testBit p.src = false ∧
          (agrees → (t.fld b F.CAS_ROLL_STAT_MATCH).testBit p.src = true ∧ t.reports = s.reports ∧ t.casOut = s.casOut ++ [result p.src 1#32]) ∧
          (¬ agrees → ∀ at0, s.cas.epochAt = some at0 → s.lineNs ≤ at0 + max 1 (min 1000 (s.fld b F.CAS_CFG_ROLL_MS)) * 1000000 →
            t.reports = s.reports ∧ t.casOut = s.casOut ++ [result p.src 2#32]) ∧
          (¬ agrees → s.cas.epochAt = none → (t.fld b F.CAS_ROLL_STAT_MATCH).testBit p.src = false ∧ t.reports = s.reports ++ [told p.src] ∧
            t.casOut = s.casOut ++ [result p.src 0#32])) ∧
      (p.sub = 2 →
        ∃ t, exec .rollResult s = .next (finish s t) ∧ t.mem = s.mem ∧ t.casRx = q ∧
          ((w 0).getLsbD 0 = true → t.cas = { s.cas with epoch := some (w 1), agreed := s.cas.agreed + 1, matched := true } ∧
            RegsTo s t (if max 1 (s.fld b F.CAS_CFG_ROLL_CLR) ≤ s.cas.agreed + 1 then [(fcB, F.FC_STATUS_HOLD, 0)] else [])) ∧
          ((w 0).getLsbD 0 = false → (w 0).getLsbD 1 = true → t.cas = { s.cas with epoch := some (w 1) } ∧ SameRegs s t ∧ t.reports = s.reports) ∧
          ((w 0).getLsbD 0 = false → (w 0).getLsbD 1 = false → t.cas = { s.cas with epoch := some (w 1), agreed := 0 } ∧ SameRegs s t ∧ t.reports = s.reports ++ [told s.position])))

/-- The cascade: position, roll calls and their results: `Claims.CascadeOrder` and `Claims.RollCalls` together. -/
def Obligations.CascadeOrder : Prop := Claims.CascadeOrder ∧ Claims.RollCalls

/-- R490: remote access. GO of a crown whose brim is found sends the access and is busy; an unreachable position ends it with RESULT 2. A
brim reads or writes as the cascade master and answers the word, or a refusal, an access that waits for a store or the boot scan (R445,
R456) staying at the head, and a write that resets the brim going unanswered; the crown takes the answer and its data, and an answer that
does not come ends the access with RESULT 3. -/
def Claims.RemoteAccess : Prop :=
  ∀ (s : State) (m : Master) (write : Bool) (pos : Fin 16) (p : CasPkt) (q : List CasPkt),
    let b := casB
    let a := s.rd (b + R.CAS_RMT_ADDR)
    let d := s.rd (b + R.CAS_RMT_DATA)
    let w := fun k => p.body.getD k 0#32
    let u := { s with casRx := q }
    let sent : List (Nat × Fld × Nat) := [(b, F.CAS_RMT_POS_WRITE, b2n write), (b, F.CAS_RMT_POS_POS, pos.val)]
    (Accepts s m (b + R.CAS_RMT_POS) (BitVec.ofNat 32 (2 ^ 8 + 2 ^ 4 * b2n write + pos)) → s.flag b F.CAS_RMT_STAT_BUSY = false →
      ∃ t, exec (.remoteAccess m write pos) s = .next (finish s t) ∧ t.mem = s.mem ∧
        (s.isCrown = true → pos.val ∈ foundBrims s → s.fld b F.CAS_STATUS_RING ≠ 2 → RegsTo s t (sent ++ [(b, F.CAS_RMT_STAT_BUSY, 1)]) ∧ t.cas = { s.cas with rmt := some write } ∧
          t.casOut = s.casOut ++ [⟨8, s.position, pos, false, b2n write, if write then [a, d] else [a]⟩]) ∧
        (s.isCrown = false ∨ pos.val ∉ foundBrims s ∨ s.fld b F.CAS_STATUS_RING = 2 → RegsTo s t (sent ++ [(b, F.CAS_RMT_STAT_RESULT, 2)]) ∧ t.cas = s.cas ∧ t.casOut = s.casOut)) ∧
    (s.pwr.core = true → s.casRx = p :: q → p.cls = 8 →
      (p.sub = 0 → busWaits s false (w 0).toNat = true → ∃ t, exec .regReadPacket s = .next (finish s t) ∧ t = s) ∧
      (p.sub = 1 → busWaits s true (w 0).toNat = true → ∃ t, exec .regWritePacket s = .next (finish s t) ∧ t = s) ∧
      (p.sub = 0 → busWaits s false (w 0).toNat = false →
        ∃ t, exec .regReadPacket s = .next (finish s t) ∧
          { t with casOut := [] } = { (masterRead .cascade (w 0).toNat u).2 with casOut := [] } ∧
          t.casOut = s.casOut ++ [⟨8, s.position, 0, false, 2, [if (busGet .cascade (w 0).toNat u).2.2 then 0#32 else 1#32, (masterRead .cascade (w 0).toNat u).1]⟩]) ∧
      (p.sub = 1 → busWaits s true (w 0).toNat = false → passOk s .cascade true (w 0).toNat = false →
        ∃ t, exec .regWritePacket s = .next (finish s t) ∧ SameRegs s t ∧ t.casOut = s.casOut ++ [⟨8, s.position, 0, false, 2, [1#32, w 1]⟩] ∧
          ⟨14, 0, K.ACCESS, kindSev K.ACCESS, 0, (w 0).toNat⟩ ∈ t.reports) ∧
      (p.sub = 1 → passOk s .cascade true (w 0).toNat = true → (w 0).toNat % 4 = 0 → inRam (w 0).toNat = true →
        ∃ t, exec .regWritePacket s = .next (finish s t) ∧ t.memWord (w 0).toNat = w 1 ∧
          (∀ k, k < (w 0).toNat ∨ (w 0).toNat + 4 ≤ k → t.byte k = s.byte k) ∧
          t.casOut = s.casOut ++ [⟨8, s.position, 0, false, 2, [0#32, w 1]⟩]) ∧
      (p.sub = 1 → busWaits s true (w 0).toNat = false → (busPut .cascade (w 0).toNat (w 1) u).2 = true →
        let r := (busPut .cascade (w 0).toNat (w 1) u).1
        (r.pwr.core = true →
          ∃ t, exec .regWritePacket s = .next (finish s t) ∧ { t with casOut := [] } = { r with casOut := [] } ∧
            t.casOut = r.casOut ++ [⟨8, r.position, 0, false, 2, [0#32, w 1]⟩]) ∧
        (r.pwr.core = false → ∃ t, exec .regWritePacket s = .next (finish s t) ∧ t = r)) ∧
      (p.sub = 2 → ∀ wr, s.cas.rmt = some wr →
        ∃ t, exec .regResponsePacket s = .next (finish s t) ∧ t.mem = s.mem ∧ t.casRx = q ∧ t.cas = { s.cas with rmt := none } ∧
          RegsTo s t ((if wr = false ∧ w 0 = 0#32 then [(b, F.CAS_RMT_DATA_VALUE, (w 1).toNat)] else []) ++
            [(b, F.CAS_RMT_STAT_BUSY, 0), (b, F.CAS_RMT_STAT_RESULT, (w 0).toNat % 16)]))) ∧
    (s.pwr.core = true → s.cas.rmt ≠ none →
      ∃ t, exec .remoteAccessTimeout s = .next (finish s t) ∧ t.mem = s.mem ∧ t.cas = { s.cas with rmt := none } ∧
        RegsTo s t [(b, F.CAS_RMT_STAT_BUSY, 0), (b, F.CAS_RMT_STAT_RESULT, 3)])

/-- R189, R231, R402, R406, R491, R89: what other packets bring. A probe is answered with the turnaround and the arrival
time of its HEAD word's frame (R485); a grant
admits the request it names, or goes back where the request has left; a withdrawn request leaves the crown's queue; the crown's power-up
starts the timetable and its power-down the chain's delay; the crown serves image words, a loading brim takes those that follow; a load
command begins a load, full or live, a full one only where R56 lets it; a LINK RESYNC resets the packet stream of its lane. -/
def Claims.CascadePackets : Prop :=
  ∀ (s : State) (turn : BitVec 32) (p : CasPkt) (q : List CasPkt), s.pwr.core = true → s.casRx = p :: q →
    let w := fun k => p.body.getD k 0#32
    let n := (w 0).toNat % 65536
    let kept := s.adm.queue.filter (fun r => !(r.pos == p.src && r.id == n && r.pos != s.position))
    let shown := fun l : List AdmReq => [(busB, F.BUS_ADM_STAT_QUEUED, l.length), (busB, F.BUS_ADM_STAT_RESTRICTED, b2n (busMode s != 2))]
    let words := max 1 (min 254 (w 1).toNat)
    (p.cls = 2 → p.sub = 0 → ∀ came l, s.cas.probeAt = came :: l →
      ∃ t, exec (.probe turn) s = .next (finish s t) ∧ SameRegs s t ∧ t.casRx = q ∧ t.cas.probeAt = l ∧
        t.time = (if s.time.joining then { s.time with joining := false, joinAt := some ((came : Int) - (timeOfWords (w 0) (w 1) : Int)) } else s.time) ∧
        t.casOut = s.casOut ++ [⟨2, s.position, 0, false, 1, [turn, timeW0 came, timeW1 came, w 2]⟩]) ∧
    (p.cls = 4 → p.sub = 1 →
      (∀ r, s.adm.queue = [r] → r.id = n → r.pos = s.position → r.kind = 2 → s.adm.asked = [] → hsState s = 3 →
        ∃ t, exec .admitGrantPacket s = .next (finish s t) ∧ t.mem = s.mem ∧ t.casRx = q ∧ hsState t = 4 ∧ t.adm = { s.adm with queue := [] }) ∧
      (s.adm.queue = [] → ∀ g l, s.adm.gone = g :: l → g.1 = n →
        ∃ t, exec .admitGrantPacket s = .next (finish s t) ∧ SameRegs s t ∧ t.casRx = q ∧ t.adm = { s.adm with gone := l } ∧
          t.casOut = s.casOut ++ [⟨4, s.position, 0, false, 2, [BitVec.ofNat 32 n, BitVec.ofNat 32 g.2]⟩])) ∧
    (p.cls = 4 → p.sub = 3 → kept.length < 256 →
      ∃ t, exec .admitWithdrawPacket s = .next (finish s t) ∧ t.mem = s.mem ∧ t.casRx = q ∧ t.adm = { s.adm with queue := kept } ∧
        RegsTo s t (shown kept)) ∧
    (p.cls = 9 → p.sub = 0 → s.isCrown = false → s.forcedOff = false → s.sup.seq = 0 → s.flag supB F.SUP_TT_CFG_CHAIN_IN = true →
      ∃ t, exec .seqPowerUpPacket s = .next (finish s t) ∧ t.mem = s.mem ∧ t.casRx = q ∧ RegsTo s t [(supB, F.SUP_STATUS_CAB, 1)] ∧
        t.sup = { s.sup with seq := 1 }) ∧
    (p.cls = 9 → p.sub = 1 → s.sup.seq ≠ 3 → s.sup.seq ≠ 4 →
      ∃ t, exec .seqPowerDownPacket s = .next (finish s t) ∧ SameRegs s t ∧ t.casRx = q ∧ t.sup = { s.sup with chain := true }) ∧
    (p.cls = 10 → p.sub = 0 → s.img.loaded = true →
      ∃ t, exec .imageReadPacket s = .next (finish s t) ∧ SameRegs s t ∧ t.casRx = q ∧
        t.casOut = s.casOut ++ [⟨10, s.position, p.src, false, 1, w 0 :: imgWords s (s.fld 0 F.SYS_IMG_STATUS_SRC_USED) (w 0).toNat words⟩]) ∧
    (p.cls = 10 → p.sub = 1 → s.img.src = 4 → s.fld 0 F.SYS_IMG_STATUS_STATE = 1 → (w 0).toNat = s.img.rxEnd →
      ∃ t, exec .imageDataPacket s = .next (finish s t) ∧ SameRegs s t ∧ t.casRx = q ∧ t.img.rxEnd = s.img.rxEnd + 4 * (p.body.length - 1)) ∧
    (p.cls = 10 → p.sub = 2 → loading s = false →
      let live := (w 0).getLsbD 0
      (live = true ∨ s.img.loaded = false ∨ outputsActive s = false →
        ∃ t, exec .imageLoadPacket s = .next (finish s t) ∧ t.casRx = q ∧ t.img.src = 4 ∧ t.img.want = some live) ∧
      (live = false → s.img.loaded = true → outputsActive s = true →
        ∃ t, exec .imageLoadPacket s = .next (finish s t) ∧ t.casRx = q ∧ t.img = s.img ∧ t.fld 0 F.SYS_IMG_STATUS_ERR = 16)) ∧
    (p.cls = 11 → p.sub = 0 → p.dst < 4 →
      ∃ t, exec .cascadeLinkPacket s = .next (finish s t) ∧ SameRegs s t ∧ t.casRx = q ∧
        Upd s.casLane t.casLane p.dst { s.casLane p.dst with ackIn := 15, part := none, tx := (s.casLane p.dst).tx.reset false })

/-- The cascade: remote access and packets: `Claims.RemoteAccess` and `Claims.CascadePackets` together. -/
def Obligations.CascadeTraffic : Prop := Claims.RemoteAccess ∧ Claims.CascadePackets

/-- R77, R90, R99, R480, R481: the frames of a cascade lane. A missing or bad frame is counted, and in RUN breaks the packet it would
have carried; training frames of the type that its state wants take the lane on; a good DATA frame of zeros in RUN leaves nothing behind.
Each frame time the lane sends the frame of its state, its SEQ one on: TRAIN_A, TRAIN_B with its words, in RUN the packet that waits, or
that this device sends this way, after a HEAD word with its PSEQ, and IDLE words else, every HEAD and IDLE word with the last PSEQ that
came in; a probe's HEAD fixes its send stamp (R485). LOSS_LIMIT bad frames in a row report the loss of the peer (R416) and retrain the lane. A lane that exports ignores what it receives and sends an
EXPORT frame with the next 30 bytes of its queue, or as many as wait, and where in them a record begins (R492). -/
def Obligations.CascadeFrames : Prop :=
  ∀ (s : State) (l : Fin 4) (seq : Fin 16), s.pwr.core = true →
    let b := casB
    let x := s.casLane l
    let st := casState s l
    let errs : Nat × Fld × Nat := (b, ⟨R.CAS_CNT + 4 * l, 31, 0⟩, min 0xFFFFFFFF ((s.rd (b + R.CAS_CNT + 4 * l)).toNat + 1))
    let inSeq := ∀ k, x.seq = some k → seq.val = (k + 1) % 16
    let ring := exportLane s l = false
    let mute := s.casOut = [] ∧ x.tx.sent = []
    let clear := x.tx.sent = [] ∧ x.tx.again = [] ∧ x.tx.body = [] ∧ x.tx.resync = false ∧ x.tx.heads = []
    let head := fun p : CasPkt => p.cls * 2 ^ 28 + x.tx.nextSeq % 16 * 2 ^ 24 + x.ackIn % 16 * 2 ^ 20 + p.src % 16 * 2 ^ 16 + p.dst % 16 * 2 ^ 12 +
      b2n p.bcast * 2 ^ 11 + p.sub % 8 * 2 ^ 8 + p.body.length
    let idle := x.ackIn % 16 * 2 ^ 20
    let next := fun sq : Nat => ∀ f, x.out = some f → sq = frField f 4 4 + 1
    let sends := fun (t : State) (typ : Nat) (word : Nat → Nat) => ∃ sq pay, (t.casLane l).out = some (Claims.cascadeFrame typ sq pay) ∧
      next sq ∧ ∀ k, k < 8 → bits pay (255 - 32 * k) (224 - 32 * k) = word k
    (exportLane s l = true →
      let q := sparseGet (fun _ => []) s.expQ l
      let n := min 30 q.length
      ∀ frame, ∃ t sq pay, exec (.cascadeFrame l frame) s = .next (finish s t) ∧ SameRegs s t ∧
        (∀ k, sparseGet (fun _ => []) t.expQ k = if k = l.val then q.drop 30 else sparseGet (fun _ => []) s.expQ k) ∧
        (t.casLane l).out = some (Claims.cascadeFrame 6 sq pay) ∧ next sq ∧
        bits pay 255 248 = (if x.left < n then x.left else 0xFF) ∧ bits pay 247 240 = n ∧
        ∀ i, i < n → bits pay (239 - 8 * i) (232 - 8 * i) = (q.getD i 0#8).toNat) ∧
    (st = 6 → ring → mute →
      (∃ t, exec (.cascadeFrame l none) s = .next (finish s t) ∧ t.mem = s.mem ∧ RegsTo s t [errs] ∧
        Upd s.casLane t.casLane l { x with seq := x.seq.map (fun k => (k + 1) % 16), bad := x.bad + 1, part := none,
                                           out := (t.casLane l).out, tx := (t.casLane l).tx }) ∧
      (inSeq → x.part = none →
        ∃ t, exec (.cascadeFrame l (some (Claims.cascadeFrame 0 seq 0))) s = .next (finish s t) ∧ SameRegs s t ∧
          Upd s.casLane t.casLane l { x with seq := some seq.val, bad := 0, out := (t.casLane l).out, tx := (t.casLane l).tx,
                                             headAt := s.cabNs - 5 })) ∧
    (st = 6 → ring → clear →
      (s.casOut = [] → x.tx.wait = [] →
        ∃ t, exec (.cascadeFrame l none) s = .next (finish s t) ∧ (t.casLane l).tx = x.tx ∧ sends t 0 (fun _ => idle)) ∧
      (∀ p : CasPkt, 1 ≤ p.cls → p.cls ≤ 11 → p.body.length ≤ 7 →
        (s.casOut = [] ∧ x.tx.wait = [p]) ∨
          (s.casOut = [p] ∧ x.tx.wait = [] ∧ s.isCrown = true ∧ l = 1 ∧ p.bcast = false ∧ p.cls ≠ 1 ∧ s.cas.sides = []) →
        s.isCrown = false ∨ p.cls ≠ 2 ∨ p.sub ≠ 0 →
        ∃ t, exec (.cascadeFrame l none) s = .next (finish s t) ∧ t.casOut = [] ∧
          (t.casLane l).tx = { x.tx with wait := [], nextSeq := (x.tx.nextSeq + 1) % 16, cur := x.tx.nextSeq,
                                         sent := [⟨p, x.tx.nextSeq, some 1⟩] } ∧
          sends t 0 (fun k => if k = 0 then head p else if k ≤ p.body.length then (p.body.getD (k - 1) 0#32).toNat else idle)) ∧
      (∀ (p : CasPkt) (a0 a1 corr : Word), p.cls = 2 → p.sub = 0 → p.body = [a0, a1, corr] → s.isCrown = true → s.casOut = [] → x.tx.wait = [p] →
        ∃ t, exec (.cascadeFrame l none) s = .next (finish s t) ∧ sparseGet (fun _ => 0) t.time.probes p.dst = s.cabNs ∧
          sends t 0 (fun k => if k = 0 then head p else if k = 1 then (timeW0 s.cabNs).toNat else if k = 2 then (timeW1 s.cabNs).toNat
            else if k = 3 then corr.toNat else idle))) ∧
    (st = 2 → ring → inSeq → s.casOut = [] → x.good < 31 →
      ∃ t, exec (.cascadeFrame l (some (Claims.cascadeFrame 2 seq 0))) s = .next (finish s t) ∧ SameRegs s t ∧
        Upd s.casLane t.casLane l { x with seq := some seq.val, bad := 0, good := x.good + 1, out := (t.casLane l).out } ∧
        sends t 2 (fun _ => 0)) ∧
    (st = 2 → ring → inSeq → s.casOut = [] → x.good = 31 →
      ∃ t, exec (.cascadeFrame l (some (Claims.cascadeFrame 2 seq 0))) s = .next (finish s t) ∧ t.mem = s.mem ∧
        RegsTo s t [(b + 4 * l, F.CAS_LANE01_STATE, 3)] ∧
        Upd s.casLane t.casLane l { x with seq := some seq.val, bad := 0, good := 0, out := (t.casLane l).out } ∧
        sends t 3 (fun k => [0x43410100 + l.val, 0x71920000 + s.fld 0 F.SYS_ID_REV, (s.rd R.SYS_SERIAL_LO).toNat,
          (s.rd R.SYS_SERIAL_HI).toNat, x.chosen % 2 ^ 32].getD k 0)) ∧
    (st = 6 → max 16 (min 399 (s.fld (b + 4 * l) F.CAS_LANE01_LOSS_LIMIT)) ≤ x.bad → s.role = 0 →
      ∃ t, exec (.casLoss l) s = .next (finish s t) ∧ t.mem = s.mem ∧ RegsTo s t [(b + 4 * l, F.CAS_LANE01_STATE, 1)] ∧
        (t.casLane l).bad = 0 ∧ (t.casLane l).part = none ∧
        t.reports = s.reports ++ [⟨14, casPeer s l, K.CAS_LOSS, kindSev K.CAS_LOSS, 0, l⟩])

/-- The packet at the head of lane l's received packets is a PD_EVT of this code, not discarded (R85, R86). -/
def Claims.PdEvent (s : State) (l : Nat) (p : SidePkt) (rest : List SidePkt) (code : Nat) : Prop :=
  (s.lane l).rx = p :: rest ∧ p.cls = 5 ∧ bits p.arg 11 8 = code ∧ discarded s l p = false

/-- Nothing but the window at b and the units beside the registers has changed: every register outside the window and every byte of memory
reads as before. -/
def Claims.OnlyWindow (s t : State) (b : Nat) : Prop := (∀ a, a < b ∨ b + 0x800 ≤ a → t.rd a = s.rd a) ∧ t.mem = s.mem

/-- Port n sends the short message m on SOP at once: its record is y but for the message under way, and its lane has one more packet. A
port that is not usable sends none (R238): the message waits in it. -/
def Claims.PdSays (s t : State) (n : Nat) (m : List Byte) (y : PortX) : Prop :=
  (portWhy s n = 0 → Upd s.port t.port n { y with cur := some ⟨0, m, false⟩ } ∧
    Upd s.lane t.lane (n / 4) { s.lane (n / 4) with waiting := (s.lane (n / 4)).waiting ++ [⟨4, 0, n % 4 * 2 ^ 14 + 2 ^ 7 + m.length, bytesWords 8 (pdFill t n 0 m)⟩] }) ∧
  (portWhy s n ≠ 0 → Upd s.port t.port n { y with outq := y.outq ++ [⟨0, m, false⟩] } ∧ t.lanes = s.lanes)

/-- Port n has entered ErrorRecovery with a cause (R247): its gates are closed, VCONN is off, the contract and every message are gone. -/
def Claims.PdErrors (s t : State) (n cause : Nat) : Prop :=
  let b := pdB n
  t.fld b F.PD_STATUS_TC_STATE = 4 ∧ t.fld b F.PD_STATUS_CAUSE = cause ∧ t.fld b F.PD_STATUS_PD = 0 ∧ t.fld b F.PD_STATUS_GATE_SRC = 0 ∧
  t.fld b F.PD_STATUS_GATE_SNK = 0 ∧ t.fld b F.PD_STATUS_VCONN_SRC = 0 ∧ t.rd (b + R.PD_CONTRACT) = 0#32 ∧ t.fld b F.PD_EVT_ERROR_RECOVERY = 1 ∧
  t.fld b F.PD_CNT_ERROR_RECOVERIES = min 255 (s.fld b F.PD_CNT_ERROR_RECOVERIES + 1) ∧ (t.port n).er ≠ 0 ∧ (t.port n).inbox = [] ∧
  (t.port n).outq = [] ∧ (t.port n).cur = none ∧ (t.port n).moving = false ∧ ∀ k, k ≠ n → t.port k = s.port k

/-- Port n has begun a Hard Reset (R265): the contract and every message are gone; the first one since an explicit contract keeps the port
attached, waiting as source for tPSHardReset and as sink, its gates closed, for VBUS; a further one is ErrorRecovery. -/
def Claims.HardResets (s t : State) (n : Nat) : Prop :=
  let b := pdB n
  let x := s.port n
  t.mem = s.mem ∧ t.fld b F.PD_CNT_HARD_RESETS = min 255 (s.fld b F.PD_CNT_HARD_RESETS + 1) ∧ t.fld b F.PD_EVT_HARD_RESET = 1 ∧
  t.rd (b + R.PD_CONTRACT) = 0#32 ∧ (t.port n).inbox = [] ∧ (t.port n).outq = [] ∧ (t.port n).cur = none ∧ (t.port n).moving = false ∧
  (x.hrSeen = true → Claims.PdErrors s t n 6) ∧
  (x.hrSeen = false → t.fld b F.PD_STATUS_PD = 1 ∧ tcState t n = tcState s n ∧ (t.port n).hrSeen = true ∧
    (isSrc s n = true → (t.port n).hr = 1 ∧ t.fld b F.PD_STATUS_GATE_SRC = s.fld b F.PD_STATUS_GATE_SRC) ∧
    (isSnk s n = true → (t.port n).hr = (if vbusOf s n = 0 then 6 else 5) ∧ t.fld b F.PD_STATUS_GATE_SNK = 0))

/-- R243 to R246: a partner comes and goes. An Attach packet makes an enabled, usable port source or sink by what the partner shows and the
port's ROLE, latches its configuration (R276), asks admission for 5 V as source, and waits for the VBUS state that its gate needs; an
accessory is counted; a port that is not usable takes neither (R238). The VBUS state is shown, and the gate that waits for it opens, with
its set after an attach or a swap (R241). A Detach ends contract and messages, closes the gates and turns VCONN off; a
source waits for vSafe0V, and a port that is not usable discards the event. -/
def Obligations.PdAttach : Prop :=
  ∀ (s : State) (l : Fin 12) (cc : PartnerCc) (p : SidePkt) (rest : List SidePkt), s.pwr.core = true →
    let n := 4 * l.val + bits p.arg 15 14
    let b := pdB n
    let x := s.port n
    let taken := { s.lane l with rx := rest }
    let orient := b2n (bit (p.arg % 256) 2)
    let amps := if s.fld b F.PD_CFG_RP_DEF = 0 then 90 else if s.fld b F.PD_CFG_RP_DEF = 1 then 150 else 300
    let q := s.fld b F.PD_ADMIT_Q_PER_W * (5000 * amps) / 100000
    let asSource : List (Nat × Fld × Nat) := [(b, F.PD_STATUS_TC_STATE, 2), (b, F.PD_STATUS_POWER_ROLE, 1), (b, F.PD_STATUS_DATA_ROLE, 1),
      (b, F.PD_STATUS_ORIENT, orient), (b, F.PD_STATUS_PD, 1), (b, F.PD_STATUS_SPEC, 0), (b, F.PD_STATUS_UNCHUNKED, 0), (b, ⟨R.PD_CABLE, 31, 0⟩, 0), (b, F.PD_EVT_ATTACH, 1)]
    let asSink : List (Nat × Fld × Nat) := [(b, F.PD_STATUS_TC_STATE, 3), (b, F.PD_STATUS_POWER_ROLE, 0), (b, F.PD_STATUS_DATA_ROLE, 0),
      (b, F.PD_STATUS_ORIENT, orient), (b, F.PD_STATUS_PD, 1), (b, F.PD_STATUS_SPEC, 0), (b, F.PD_STATUS_UNCHUNKED, 0),
      (b, F.PD_STATUS_PARTNER_RP, if cc = .rp1A5 then 1 else if cc = .rp3A0 then 2 else 0), (b, F.PD_EVT_ATTACH, 1)]
    let co := (List.range 8).map (fun k => s.rd (b + R.PD_CFG + 4 * k))
    (Claims.PdEvent s l p rest 0 →
      (portWhy s n ≠ 0 →
        ∃ t, exec (.attach l cc) s = .next (finish s t) ∧ SameRegs s t ∧ Upd s.lane t.lane l taken ∧ t.ports = s.ports) ∧
      (cc = .accessory → portWhy s n = 0 →
        ∃ t, exec (.attach l cc) s = .next (finish s t) ∧ t.mem = s.mem ∧ RegsTo s t [(b, F.PD_CNT_IGNORED, min 255 (s.fld b F.PD_CNT_IGNORED + 1))] ∧
          Upd s.lane t.lane l taken) ∧
      (tcState s n = 1 → portWhy s n = 0 → x.admFor = 0 →
        (cc = .rd → s.fld b F.PD_CFG_ROLE ≠ 1 →
          (q = 0 → vbusOf s n ≠ 0 → x.wantSnk = false → ∃ t, exec (.attach l cc) s = .next (finish s t) ∧ t.mem = s.mem ∧ RegsTo s t asSource ∧ Upd s.lane t.lane l taken ∧
            Upd s.port t.port n { x with co := co, admW := 0, wantSrc := true, hr := 0 }) ∧
          (q ≠ 0 → ∃ t, exec (.attach l cc) s = .next (finish s t) ∧ t.mem = s.mem ∧ RegsTo s t asSource ∧ Upd s.lane t.lane l taken ∧
            Upd s.port t.port n { x with co := co, admFor := 2, admW := 0 } ∧
            ∃ r, t.adm.asked = s.adm.asked ++ [r] ∧ r.kind = 1 ∧ r.inst = n ∧ r.q = q ∧ r.prio = s.fld b F.PD_ADMIT_PRIO)) ∧
        (cc = .rpDefault ∨ cc = .rp1A5 ∨ cc = .rp3A0 → s.fld b F.PD_CFG_ROLE ≠ 0 → vbusOf s n ≠ 2 → (x.wantSrc = false ∨ vbusOf s n ≠ 0) →
          ∃ t, exec (.attach l cc) s = .next (finish s t) ∧ t.mem = s.mem ∧ RegsTo s t asSink ∧ Upd s.lane t.lane l taken ∧
            Upd s.port t.port n { x with co := co, wantSnk := true, snkSet := true }))) ∧
    (Claims.PdEvent s l p rest 5 → portWhy s n ≠ 0 →
      ∃ t, exec (.vbusState l) s = .next (finish s t) ∧ t.mem = s.mem ∧ RegsTo s t [(b, F.PD_STATUS_VBUS, p.arg % 4)] ∧ Upd s.lane t.lane l taken ∧
        t.ports = s.ports) ∧
    (Claims.PdEvent s l p rest 5 → portWhy s n = 0 → x.detaching = false → x.hr = 0 → x.swap = 0 → s.flag b F.PD_STATUS_GATE_SNK = false →
      (x.wantSrc = false → x.wantSnk = false →
        ∃ t, exec (.vbusState l) s = .next (finish s t) ∧ t.mem = s.mem ∧ RegsTo s t [(b, F.PD_STATUS_VBUS, p.arg % 4)] ∧ Upd s.lane t.lane l taken ∧
          t.ports = s.ports) ∧
      (∀ f, portFelt? s n = some f → f < 96 → x.wantSrc = true → p.arg % 4 = 0 →
        ∃ t, exec (.vbusState l) s = .next (finish s t) ∧ t.mem = s.mem ∧ t.fld b F.PD_STATUS_VBUS = 0 ∧ t.fld b F.PD_STATUS_GATE_SRC = 1 ∧
          (t.port n).wantSrc = false ∧ t.rd (feltB f + R.FELT_SP_ENG + 4) = fOfNat 5 ∧ t.rd (feltB f + R.FELT_SP_ENG + 8) = 0#32) ∧
      (∀ f, portFelt? s n = some f → f < 96 → x.wantSrc = false → x.wantSnk = true → p.arg % 4 = 2 →
        ∃ t, exec (.vbusState l) s = .next (finish s t) ∧ t.mem = s.mem ∧ t.fld b F.PD_STATUS_VBUS = 2 ∧ t.fld b F.PD_STATUS_GATE_SNK = 1 ∧
          (t.port n).wantSnk = false ∧ (x.snkSet = true → t.rd (feltB f + R.FELT_SP_ENG + 12) = 0#32) ∧
          (x.snkSet = false → ∀ k < 8, t.rd (feltB f + R.FELT_SP_ENG + 4 * k) = s.rd (feltB f + R.FELT_SP_ENG + 4 * k)))) ∧
    (Claims.PdEvent s l p rest 1 → portWhy s n ≠ 0 →
      ∃ t, exec (.detach l) s = .next (finish s t) ∧ SameRegs s t ∧ Upd s.lane t.lane l taken ∧ t.ports = s.ports) ∧
    (Claims.PdEvent s l p rest 1 → portWhy s n = 0 → x.admFor = 0 →
      (isSnk s n = true →
        ∃ t, exec (.detach l) s = .next (finish s t) ∧ Claims.OnlyWindow s t b ∧ tcState t n = 1 ∧ t.fld b F.PD_STATUS_PD = 0 ∧
          t.fld b F.PD_STATUS_GATE_SRC = 0 ∧ t.fld b F.PD_STATUS_GATE_SNK = 0 ∧ t.fld b F.PD_STATUS_VCONN_SRC = 0 ∧
          t.rd (b + R.PD_CONTRACT) = 0#32 ∧ t.fld b F.PD_EVT_DETACH = 1 ∧ (t.port n).outq = [] ∧ (t.port n).cur = none) ∧
      (isSrc s n = true → vbusOf s n ≠ 0 →
        ∃ t, exec (.detach l) s = .next (finish s t) ∧ Claims.OnlyWindow s t b ∧ tcState t n = 2 ∧ (t.port n).detaching = true ∧
          t.fld b F.PD_STATUS_GATE_SRC = 0 ∧ t.fld b F.PD_STATUS_VCONN_SRC = 0 ∧ t.rd (b + R.PD_CONTRACT) = 0#32 ∧ t.fld b F.PD_EVT_DETACH = 1))

/-- R247, R257, R261, R263 to R267: resets and recovery of a port. A Hard Reset received or commanded begins it; its timers close the
source's gate and ask again for default power; VBUS that does not return to a sink and a power-path guard lead to ErrorRecovery, whose end
returns to Unattached, or to Disabled with EN 0. EN and ABORT begin and end a port; a VCONN fault turns VCONN off; a Cable Reset restarts
the MessageIDs toward the cable. A port that is not usable discards these events and sends no Hard Reset (R238). -/
def Obligations.PdRecovery : Prop :=
  ∀ (s : State) (m : Master) (l : Fin 12) (n : Fin 48) (g : PdGuard) (p : SidePkt) (rest : List SidePkt),
    let b := pdB n
    let x := s.port n
    let k := 4 * l.val + bits p.arg 15 14
    let ctl := fun (F : Fld) (v : Nat) => fset (s.kept b) F v
    let unheard := fun t : State => SameRegs s t ∧ t.ports = s.ports ∧ Upd s.lane t.lane l { s.lane l with rx := rest }
    (s.pwr.core = true → Claims.PdEvent s l p rest 2 → portWhy s k = 0 → attached s k = true → (s.port k).admFor = 0 →
      ∃ t, exec (.hardResetReceived l) s = .next (finish s t) ∧ Claims.HardResets s t k ∧ Claims.OnlyWindow s t (pdB k)) ∧
    (s.pwr.core = true → portWhy s k ≠ 0 →
      (Claims.PdEvent s l p rest 2 → ∃ t, exec (.hardResetReceived l) s = .next (finish s t) ∧ unheard t) ∧
      (Claims.PdEvent s l p rest 3 → ∃ t, exec (.cableResetReceived l) s = .next (finish s t) ∧ unheard t) ∧
      (Claims.PdEvent s l p rest 6 → ∃ t, exec (.vconnFault l) s = .next (finish s t) ∧ unheard t)) ∧
    (s.pwr.core = true → Claims.PdEvent s l p rest 3 → portWhy s k = 0 →
      ∃ t, exec (.cableResetReceived l) s = .next (finish s t) ∧ SameRegs s t ∧ Upd s.lane t.lane l { s.lane l with rx := rest } ∧
        Upd s.port t.port k { s.port k with txId := (s.port k).txId.filter (fun e => e.1 == 0), rxId := (s.port k).rxId.filter (fun e => e.1 == 0) }) ∧
    (s.pwr.core = true → Claims.PdEvent s l p rest 6 → portWhy s k = 0 → explicitNow s k = false →
      ∃ t, exec (.vconnFault l) s = .next (finish s t) ∧ t.mem = s.mem ∧ t.ports = s.ports ∧
        RegsTo s t [(pdB k, F.PD_STATUS_VCONN_SRC, 0), (pdB k, F.PD_CABLE_CABLE_5A, 0), (pdB k, F.PD_CABLE_CABLE_EPR, 0)]) ∧
    (Accepts s m b (ctl F.PD_CTRL_HARD_RESET 1) → attached s n = true → s.flag b F.PD_CTRL_EN = true →
      (portWhy s n = 0 → x.admFor = 0 →
        ∃ t, exec (.pdHardReset m n) s = .next (finish s t) ∧ Claims.HardResets s t n ∧ Claims.OnlyWindow s t b) ∧
      (portWhy s n ≠ 0 → ∃ t, exec (.pdHardReset m n) s = .next (finish s t) ∧ SameRegs s t ∧ t.ports = s.ports)) ∧
    (Accepts s m b (ctl F.PD_CTRL_EN 1) → tcState s n = 0 → portWhy s n ≠ 0 →
      ∃ t, exec (.pdEn m n true) s = .next (finish s t) ∧ t.mem = s.mem ∧ RegsTo s t [(b, F.PD_CTRL_EN, 1), (b, F.PD_STATUS_TC_STATE, 1)]) ∧
    (Accepts s m b (ctl F.PD_CTRL_EN 1) → tcState s n = 0 → portWhy s n = 0 →
      ∃ t, exec (.pdEn m n true) s = .next (finish s t) ∧ t.mem = s.mem ∧
        RegsTo s t [(b, F.PD_CTRL_EN, 1), (b, F.PD_STATUS_TC_STATE, 1), (b, F.PD_STATUS_PD, 0)] ∧ (t.port n).caps = [] ∧ (t.port n).explicit = false) ∧
    (Accepts s m b (ctl F.PD_CTRL_EN 0) → s.flag b F.PD_CTRL_EN = true → tcState s n ≠ 4 → x.admFor = 0 →
      ∃ t, exec (.pdEn m n false) s = .next (finish s t) ∧ Claims.PdErrors s t n 1 ∧ t.fld b F.PD_CTRL_EN = 0 ∧ (t.port n).er = 1) ∧
    (Accepts s m b (ctl F.PD_CTRL_ABORT 1) → tcState s n = 0 →
      ∃ t, exec (.pdAbort m n) s = .next (finish s t) ∧ t.mem = s.mem ∧ RegsTo s t [(b, F.PD_CTRL_EN, 0)]) ∧
    (Accepts s m b (ctl F.PD_CTRL_ABORT 1) → tcState s n ≠ 0 → x.admFor = 0 →
      ∃ t, exec (.pdAbort m n) s = .next (finish s t) ∧ Claims.PdErrors s t n 1 ∧ t.fld b F.PD_CTRL_EN = 0 ∧ (t.port n).er = 2) ∧
    (s.pwr.core = true →
      (tcState s n = 4 → x.er = 2 ∨ (x.er = 1 ∧ vbusOf s n = 0) → s.flag b F.PD_CTRL_EN = false →
        ∃ t, exec (.errorRecoveryEnd n) s = .next (finish s t) ∧ t.mem = s.mem ∧ RegsTo s t [(b, F.PD_STATUS_TC_STATE, 0)] ∧
          Upd s.port t.port n { x with er := 0 }) ∧
      (tcState s n = 4 → x.er = 2 ∨ (x.er = 1 ∧ vbusOf s n = 0) → s.flag b F.PD_CTRL_EN = true →
        ∃ t, exec (.errorRecoveryEnd n) s = .next (finish s t) ∧ t.mem = s.mem ∧ tcState t n = 1 ∧ (t.port n).er = 0) ∧
      (x.hr = 1 →
        ∃ t, exec (.psHardResetEnd n) s = .next (finish s t) ∧ t.mem = s.mem ∧ Upd s.port t.port n { x with hr := if vbusOf s n = 0 then 3 else 2, vconnBack := s.flag b F.PD_STATUS_VCONN_SRC } ∧
          RegsTo s t [(b, F.PD_STATUS_GATE_SRC, 0), (b, F.PD_STATUS_GATE_SNK, 0), (b, F.PD_STATUS_VCONN_SRC, 0)]) ∧
      (x.hr = 3 → x.admFor = 0 → portCo s n F.PD_ADMIT_Q_PER_W = 0 → vbusOf s n = 1 →
        ∃ t, exec (.srcRecoverEnd n) s = .next (finish s t) ∧ SameRegs s t ∧ Upd s.port t.port n { x with hr := 0, admW := 0, wantSrc := true }) ∧
      (isSnk s n = true → x.hr = 5 ∨ x.hr = 6 → x.admFor = 0 →
        ∃ t, exec (.sinkVbusReturnTimeout n) s = .next (finish s t) ∧ Claims.PdErrors s t n 6 ∧ Claims.OnlyWindow s t b) ∧
      (∀ f, portFelt? s n = some f → guardHolds s n g = true → x.admFor = 0 →
        ∃ t, exec (.pdGuard n g) s = .next (finish s t) ∧ t.mem = s.mem ∧ Claims.PdErrors s t n (min 5 (guardCode g + 2)) ∧ t.fld b F.PD_EVT_GUARD = 1 ∧
          t.reports = s.reports ++ [⟨7, n, K.PD_GUARD, kindSev K.PD_GUARD, 0, guardCode g⟩] ∧
          ∀ ph ∈ feltPhases s f, t.fld (phsB ph) F.PHS_STATUS_TRIPPED = 1))

/-- R248, R249, R253, R256, R260, R261, R266: messages. The message at the head leaves it. A port answers DR_Swap, VCONN_Swap, Soft_Reset,
Get_Revision and EPR_KeepAlive itself; a Request that names no offered object is rejected and another one goes to the policy; a message
that no command has for its own is ignored, passed to the policy or answered with Not_Supported. A GoodCRC counts the MessageID on. -/
def Claims.PdMessages : Prop :=
  ∀ (s : State) (n : Fin 48) (m : List Byte) (q : List (Nat × List Byte)), s.pwr.core = true →
    let b := pdB n
    let x := s.port n
    let y := { x with inbox := q }
    let shown := fun (t : State) (p : PortX) => t.mem = s.mem ∧ Upd s.port t.port n { p with rxq := x.rxq ++ [(0, m)] } ∧ t.fld b F.PD_EVT_RX = 1 ∧
      t.fld b F.PD_RX_STAT_FULL = 1 ∧ t.fld b F.PD_RX_STAT_QUEUED = x.rxq.length
    (x.inbox = (0, m) :: q → x.expect = 0 → x.cur = none → x.outq = [] →
      (pdKey m = 24 →
        ∃ t, exec (.getRevision n) s = .next (finish s t) ∧ SameRegs s t ∧ Claims.PdSays s t n (dataMsg 12 [0x32100000#32]) y) ∧
      (pdKey m = 9 →
        ∃ t, exec (.drSwap n) s = .next (finish s t) ∧ t.mem = s.mem ∧ Claims.PdSays s t n (ctlMsg 3) y ∧
          RegsTo s t [(b, F.PD_STATUS_DATA_ROLE, 1 - s.fld b F.PD_STATUS_DATA_ROLE), (b, F.PD_EVT_SWAP, 1)]) ∧
      (pdKey m = 11 → portOn s n F.PD_CFG_VCONN_EN = false →
        ∃ t, exec (.vconnSwap n) s = .next (finish s t) ∧ SameRegs s t ∧ Claims.PdSays s t n (ctlMsg 4) y) ∧
      (pdKey m = 11 → portOn s n F.PD_CFG_VCONN_EN = true → s.flag b F.PD_STATUS_VCONN_SRC = true →
        ∃ t, exec (.vconnSwap n) s = .next (finish s t) ∧ SameRegs s t ∧ Claims.PdSays s t n (ctlMsg 3) { y with vswap := 1 }) ∧
      (pdKey m = 13 → isSrc s n = false → x.chunkTx = none → x.vswap ≠ 2 →
        ∃ t, exec (.softReset n) s = .next (finish s t) ∧ t.mem = s.mem ∧ RegsTo s t [(b, F.PD_RX_STAT_FULL, 0), (b, F.PD_RX_STAT_QUEUED, 0)] ∧
          Claims.PdSays s t n (ctlMsg 3) { y with inbox := [], rxq := [], txId := idPut x.txId 0 0, chunkTx := none, chunkRx := none, req := 0, swap := if x.swap = 10 ∨ x.swap = 11 then 0 else x.swap }) ∧
      (pdKey m = 80 → leNat ((m.drop 4).take 1) = 3 →
        (isSrc s n = true → s.flag b F.PD_STATUS_EPR = true → s.flag b F.PD_STATUS_UNCHUNKED = true →
          ∃ t, exec (.eprKeepalive n) s = .next (finish s t) ∧ SameRegs s t ∧ Claims.PdSays s t n (extMsg 16 [4#8, 0#8]) y) ∧
        (isSrc s n = false ∨ s.flag b F.PD_STATUS_EPR = false →
          ∃ t, exec (.eprKeepalive n) s = .next (finish s t) ∧ SameRegs s t ∧ Claims.PdSays s t n (ctlMsg 16) y)) ∧
      (pdKey m = 34 → isSrc s n = true →
        let rdo := (pdObjs m).getD 0 0#32
        let asked : List (Nat × Fld × Nat) := [(b, F.PD_STATUS_UNCHUNKED, b2n (rdo.toNat.testBit 23 && portOn s n F.PD_CFG_UNCHUNKED)), (b, F.PD_STATUS_HOLD_WAIT, 0)]
        (dealOf x.caps rdo = none →
          ∃ t, exec (.pdRequest n) s = .next (finish s t) ∧ t.mem = s.mem ∧ RegsTo s t asked ∧ Claims.PdSays s t n (ctlMsg 4) y) ∧
        (∀ d, dealOf x.caps rdo = some d → s.hold = false → x.lateW = 0 → x.rxq.length < 4 →
          ∃ t, exec (.pdRequest n) s = .next (finish s t) ∧ shown t { y with req := 1, reqType := 2, next := d })) ∧
      (pdKey m = 1 ∨ pdKey m = 5 ∨ pdKey m = 35 →
        ∃ t, exec (.pdMessage n) s = .next (finish s t) ∧ SameRegs s t ∧ Upd s.port t.port n y ∧ t.lanes = s.lanes) ∧
      (pdKey m = 15 ∨ pdKey m = 21 ∨ pdKey m = 37 →
        ∃ t, exec (.pdMessage n) s = .next (finish s t) ∧ SameRegs s t ∧ Claims.PdSays s t n (ctlMsg 16) y) ∧
      (pdKey m = 7 ∨ pdKey m = 8 ∨ (pdKey m = 16 ∧ x.swap ≠ 11 ∧ x.vswap ≠ 2) → x.rxq.length < 4 →
        ∃ t, exec (.pdMessage n) s = .next (finish s t) ∧ shown t y))

/-- R86, R238, R248, R253, R259, R261, R266: the result of a transmission. A GoodCRC counts the MessageID of its SOP* kind on, and on SOP the
message takes its effect: capabilities and a Request are kept, Wait and Reject end the partner's Request, an accepted PR_Swap begins, an
asked swap or EPR entry is outstanding, an answer is awaited; a message that was discarded or found no GoodCRC counts nothing on, and the
latter is counted as failed and, on SOP, brings a Soft_Reset, after a PS_RDY or a Soft_Reset a Hard Reset (after a Soft_Reset the model's
choice, log entry 21); the policy learns what became of its own. A port that is not usable discards the event. -/
def Claims.PdTransmitted : Prop :=
  ∀ (s : State) (l : Fin 12) (p : SidePkt) (rest : List SidePkt) (w : PdTx), s.pwr.core = true → Claims.PdEvent s l p rest 4 →
    let n := 4 * l.val + bits p.arg 15 14
    let b := pdB n
    let x := s.port n
    let id := idPut x.txId 1 (((idOf x.txId 1).getD 0 + 1) % 8)
    let done := fun r : Nat => if w.policy then [(b, F.PD_TX_STAT_BUSY, 0), (b, F.PD_TX_STAT_RESULT, r), (b, F.PD_EVT_TX_DONE, 1)] else []
    let lost := [(b, F.PD_CNT_TX_FAILS, min 255 (s.fld b F.PD_CNT_TX_FAILS + 1))]
    let heard : State → Prop := fun t => Upd s.lane t.lane l { s.lane l with rx := rest }
    (portWhy s n ≠ 0 →
      ∃ t, exec (.transmitResult l) s = .next (finish s t) ∧ SameRegs s t ∧ t.ports = s.ports ∧ heard t) ∧
    (portWhy s n = 0 → x.cur = some w → x.outq = [] → x.chunkTx = none → w.sop = 1 →
      ∃ t, exec (.transmitResult l) s = .next (finish s t) ∧ t.mem = s.mem ∧ heard t ∧
        (p.arg % 4 = 0 → RegsTo s t (done 0) ∧ Upd s.port t.port n { x with cur := none, txId := id }) ∧
        (p.arg % 4 = 1 → RegsTo s t (done 1) ∧ Upd s.port t.port n { x with cur := none }) ∧
        (p.arg % 4 = 2 → RegsTo s t (lost ++ done 2) ∧ Upd s.port t.port n { x with cur := none })) ∧
    (portWhy s n = 0 → x.cur = some w → x.outq = [] → x.chunkTx = none → w.sop = 0 →
      let key := pdKey w.bytes
      let act := bits ((pdObjs w.bytes).getD 0 0#32).toNat 31 24
      let y := { x with cur := none, txId := idPut x.txId 0 (((idOf x.txId 0).getD 0 + 1) % 8), expect := if wantsAnswer s n key then key else x.expect }
      let sent := fun (t : State) (fs : List (Nat × Fld × Nat)) (z : PortX) => t.mem = s.mem ∧ heard t ∧ RegsTo s t (fs ++ done 0) ∧ Upd s.port t.port n z
      (p.arg % 4 = 0 →
        (key ∉ [3, 4, 6, 10, 11, 12, 33, 34, 41, 42, 81] →
          ∃ t, exec (.transmitResult l) s = .next (finish s t) ∧ sent t [] y) ∧
        (key = 33 ∨ key = 81 → ∃ t, exec (.transmitResult l) s = .next (finish s t) ∧ sent t [] { y with caps := pdObjs w.bytes }) ∧
        (key = 34 ∨ key = 41 →
          ∃ t, exec (.transmitResult l) s = .next (finish s t) ∧
            sent t [] { y with lastReq := some w, waited := false, reqDue := false, answering := false,
                               next := (dealOf x.theirs ((pdObjs w.bytes).getD 0 0#32)).getD ⟨0, 0, 0, 0⟩ }) ∧
        (key = 4 ∨ key = 12 → w.policy = true →
          ∃ t, exec (.transmitResult l) s = .next (finish s t) ∧ sent t [] { y with req := 0, swap := if x.swap = 10 then 0 else x.swap }) ∧
        (key = 3 → w.policy = true → x.swap = 10 → isSrc s n = true →
          ∃ t, exec (.transmitResult l) s = .next (finish s t) ∧ sent t [(b, F.PD_STATUS_PD, 4)] { y with swap := 1 }) ∧
        (key = 10 → ∃ t, exec (.transmitResult l) s = .next (finish s t) ∧ sent t [] { y with swap := 11 }) ∧
        (key = 11 → ∃ t, exec (.transmitResult l) s = .next (finish s t) ∧ sent t [] { y with vswap := 2 }) ∧
        (key = 42 → act = 1 ∨ act = 2 → ∃ t, exec (.transmitResult l) s = .next (finish s t) ∧ sent t [] { y with entering := true }) ∧
        (key = 42 → act = 5 → ∃ t, exec (.transmitResult l) s = .next (finish s t) ∧ sent t [(b, F.PD_STATUS_EPR, 0)] { y with entering := false })) ∧
      (p.arg % 4 = 1 →
        ∃ t, exec (.transmitResult l) s = .next (finish s t) ∧ t.mem = s.mem ∧ heard t ∧ RegsTo s t (done 1) ∧ Upd s.port t.port n { x with cur := none }) ∧
      (p.arg % 4 = 2 → attached s n = true → x.admFor = 0 → key = 6 ∨ key = 13 →
        ∃ t, exec (.transmitResult l) s = .next (finish s t) ∧ t.mem = s.mem ∧ Claims.HardResets s t n ∧
          t.fld b F.PD_CNT_TX_FAILS = min 255 (s.fld b F.PD_CNT_TX_FAILS + 1)) ∧
      (p.arg % 4 = 2 → key ≠ 6 → key ≠ 13 → key ≠ 11 → x.vswap = 0 → betweenAccept s n = false → x.explicit = false →
        ∃ t, exec (.transmitResult l) s = .next (finish s t) ∧ t.mem = s.mem ∧
          RegsTo s t (lost ++ done 2 ++ [(b, F.PD_RX_STAT_FULL, 0), (b, F.PD_RX_STAT_QUEUED, 0)]) ∧
          Upd s.port t.port n { x with cur := some ⟨0, ctlMsg 13, false⟩, txId := idPut x.txId 0 0, rxId := x.rxId.filter (fun e => e.1 != 0), inbox := [], rxq := [],
                                       chunkTx := none, chunkRx := none, expect := 0, req := 0, swap := if x.swap = 10 ∨ x.swap = 11 then 0 else x.swap }))

/-- PD ports: messages received and messages sent: `Claims.PdMessages` and `Claims.PdTransmitted` together. -/
def Obligations.PdMessages : Prop := Claims.PdMessages ∧ Claims.PdTransmitted

/-- R249, R253, R254, R255: the policy's registers and the times of a contract. TX_CTRL.GO sends the policy's message or ends with its
result; an admission request that charges nothing is granted at once; releasing a message shows the next; the policy that does not answer
has the port answer Wait or Reject and is reported; the end of tSrcTransition applies the held set or, in a swap, closes the gates; a
transition that does not end in time is a Hard Reset, reported at a source. -/
def Claims.PdPolicy : Prop :=
  ∀ (s : State) (m : Master) (n : Fin 48) (sop : BitVec 2) (len : BitVec 9) (watts : BitVec 12),
    let b := pdB n
    let x := s.port n
    let msg := txBytes s n (min 264 len.toNat)
    let r := txCheck s n sop.toNat msg
    let wrote : List (Nat × Fld × Nat) := [(b, F.PD_TX_CTRL_SOP, sop.toNat), (b, F.PD_TX_CTRL_LEN, len.toNat)]
    let asked : List (Nat × Fld × Nat) := [(b, F.PD_ADM_REQ_P_NEW, watts.toNat)]
    (Accepts s m (b + R.PD_TX_CTRL) (BitVec.ofNat 32 (2 ^ 31 + sop.toNat * 2 ^ 12 + len.toNat)) →
      ∃ t, exec (.pdTxGo m n sop len) s = .next (finish s t) ∧ t.mem = s.mem ∧
        (s.flag b F.PD_TX_STAT_BUSY = true → RegsTo s t wrote ∧ t.ports = s.ports ∧ t.lanes = s.lanes) ∧
        (s.flag b F.PD_TX_STAT_BUSY = false → r = 3 ∨ r = 5 ∨ (r = 6 ∧ pdKey msg ≠ 42) →
          RegsTo s t (wrote ++ [(b, F.PD_TX_STAT_BUSY, 0), (b, F.PD_TX_STAT_RESULT, r), (b, F.PD_EVT_TX_DONE, 1)]) ∧ t.ports = s.ports ∧ t.lanes = s.lanes) ∧
        (s.flag b F.PD_TX_STAT_BUSY = false → r = 0 → pdKey msg < 64 → sop ≠ 0#2 ∨ pdKey msg ≠ 6 → isSrc s n = false ∨ x.explicit = false → x.cur = none → x.outq = [] →
          let w : PdTx := ⟨sop.toNat, msg, true⟩
          let kept := if sop = 0#2 ∧ pdKey msg = 33 then { x with capsMsg := some w, capsN := x.capsN + 1 } else x
          RegsTo s t (wrote ++ [(b, F.PD_TX_STAT_BUSY, 1)]) ∧ Upd s.port t.port n { kept with cur := some w } ∧
          (msg.length ≤ 32 → Upd s.lane t.lane (n.val / 4) { s.lane (n.val / 4) with
            waiting := (s.lane (n.val / 4)).waiting ++ [⟨4, 0, n.val % 4 * 2 ^ 14 + sop.toNat * 2 ^ 12 + 2 ^ 7 + msg.length, bytesWords 8 (pdFill t n sop.toNat msg)⟩] }))) ∧
    (Accepts s m (b + R.PD_ADM_REQ) (BitVec.ofNat 32 (2 ^ 31 + watts.toNat)) → x.admFor = 0 →
      ∃ t, exec (.pdAdmReq m n watts) s = .next (finish s t) ∧ t.mem = s.mem ∧
        (portCo s n F.PD_ADMIT_Q_PER_W * (100000 * watts.toNat - powerNow s n) / 100000 = 0 →
          RegsTo s t (asked ++ [(b, F.PD_ADM_STAT_STATE, 2), (b, F.PD_ADM_STAT_GRANT_W, watts.toNat), (b, F.PD_EVT_ADM_GRANT, 1)])) ∧
        (portCo s n F.PD_ADMIT_Q_PER_W * (100000 * watts.toNat - powerNow s n) / 100000 ≠ 0 →
          RegsTo s t (asked ++ [(b, F.PD_ADM_STAT_STATE, 1), (b, F.PD_ADM_STAT_GRANT_W, 0)]) ∧
          Upd s.port t.port n { x with admFor := 1, admW := watts.toNat } ∧
          ∃ a, t.adm.asked = s.adm.asked ++ [a] ∧ a.kind = 1 ∧ a.inst = n.val ∧ a.q = portCo s n F.PD_ADMIT_Q_PER_W * (100000 * watts.toNat - powerNow s n) / 100000)) ∧
    (Accepts s m (b + R.PD_RX_STAT) 0x80000000#32 → s.flag b F.PD_RX_STAT_FULL = true →
      ∃ t, exec (.pdRxRelease m n) s = .next (finish s t) ∧ t.mem = s.mem ∧ Upd s.port t.port n { x with rxq := x.rxq.drop 1 } ∧
        t.fld b F.PD_RX_STAT_FULL = b2n (decide (1 < x.rxq.length)) ∧ t.fld b F.PD_RX_STAT_QUEUED = (x.rxq.length - 2) % 4 ∧
        (x.rxq.length ≤ 1 → RegsTo s t [(b, F.PD_RX_STAT_FULL, 0), (b, F.PD_RX_STAT_QUEUED, 0)])) ∧
    (s.pwr.core = true →
      (x.req = 1 → x.cur = none → x.outq = [] →
        let told : Msg := ⟨7, n, K.PD_POLICY_TMO, kindSev K.PD_POLICY_TMO, 0, x.reqType % 2 ^ 32⟩
        ∃ t, exec (.policyTmo n) s = .next (finish s t) ∧ t.mem = s.mem ∧ t.reports = s.reports ++ [told] ∧ RegsTo s t [(b, F.PD_EVT_POLICY_TMO, 1)] ∧
          (explicitNow s n = true → Claims.PdSays s t n (ctlMsg 12) { x with req := 2 }) ∧
          (explicitNow s n = false → Claims.PdSays s t n (ctlMsg 4) { x with req := 0 })) ∧
      (x.swap = 1 →
        ∃ t, exec (.srcTransitionEnd n) s = .next (finish s t) ∧ t.mem = s.mem ∧ Upd s.port t.port n { x with swap := 2 } ∧
          RegsTo s t [(b, ⟨R.PD_CONTRACT, 31, 0⟩, 0), (b, F.PD_STATUS_GATE_SRC, 0), (b, F.PD_STATUS_GATE_SNK, 0)]) ∧
      (∀ f, portFelt? s n = some f → x.swap = 0 → x.moving = true → isSrc s n = true → feltSel s f ≠ 1 →
        ∃ t, exec (.srcTransitionEnd n) s = .next (finish s t) ∧ SameRegs s t ∧ t.ports = s.ports ∧
          Upd s.felt t.felt f { s.felt f with portHold := false, portSet := none, eng := if (s.felt f).portSet = none then (s.felt f).eng else (s.felt f).portSet }) ∧
      (x.moving = true → x.admFor = 0 → portWhy s n = 0 →
        (isSrc s n = true →
          ∃ t, exec (.pdTransition n) s = .next (finish s t) ∧ Claims.HardResets s t n ∧ ⟨7, n, K.PD_TRANSITION, kindSev K.PD_TRANSITION, 0, 0⟩ ∈ t.reports) ∧
        (isSnk s n = true →
          ∃ t, exec (.psTransitionTimeout n) s = .next (finish s t) ∧ Claims.HardResets s t n ∧ t.reports = s.reports)))

/-- R250, R255 to R259, R265, R266: the other times of a port. A sink repeats its Request after a Wait and within a PPS contract, and a
sink in EPR mode keeps it alive; a source that hears neither in time resets hard. Cable discovery asks, asks again up to 20 times, and
without a cable that answers counts it as one of 3 A. A missing response brings a Soft_Reset, or a Hard Reset where Soft_Reset was what was
not answered. A swap step that lasts too long is ErrorRecovery; a source sends its capabilities again at the end of a swap and, up to 50
times, before a contract. EPR entry and a chunked transfer that do not end in time are abandoned. -/
def Claims.PdTimers : Prop :=
  ∀ (s : State) (n : Fin 48) (w : PdTx), s.pwr.core = true →
    let b := pdB n
    let x := s.port n
    let free := portWhy s n = 0 ∧ x.cur = none ∧ x.outq = []
    let pps := dealPps s n = true
    let sent := fun (t : State) (y : PortX) => SameRegs s t ∧ Upd s.port t.port n { y with cur := some ⟨w.sop, w.bytes, false⟩ }
    let late := fun (t : State) (y : PortX) => SameRegs s t ∧ Upd s.port t.port n y ∧ t.lanes = s.lanes
    (isSnk s n = true → free → w.sop = 0 → x.lastReq = some w → pdKey w.bytes = 34 → x.waited = true →
      ∃ t, exec (.sinkRequestResend n) s = .next (finish s t) ∧ (sinkMay s n = true → sent t { x with waited := false, reqDue := false }) ∧
        (sinkMay s n = false → late t { x with waited := false, reqDue := true })) ∧
    (isSnk s n = true → free → w.sop = 0 → x.lastReq = some w → pdKey w.bytes = 34 → pps →
      ∃ t, exec (.ppsRequestResend n) s = .next (finish s t) ∧ (sinkMay s n = true → sent t { x with waited := false, reqDue := false }) ∧
        (sinkMay s n = false → late t { x with waited := false, reqDue := true })) ∧
    (isSrc s n = true → pps → portWhy s n = 0 → x.admFor = 0 → ∃ t, exec (.ppsTimeout n) s = .next (finish s t) ∧ Claims.HardResets s t n) ∧
    (isSnk s n = true → s.flag b F.PD_STATUS_EPR = true → free → s.flag b F.PD_STATUS_UNCHUNKED = true →
      ∃ t, exec (.eprKeepaliveSend n) s = .next (finish s t) ∧
        (sinkMay s n = true → SameRegs s t ∧ Claims.PdSays s t n (extMsg 16 [3#8, 0#8]) { x with aliveDue := false }) ∧
        (sinkMay s n = false → late t { x with aliveDue := true })) ∧
    (isSrc s n = true → s.flag b F.PD_STATUS_EPR = true → portWhy s n = 0 → x.admFor = 0 →
      ∃ t, exec (.eprKeepaliveTimeout n) s = .next (finish s t) ∧ Claims.HardResets s t n) ∧
    (isSrc s n = true → s.flag b F.PD_CABLE_VALID = false → x.disc = false → x.explicit = false → portOn s n F.PD_CFG_EPR_EN = true →
      (s.flag b F.PD_STATUS_VCONN_SRC = true → free → s.fld b F.PD_CABLE_TRIES < 31 →
        ∃ t, exec (.cableDiscoveryStart n) s = .next (finish s t) ∧ t.mem = s.mem ∧ RegsTo s t [(b, F.PD_CABLE_TRIES, s.fld b F.PD_CABLE_TRIES + 1)] ∧
          Upd s.port t.port n { x with disc := true, cur := some ⟨1, dataMsg 15 [0xFF00A001#32], false⟩ }) ∧
      (s.flag b F.PD_STATUS_VCONN_SRC = false → portOn s n F.PD_CFG_VCONN_EN = true → free →
        ∃ t, exec (.cableDiscoveryStart n) s = .next (finish s t) ∧ SameRegs s t ∧ Claims.PdSays s t n (ctlMsg 11) x) ∧
      (s.flag b F.PD_STATUS_VCONN_SRC = false → portOn s n F.PD_CFG_VCONN_EN = false →
        ∃ t, exec (.cableDiscoveryStart n) s = .next (finish s t) ∧ t.mem = s.mem ∧ RegsTo s t [(b, F.PD_CABLE_VALID, 1)] ∧ t.ports = s.ports)) ∧
    (x.disc = true → x.explicit = false → free →
      ∃ t, exec (.discoverIdentityRetry n) s = .next (finish s t) ∧ t.mem = s.mem ∧
        (s.fld b F.PD_CABLE_TRIES < 20 → RegsTo s t [(b, F.PD_CABLE_TRIES, s.fld b F.PD_CABLE_TRIES + 1)] ∧
          Upd s.port t.port n { x with cur := some ⟨1, dataMsg 15 [0xFF00A001#32], false⟩ }) ∧
        (20 ≤ s.fld b F.PD_CABLE_TRIES → RegsTo s t [(b, F.PD_CABLE_VALID, 1)] ∧ Upd s.port t.port n { x with disc := false })) ∧
    (x.expect = 13 → attached s n = true → portWhy s n = 0 → x.admFor = 0 →
      ∃ t, exec (.senderResponseTimeout n) s = .next (finish s t) ∧ Claims.HardResets s t n) ∧
    (x.expect = 7 → betweenAccept s n = false → free → x.chunkTx = none → x.explicit = false → x.swap = 0 → x.vswap = 0 →
      ∃ t, exec (.senderResponseTimeout n) s = .next (finish s t) ∧ t.mem = s.mem ∧ RegsTo s t [(b, F.PD_RX_STAT_FULL, 0), (b, F.PD_RX_STAT_QUEUED, 0)] ∧
        Claims.PdSays s t n (ctlMsg 13) { x with txId := idPut x.txId 0 0, rxId := x.rxId.filter (fun e => e.1 != 0), inbox := [], outq := [], rxq := [], chunkTx := none, chunkRx := none, expect := 0, req := 0 }) ∧
    (2 ≤ x.swap → x.swap ≤ 5 → x.admFor = 0 → ∃ t, exec (.swapTimeout n) s = .next (finish s t) ∧ Claims.PdErrors s t n 6) ∧
    (x.capsMsg = some w → w.sop = 0 → pdKey w.bytes = 33 → x.explicit = false → free →
      let again := { x with capsMsg := some ⟨0, w.bytes, false⟩, capsN := x.capsN + 1 }
      (x.swap = 6 → ∃ t, exec (.swapSourceStart n) s = .next (finish s t) ∧ sent t { again with swap := 0 }) ∧
      (isSrc s n = true → explicitNow s n = false → x.capsN < 50 → ∃ t, exec (.typecSendSourceCap n) s = .next (finish s t) ∧ sent t again)) ∧
    (x.capsMsg = none → x.swap = 6 → x.explicit = false → free →
      ∃ t, exec (.swapSourceStart n) s = .next (finish s t) ∧ SameRegs s t ∧
        Claims.PdSays s t n (defaultCaps s n) { x with swap := 0, capsMsg := some ⟨0, defaultCaps s n, false⟩, capsN := x.capsN + 1 }) ∧
    (∀ k, x.chunkTx = some (w, k) → w.policy = true → x.cur = none → x.outq = [] →
      ∃ t, exec (.chunkSenderTimeout n) s = .next (finish s t) ∧ t.mem = s.mem ∧ Upd s.port t.port n { x with chunkTx := none, chunkRx := none } ∧
        RegsTo s t [(b, F.PD_TX_STAT_BUSY, 0), (b, F.PD_TX_STAT_RESULT, 1), (b, F.PD_EVT_TX_DONE, 1)]) ∧
    (x.chunkTx = none →
      ∃ t, exec (.chunkSenderTimeout n) s = .next (finish s t) ∧ SameRegs s t ∧ Upd s.port t.port n { x with chunkRx := none }) ∧
    (x.entering = true →
      (isSrc s n = true → free →
        ∃ t, exec (.enterEprTimeout n) s = .next (finish s t) ∧ SameRegs s t ∧ Claims.PdSays s t n (dataMsg 10 [0x04000000#32]) { x with entering := false }) ∧
      (isSrc s n = false →
        ∃ t, exec (.enterEprTimeout n) s = .next (finish s t) ∧ SameRegs s t ∧ Upd s.port t.port n { x with entering := false }))

/-- PD ports: the policy commands and the timers: `Claims.PdPolicy` and `Claims.PdTimers` together. -/
def Obligations.PdPolicyAndTimers : Prop := Claims.PdPolicy ∧ Claims.PdTimers

/-- Service port p sends the message m (R269): the bytes sent gain it with Specification Revision 3.x and the port's MessageID, which counts
on. -/
def Claims.SvcSays (s t : State) (p : Nat) (m : List Byte) (x : SvcX) : Prop :=
  let id := (idOf x.txId p).getD 0
  t.svc = { x with sent := x.sent ++ [(p, natLE 2 (setBits (setBits (pdHdr m) 7 6 2) 11 9 id) ++ m.drop 2)], txId := idPut x.txId p ((id + 1) % 8) } ∧
  { t with regs := [], svc := s.svc } = { s with regs := [] }

/-- The pending maintenance request r is answered with a status and objects (R273): the request is done, the port is back in its contract,
SVC_LAST shows the answer, and one VDM is sent; x is the record of the service ports the answer is made from. -/
def Claims.Answered (s t : State) (r : SvcReq) (status : Nat) (objs : List Word) (x : SvcX) : Prop :=
  let b := svcB
  let hdr := fget (svcVdm s) F.SVC_VDM_SVID * 2 ^ 16 + 2 ^ 14 + r.tag % 16 * 2 ^ 10 + r.cmd % 64 * 2 ^ 4 + status % 16
  let m := dataMsg 15 (BitVec.ofNat 32 hdr :: objs)
  let id := (idOf x.txId r.port).getD 0
  RegsTo s t [(b, if r.port = 0 then F.SVC_STATUS_S0_STATE else F.SVC_STATUS_S1_STATE, 2), (b, F.SVC_LAST_COUNT, min 65535 (s.fld b F.SVC_LAST_COUNT + 1)),
    (b, F.SVC_LAST_PORT, r.port), (b, F.SVC_LAST_CMD, r.cmd), (b, F.SVC_LAST_STATUS, status)] ∧ t.mem = s.mem ∧
  t.svc = { x with req := none, sent := x.sent ++ [(r.port, natLE 2 (setBits (setBits (pdHdr m) 7 6 2) 11 9 id) ++ m.drop 2)], txId := idPut x.txId r.port ((id + 1) % 8) }

/-- R269 to R271, R273, R275: a service port. Attaching restarts its MessageIDs, detaching drops its request and its update; its path
closes, feeds the always-on domain, and opens on a guard, which is shown; one that opened on current closes again. Capabilities are answered
with a Request for 5 V, swaps are rejected, every other message that needs an answer is not supported, and a maintenance request that
comes while another is handled is answered busy. -/
def Obligations.ServicePorts : Prop :=
  ∀ (s : State) (p : Fin 2) (g : PathGuard) (bytes : List Byte),
    let b := svcB
    let x := s.svc
    let stateF := if p.val = 0 then F.SVC_STATUS_S0_STATE else F.SVC_STATUS_S1_STATE
    let pathF := if p.val = 0 then F.SVC_STATUS_S0_PATH else F.SVC_STATUS_S1_PATH
    let other := pathClosed s (1 - p)
    let got : SvcX := { x with rxId := idPut x.rxId p (pdId bytes) }
    let fresh := svcState s p ≠ 0 ∧ 2 ≤ bytes.length ∧ (pdKey bytes = 13 ∨ idOf x.rxId p ≠ some (pdId bytes))
    let shown := fun c : Nat => [(b, F.SVC_STATUS_POWER, c)]
    let cause : List (Nat × Fld × Nat) := match g with
      | .uv => []
      | .ov => [(b, F.SVC_STATUS_PATH_OV, 1)]
      | .oc => [(b, F.SVC_STATUS_PATH_OC, 1)]
    (s.pwr.asleep = false →
      ∃ t, exec (.svcAttach p) s = .next (finish s t) ∧ t.mem = s.mem ∧
        t.svc = { x with txId := idPut x.txId p 0, rxId := x.rxId.filter (fun e => e.1 != p.val), asked := x.asked.filter (· != p.val) } ∧
        RegsTo s t (if svcState s p = 0 then [(b, stateF, 1)] else [])) ∧
    (∃ t, exec (.svcDetach p) s = .next (finish s t) ∧ t.mem = s.mem ∧ RegsTo s t [(b, stateF, 0)] ∧
      (∀ r, x.req = some r → t.svc.req = if r.port = p.val then none else some r) ∧
      (∀ u, x.upd = some u → t.svc.upd = if u.port = p.val then none else some u)) ∧
    (s.pwr.vaon = false → other = false →
      ∃ t, exec (.svcPathClose p) s = .next (finish s t) ∧ t.mem = s.mem ∧ t.pwr.vaon = true ∧ t.pwr.aux = false ∧ t.svc = { x with retry := x.retry.filter (· != p.val) } ∧
        t.fld b pathF = 1 ∧ t.fld b F.SVC_STATUS_POWER = p.val + 1) ∧
    (pathClosed s p = true → other = false →
      ∃ t, exec (.svcPathOpen p g) s = .next (finish s t) ∧ t.mem = s.mem ∧
        (s.pwr.aux = true → RegsTo s t ((b, pathF, 0) :: cause ++ shown 0) ∧ (p.val ∈ t.svc.retry ↔ p.val ∈ x.retry ∨ g = .oc)) ∧
        (s.pwr.aux = false → t.pwr.vaon = false ∧ t.svc = State.reset.svc ∧ t.rd (b + R.SVC_STATUS) = 0#32)) ∧
    (s.pwr.vaon = true → p.val ∈ x.retry →
      ∃ t, exec (.svcPathRetry p) s = .next (finish s t) ∧ t.mem = s.mem ∧ t.fld b pathF = 1 ∧ t.svc.retry = x.retry.filter (· != p.val)) ∧
    (fresh →
      (pdKey bytes = 33 →
        ∃ t, exec (.svcPdMessage p bytes) s = .next (finish s t) ∧ SameRegs s t ∧
          Claims.SvcSays s t p (dataMsg 2 [0x10003C0F#32]) { got with asked := setAdd x.asked p }) ∧
      (pdKey bytes = 9 ∨ pdKey bytes = 10 ∨ pdKey bytes = 11 →
        ∃ t, exec (.svcPdMessage p bytes) s = .next (finish s t) ∧ SameRegs s t ∧ Claims.SvcSays s t p (ctlMsg 4) got) ∧
      (pdKey bytes = 13 ∨ pdKey bytes = 7 ∨ pdKey bytes = 8 ∨ pdKey bytes = 24 →
        ∃ t, exec (.svcPdMessage p bytes) s = .next (finish s t) ∧ SameRegs s t ∧ Claims.SvcSays s t p (ctlMsg 16) got) ∧
      (pdKey bytes = 6 → p.val ∈ x.asked → svcState s p = 1 → s.pwr.main = true →
        ∃ t, exec (.svcPdMessage p bytes) s = .next (finish s t) ∧ t.mem = s.mem ∧ RegsTo s t [(b, stateF, 2)] ∧
          t.svc = { got with asked := x.asked.filter (· != p.val) }) ∧
      (let hdr := ((pdObjs bytes).getD 0 0#32).toNat
       pdKey bytes = 47 → hdr / 2 ^ 16 = fget (svcVdm s) F.SVC_VDM_SVID → bit hdr 15 = false → bit hdr 14 = false → 2 ≤ svcState s p → x.req = none →
        svcGroup (bits hdr 9 4) = some 0 → bit (svcVdm s).toNat 0 = true →
        ∃ t, exec (.svcPdMessage p bytes) s = .next (finish s t) ∧ t.mem = s.mem ∧ RegsTo s t [(b, stateF, 3)] ∧
          t.svc = { got with req := some ⟨p, bits hdr 13 10, bits hdr 9 4, (pdObjs bytes).drop 1⟩ }))

/-- R273 to R275: the maintenance requests. GET_ID answers a page of identity, GET_STATUS the status, READ_SLATE words of the slate with main
power, waiting for the boot scan (R456), and of the newest valid copy without it, READ_CARD words of the index-th newest card that passes its
CRC, or status 4; each refuses a parameter out of its range with status 3. UPD_BEGIN erases a slot that is not
the running one, its end lets data in, UPD_DATA writes at the next offset and answers the last one again, UPD_END refuses what it was not
given or whose CRC-32 differs, with a status that the spec leaves open (log entry 1), and answers what pass 1 finds in the slot, UPD_ABORT ends an update; without main power an update command is answered with status 5. -/
def Obligations.Maintenance : Prop :=
  ∀ (s : State) (r : SvcReq) (u : SvcUpd), s.svc.req = some r → r.port < 2 → r.cmd < 64 →
    let x := s.svc
    let o := fun k => (r.objs.getD k 0#32).toNat
    let silicon := [BitVec.ofNat 32 ((s.rd 0).toNat % 2 ^ 24), fsigWord s false, fsigWord s true, s.rd R.SYS_SERIAL_LO, s.rd R.SYS_SERIAL_HI]
    let levels := BitVec.ofNat 32 (b2n (!(faultLow s)) + 2 * b2n (!(safeLow s)) + 4 * b2n (!(alertPin s)))
    let status := [s.rd (svcB + R.SVC_STATUS), levels, BitVec.ofNat 32 s.fc.queue.length, BitVec.ofNat 32 (scanCards s).length]
    let slot := fun a : Nat => 0x400000 * u.slot ≤ a ∧ a < 0x400000 * (u.slot + 1)
    (r.cmd = 1 → ∃ t, exec .getId s = .next (finish s t) ∧ (o 0 = 0 → r.objs ≠ [] → Claims.Answered s t r 0 silicon x) ∧
      (o 0 = 1 → Claims.Answered s t r 0 [s.rd R.SYS_LOT_LO, s.rd R.SYS_LOT_HI, s.rd R.SYS_DIE] x) ∧ (2 < o 0 ∨ r.objs = [] → Claims.Answered s t r 3 [] x)) ∧
    (r.cmd = 2 → ∃ t, exec .getStatus s = .next (finish s t) ∧ Claims.Answered s t r 0 status x) ∧
    (r.cmd = 3 → s.pwr.main = true → s.flag nvB F.NV_STATUS_READY = false → ∃ t, exec .readSlate s = .next (finish s t) ∧ t = s) ∧
    (r.cmd = 3 → s.pwr.main = false ∨ s.flag nvB F.NV_STATUS_READY = true → ∃ t, exec .readSlate s = .next (finish s t) ∧
      (r.objs.length = 2 → o 0 % 4 = 0 → 1 ≤ o 1 → o 1 ≤ 6 → o 0 + 4 * o 1 ≤ 0x10000 → s.pwr.main = true →
        Claims.Answered s t r 0 ((List.range (o 1)).map (fun k => s.memWord (slateB + o 0 + 4 * k))) x) ∧
      (r.objs.length = 2 → o 0 % 4 = 0 → 1 ≤ o 1 → o 1 ≤ 6 → o 0 + 4 * o 1 ≤ 0x10000 → s.pwr.main = false →
        Claims.Answered s t r 0 ((List.range (o 1)).map (fun k => (loadSlate s (newestCopy s.nv)).memWord (slateB + o 0 + 4 * k))) x) ∧
      (r.objs.length < 2 ∨ o 0 % 4 ≠ 0 ∨ o 1 < 1 ∨ 6 < o 1 ∨ 0x10000 < o 0 + 4 * o 1 → Claims.Answered s t r 3 [] x)) ∧
    (r.cmd = 4 → ∃ t, exec .readCard s = .next (finish s t) ∧
      (r.objs.length < 3 ∨ 255 < o 0 ∨ 63 < o 1 ∨ o 2 < 1 ∨ 6 < o 2 ∨ 64 < o 1 + o 2 → Claims.Answered s t r 3 [] x) ∧
      (r.objs.length = 3 → o 0 ≤ 255 → 1 ≤ o 2 → o 2 ≤ 6 → o 1 + o 2 ≤ 64 → o 1 ≤ 63 →
        (∀ d ∈ scanCards s, (∀ d' ∈ scanCards s, d' ≠ d → d'.2 ≠ d.2) → (scanCards s).countP (fun d' => decide (d.2 < d'.2)) = o 0 →
          Claims.Answered s t r 0 ((List.range (o 2)).map (fun k => s.memWord (recB + 0x1000 * s.nv.ring + 256 * d.1 + 4 * (o 1 + k)))) x) ∧
        ((scanCards s).length ≤ o 0 → Claims.Answered s t r 4 [] x))) ∧
    (s.pwr.main = false →
      (r.cmd = 0x10 → ∃ t, exec .updBegin s = .next (finish s t) ∧ Claims.Answered s t r 5 [] x ∧ t.flash = s.flash) ∧
      (r.cmd = 0x13 → ∃ t, exec .updAbort s = .next (finish s t) ∧ Claims.Answered s t r 5 [] x)) ∧
    (s.pwr.main = true → x.upd = none → x.erasing = false →
      (r.cmd = 0x10 → ∃ t, exec .updBegin s = .next (finish s t) ∧
        (r.objs.length < 2 ∨ 1 < o 0 → Claims.Answered s t r 3 [] x ∧ t.flash = s.flash) ∧
        (2 ≤ r.objs.length → o 0 ≤ 1 → o 1 = 0 ∨ 0x400000 < o 1 ∨ s.fld 0 F.SYS_IMG_STATUS_SRC_USED = o 0 + 1 → Claims.Answered s t r 7 [] x ∧ t.flash = s.flash) ∧
        (2 ≤ r.objs.length → o 0 = u.slot → u.slot ≤ 1 → 1 ≤ o 1 → o 1 ≤ 0x400000 → s.fld 0 F.SYS_IMG_STATUS_SRC_USED ≠ u.slot + 1 →
          Claims.Answered s t r 0 [] { x with upd := some ⟨u.slot, o 1, 0, none, r.port⟩, erasing := true } ∧ (∀ a, slot a → t.flashByte a = 0xFF#8) ∧
          ∀ a, ¬ slot a → t.flashByte a = s.flashByte a)) ∧
      (r.cmd = 0x11 → ∃ t, exec .updData s = .next (finish s t) ∧ Claims.Answered s t r 15 [] x) ∧
      (r.cmd = 0x12 → ∃ t, exec .updEnd s = .next (finish s t) ∧ Claims.Answered s t r 15 [] x) ∧
      (r.cmd = 0x13 → ∃ t, exec .updAbort s = .next (finish s t) ∧ Claims.Answered s t r 15 [] x)) ∧
    (s.pwr.main = true → x.upd = some u → x.erasing = false →
      (r.cmd = 0x11 → ∃ t, exec .updData s = .next (finish s t) ∧
        (2 ≤ r.objs.length → u.last = some (o 0) → Claims.Answered s t r 0 [] x ∧ t.flash = s.flash) ∧
        (2 ≤ r.objs.length → u.last ≠ some (o 0) → o 0 ≠ u.next → Claims.Answered s t r 15 [] x ∧ t.flash = s.flash) ∧
        (∀ w : Word, r.objs = [BitVec.ofNat 32 u.next, w] → u.next < 2 ^ 32 → u.last ≠ some u.next → u.next + 4 ≤ u.len →
          Claims.Answered s t r 0 [] { x with upd := some { u with next := u.next + 4, last := some u.next } } ∧
          (∀ i : Fin 4, t.flashByte (0x400000 * u.slot + u.next + i) = byteOf w i) ∧
          ∀ a, a < 0x400000 * u.slot + u.next ∨ 0x400000 * u.slot + u.next + 4 ≤ a → t.flashByte a = s.flashByte a)) ∧
      (r.cmd = 0x12 → r.objs = [] → ∃ t, exec .updEnd s = .next (finish s t) ∧ Claims.Answered s t r 3 [] x) ∧
      (r.cmd = 0x12 → r.objs ≠ [] → u.len ≤ u.next → crc32 (updBytes s u) = r.objs.getD 0 0#32 →
        ∃ t, exec .updEnd s = .next (finish s t) ∧ t.flash = s.flash ∧
          (imgCheck s (u.slot + 1) = 0 → Claims.Answered s t r 0 [] { x with upd := none }) ∧
          (imgCheck s (u.slot + 1) ≠ 0 → Claims.Answered s t r 9 [BitVec.ofNat 32 (imgCheck s (u.slot + 1))] { x with upd := none })) ∧
      (r.cmd = 0x12 → r.objs ≠ [] → u.next < u.len ∨ crc32 (updBytes s u) ≠ r.objs.getD 0 0#32 →
        ∃ t, exec .updEnd s = .next (finish s t) ∧ t.mem = s.mem ∧ t.flash = s.flash ∧ t.svc.upd = none ∧ t.svc.req = none ∧ t.fld svcB F.SVC_LAST_STATUS ≠ 0) ∧
      (r.cmd = 0x13 → ∃ t, exec .updAbort s = .next (finish s t) ∧ Claims.Answered s t r 0 [] { x with upd := none } ∧ t.flash = s.flash)) ∧
    (s.pwr.main = true → x.erasing = true → r.cmd = 0x11 →
      ∃ t, exec .updData s = .next (finish s t) ∧ Claims.Answered s t r 6 [] x) ∧
    (∃ t, exec .updEraseEnd s = .next (finish s t) ∧ SameRegs s t ∧ t.svc = { x with erasing := false })

/-- The registers and the memory stand in canonical form, and every context of every engine has a PC of the instruction space and a
stack limit with its low three bits 0 (R305, R306). -/
def Claims.Sound (s : State) : Prop :=
  Canonical s ∧ ∀ e c, (s.ctx e c).pc < 4096 ∧ (s.ctx e c).sl.toNat % 8 = 0

/-- The step: the command at the front of the queue runs on the state with the queue's rest, whatever waits behind it; with no
command waiting (the model's choice, log entries 2 and 123) one nanosecond passes once the time PLL counts, in which the engine whose turn
it is, where it runs, issues the instruction at its PC (R305, R309), a reserved encoding as such (R313); else nothing happens. -/
def Obligations.StepRunsFront : Prop :=
  (∀ (c : Instr) (l : List Instr) (s : State), step { s with pending := c :: l } = exec c { s with pending := l }) ∧
  (∀ s : State, s.pending = [] →
    let u := { s with lineNs := s.lineNs + (if s.time.counting then 1 else 0) }
    let e : Fin 96 := ⟨u.lineNs % 96, Nat.mod_lt _ (by decide)⟩
    (s.time.counting = false ∨ engRuns s e = none → ∃ t, step s = .next t ∧ t = u) ∧
    (∀ c, s.time.counting = true → engRuns s e = some c →
      let w := s.memWord (0x1000000 + 0x8000 * e.val + 4 * ((s.ctx e c).pc % 4096))
      (∀ i, achalDecode e w = some i → step s = exec i u) ∧ (achalDecode e w = none → step s = exec (.illegal e w) u)))

/-- Every command answers a next state from every state: no command stops the block, and none is refused by the model. -/
def Obligations.EveryCommandAnswers : Prop := ∀ (c : Instr) (s : State), ∃ t, exec c s = .next t

/-- A command leaves the queue of waiting commands as it was: only the step takes commands from it. -/
def Obligations.QueueKept : Prop := ∀ (c : Instr) (s t : State), exec c s = .next t → t.pending = s.pending

/-- R12, R25, R307: the block after reset. Every register reads its reset value: a lane of the stage link and of the cascade is enabled,
a lane may retrain, all three time references are enabled; an unused offset reads zero; shared memory reads zero and the record array
reads erased (the model's choice, log entry 3); every general and special register of every engine is 0; no command, report,
pulse or admission request waits. -/
def Obligations.ResetState : Prop :=
  let s := State.reset
  (∀ a, s.rd a = regReset a) ∧ s.fld 0 F.SYS_ID_PART = 0x7192 ∧ s.fld 0 F.SYS_ID_REV = 2 ∧
  (∀ l : Fin 12, s.fld (slB l) F.SL_CTRL_EN = 1 ∧ s.fld (slB l) F.SL_CTRL_AUTO_RETRAIN = 1 ∧ s.fld (slB l) F.SL_STATUS_STATE = 0) ∧
  (∀ l : Fin 2, s.fld (casB + 4 * l) F.CAS_LANE01_EN = 1 ∧ s.fld (casB + 4 * l) F.CAS_LANE01_MODE = 1 ∧
    s.fld (casB + 4 * l) F.CAS_LANE23_EN = 1 ∧ s.fld (casB + 4 * l) F.CAS_LANE23_MODE = 1) ∧
  (s.fld timeB F.TIME_REF_CFG_XTAL_EN = 1 ∧ s.fld timeB F.TIME_REF_CFG_REFIN_EN = 1 ∧ s.fld timeB F.TIME_REF_CFG_CAS_EN = 1) ∧
  (∀ a, regRow a = none → a < 0x10400 ∨ 0x10800 ≤ a → s.rd a = 0#32) ∧
  (∀ a, s.byte a = if 0x3100000 ≤ a ∧ a < 0x3120000 then 0xFF#8 else 0#8) ∧
  (∀ e c r, (s.ctx e c).reg r = 0#32 ∧ (s.ctx e c).pl = 0#32 ∧ (s.ctx e c).ph = 0#32 ∧ (s.ctx e c).fps = 0#32 ∧ (s.ctx e c).sl = 0#32) ∧
  s.pending = [] ∧ s.reports = [] ∧ s.pulses = [] ∧ s.adm.queue = [] ∧ s.adm.asked = []

/-- R312 to R322: for every well-formed instruction of an engine, decoding the word that encodes it gives it back at every value its
fields admit. -/
def Obligations.AchalDecodeEncode : Prop :=
  ∀ (i : Instr) (e : Fin 96) (w : Word), i.wellFormed = true → achalEncode i = some (e, w) → achalDecode e w = some i

/-- R312 to R314: a word that decodes has no bit that its instruction does not give: the instruction is well formed and encodes to that
very word, so that no two words spell one instruction and no reserved or unused field is ignored. -/
def Obligations.AchalEncodeDecode : Prop :=
  ∀ (i : Instr) (e : Fin 96) (w : Word), achalDecode e w = some i → i.wellFormed = true ∧ achalEncode i = some (e, w)

/-- R312, R314, R316 to R322: the words of some instructions, field by field from the most significant, decode to them; the word of all
zeros and a word of a reserved opcode decode to none. -/
def Obligations.AchalWords : Prop :=
  ∀ e : Fin 96,
    achalDecode e (0b000001#6 ++ 3#5 ++ 4#5 ++ 5#5 ++ 1#11) = some (.sub e 3#5 4#5 5#5) ∧
    achalDecode e (0b000010#6 ++ 3#5 ++ 4#5 ++ 0xFFFE#16) = some (.addi e 3#5 4#5 0xFFFE#16) ∧
    achalDecode e (0b001000#6 ++ 3#5 ++ 4#5 ++ 8#5 ++ 7#5 ++ 1#6) = some (.bfxs e 3#5 4#5 8#5 7#5) ∧
    achalDecode e (0b001100#6 ++ 0#5 ++ 4#5 ++ 5#5 ++ 2#11) = some (.mac e 4#5 5#5) ∧
    achalDecode e (0b001110#6 ++ 3#5 ++ 4#5 ++ 0#5 ++ 9#11) = some (.f2i e 3#5 4#5) ∧
    achalDecode e (0b010101#6 ++ 3#5 ++ 4#5 ++ 8#16) = some (.stw e 3#5 4#5 8#16) ∧
    achalDecode e (0b011101#6 ++ 4#5 ++ 3#5 ++ 0#4 ++ 0x400#12) = some (.btst e 4#5 3#5 0x400#12) ∧
    achalDecode e (0b100001#6 ++ 4#5 ++ 1#3 ++ 31#5 ++ 0x1FFF#13) = some (.bri e 4#5 1#3 31#5 0x1FFF#13) ∧
    achalDecode e (0b101010#6 ++ 3#14 ++ 0x123#12) = some (.call e 3#14 0x123#12) ∧
    achalDecode e (0b110000#6 ++ 8#5 ++ 3#5 ++ 9#16) = some (.mfs e 3#5 9#5) ∧
    achalDecode e 0#32 = none ∧ achalDecode e (0b001111#6 ++ 0#26) = none

/-- R305, R306: every step of every command keeps the machine sound: whatever stands in front of the queue, the registers and memory
after it are in canonical form, and no context's PC leaves the instruction space nor its stack limit its alignment. -/
def Obligations.StepKeepsSound : Prop := ∀ s t : State, Claims.Sound s → step s = .next t → Claims.Sound t

/-- R305, R306: the machine is sound after reset. -/
def Obligations.ResetSound : Prop := Claims.Sound State.reset
end

