-- ==== Sys2Proof/Laws/Bits.lean ====
section
/-! SUPPORT. The laws of bit fields: what a field reads after it or another field of the word has been written. -/
namespace Sys2Proof.Machine
-- One proof after another: side by side they take more memory than a check may have.
set_option Elab.async false

theorem bits_testBit (w hi lo k : Nat) : (bits w hi lo).testBit k = (decide (k ≤ hi - lo) && w.testBit (lo + k)) := by
  simp only [bits, Nat.testBit_mod_two_pow, Nat.testBit_shiftRight]
  congr 1
  simp only [decide_eq_decide]
  omega

theorem setBits_testBit (w hi lo v k : Nat) (h : lo ≤ hi) :
    (setBits w hi lo v).testBit k = if lo ≤ k ∧ k ≤ hi then v.testBit (k - lo) else w.testBit k := by
  have e : setBits w hi lo v =
      ((w / 2 ^ (hi + 1)) * 2 ^ (hi + 1 - lo) + v % 2 ^ (hi - lo + 1)) * 2 ^ lo + w % 2 ^ lo := by
    unfold setBits
    have : 2 ^ (hi + 1) = 2 ^ (hi + 1 - lo) * 2 ^ lo := by rw [← pow_add]; congr 1; omega
    rw [this]; ring
  rw [e, mul_comm, Nat.testBit_two_pow_mul_add _ (Nat.mod_lt _ (by positivity))]
  by_cases h1 : k < lo
  · rw [if_pos h1, if_neg (by omega), Nat.testBit_mod_two_pow]
    simp [h1]
  · rw [if_neg h1]
    have hv : v % 2 ^ (hi - lo + 1) < 2 ^ (hi + 1 - lo) := by
      have : hi - lo + 1 = hi + 1 - lo := by omega
      rw [this]; exact Nat.mod_lt _ (by positivity)
    rw [mul_comm, Nat.testBit_two_pow_mul_add _ hv]
    by_cases h2 : k ≤ hi
    · rw [if_pos (by omega), if_pos (by omega), Nat.testBit_mod_two_pow]
      simp; omega
    · rw [if_neg (by omega), if_neg (by omega), Nat.testBit_div_two_pow]
      congr 1
      omega

theorem setBits_lt (w hi lo v : Nat) (h : lo ≤ hi) (hh : hi < 32) (hw : w < 2 ^ 32) : setBits w hi lo v < 2 ^ 32 := by
  apply Nat.lt_pow_two_of_testBit
  intro k hk
  rw [setBits_testBit w hi lo v k h, if_neg (by omega)]
  exact Nat.testBit_lt_two_pow (lt_of_lt_of_le hw (Nat.pow_le_pow_right (by norm_num) hk))

theorem bits_setBits_same (w hi lo v : Nat) (h : lo ≤ hi) : bits (setBits w hi lo v) hi lo = v % 2 ^ (hi - lo + 1) := by
  apply Nat.eq_of_testBit_eq
  intro k
  rw [bits_testBit, setBits_testBit _ _ _ _ _ h, Nat.testBit_mod_two_pow]
  by_cases hk : k ≤ hi - lo
  · rw [if_pos (by omega)]
    simp [hk]
  · simp [hk]

theorem bits_setBits_other (w hi lo v hi2 lo2 : Nat) (h : lo ≤ hi) (h2 : lo2 ≤ hi2) (hd : hi < lo2 ∨ hi2 < lo) :
    bits (setBits w hi lo v) hi2 lo2 = bits w hi2 lo2 := by
  apply Nat.eq_of_testBit_eq
  intro k
  rw [bits_testBit, bits_testBit, setBits_testBit _ _ _ _ _ h]
  by_cases hk : k ≤ hi2 - lo2
  · rw [if_neg (by omega)]
  · simp [hk]

theorem fset_toNat (w : Word) (F : Fld) (v : Nat) (h : F.lo ≤ F.hi) (hh : F.hi < 32) :
    (fset w F v).toNat = setBits w.toNat F.hi F.lo v := by
  unfold fset
  rw [BitVec.toNat_ofNat, Nat.mod_eq_of_lt (setBits_lt _ _ _ _ h hh w.isLt)]

/-- A field reads what was written into it, as far as it is wide. -/
theorem fget_fset_same (w : Word) (F : Fld) (v : Nat) (h : F.lo ≤ F.hi) (hh : F.hi < 32) :
    fget (fset w F v) F = v % 2 ^ (F.hi - F.lo + 1) := by
  unfold fget
  rw [fset_toNat w F v h hh, bits_setBits_same _ _ _ _ h]

/-- A field keeps its value when a disjoint field of its word is written. -/
theorem fget_fset_other (w : Word) (F G : Fld) (v : Nat) (h : F.lo ≤ F.hi) (hh : F.hi < 32) (hg : G.lo ≤ G.hi)
    (hd : F.hi < G.lo ∨ G.hi < F.lo) : fget (fset w F v) G = fget w G := by
  unfold fget
  rw [fset_toNat w F v h hh, bits_setBits_other _ _ _ _ _ _ h hg hd]

end Sys2Proof.Machine
end

