-- ==== Sys2Proof/Laws/Sparse.lean ====
section
/-! SUPPORT. The laws of the sparse tables: a read after a write, and the canonical form that every write keeps. -/
namespace Sys2Proof.Machine
-- One proof after another: side by side they take more memory than a check may have.
set_option Elab.async false

variable {α : Type}

theorem sparseGet_ins_same (d : Nat → α) (l : List (Nat × α)) (k : Nat) (v : α) :
    sparseGet d (sparseIns l k v) k = v := by
  induction l with
  | nil => simp [sparseIns, sparseGet]
  | cons e t ih =>
    obtain ⟨a, w⟩ := e
    simp only [sparseIns]
    split
    · simp [sparseGet]
    · split
      · simp [sparseGet]
      · rename_i h1 h2
        simp [sparseGet, h2, ih]

theorem sparseGet_ins_ne (d : Nat → α) (l : List (Nat × α)) (k j : Nat) (v : α) (h : j ≠ k) :
    sparseGet d (sparseIns l k v) j = sparseGet d l j := by
  induction l with
  | nil => simp [sparseIns, sparseGet, Ne.symm h]
  | cons e t ih =>
    obtain ⟨a, w⟩ := e
    simp only [sparseIns]
    split
    · simp [sparseGet, Ne.symm h]
    · split
      · rename_i h1 h2
        subst h2
        simp [sparseGet, Ne.symm h]
      · simp only [sparseGet, ih]

theorem sparseGet_del_same (d : Nat → α) (l : List (Nat × α)) (k : Nat) : sparseGet d (sparseDel l k) k = d k := by
  induction l with
  | nil => rfl
  | cons e t ih =>
    obtain ⟨a, w⟩ := e
    simp only [sparseDel]
    split
    · exact ih
    · rename_i h
      simp [sparseGet, h, ih]

theorem sparseGet_del_ne (d : Nat → α) (l : List (Nat × α)) (k j : Nat) (h : j ≠ k) :
    sparseGet d (sparseDel l k) j = sparseGet d l j := by
  induction l with
  | nil => rfl
  | cons e t ih =>
    obtain ⟨a, w⟩ := e
    simp only [sparseDel]
    split
    · rename_i ha
      subst ha
      simp [sparseGet, Ne.symm h, ih]
    · simp [sparseGet, ih]

@[simp] theorem sparseGet_set_same [DecidableEq α] (d : Nat → α) (l : List (Nat × α)) (k : Nat) (v : α) :
    sparseGet d (sparseSet d l k v) k = v := by
  unfold sparseSet
  split
  · rename_i h
    rw [sparseGet_del_same, h]
  · exact sparseGet_ins_same d l k v

theorem sparseGet_set_ne [DecidableEq α] (d : Nat → α) (l : List (Nat × α)) (k j : Nat) (v : α) (h : j ≠ k) :
    sparseGet d (sparseSet d l k v) j = sparseGet d l j := by
  unfold sparseSet
  split
  · exact sparseGet_del_ne d l k j h
  · exact sparseGet_ins_ne d l k j v h

theorem sparseGet_set [DecidableEq α] (d : Nat → α) (l : List (Nat × α)) (k j : Nat) (v : α) :
    sparseGet d (sparseSet d l k v) j = if j = k then v else sparseGet d l j := by
  split
  · rename_i h
    subst h
    exact sparseGet_set_same d l j v
  · rename_i h
    exact sparseGet_set_ne d l k j v h

/-! The canonical form. -/

theorem sparseRising_none (l : List (Nat × α)) (b : Nat) (h : sparseRising (some b) l = true) : sparseRising none l = true := by
  cases l with
  | nil => rfl
  | cons e t => exact (Bool.and_eq_true_iff.mp h).2

theorem sparseRising_mono (l : List (Nat × α)) (b c : Nat) (hb : b ≤ c) (h : sparseRising (some c) l = true) :
    sparseRising (some b) l = true := by
  cases l with
  | nil => rfl
  | cons e t =>
    obtain ⟨a, w⟩ := e
    simp only [sparseRising, Bool.and_eq_true, decide_eq_true_eq] at h ⊢
    exact ⟨by omega, h.2⟩

theorem sparseRising_ins (l : List (Nat × α)) (b : Option Nat) (k : Nat) (v : α)
    (hk : ∀ x, b = some x → x < k) (h : sparseRising b l = true) : sparseRising b (sparseIns l k v) = true := by
  induction l generalizing b with
  | nil =>
    cases b with
    | none => rfl
    | some x => simp [sparseIns, sparseRising, hk x rfl]
  | cons e t ih =>
    obtain ⟨a, w⟩ := e
    have ht : sparseRising (some a) t = true := by
      cases b with
      | none => exact h
      | some x => exact (Bool.and_eq_true_iff.mp h).2
    simp only [sparseIns]
    split
    · rename_i hlt
      cases b with
      | none => simp [sparseRising, hlt, ht]
      | some x => simp [sparseRising, hk x rfl, hlt, ht]
    · split
      · rename_i h1 h2
        subst h2
        cases b with
        | none => simpa [sparseRising] using ht
        | some x => simpa [sparseRising, hk x rfl] using ht
      · rename_i h1 h2
        have := ih (some a) (fun x hx => by cases hx; omega) ht
        cases b with
        | none => simpa [sparseRising] using this
        | some x =>
          have hx : x < a := by simpa using (Bool.and_eq_true_iff.mp h).1
          simpa [sparseRising, hx] using this

theorem sparseRising_del (l : List (Nat × α)) (b : Option Nat) (k : Nat) (h : sparseRising b l = true) :
    sparseRising b (sparseDel l k) = true := by
  induction l generalizing b with
  | nil => cases b <;> rfl
  | cons e t ih =>
    obtain ⟨a, w⟩ := e
    have ht : sparseRising (some a) t = true := by
      cases b with
      | none => exact h
      | some x => exact (Bool.and_eq_true_iff.mp h).2
    simp only [sparseDel]
    split
    · apply ih
      cases b with
      | none => exact sparseRising_none t a ht
      | some x =>
        have hx : x < a := by simpa using (Bool.and_eq_true_iff.mp h).1
        exact sparseRising_mono t x a hx.le ht
    · have := ih (some a) ht
      cases b with
      | none => simpa [sparseRising] using this
      | some x =>
        have hx : x < a := by simpa using (Bool.and_eq_true_iff.mp h).1
        simpa [sparseRising, hx] using this

theorem sparseIns_mem (l : List (Nat × α)) (k : Nat) (v : α) (e : Nat × α) (h : e ∈ sparseIns l k v) : e = (k, v) ∨ e ∈ l := by
  induction l with
  | nil => simpa [sparseIns] using h
  | cons x t ih =>
    obtain ⟨a, w⟩ := x
    simp only [sparseIns] at h
    split at h
    · simpa using h
    · split at h
      · rcases List.mem_cons.mp h with h | h
        · exact .inl h
        · exact .inr (List.mem_cons_of_mem _ h)
      · rcases List.mem_cons.mp h with h | h
        · exact .inr (h ▸ List.mem_cons_self ..)
        · rcases ih h with h | h
          · exact .inl h
          · exact .inr (List.mem_cons_of_mem _ h)

theorem sparseDel_mem (l : List (Nat × α)) (k : Nat) (e : Nat × α) (h : e ∈ sparseDel l k) : e ∈ l := by
  induction l with
  | nil => exact h
  | cons x t ih =>
    obtain ⟨a, w⟩ := x
    simp only [sparseDel] at h
    split at h
    · exact List.mem_cons_of_mem _ (ih h)
    · rcases List.mem_cons.mp h with h | h
      · exact h ▸ List.mem_cons_self ..
      · exact List.mem_cons_of_mem _ (ih h)

/-- Every write keeps the canonical form. -/
theorem sparseSet_wf [DecidableEq α] (d : Nat → α) (l : List (Nat × α)) (k : Nat) (v : α) (h : sparseWf d l = true) :
    sparseWf d (sparseSet d l k v) = true := by
  simp only [sparseWf, Bool.and_eq_true, List.all_eq_true, decide_eq_true_eq] at h ⊢
  unfold sparseSet
  split
  · exact ⟨sparseRising_del l none k h.1, fun e he => h.2 e (sparseDel_mem l k e he)⟩
  · rename_i hv
    refine ⟨sparseRising_ins l none k v (fun x hx => by cases hx) h.1, fun e he => ?_⟩
    rcases sparseIns_mem l k v e he with rfl | he
    · exact hv
    · exact h.2 e he

end Sys2Proof.Machine
end

