-- ==== Sys2Proof/Laws/State.lean ====
section
/-! SUPPORT. What each update of State leaves as it was: one lemma per field and per named read for every update. -/
namespace Sys2Proof.Machine
-- One proof after another: side by side they take more memory than a check may have.
set_option Elab.async false

/-! State.wr. -/

@[simp] theorem State.wr_mem (s : State) (a : Nat) (v : Word) : (s.wr a v).mem = s.mem := rfl
@[simp] theorem State.wr_lineNs (s : State) (a : Nat) (v : Word) : (s.wr a v).lineNs = s.lineNs := rfl
@[simp] theorem State.wr_timeOfs (s : State) (a : Nat) (v : Word) : (s.wr a v).timeOfs = s.timeOfs := rfl
@[simp] theorem State.wr_snaps (s : State) (a : Nat) (v : Word) : (s.wr a v).snaps = s.snaps := rfl
@[simp] theorem State.wr_reports (s : State) (a : Nat) (v : Word) : (s.wr a v).reports = s.reports := rfl
@[simp] theorem State.wr_fc (s : State) (a : Nat) (v : Word) : (s.wr a v).fc = s.fc := rfl
@[simp] theorem State.wr_pulses (s : State) (a : Nat) (v : Word) : (s.wr a v).pulses = s.pulses := rfl
@[simp] theorem State.wr_tinFlags (s : State) (a : Nat) (v : Word) : (s.wr a v).tinFlags = s.tinFlags := rfl
@[simp] theorem State.wr_tio (s : State) (a : Nat) (v : Word) : (s.wr a v).tio = s.tio := rfl
@[simp] theorem State.wr_dmaArr (s : State) (a : Nat) (v : Word) : (s.wr a v).dmaArr = s.dmaArr := rfl
@[simp] theorem State.wr_tmrs (s : State) (a : Nat) (v : Word) : (s.wr a v).tmrs = s.tmrs := rfl
@[simp] theorem State.wr_freeCount (s : State) (a : Nat) (v : Word) : (s.wr a v).freeCount = s.freeCount := rfl
@[simp] theorem State.wr_lanes (s : State) (a : Nat) (v : Word) : (s.wr a v).lanes = s.lanes := rfl
@[simp] theorem State.wr_phases (s : State) (a : Nat) (v : Word) : (s.wr a v).phases = s.phases := rfl
@[simp] theorem State.wr_felts (s : State) (a : Nat) (v : Word) : (s.wr a v).felts = s.felts := rfl
@[simp] theorem State.wr_lists (s : State) (a : Nat) (v : Word) : (s.wr a v).lists = s.lists := rfl
@[simp] theorem State.wr_sync (s : State) (a : Nat) (v : Word) : (s.wr a v).sync = s.sync := rfl
@[simp] theorem State.wr_time (s : State) (a : Nat) (v : Word) : (s.wr a v).time = s.time := rfl
@[simp] theorem State.wr_monTrk (s : State) (a : Nat) (v : Word) : (s.wr a v).monTrk = s.monTrk := rfl
@[simp] theorem State.wr_casRx (s : State) (a : Nat) (v : Word) : (s.wr a v).casRx = s.casRx := rfl
@[simp] theorem State.wr_adm (s : State) (a : Nat) (v : Word) : (s.wr a v).adm = s.adm := rfl
@[simp] theorem State.wr_casOut (s : State) (a : Nat) (v : Word) : (s.wr a v).casOut = s.casOut := rfl
@[simp] theorem State.wr_ilkHold (s : State) (a : Nat) (v : Word) : (s.wr a v).ilkHold = s.ilkHold := rfl
@[simp] theorem State.wr_forceOff (s : State) (a : Nat) (v : Word) : (s.wr a v).forceOff = s.forceOff := rfl
@[simp] theorem State.wr_nv (s : State) (a : Nat) (v : Word) : (s.wr a v).nv = s.nv := rfl
@[simp] theorem State.wr_houses (s : State) (a : Nat) (v : Word) : (s.wr a v).houses = s.houses := rfl
@[simp] theorem State.wr_bus (s : State) (a : Nat) (v : Word) : (s.wr a v).bus = s.bus := rfl
@[simp] theorem State.wr_ilkHouse (s : State) (a : Nat) (v : Word) : (s.wr a v).ilkHouse = s.ilkHouse := rfl
@[simp] theorem State.wr_ports (s : State) (a : Nat) (v : Word) : (s.wr a v).ports = s.ports := rfl
@[simp] theorem State.wr_portFelt (s : State) (a : Nat) (v : Word) : (s.wr a v).portFelt = s.portFelt := rfl
@[simp] theorem State.wr_gauges (s : State) (a : Nat) (v : Word) : (s.wr a v).gauges = s.gauges := rfl
@[simp] theorem State.wr_gauRec (s : State) (a : Nat) (v : Word) : (s.wr a v).gauRec = s.gauRec := rfl
@[simp] theorem State.wr_engines (s : State) (a : Nat) (v : Word) : (s.wr a v).engines = s.engines := rfl
@[simp] theorem State.wr_dmas (s : State) (a : Nat) (v : Word) : (s.wr a v).dmas = s.dmas := rfl
@[simp] theorem State.wr_caps (s : State) (a : Nat) (v : Word) : (s.wr a v).caps = s.caps := rfl
@[simp] theorem State.wr_dmaDone (s : State) (a : Nat) (v : Word) : (s.wr a v).dmaDone = s.dmaDone := rfl
@[simp] theorem State.wr_dmaLast (s : State) (a : Nat) (v : Word) : (s.wr a v).dmaLast = s.dmaLast := rfl
@[simp] theorem State.wr_expQ (s : State) (a : Nat) (v : Word) : (s.wr a v).expQ = s.expQ := rfl
@[simp] theorem State.wr_sup (s : State) (a : Nat) (v : Word) : (s.wr a v).sup = s.sup := rfl
@[simp] theorem State.wr_img (s : State) (a : Nat) (v : Word) : (s.wr a v).img = s.img := rfl
@[simp] theorem State.wr_flash (s : State) (a : Nat) (v : Word) : (s.wr a v).flash = s.flash := rfl
@[simp] theorem State.wr_pwr (s : State) (a : Nat) (v : Word) : (s.wr a v).pwr = s.pwr := rfl
@[simp] theorem State.wr_host (s : State) (a : Nat) (v : Word) : (s.wr a v).host = s.host := rfl
@[simp] theorem State.wr_casLanes (s : State) (a : Nat) (v : Word) : (s.wr a v).casLanes = s.casLanes := rfl
@[simp] theorem State.wr_cas (s : State) (a : Nat) (v : Word) : (s.wr a v).cas = s.cas := rfl
@[simp] theorem State.wr_svc (s : State) (a : Nat) (v : Word) : (s.wr a v).svc = s.svc := rfl
@[simp] theorem State.wr_pending (s : State) (a : Nat) (v : Word) : (s.wr a v).pending = s.pending := rfl
@[simp] theorem State.wr_byte (s : State) (a : Nat) (v : Word) (k1 : Nat) : (s.wr a v).byte k1 = s.byte k1 := rfl
@[simp] theorem State.wr_memWord (s : State) (a : Nat) (v : Word) (k1 : Nat) : (s.wr a v).memWord k1 = s.memWord k1 := rfl
@[simp] theorem State.wr_timer (s : State) (a : Nat) (v : Word) (k1 : Nat) : (s.wr a v).timer k1 = s.timer k1 := rfl
@[simp] theorem State.wr_lane (s : State) (a : Nat) (v : Word) (k1 : Nat) : (s.wr a v).lane k1 = s.lane k1 := rfl
@[simp] theorem State.wr_phase (s : State) (a : Nat) (v : Word) (k1 : Nat) : (s.wr a v).phase k1 = s.phase k1 := rfl
@[simp] theorem State.wr_felt (s : State) (a : Nat) (v : Word) (k1 : Nat) : (s.wr a v).felt k1 = s.felt k1 := rfl
@[simp] theorem State.wr_wf (s : State) (a : Nat) (v : Word) (k1 : Nat) : (s.wr a v).wf k1 = s.wf k1 := rfl
@[simp] theorem State.wr_house (s : State) (a : Nat) (v : Word) (k1 : Nat) : (s.wr a v).house k1 = s.house k1 := rfl
@[simp] theorem State.wr_port (s : State) (a : Nat) (v : Word) (k1 : Nat) : (s.wr a v).port k1 = s.port k1 := rfl
@[simp] theorem State.wr_gauge (s : State) (a : Nat) (v : Word) (k1 : Nat) : (s.wr a v).gauge k1 = s.gauge k1 := rfl
@[simp] theorem State.wr_engine (s : State) (a : Nat) (v : Word) (k1 : Nat) : (s.wr a v).engine k1 = s.engine k1 := rfl
@[simp] theorem State.wr_dma (s : State) (a : Nat) (v : Word) (k1 : Nat) : (s.wr a v).dma k1 = s.dma k1 := rfl
@[simp] theorem State.wr_cap (s : State) (a : Nat) (v : Word) (k1 : Nat) : (s.wr a v).cap k1 = s.cap k1 := rfl
@[simp] theorem State.wr_casLane (s : State) (a : Nat) (v : Word) (k1 : Nat) : (s.wr a v).casLane k1 = s.casLane k1 := rfl

/-! State.setFld. -/

@[simp] theorem State.setFld_mem (s : State) (b : Nat) (F : Fld) (v : Nat) : (s.setFld b F v).mem = s.mem := rfl
@[simp] theorem State.setFld_lineNs (s : State) (b : Nat) (F : Fld) (v : Nat) : (s.setFld b F v).lineNs = s.lineNs := rfl
@[simp] theorem State.setFld_timeOfs (s : State) (b : Nat) (F : Fld) (v : Nat) : (s.setFld b F v).timeOfs = s.timeOfs := rfl
@[simp] theorem State.setFld_snaps (s : State) (b : Nat) (F : Fld) (v : Nat) : (s.setFld b F v).snaps = s.snaps := rfl
@[simp] theorem State.setFld_reports (s : State) (b : Nat) (F : Fld) (v : Nat) : (s.setFld b F v).reports = s.reports := rfl
@[simp] theorem State.setFld_fc (s : State) (b : Nat) (F : Fld) (v : Nat) : (s.setFld b F v).fc = s.fc := rfl
@[simp] theorem State.setFld_pulses (s : State) (b : Nat) (F : Fld) (v : Nat) : (s.setFld b F v).pulses = s.pulses := rfl
@[simp] theorem State.setFld_tinFlags (s : State) (b : Nat) (F : Fld) (v : Nat) : (s.setFld b F v).tinFlags = s.tinFlags := rfl
@[simp] theorem State.setFld_tio (s : State) (b : Nat) (F : Fld) (v : Nat) : (s.setFld b F v).tio = s.tio := rfl
@[simp] theorem State.setFld_dmaArr (s : State) (b : Nat) (F : Fld) (v : Nat) : (s.setFld b F v).dmaArr = s.dmaArr := rfl
@[simp] theorem State.setFld_tmrs (s : State) (b : Nat) (F : Fld) (v : Nat) : (s.setFld b F v).tmrs = s.tmrs := rfl
@[simp] theorem State.setFld_freeCount (s : State) (b : Nat) (F : Fld) (v : Nat) : (s.setFld b F v).freeCount = s.freeCount := rfl
@[simp] theorem State.setFld_lanes (s : State) (b : Nat) (F : Fld) (v : Nat) : (s.setFld b F v).lanes = s.lanes := rfl
@[simp] theorem State.setFld_phases (s : State) (b : Nat) (F : Fld) (v : Nat) : (s.setFld b F v).phases = s.phases := rfl
@[simp] theorem State.setFld_felts (s : State) (b : Nat) (F : Fld) (v : Nat) : (s.setFld b F v).felts = s.felts := rfl
@[simp] theorem State.setFld_lists (s : State) (b : Nat) (F : Fld) (v : Nat) : (s.setFld b F v).lists = s.lists := rfl
@[simp] theorem State.setFld_sync (s : State) (b : Nat) (F : Fld) (v : Nat) : (s.setFld b F v).sync = s.sync := rfl
@[simp] theorem State.setFld_time (s : State) (b : Nat) (F : Fld) (v : Nat) : (s.setFld b F v).time = s.time := rfl
@[simp] theorem State.setFld_monTrk (s : State) (b : Nat) (F : Fld) (v : Nat) : (s.setFld b F v).monTrk = s.monTrk := rfl
@[simp] theorem State.setFld_casRx (s : State) (b : Nat) (F : Fld) (v : Nat) : (s.setFld b F v).casRx = s.casRx := rfl
@[simp] theorem State.setFld_adm (s : State) (b : Nat) (F : Fld) (v : Nat) : (s.setFld b F v).adm = s.adm := rfl
@[simp] theorem State.setFld_casOut (s : State) (b : Nat) (F : Fld) (v : Nat) : (s.setFld b F v).casOut = s.casOut := rfl
@[simp] theorem State.setFld_ilkHold (s : State) (b : Nat) (F : Fld) (v : Nat) : (s.setFld b F v).ilkHold = s.ilkHold := rfl
@[simp] theorem State.setFld_forceOff (s : State) (b : Nat) (F : Fld) (v : Nat) : (s.setFld b F v).forceOff = s.forceOff := rfl
@[simp] theorem State.setFld_nv (s : State) (b : Nat) (F : Fld) (v : Nat) : (s.setFld b F v).nv = s.nv := rfl
@[simp] theorem State.setFld_houses (s : State) (b : Nat) (F : Fld) (v : Nat) : (s.setFld b F v).houses = s.houses := rfl
@[simp] theorem State.setFld_bus (s : State) (b : Nat) (F : Fld) (v : Nat) : (s.setFld b F v).bus = s.bus := rfl
@[simp] theorem State.setFld_ilkHouse (s : State) (b : Nat) (F : Fld) (v : Nat) : (s.setFld b F v).ilkHouse = s.ilkHouse := rfl
@[simp] theorem State.setFld_ports (s : State) (b : Nat) (F : Fld) (v : Nat) : (s.setFld b F v).ports = s.ports := rfl
@[simp] theorem State.setFld_portFelt (s : State) (b : Nat) (F : Fld) (v : Nat) : (s.setFld b F v).portFelt = s.portFelt := rfl
@[simp] theorem State.setFld_gauges (s : State) (b : Nat) (F : Fld) (v : Nat) : (s.setFld b F v).gauges = s.gauges := rfl
@[simp] theorem State.setFld_gauRec (s : State) (b : Nat) (F : Fld) (v : Nat) : (s.setFld b F v).gauRec = s.gauRec := rfl
@[simp] theorem State.setFld_engines (s : State) (b : Nat) (F : Fld) (v : Nat) : (s.setFld b F v).engines = s.engines := rfl
@[simp] theorem State.setFld_dmas (s : State) (b : Nat) (F : Fld) (v : Nat) : (s.setFld b F v).dmas = s.dmas := rfl
@[simp] theorem State.setFld_caps (s : State) (b : Nat) (F : Fld) (v : Nat) : (s.setFld b F v).caps = s.caps := rfl
@[simp] theorem State.setFld_dmaDone (s : State) (b : Nat) (F : Fld) (v : Nat) : (s.setFld b F v).dmaDone = s.dmaDone := rfl
@[simp] theorem State.setFld_dmaLast (s : State) (b : Nat) (F : Fld) (v : Nat) : (s.setFld b F v).dmaLast = s.dmaLast := rfl
@[simp] theorem State.setFld_expQ (s : State) (b : Nat) (F : Fld) (v : Nat) : (s.setFld b F v).expQ = s.expQ := rfl
@[simp] theorem State.setFld_sup (s : State) (b : Nat) (F : Fld) (v : Nat) : (s.setFld b F v).sup = s.sup := rfl
@[simp] theorem State.setFld_img (s : State) (b : Nat) (F : Fld) (v : Nat) : (s.setFld b F v).img = s.img := rfl
@[simp] theorem State.setFld_flash (s : State) (b : Nat) (F : Fld) (v : Nat) : (s.setFld b F v).flash = s.flash := rfl
@[simp] theorem State.setFld_pwr (s : State) (b : Nat) (F : Fld) (v : Nat) : (s.setFld b F v).pwr = s.pwr := rfl
@[simp] theorem State.setFld_host (s : State) (b : Nat) (F : Fld) (v : Nat) : (s.setFld b F v).host = s.host := rfl
@[simp] theorem State.setFld_casLanes (s : State) (b : Nat) (F : Fld) (v : Nat) : (s.setFld b F v).casLanes = s.casLanes := rfl
@[simp] theorem State.setFld_cas (s : State) (b : Nat) (F : Fld) (v : Nat) : (s.setFld b F v).cas = s.cas := rfl
@[simp] theorem State.setFld_svc (s : State) (b : Nat) (F : Fld) (v : Nat) : (s.setFld b F v).svc = s.svc := rfl
@[simp] theorem State.setFld_pending (s : State) (b : Nat) (F : Fld) (v : Nat) : (s.setFld b F v).pending = s.pending := rfl
@[simp] theorem State.setFld_byte (s : State) (b : Nat) (F : Fld) (v : Nat) (k1 : Nat) : (s.setFld b F v).byte k1 = s.byte k1 := rfl
@[simp] theorem State.setFld_memWord (s : State) (b : Nat) (F : Fld) (v : Nat) (k1 : Nat) : (s.setFld b F v).memWord k1 = s.memWord k1 := rfl
@[simp] theorem State.setFld_timer (s : State) (b : Nat) (F : Fld) (v : Nat) (k1 : Nat) : (s.setFld b F v).timer k1 = s.timer k1 := rfl
@[simp] theorem State.setFld_lane (s : State) (b : Nat) (F : Fld) (v : Nat) (k1 : Nat) : (s.setFld b F v).lane k1 = s.lane k1 := rfl
@[simp] theorem State.setFld_phase (s : State) (b : Nat) (F : Fld) (v : Nat) (k1 : Nat) : (s.setFld b F v).phase k1 = s.phase k1 := rfl
@[simp] theorem State.setFld_felt (s : State) (b : Nat) (F : Fld) (v : Nat) (k1 : Nat) : (s.setFld b F v).felt k1 = s.felt k1 := rfl
@[simp] theorem State.setFld_wf (s : State) (b : Nat) (F : Fld) (v : Nat) (k1 : Nat) : (s.setFld b F v).wf k1 = s.wf k1 := rfl
@[simp] theorem State.setFld_house (s : State) (b : Nat) (F : Fld) (v : Nat) (k1 : Nat) : (s.setFld b F v).house k1 = s.house k1 := rfl
@[simp] theorem State.setFld_port (s : State) (b : Nat) (F : Fld) (v : Nat) (k1 : Nat) : (s.setFld b F v).port k1 = s.port k1 := rfl
@[simp] theorem State.setFld_gauge (s : State) (b : Nat) (F : Fld) (v : Nat) (k1 : Nat) : (s.setFld b F v).gauge k1 = s.gauge k1 := rfl
@[simp] theorem State.setFld_engine (s : State) (b : Nat) (F : Fld) (v : Nat) (k1 : Nat) : (s.setFld b F v).engine k1 = s.engine k1 := rfl
@[simp] theorem State.setFld_dma (s : State) (b : Nat) (F : Fld) (v : Nat) (k1 : Nat) : (s.setFld b F v).dma k1 = s.dma k1 := rfl
@[simp] theorem State.setFld_cap (s : State) (b : Nat) (F : Fld) (v : Nat) (k1 : Nat) : (s.setFld b F v).cap k1 = s.cap k1 := rfl
@[simp] theorem State.setFld_casLane (s : State) (b : Nat) (F : Fld) (v : Nat) (k1 : Nat) : (s.setFld b F v).casLane k1 = s.casLane k1 := rfl

/-! State.setByte. -/

@[simp] theorem State.setByte_regs (s : State) (a : Nat) (v : Byte) : (s.setByte a v).regs = s.regs := rfl
@[simp] theorem State.setByte_lineNs (s : State) (a : Nat) (v : Byte) : (s.setByte a v).lineNs = s.lineNs := rfl
@[simp] theorem State.setByte_timeOfs (s : State) (a : Nat) (v : Byte) : (s.setByte a v).timeOfs = s.timeOfs := rfl
@[simp] theorem State.setByte_snaps (s : State) (a : Nat) (v : Byte) : (s.setByte a v).snaps = s.snaps := rfl
@[simp] theorem State.setByte_reports (s : State) (a : Nat) (v : Byte) : (s.setByte a v).reports = s.reports := rfl
@[simp] theorem State.setByte_fc (s : State) (a : Nat) (v : Byte) : (s.setByte a v).fc = s.fc := rfl
@[simp] theorem State.setByte_pulses (s : State) (a : Nat) (v : Byte) : (s.setByte a v).pulses = s.pulses := rfl
@[simp] theorem State.setByte_tinFlags (s : State) (a : Nat) (v : Byte) : (s.setByte a v).tinFlags = s.tinFlags := rfl
@[simp] theorem State.setByte_tio (s : State) (a : Nat) (v : Byte) : (s.setByte a v).tio = s.tio := rfl
@[simp] theorem State.setByte_dmaArr (s : State) (a : Nat) (v : Byte) : (s.setByte a v).dmaArr = s.dmaArr := rfl
@[simp] theorem State.setByte_tmrs (s : State) (a : Nat) (v : Byte) : (s.setByte a v).tmrs = s.tmrs := rfl
@[simp] theorem State.setByte_freeCount (s : State) (a : Nat) (v : Byte) : (s.setByte a v).freeCount = s.freeCount := rfl
@[simp] theorem State.setByte_lanes (s : State) (a : Nat) (v : Byte) : (s.setByte a v).lanes = s.lanes := rfl
@[simp] theorem State.setByte_phases (s : State) (a : Nat) (v : Byte) : (s.setByte a v).phases = s.phases := rfl
@[simp] theorem State.setByte_felts (s : State) (a : Nat) (v : Byte) : (s.setByte a v).felts = s.felts := rfl
@[simp] theorem State.setByte_lists (s : State) (a : Nat) (v : Byte) : (s.setByte a v).lists = s.lists := rfl
@[simp] theorem State.setByte_sync (s : State) (a : Nat) (v : Byte) : (s.setByte a v).sync = s.sync := rfl
@[simp] theorem State.setByte_time (s : State) (a : Nat) (v : Byte) : (s.setByte a v).time = s.time := rfl
@[simp] theorem State.setByte_monTrk (s : State) (a : Nat) (v : Byte) : (s.setByte a v).monTrk = s.monTrk := rfl
@[simp] theorem State.setByte_casRx (s : State) (a : Nat) (v : Byte) : (s.setByte a v).casRx = s.casRx := rfl
@[simp] theorem State.setByte_adm (s : State) (a : Nat) (v : Byte) : (s.setByte a v).adm = s.adm := rfl
@[simp] theorem State.setByte_casOut (s : State) (a : Nat) (v : Byte) : (s.setByte a v).casOut = s.casOut := rfl
@[simp] theorem State.setByte_ilkHold (s : State) (a : Nat) (v : Byte) : (s.setByte a v).ilkHold = s.ilkHold := rfl
@[simp] theorem State.setByte_forceOff (s : State) (a : Nat) (v : Byte) : (s.setByte a v).forceOff = s.forceOff := rfl
@[simp] theorem State.setByte_nv (s : State) (a : Nat) (v : Byte) : (s.setByte a v).nv = s.nv := rfl
@[simp] theorem State.setByte_houses (s : State) (a : Nat) (v : Byte) : (s.setByte a v).houses = s.houses := rfl
@[simp] theorem State.setByte_bus (s : State) (a : Nat) (v : Byte) : (s.setByte a v).bus = s.bus := rfl
@[simp] theorem State.setByte_ilkHouse (s : State) (a : Nat) (v : Byte) : (s.setByte a v).ilkHouse = s.ilkHouse := rfl
@[simp] theorem State.setByte_ports (s : State) (a : Nat) (v : Byte) : (s.setByte a v).ports = s.ports := rfl
@[simp] theorem State.setByte_portFelt (s : State) (a : Nat) (v : Byte) : (s.setByte a v).portFelt = s.portFelt := rfl
@[simp] theorem State.setByte_gauges (s : State) (a : Nat) (v : Byte) : (s.setByte a v).gauges = s.gauges := rfl
@[simp] theorem State.setByte_gauRec (s : State) (a : Nat) (v : Byte) : (s.setByte a v).gauRec = s.gauRec := rfl
@[simp] theorem State.setByte_engines (s : State) (a : Nat) (v : Byte) : (s.setByte a v).engines = s.engines := rfl
@[simp] theorem State.setByte_dmas (s : State) (a : Nat) (v : Byte) : (s.setByte a v).dmas = s.dmas := rfl
@[simp] theorem State.setByte_caps (s : State) (a : Nat) (v : Byte) : (s.setByte a v).caps = s.caps := rfl
@[simp] theorem State.setByte_dmaDone (s : State) (a : Nat) (v : Byte) : (s.setByte a v).dmaDone = s.dmaDone := rfl
@[simp] theorem State.setByte_dmaLast (s : State) (a : Nat) (v : Byte) : (s.setByte a v).dmaLast = s.dmaLast := rfl
@[simp] theorem State.setByte_expQ (s : State) (a : Nat) (v : Byte) : (s.setByte a v).expQ = s.expQ := rfl
@[simp] theorem State.setByte_sup (s : State) (a : Nat) (v : Byte) : (s.setByte a v).sup = s.sup := rfl
@[simp] theorem State.setByte_img (s : State) (a : Nat) (v : Byte) : (s.setByte a v).img = s.img := rfl
@[simp] theorem State.setByte_flash (s : State) (a : Nat) (v : Byte) : (s.setByte a v).flash = s.flash := rfl
@[simp] theorem State.setByte_pwr (s : State) (a : Nat) (v : Byte) : (s.setByte a v).pwr = s.pwr := rfl
@[simp] theorem State.setByte_host (s : State) (a : Nat) (v : Byte) : (s.setByte a v).host = s.host := rfl
@[simp] theorem State.setByte_casLanes (s : State) (a : Nat) (v : Byte) : (s.setByte a v).casLanes = s.casLanes := rfl
@[simp] theorem State.setByte_cas (s : State) (a : Nat) (v : Byte) : (s.setByte a v).cas = s.cas := rfl
@[simp] theorem State.setByte_svc (s : State) (a : Nat) (v : Byte) : (s.setByte a v).svc = s.svc := rfl
@[simp] theorem State.setByte_pending (s : State) (a : Nat) (v : Byte) : (s.setByte a v).pending = s.pending := rfl
@[simp] theorem State.setByte_rd (s : State) (a : Nat) (v : Byte) (k1 : Nat) : (s.setByte a v).rd k1 = s.rd k1 := rfl
@[simp] theorem State.setByte_fld (s : State) (a : Nat) (v : Byte) (c1 : Nat) (G : Fld) : (s.setByte a v).fld c1 G = s.fld c1 G := rfl
@[simp] theorem State.setByte_flag (s : State) (a : Nat) (v : Byte) (c1 : Nat) (G : Fld) : (s.setByte a v).flag c1 G = s.flag c1 G := rfl
@[simp] theorem State.setByte_timer (s : State) (a : Nat) (v : Byte) (k1 : Nat) : (s.setByte a v).timer k1 = s.timer k1 := rfl
@[simp] theorem State.setByte_lane (s : State) (a : Nat) (v : Byte) (k1 : Nat) : (s.setByte a v).lane k1 = s.lane k1 := rfl
@[simp] theorem State.setByte_phase (s : State) (a : Nat) (v : Byte) (k1 : Nat) : (s.setByte a v).phase k1 = s.phase k1 := rfl
@[simp] theorem State.setByte_felt (s : State) (a : Nat) (v : Byte) (k1 : Nat) : (s.setByte a v).felt k1 = s.felt k1 := rfl
@[simp] theorem State.setByte_wf (s : State) (a : Nat) (v : Byte) (k1 : Nat) : (s.setByte a v).wf k1 = s.wf k1 := rfl
@[simp] theorem State.setByte_house (s : State) (a : Nat) (v : Byte) (k1 : Nat) : (s.setByte a v).house k1 = s.house k1 := rfl
@[simp] theorem State.setByte_port (s : State) (a : Nat) (v : Byte) (k1 : Nat) : (s.setByte a v).port k1 = s.port k1 := rfl
@[simp] theorem State.setByte_gauge (s : State) (a : Nat) (v : Byte) (k1 : Nat) : (s.setByte a v).gauge k1 = s.gauge k1 := rfl
@[simp] theorem State.setByte_engine (s : State) (a : Nat) (v : Byte) (k1 : Nat) : (s.setByte a v).engine k1 = s.engine k1 := rfl
@[simp] theorem State.setByte_dma (s : State) (a : Nat) (v : Byte) (k1 : Nat) : (s.setByte a v).dma k1 = s.dma k1 := rfl
@[simp] theorem State.setByte_cap (s : State) (a : Nat) (v : Byte) (k1 : Nat) : (s.setByte a v).cap k1 = s.cap k1 := rfl
@[simp] theorem State.setByte_casLane (s : State) (a : Nat) (v : Byte) (k1 : Nat) : (s.setByte a v).casLane k1 = s.casLane k1 := rfl

/-! State.setMemWord. -/

@[simp] theorem State.setMemWord_regs (s : State) (a : Nat) (v : Word) : (s.setMemWord a v).regs = s.regs := rfl
@[simp] theorem State.setMemWord_lineNs (s : State) (a : Nat) (v : Word) : (s.setMemWord a v).lineNs = s.lineNs := rfl
@[simp] theorem State.setMemWord_timeOfs (s : State) (a : Nat) (v : Word) : (s.setMemWord a v).timeOfs = s.timeOfs := rfl
@[simp] theorem State.setMemWord_snaps (s : State) (a : Nat) (v : Word) : (s.setMemWord a v).snaps = s.snaps := rfl
@[simp] theorem State.setMemWord_reports (s : State) (a : Nat) (v : Word) : (s.setMemWord a v).reports = s.reports := rfl
@[simp] theorem State.setMemWord_fc (s : State) (a : Nat) (v : Word) : (s.setMemWord a v).fc = s.fc := rfl
@[simp] theorem State.setMemWord_pulses (s : State) (a : Nat) (v : Word) : (s.setMemWord a v).pulses = s.pulses := rfl
@[simp] theorem State.setMemWord_tinFlags (s : State) (a : Nat) (v : Word) : (s.setMemWord a v).tinFlags = s.tinFlags := rfl
@[simp] theorem State.setMemWord_tio (s : State) (a : Nat) (v : Word) : (s.setMemWord a v).tio = s.tio := rfl
@[simp] theorem State.setMemWord_dmaArr (s : State) (a : Nat) (v : Word) : (s.setMemWord a v).dmaArr = s.dmaArr := rfl
@[simp] theorem State.setMemWord_tmrs (s : State) (a : Nat) (v : Word) : (s.setMemWord a v).tmrs = s.tmrs := rfl
@[simp] theorem State.setMemWord_freeCount (s : State) (a : Nat) (v : Word) : (s.setMemWord a v).freeCount = s.freeCount := rfl
@[simp] theorem State.setMemWord_lanes (s : State) (a : Nat) (v : Word) : (s.setMemWord a v).lanes = s.lanes := rfl
@[simp] theorem State.setMemWord_phases (s : State) (a : Nat) (v : Word) : (s.setMemWord a v).phases = s.phases := rfl
@[simp] theorem State.setMemWord_felts (s : State) (a : Nat) (v : Word) : (s.setMemWord a v).felts = s.felts := rfl
@[simp] theorem State.setMemWord_lists (s : State) (a : Nat) (v : Word) : (s.setMemWord a v).lists = s.lists := rfl
@[simp] theorem State.setMemWord_sync (s : State) (a : Nat) (v : Word) : (s.setMemWord a v).sync = s.sync := rfl
@[simp] theorem State.setMemWord_time (s : State) (a : Nat) (v : Word) : (s.setMemWord a v).time = s.time := rfl
@[simp] theorem State.setMemWord_monTrk (s : State) (a : Nat) (v : Word) : (s.setMemWord a v).monTrk = s.monTrk := rfl
@[simp] theorem State.setMemWord_casRx (s : State) (a : Nat) (v : Word) : (s.setMemWord a v).casRx = s.casRx := rfl
@[simp] theorem State.setMemWord_adm (s : State) (a : Nat) (v : Word) : (s.setMemWord a v).adm = s.adm := rfl
@[simp] theorem State.setMemWord_casOut (s : State) (a : Nat) (v : Word) : (s.setMemWord a v).casOut = s.casOut := rfl
@[simp] theorem State.setMemWord_ilkHold (s : State) (a : Nat) (v : Word) : (s.setMemWord a v).ilkHold = s.ilkHold := rfl
@[simp] theorem State.setMemWord_forceOff (s : State) (a : Nat) (v : Word) : (s.setMemWord a v).forceOff = s.forceOff := rfl
@[simp] theorem State.setMemWord_nv (s : State) (a : Nat) (v : Word) : (s.setMemWord a v).nv = s.nv := rfl
@[simp] theorem State.setMemWord_houses (s : State) (a : Nat) (v : Word) : (s.setMemWord a v).houses = s.houses := rfl
@[simp] theorem State.setMemWord_bus (s : State) (a : Nat) (v : Word) : (s.setMemWord a v).bus = s.bus := rfl
@[simp] theorem State.setMemWord_ilkHouse (s : State) (a : Nat) (v : Word) : (s.setMemWord a v).ilkHouse = s.ilkHouse := rfl
@[simp] theorem State.setMemWord_ports (s : State) (a : Nat) (v : Word) : (s.setMemWord a v).ports = s.ports := rfl
@[simp] theorem State.setMemWord_portFelt (s : State) (a : Nat) (v : Word) : (s.setMemWord a v).portFelt = s.portFelt := rfl
@[simp] theorem State.setMemWord_gauges (s : State) (a : Nat) (v : Word) : (s.setMemWord a v).gauges = s.gauges := rfl
@[simp] theorem State.setMemWord_gauRec (s : State) (a : Nat) (v : Word) : (s.setMemWord a v).gauRec = s.gauRec := rfl
@[simp] theorem State.setMemWord_engines (s : State) (a : Nat) (v : Word) : (s.setMemWord a v).engines = s.engines := rfl
@[simp] theorem State.setMemWord_dmas (s : State) (a : Nat) (v : Word) : (s.setMemWord a v).dmas = s.dmas := rfl
@[simp] theorem State.setMemWord_caps (s : State) (a : Nat) (v : Word) : (s.setMemWord a v).caps = s.caps := rfl
@[simp] theorem State.setMemWord_dmaDone (s : State) (a : Nat) (v : Word) : (s.setMemWord a v).dmaDone = s.dmaDone := rfl
@[simp] theorem State.setMemWord_dmaLast (s : State) (a : Nat) (v : Word) : (s.setMemWord a v).dmaLast = s.dmaLast := rfl
@[simp] theorem State.setMemWord_expQ (s : State) (a : Nat) (v : Word) : (s.setMemWord a v).expQ = s.expQ := rfl
@[simp] theorem State.setMemWord_sup (s : State) (a : Nat) (v : Word) : (s.setMemWord a v).sup = s.sup := rfl
@[simp] theorem State.setMemWord_img (s : State) (a : Nat) (v : Word) : (s.setMemWord a v).img = s.img := rfl
@[simp] theorem State.setMemWord_flash (s : State) (a : Nat) (v : Word) : (s.setMemWord a v).flash = s.flash := rfl
@[simp] theorem State.setMemWord_pwr (s : State) (a : Nat) (v : Word) : (s.setMemWord a v).pwr = s.pwr := rfl
@[simp] theorem State.setMemWord_host (s : State) (a : Nat) (v : Word) : (s.setMemWord a v).host = s.host := rfl
@[simp] theorem State.setMemWord_casLanes (s : State) (a : Nat) (v : Word) : (s.setMemWord a v).casLanes = s.casLanes := rfl
@[simp] theorem State.setMemWord_cas (s : State) (a : Nat) (v : Word) : (s.setMemWord a v).cas = s.cas := rfl
@[simp] theorem State.setMemWord_svc (s : State) (a : Nat) (v : Word) : (s.setMemWord a v).svc = s.svc := rfl
@[simp] theorem State.setMemWord_pending (s : State) (a : Nat) (v : Word) : (s.setMemWord a v).pending = s.pending := rfl
@[simp] theorem State.setMemWord_rd (s : State) (a : Nat) (v : Word) (k1 : Nat) : (s.setMemWord a v).rd k1 = s.rd k1 := rfl
@[simp] theorem State.setMemWord_fld (s : State) (a : Nat) (v : Word) (c1 : Nat) (G : Fld) : (s.setMemWord a v).fld c1 G = s.fld c1 G := rfl
@[simp] theorem State.setMemWord_flag (s : State) (a : Nat) (v : Word) (c1 : Nat) (G : Fld) : (s.setMemWord a v).flag c1 G = s.flag c1 G := rfl
@[simp] theorem State.setMemWord_timer (s : State) (a : Nat) (v : Word) (k1 : Nat) : (s.setMemWord a v).timer k1 = s.timer k1 := rfl
@[simp] theorem State.setMemWord_lane (s : State) (a : Nat) (v : Word) (k1 : Nat) : (s.setMemWord a v).lane k1 = s.lane k1 := rfl
@[simp] theorem State.setMemWord_phase (s : State) (a : Nat) (v : Word) (k1 : Nat) : (s.setMemWord a v).phase k1 = s.phase k1 := rfl
@[simp] theorem State.setMemWord_felt (s : State) (a : Nat) (v : Word) (k1 : Nat) : (s.setMemWord a v).felt k1 = s.felt k1 := rfl
@[simp] theorem State.setMemWord_wf (s : State) (a : Nat) (v : Word) (k1 : Nat) : (s.setMemWord a v).wf k1 = s.wf k1 := rfl
@[simp] theorem State.setMemWord_house (s : State) (a : Nat) (v : Word) (k1 : Nat) : (s.setMemWord a v).house k1 = s.house k1 := rfl
@[simp] theorem State.setMemWord_port (s : State) (a : Nat) (v : Word) (k1 : Nat) : (s.setMemWord a v).port k1 = s.port k1 := rfl
@[simp] theorem State.setMemWord_gauge (s : State) (a : Nat) (v : Word) (k1 : Nat) : (s.setMemWord a v).gauge k1 = s.gauge k1 := rfl
@[simp] theorem State.setMemWord_engine (s : State) (a : Nat) (v : Word) (k1 : Nat) : (s.setMemWord a v).engine k1 = s.engine k1 := rfl
@[simp] theorem State.setMemWord_dma (s : State) (a : Nat) (v : Word) (k1 : Nat) : (s.setMemWord a v).dma k1 = s.dma k1 := rfl
@[simp] theorem State.setMemWord_cap (s : State) (a : Nat) (v : Word) (k1 : Nat) : (s.setMemWord a v).cap k1 = s.cap k1 := rfl
@[simp] theorem State.setMemWord_casLane (s : State) (a : Nat) (v : Word) (k1 : Nat) : (s.setMemWord a v).casLane k1 = s.casLane k1 := rfl

/-! State.setTimer. -/

@[simp] theorem State.setTimer_regs (s : State) (i : Nat) (x : TimerX) : (s.setTimer i x).regs = s.regs := rfl
@[simp] theorem State.setTimer_mem (s : State) (i : Nat) (x : TimerX) : (s.setTimer i x).mem = s.mem := rfl
@[simp] theorem State.setTimer_lineNs (s : State) (i : Nat) (x : TimerX) : (s.setTimer i x).lineNs = s.lineNs := rfl
@[simp] theorem State.setTimer_timeOfs (s : State) (i : Nat) (x : TimerX) : (s.setTimer i x).timeOfs = s.timeOfs := rfl
@[simp] theorem State.setTimer_snaps (s : State) (i : Nat) (x : TimerX) : (s.setTimer i x).snaps = s.snaps := rfl
@[simp] theorem State.setTimer_reports (s : State) (i : Nat) (x : TimerX) : (s.setTimer i x).reports = s.reports := rfl
@[simp] theorem State.setTimer_fc (s : State) (i : Nat) (x : TimerX) : (s.setTimer i x).fc = s.fc := rfl
@[simp] theorem State.setTimer_pulses (s : State) (i : Nat) (x : TimerX) : (s.setTimer i x).pulses = s.pulses := rfl
@[simp] theorem State.setTimer_tinFlags (s : State) (i : Nat) (x : TimerX) : (s.setTimer i x).tinFlags = s.tinFlags := rfl
@[simp] theorem State.setTimer_tio (s : State) (i : Nat) (x : TimerX) : (s.setTimer i x).tio = s.tio := rfl
@[simp] theorem State.setTimer_dmaArr (s : State) (i : Nat) (x : TimerX) : (s.setTimer i x).dmaArr = s.dmaArr := rfl
@[simp] theorem State.setTimer_freeCount (s : State) (i : Nat) (x : TimerX) : (s.setTimer i x).freeCount = s.freeCount := rfl
@[simp] theorem State.setTimer_lanes (s : State) (i : Nat) (x : TimerX) : (s.setTimer i x).lanes = s.lanes := rfl
@[simp] theorem State.setTimer_phases (s : State) (i : Nat) (x : TimerX) : (s.setTimer i x).phases = s.phases := rfl
@[simp] theorem State.setTimer_felts (s : State) (i : Nat) (x : TimerX) : (s.setTimer i x).felts = s.felts := rfl
@[simp] theorem State.setTimer_lists (s : State) (i : Nat) (x : TimerX) : (s.setTimer i x).lists = s.lists := rfl
@[simp] theorem State.setTimer_sync (s : State) (i : Nat) (x : TimerX) : (s.setTimer i x).sync = s.sync := rfl
@[simp] theorem State.setTimer_time (s : State) (i : Nat) (x : TimerX) : (s.setTimer i x).time = s.time := rfl
@[simp] theorem State.setTimer_monTrk (s : State) (i : Nat) (x : TimerX) : (s.setTimer i x).monTrk = s.monTrk := rfl
@[simp] theorem State.setTimer_casRx (s : State) (i : Nat) (x : TimerX) : (s.setTimer i x).casRx = s.casRx := rfl
@[simp] theorem State.setTimer_adm (s : State) (i : Nat) (x : TimerX) : (s.setTimer i x).adm = s.adm := rfl
@[simp] theorem State.setTimer_casOut (s : State) (i : Nat) (x : TimerX) : (s.setTimer i x).casOut = s.casOut := rfl
@[simp] theorem State.setTimer_ilkHold (s : State) (i : Nat) (x : TimerX) : (s.setTimer i x).ilkHold = s.ilkHold := rfl
@[simp] theorem State.setTimer_forceOff (s : State) (i : Nat) (x : TimerX) : (s.setTimer i x).forceOff = s.forceOff := rfl
@[simp] theorem State.setTimer_nv (s : State) (i : Nat) (x : TimerX) : (s.setTimer i x).nv = s.nv := rfl
@[simp] theorem State.setTimer_houses (s : State) (i : Nat) (x : TimerX) : (s.setTimer i x).houses = s.houses := rfl
@[simp] theorem State.setTimer_bus (s : State) (i : Nat) (x : TimerX) : (s.setTimer i x).bus = s.bus := rfl
@[simp] theorem State.setTimer_ilkHouse (s : State) (i : Nat) (x : TimerX) : (s.setTimer i x).ilkHouse = s.ilkHouse := rfl
@[simp] theorem State.setTimer_ports (s : State) (i : Nat) (x : TimerX) : (s.setTimer i x).ports = s.ports := rfl
@[simp] theorem State.setTimer_portFelt (s : State) (i : Nat) (x : TimerX) : (s.setTimer i x).portFelt = s.portFelt := rfl
@[simp] theorem State.setTimer_gauges (s : State) (i : Nat) (x : TimerX) : (s.setTimer i x).gauges = s.gauges := rfl
@[simp] theorem State.setTimer_gauRec (s : State) (i : Nat) (x : TimerX) : (s.setTimer i x).gauRec = s.gauRec := rfl
@[simp] theorem State.setTimer_engines (s : State) (i : Nat) (x : TimerX) : (s.setTimer i x).engines = s.engines := rfl
@[simp] theorem State.setTimer_dmas (s : State) (i : Nat) (x : TimerX) : (s.setTimer i x).dmas = s.dmas := rfl
@[simp] theorem State.setTimer_caps (s : State) (i : Nat) (x : TimerX) : (s.setTimer i x).caps = s.caps := rfl
@[simp] theorem State.setTimer_dmaDone (s : State) (i : Nat) (x : TimerX) : (s.setTimer i x).dmaDone = s.dmaDone := rfl
@[simp] theorem State.setTimer_dmaLast (s : State) (i : Nat) (x : TimerX) : (s.setTimer i x).dmaLast = s.dmaLast := rfl
@[simp] theorem State.setTimer_expQ (s : State) (i : Nat) (x : TimerX) : (s.setTimer i x).expQ = s.expQ := rfl
@[simp] theorem State.setTimer_sup (s : State) (i : Nat) (x : TimerX) : (s.setTimer i x).sup = s.sup := rfl
@[simp] theorem State.setTimer_img (s : State) (i : Nat) (x : TimerX) : (s.setTimer i x).img = s.img := rfl
@[simp] theorem State.setTimer_flash (s : State) (i : Nat) (x : TimerX) : (s.setTimer i x).flash = s.flash := rfl
@[simp] theorem State.setTimer_pwr (s : State) (i : Nat) (x : TimerX) : (s.setTimer i x).pwr = s.pwr := rfl
@[simp] theorem State.setTimer_host (s : State) (i : Nat) (x : TimerX) : (s.setTimer i x).host = s.host := rfl
@[simp] theorem State.setTimer_casLanes (s : State) (i : Nat) (x : TimerX) : (s.setTimer i x).casLanes = s.casLanes := rfl
@[simp] theorem State.setTimer_cas (s : State) (i : Nat) (x : TimerX) : (s.setTimer i x).cas = s.cas := rfl
@[simp] theorem State.setTimer_svc (s : State) (i : Nat) (x : TimerX) : (s.setTimer i x).svc = s.svc := rfl
@[simp] theorem State.setTimer_pending (s : State) (i : Nat) (x : TimerX) : (s.setTimer i x).pending = s.pending := rfl
@[simp] theorem State.setTimer_rd (s : State) (i : Nat) (x : TimerX) (k1 : Nat) : (s.setTimer i x).rd k1 = s.rd k1 := rfl
@[simp] theorem State.setTimer_fld (s : State) (i : Nat) (x : TimerX) (c1 : Nat) (G : Fld) : (s.setTimer i x).fld c1 G = s.fld c1 G := rfl
@[simp] theorem State.setTimer_flag (s : State) (i : Nat) (x : TimerX) (c1 : Nat) (G : Fld) : (s.setTimer i x).flag c1 G = s.flag c1 G := rfl
@[simp] theorem State.setTimer_byte (s : State) (i : Nat) (x : TimerX) (k1 : Nat) : (s.setTimer i x).byte k1 = s.byte k1 := rfl
@[simp] theorem State.setTimer_memWord (s : State) (i : Nat) (x : TimerX) (k1 : Nat) : (s.setTimer i x).memWord k1 = s.memWord k1 := rfl
@[simp] theorem State.setTimer_lane (s : State) (i : Nat) (x : TimerX) (k1 : Nat) : (s.setTimer i x).lane k1 = s.lane k1 := rfl
@[simp] theorem State.setTimer_phase (s : State) (i : Nat) (x : TimerX) (k1 : Nat) : (s.setTimer i x).phase k1 = s.phase k1 := rfl
@[simp] theorem State.setTimer_felt (s : State) (i : Nat) (x : TimerX) (k1 : Nat) : (s.setTimer i x).felt k1 = s.felt k1 := rfl
@[simp] theorem State.setTimer_wf (s : State) (i : Nat) (x : TimerX) (k1 : Nat) : (s.setTimer i x).wf k1 = s.wf k1 := rfl
@[simp] theorem State.setTimer_house (s : State) (i : Nat) (x : TimerX) (k1 : Nat) : (s.setTimer i x).house k1 = s.house k1 := rfl
@[simp] theorem State.setTimer_port (s : State) (i : Nat) (x : TimerX) (k1 : Nat) : (s.setTimer i x).port k1 = s.port k1 := rfl
@[simp] theorem State.setTimer_gauge (s : State) (i : Nat) (x : TimerX) (k1 : Nat) : (s.setTimer i x).gauge k1 = s.gauge k1 := rfl
@[simp] theorem State.setTimer_engine (s : State) (i : Nat) (x : TimerX) (k1 : Nat) : (s.setTimer i x).engine k1 = s.engine k1 := rfl
@[simp] theorem State.setTimer_dma (s : State) (i : Nat) (x : TimerX) (k1 : Nat) : (s.setTimer i x).dma k1 = s.dma k1 := rfl
@[simp] theorem State.setTimer_cap (s : State) (i : Nat) (x : TimerX) (k1 : Nat) : (s.setTimer i x).cap k1 = s.cap k1 := rfl
@[simp] theorem State.setTimer_casLane (s : State) (i : Nat) (x : TimerX) (k1 : Nat) : (s.setTimer i x).casLane k1 = s.casLane k1 := rfl

/-! State.setLane. -/

@[simp] theorem State.setLane_regs (s : State) (i : Nat) (x : LaneX) : (s.setLane i x).regs = s.regs := rfl
@[simp] theorem State.setLane_mem (s : State) (i : Nat) (x : LaneX) : (s.setLane i x).mem = s.mem := rfl
@[simp] theorem State.setLane_lineNs (s : State) (i : Nat) (x : LaneX) : (s.setLane i x).lineNs = s.lineNs := rfl
@[simp] theorem State.setLane_timeOfs (s : State) (i : Nat) (x : LaneX) : (s.setLane i x).timeOfs = s.timeOfs := rfl
@[simp] theorem State.setLane_snaps (s : State) (i : Nat) (x : LaneX) : (s.setLane i x).snaps = s.snaps := rfl
@[simp] theorem State.setLane_reports (s : State) (i : Nat) (x : LaneX) : (s.setLane i x).reports = s.reports := rfl
@[simp] theorem State.setLane_fc (s : State) (i : Nat) (x : LaneX) : (s.setLane i x).fc = s.fc := rfl
@[simp] theorem State.setLane_pulses (s : State) (i : Nat) (x : LaneX) : (s.setLane i x).pulses = s.pulses := rfl
@[simp] theorem State.setLane_tinFlags (s : State) (i : Nat) (x : LaneX) : (s.setLane i x).tinFlags = s.tinFlags := rfl
@[simp] theorem State.setLane_tio (s : State) (i : Nat) (x : LaneX) : (s.setLane i x).tio = s.tio := rfl
@[simp] theorem State.setLane_dmaArr (s : State) (i : Nat) (x : LaneX) : (s.setLane i x).dmaArr = s.dmaArr := rfl
@[simp] theorem State.setLane_tmrs (s : State) (i : Nat) (x : LaneX) : (s.setLane i x).tmrs = s.tmrs := rfl
@[simp] theorem State.setLane_freeCount (s : State) (i : Nat) (x : LaneX) : (s.setLane i x).freeCount = s.freeCount := rfl
@[simp] theorem State.setLane_phases (s : State) (i : Nat) (x : LaneX) : (s.setLane i x).phases = s.phases := rfl
@[simp] theorem State.setLane_felts (s : State) (i : Nat) (x : LaneX) : (s.setLane i x).felts = s.felts := rfl
@[simp] theorem State.setLane_lists (s : State) (i : Nat) (x : LaneX) : (s.setLane i x).lists = s.lists := rfl
@[simp] theorem State.setLane_sync (s : State) (i : Nat) (x : LaneX) : (s.setLane i x).sync = s.sync := rfl
@[simp] theorem State.setLane_time (s : State) (i : Nat) (x : LaneX) : (s.setLane i x).time = s.time := rfl
@[simp] theorem State.setLane_monTrk (s : State) (i : Nat) (x : LaneX) : (s.setLane i x).monTrk = s.monTrk := rfl
@[simp] theorem State.setLane_casRx (s : State) (i : Nat) (x : LaneX) : (s.setLane i x).casRx = s.casRx := rfl
@[simp] theorem State.setLane_adm (s : State) (i : Nat) (x : LaneX) : (s.setLane i x).adm = s.adm := rfl
@[simp] theorem State.setLane_casOut (s : State) (i : Nat) (x : LaneX) : (s.setLane i x).casOut = s.casOut := rfl
@[simp] theorem State.setLane_ilkHold (s : State) (i : Nat) (x : LaneX) : (s.setLane i x).ilkHold = s.ilkHold := rfl
@[simp] theorem State.setLane_forceOff (s : State) (i : Nat) (x : LaneX) : (s.setLane i x).forceOff = s.forceOff := rfl
@[simp] theorem State.setLane_nv (s : State) (i : Nat) (x : LaneX) : (s.setLane i x).nv = s.nv := rfl
@[simp] theorem State.setLane_houses (s : State) (i : Nat) (x : LaneX) : (s.setLane i x).houses = s.houses := rfl
@[simp] theorem State.setLane_bus (s : State) (i : Nat) (x : LaneX) : (s.setLane i x).bus = s.bus := rfl
@[simp] theorem State.setLane_ilkHouse (s : State) (i : Nat) (x : LaneX) : (s.setLane i x).ilkHouse = s.ilkHouse := rfl
@[simp] theorem State.setLane_ports (s : State) (i : Nat) (x : LaneX) : (s.setLane i x).ports = s.ports := rfl
@[simp] theorem State.setLane_portFelt (s : State) (i : Nat) (x : LaneX) : (s.setLane i x).portFelt = s.portFelt := rfl
@[simp] theorem State.setLane_gauges (s : State) (i : Nat) (x : LaneX) : (s.setLane i x).gauges = s.gauges := rfl
@[simp] theorem State.setLane_gauRec (s : State) (i : Nat) (x : LaneX) : (s.setLane i x).gauRec = s.gauRec := rfl
@[simp] theorem State.setLane_engines (s : State) (i : Nat) (x : LaneX) : (s.setLane i x).engines = s.engines := rfl
@[simp] theorem State.setLane_dmas (s : State) (i : Nat) (x : LaneX) : (s.setLane i x).dmas = s.dmas := rfl
@[simp] theorem State.setLane_caps (s : State) (i : Nat) (x : LaneX) : (s.setLane i x).caps = s.caps := rfl
@[simp] theorem State.setLane_dmaDone (s : State) (i : Nat) (x : LaneX) : (s.setLane i x).dmaDone = s.dmaDone := rfl
@[simp] theorem State.setLane_dmaLast (s : State) (i : Nat) (x : LaneX) : (s.setLane i x).dmaLast = s.dmaLast := rfl
@[simp] theorem State.setLane_expQ (s : State) (i : Nat) (x : LaneX) : (s.setLane i x).expQ = s.expQ := rfl
@[simp] theorem State.setLane_sup (s : State) (i : Nat) (x : LaneX) : (s.setLane i x).sup = s.sup := rfl
@[simp] theorem State.setLane_img (s : State) (i : Nat) (x : LaneX) : (s.setLane i x).img = s.img := rfl
@[simp] theorem State.setLane_flash (s : State) (i : Nat) (x : LaneX) : (s.setLane i x).flash = s.flash := rfl
@[simp] theorem State.setLane_pwr (s : State) (i : Nat) (x : LaneX) : (s.setLane i x).pwr = s.pwr := rfl
@[simp] theorem State.setLane_host (s : State) (i : Nat) (x : LaneX) : (s.setLane i x).host = s.host := rfl
@[simp] theorem State.setLane_casLanes (s : State) (i : Nat) (x : LaneX) : (s.setLane i x).casLanes = s.casLanes := rfl
@[simp] theorem State.setLane_cas (s : State) (i : Nat) (x : LaneX) : (s.setLane i x).cas = s.cas := rfl
@[simp] theorem State.setLane_svc (s : State) (i : Nat) (x : LaneX) : (s.setLane i x).svc = s.svc := rfl
@[simp] theorem State.setLane_pending (s : State) (i : Nat) (x : LaneX) : (s.setLane i x).pending = s.pending := rfl
@[simp] theorem State.setLane_rd (s : State) (i : Nat) (x : LaneX) (k1 : Nat) : (s.setLane i x).rd k1 = s.rd k1 := rfl
@[simp] theorem State.setLane_fld (s : State) (i : Nat) (x : LaneX) (c1 : Nat) (G : Fld) : (s.setLane i x).fld c1 G = s.fld c1 G := rfl
@[simp] theorem State.setLane_flag (s : State) (i : Nat) (x : LaneX) (c1 : Nat) (G : Fld) : (s.setLane i x).flag c1 G = s.flag c1 G := rfl
@[simp] theorem State.setLane_byte (s : State) (i : Nat) (x : LaneX) (k1 : Nat) : (s.setLane i x).byte k1 = s.byte k1 := rfl
@[simp] theorem State.setLane_memWord (s : State) (i : Nat) (x : LaneX) (k1 : Nat) : (s.setLane i x).memWord k1 = s.memWord k1 := rfl
@[simp] theorem State.setLane_timer (s : State) (i : Nat) (x : LaneX) (k1 : Nat) : (s.setLane i x).timer k1 = s.timer k1 := rfl
@[simp] theorem State.setLane_phase (s : State) (i : Nat) (x : LaneX) (k1 : Nat) : (s.setLane i x).phase k1 = s.phase k1 := rfl
@[simp] theorem State.setLane_felt (s : State) (i : Nat) (x : LaneX) (k1 : Nat) : (s.setLane i x).felt k1 = s.felt k1 := rfl
@[simp] theorem State.setLane_wf (s : State) (i : Nat) (x : LaneX) (k1 : Nat) : (s.setLane i x).wf k1 = s.wf k1 := rfl
@[simp] theorem State.setLane_house (s : State) (i : Nat) (x : LaneX) (k1 : Nat) : (s.setLane i x).house k1 = s.house k1 := rfl
@[simp] theorem State.setLane_port (s : State) (i : Nat) (x : LaneX) (k1 : Nat) : (s.setLane i x).port k1 = s.port k1 := rfl
@[simp] theorem State.setLane_gauge (s : State) (i : Nat) (x : LaneX) (k1 : Nat) : (s.setLane i x).gauge k1 = s.gauge k1 := rfl
@[simp] theorem State.setLane_engine (s : State) (i : Nat) (x : LaneX) (k1 : Nat) : (s.setLane i x).engine k1 = s.engine k1 := rfl
@[simp] theorem State.setLane_dma (s : State) (i : Nat) (x : LaneX) (k1 : Nat) : (s.setLane i x).dma k1 = s.dma k1 := rfl
@[simp] theorem State.setLane_cap (s : State) (i : Nat) (x : LaneX) (k1 : Nat) : (s.setLane i x).cap k1 = s.cap k1 := rfl
@[simp] theorem State.setLane_casLane (s : State) (i : Nat) (x : LaneX) (k1 : Nat) : (s.setLane i x).casLane k1 = s.casLane k1 := rfl

/-! State.setPhase. -/

@[simp] theorem State.setPhase_regs (s : State) (i : Nat) (x : PhaseX) : (s.setPhase i x).regs = s.regs := rfl
@[simp] theorem State.setPhase_mem (s : State) (i : Nat) (x : PhaseX) : (s.setPhase i x).mem = s.mem := rfl
@[simp] theorem State.setPhase_lineNs (s : State) (i : Nat) (x : PhaseX) : (s.setPhase i x).lineNs = s.lineNs := rfl
@[simp] theorem State.setPhase_timeOfs (s : State) (i : Nat) (x : PhaseX) : (s.setPhase i x).timeOfs = s.timeOfs := rfl
@[simp] theorem State.setPhase_snaps (s : State) (i : Nat) (x : PhaseX) : (s.setPhase i x).snaps = s.snaps := rfl
@[simp] theorem State.setPhase_reports (s : State) (i : Nat) (x : PhaseX) : (s.setPhase i x).reports = s.reports := rfl
@[simp] theorem State.setPhase_fc (s : State) (i : Nat) (x : PhaseX) : (s.setPhase i x).fc = s.fc := rfl
@[simp] theorem State.setPhase_pulses (s : State) (i : Nat) (x : PhaseX) : (s.setPhase i x).pulses = s.pulses := rfl
@[simp] theorem State.setPhase_tinFlags (s : State) (i : Nat) (x : PhaseX) : (s.setPhase i x).tinFlags = s.tinFlags := rfl
@[simp] theorem State.setPhase_tio (s : State) (i : Nat) (x : PhaseX) : (s.setPhase i x).tio = s.tio := rfl
@[simp] theorem State.setPhase_dmaArr (s : State) (i : Nat) (x : PhaseX) : (s.setPhase i x).dmaArr = s.dmaArr := rfl
@[simp] theorem State.setPhase_tmrs (s : State) (i : Nat) (x : PhaseX) : (s.setPhase i x).tmrs = s.tmrs := rfl
@[simp] theorem State.setPhase_freeCount (s : State) (i : Nat) (x : PhaseX) : (s.setPhase i x).freeCount = s.freeCount := rfl
@[simp] theorem State.setPhase_lanes (s : State) (i : Nat) (x : PhaseX) : (s.setPhase i x).lanes = s.lanes := rfl
@[simp] theorem State.setPhase_felts (s : State) (i : Nat) (x : PhaseX) : (s.setPhase i x).felts = s.felts := rfl
@[simp] theorem State.setPhase_lists (s : State) (i : Nat) (x : PhaseX) : (s.setPhase i x).lists = s.lists := rfl
@[simp] theorem State.setPhase_sync (s : State) (i : Nat) (x : PhaseX) : (s.setPhase i x).sync = s.sync := rfl
@[simp] theorem State.setPhase_time (s : State) (i : Nat) (x : PhaseX) : (s.setPhase i x).time = s.time := rfl
@[simp] theorem State.setPhase_monTrk (s : State) (i : Nat) (x : PhaseX) : (s.setPhase i x).monTrk = s.monTrk := rfl
@[simp] theorem State.setPhase_casRx (s : State) (i : Nat) (x : PhaseX) : (s.setPhase i x).casRx = s.casRx := rfl
@[simp] theorem State.setPhase_adm (s : State) (i : Nat) (x : PhaseX) : (s.setPhase i x).adm = s.adm := rfl
@[simp] theorem State.setPhase_casOut (s : State) (i : Nat) (x : PhaseX) : (s.setPhase i x).casOut = s.casOut := rfl
@[simp] theorem State.setPhase_ilkHold (s : State) (i : Nat) (x : PhaseX) : (s.setPhase i x).ilkHold = s.ilkHold := rfl
@[simp] theorem State.setPhase_forceOff (s : State) (i : Nat) (x : PhaseX) : (s.setPhase i x).forceOff = s.forceOff := rfl
@[simp] theorem State.setPhase_nv (s : State) (i : Nat) (x : PhaseX) : (s.setPhase i x).nv = s.nv := rfl
@[simp] theorem State.setPhase_houses (s : State) (i : Nat) (x : PhaseX) : (s.setPhase i x).houses = s.houses := rfl
@[simp] theorem State.setPhase_bus (s : State) (i : Nat) (x : PhaseX) : (s.setPhase i x).bus = s.bus := rfl
@[simp] theorem State.setPhase_ilkHouse (s : State) (i : Nat) (x : PhaseX) : (s.setPhase i x).ilkHouse = s.ilkHouse := rfl
@[simp] theorem State.setPhase_ports (s : State) (i : Nat) (x : PhaseX) : (s.setPhase i x).ports = s.ports := rfl
@[simp] theorem State.setPhase_portFelt (s : State) (i : Nat) (x : PhaseX) : (s.setPhase i x).portFelt = s.portFelt := rfl
@[simp] theorem State.setPhase_gauges (s : State) (i : Nat) (x : PhaseX) : (s.setPhase i x).gauges = s.gauges := rfl
@[simp] theorem State.setPhase_gauRec (s : State) (i : Nat) (x : PhaseX) : (s.setPhase i x).gauRec = s.gauRec := rfl
@[simp] theorem State.setPhase_engines (s : State) (i : Nat) (x : PhaseX) : (s.setPhase i x).engines = s.engines := rfl
@[simp] theorem State.setPhase_dmas (s : State) (i : Nat) (x : PhaseX) : (s.setPhase i x).dmas = s.dmas := rfl
@[simp] theorem State.setPhase_caps (s : State) (i : Nat) (x : PhaseX) : (s.setPhase i x).caps = s.caps := rfl
@[simp] theorem State.setPhase_dmaDone (s : State) (i : Nat) (x : PhaseX) : (s.setPhase i x).dmaDone = s.dmaDone := rfl
@[simp] theorem State.setPhase_dmaLast (s : State) (i : Nat) (x : PhaseX) : (s.setPhase i x).dmaLast = s.dmaLast := rfl
@[simp] theorem State.setPhase_expQ (s : State) (i : Nat) (x : PhaseX) : (s.setPhase i x).expQ = s.expQ := rfl
@[simp] theorem State.setPhase_sup (s : State) (i : Nat) (x : PhaseX) : (s.setPhase i x).sup = s.sup := rfl
@[simp] theorem State.setPhase_img (s : State) (i : Nat) (x : PhaseX) : (s.setPhase i x).img = s.img := rfl
@[simp] theorem State.setPhase_flash (s : State) (i : Nat) (x : PhaseX) : (s.setPhase i x).flash = s.flash := rfl
@[simp] theorem State.setPhase_pwr (s : State) (i : Nat) (x : PhaseX) : (s.setPhase i x).pwr = s.pwr := rfl
@[simp] theorem State.setPhase_host (s : State) (i : Nat) (x : PhaseX) : (s.setPhase i x).host = s.host := rfl
@[simp] theorem State.setPhase_casLanes (s : State) (i : Nat) (x : PhaseX) : (s.setPhase i x).casLanes = s.casLanes := rfl
@[simp] theorem State.setPhase_cas (s : State) (i : Nat) (x : PhaseX) : (s.setPhase i x).cas = s.cas := rfl
@[simp] theorem State.setPhase_svc (s : State) (i : Nat) (x : PhaseX) : (s.setPhase i x).svc = s.svc := rfl
@[simp] theorem State.setPhase_pending (s : State) (i : Nat) (x : PhaseX) : (s.setPhase i x).pending = s.pending := rfl
@[simp] theorem State.setPhase_rd (s : State) (i : Nat) (x : PhaseX) (k1 : Nat) : (s.setPhase i x).rd k1 = s.rd k1 := rfl
@[simp] theorem State.setPhase_fld (s : State) (i : Nat) (x : PhaseX) (c1 : Nat) (G : Fld) : (s.setPhase i x).fld c1 G = s.fld c1 G := rfl
@[simp] theorem State.setPhase_flag (s : State) (i : Nat) (x : PhaseX) (c1 : Nat) (G : Fld) : (s.setPhase i x).flag c1 G = s.flag c1 G := rfl
@[simp] theorem State.setPhase_byte (s : State) (i : Nat) (x : PhaseX) (k1 : Nat) : (s.setPhase i x).byte k1 = s.byte k1 := rfl
@[simp] theorem State.setPhase_memWord (s : State) (i : Nat) (x : PhaseX) (k1 : Nat) : (s.setPhase i x).memWord k1 = s.memWord k1 := rfl
@[simp] theorem State.setPhase_timer (s : State) (i : Nat) (x : PhaseX) (k1 : Nat) : (s.setPhase i x).timer k1 = s.timer k1 := rfl
@[simp] theorem State.setPhase_lane (s : State) (i : Nat) (x : PhaseX) (k1 : Nat) : (s.setPhase i x).lane k1 = s.lane k1 := rfl
@[simp] theorem State.setPhase_felt (s : State) (i : Nat) (x : PhaseX) (k1 : Nat) : (s.setPhase i x).felt k1 = s.felt k1 := rfl
@[simp] theorem State.setPhase_wf (s : State) (i : Nat) (x : PhaseX) (k1 : Nat) : (s.setPhase i x).wf k1 = s.wf k1 := rfl
@[simp] theorem State.setPhase_house (s : State) (i : Nat) (x : PhaseX) (k1 : Nat) : (s.setPhase i x).house k1 = s.house k1 := rfl
@[simp] theorem State.setPhase_port (s : State) (i : Nat) (x : PhaseX) (k1 : Nat) : (s.setPhase i x).port k1 = s.port k1 := rfl
@[simp] theorem State.setPhase_gauge (s : State) (i : Nat) (x : PhaseX) (k1 : Nat) : (s.setPhase i x).gauge k1 = s.gauge k1 := rfl
@[simp] theorem State.setPhase_engine (s : State) (i : Nat) (x : PhaseX) (k1 : Nat) : (s.setPhase i x).engine k1 = s.engine k1 := rfl
@[simp] theorem State.setPhase_dma (s : State) (i : Nat) (x : PhaseX) (k1 : Nat) : (s.setPhase i x).dma k1 = s.dma k1 := rfl
@[simp] theorem State.setPhase_cap (s : State) (i : Nat) (x : PhaseX) (k1 : Nat) : (s.setPhase i x).cap k1 = s.cap k1 := rfl
@[simp] theorem State.setPhase_casLane (s : State) (i : Nat) (x : PhaseX) (k1 : Nat) : (s.setPhase i x).casLane k1 = s.casLane k1 := rfl

/-! State.setFelt. -/

@[simp] theorem State.setFelt_regs (s : State) (i : Nat) (x : FeltX) : (s.setFelt i x).regs = s.regs := rfl
@[simp] theorem State.setFelt_mem (s : State) (i : Nat) (x : FeltX) : (s.setFelt i x).mem = s.mem := rfl
@[simp] theorem State.setFelt_lineNs (s : State) (i : Nat) (x : FeltX) : (s.setFelt i x).lineNs = s.lineNs := rfl
@[simp] theorem State.setFelt_timeOfs (s : State) (i : Nat) (x : FeltX) : (s.setFelt i x).timeOfs = s.timeOfs := rfl
@[simp] theorem State.setFelt_snaps (s : State) (i : Nat) (x : FeltX) : (s.setFelt i x).snaps = s.snaps := rfl
@[simp] theorem State.setFelt_reports (s : State) (i : Nat) (x : FeltX) : (s.setFelt i x).reports = s.reports := rfl
@[simp] theorem State.setFelt_fc (s : State) (i : Nat) (x : FeltX) : (s.setFelt i x).fc = s.fc := rfl
@[simp] theorem State.setFelt_pulses (s : State) (i : Nat) (x : FeltX) : (s.setFelt i x).pulses = s.pulses := rfl
@[simp] theorem State.setFelt_tinFlags (s : State) (i : Nat) (x : FeltX) : (s.setFelt i x).tinFlags = s.tinFlags := rfl
@[simp] theorem State.setFelt_tio (s : State) (i : Nat) (x : FeltX) : (s.setFelt i x).tio = s.tio := rfl
@[simp] theorem State.setFelt_dmaArr (s : State) (i : Nat) (x : FeltX) : (s.setFelt i x).dmaArr = s.dmaArr := rfl
@[simp] theorem State.setFelt_tmrs (s : State) (i : Nat) (x : FeltX) : (s.setFelt i x).tmrs = s.tmrs := rfl
@[simp] theorem State.setFelt_freeCount (s : State) (i : Nat) (x : FeltX) : (s.setFelt i x).freeCount = s.freeCount := rfl
@[simp] theorem State.setFelt_lanes (s : State) (i : Nat) (x : FeltX) : (s.setFelt i x).lanes = s.lanes := rfl
@[simp] theorem State.setFelt_phases (s : State) (i : Nat) (x : FeltX) : (s.setFelt i x).phases = s.phases := rfl
@[simp] theorem State.setFelt_lists (s : State) (i : Nat) (x : FeltX) : (s.setFelt i x).lists = s.lists := rfl
@[simp] theorem State.setFelt_sync (s : State) (i : Nat) (x : FeltX) : (s.setFelt i x).sync = s.sync := rfl
@[simp] theorem State.setFelt_time (s : State) (i : Nat) (x : FeltX) : (s.setFelt i x).time = s.time := rfl
@[simp] theorem State.setFelt_monTrk (s : State) (i : Nat) (x : FeltX) : (s.setFelt i x).monTrk = s.monTrk := rfl
@[simp] theorem State.setFelt_casRx (s : State) (i : Nat) (x : FeltX) : (s.setFelt i x).casRx = s.casRx := rfl
@[simp] theorem State.setFelt_adm (s : State) (i : Nat) (x : FeltX) : (s.setFelt i x).adm = s.adm := rfl
@[simp] theorem State.setFelt_casOut (s : State) (i : Nat) (x : FeltX) : (s.setFelt i x).casOut = s.casOut := rfl
@[simp] theorem State.setFelt_ilkHold (s : State) (i : Nat) (x : FeltX) : (s.setFelt i x).ilkHold = s.ilkHold := rfl
@[simp] theorem State.setFelt_forceOff (s : State) (i : Nat) (x : FeltX) : (s.setFelt i x).forceOff = s.forceOff := rfl
@[simp] theorem State.setFelt_nv (s : State) (i : Nat) (x : FeltX) : (s.setFelt i x).nv = s.nv := rfl
@[simp] theorem State.setFelt_houses (s : State) (i : Nat) (x : FeltX) : (s.setFelt i x).houses = s.houses := rfl
@[simp] theorem State.setFelt_bus (s : State) (i : Nat) (x : FeltX) : (s.setFelt i x).bus = s.bus := rfl
@[simp] theorem State.setFelt_ilkHouse (s : State) (i : Nat) (x : FeltX) : (s.setFelt i x).ilkHouse = s.ilkHouse := rfl
@[simp] theorem State.setFelt_ports (s : State) (i : Nat) (x : FeltX) : (s.setFelt i x).ports = s.ports := rfl
@[simp] theorem State.setFelt_portFelt (s : State) (i : Nat) (x : FeltX) : (s.setFelt i x).portFelt = s.portFelt := rfl
@[simp] theorem State.setFelt_gauges (s : State) (i : Nat) (x : FeltX) : (s.setFelt i x).gauges = s.gauges := rfl
@[simp] theorem State.setFelt_gauRec (s : State) (i : Nat) (x : FeltX) : (s.setFelt i x).gauRec = s.gauRec := rfl
@[simp] theorem State.setFelt_engines (s : State) (i : Nat) (x : FeltX) : (s.setFelt i x).engines = s.engines := rfl
@[simp] theorem State.setFelt_dmas (s : State) (i : Nat) (x : FeltX) : (s.setFelt i x).dmas = s.dmas := rfl
@[simp] theorem State.setFelt_caps (s : State) (i : Nat) (x : FeltX) : (s.setFelt i x).caps = s.caps := rfl
@[simp] theorem State.setFelt_dmaDone (s : State) (i : Nat) (x : FeltX) : (s.setFelt i x).dmaDone = s.dmaDone := rfl
@[simp] theorem State.setFelt_dmaLast (s : State) (i : Nat) (x : FeltX) : (s.setFelt i x).dmaLast = s.dmaLast := rfl
@[simp] theorem State.setFelt_expQ (s : State) (i : Nat) (x : FeltX) : (s.setFelt i x).expQ = s.expQ := rfl
@[simp] theorem State.setFelt_sup (s : State) (i : Nat) (x : FeltX) : (s.setFelt i x).sup = s.sup := rfl
@[simp] theorem State.setFelt_img (s : State) (i : Nat) (x : FeltX) : (s.setFelt i x).img = s.img := rfl
@[simp] theorem State.setFelt_flash (s : State) (i : Nat) (x : FeltX) : (s.setFelt i x).flash = s.flash := rfl
@[simp] theorem State.setFelt_pwr (s : State) (i : Nat) (x : FeltX) : (s.setFelt i x).pwr = s.pwr := rfl
@[simp] theorem State.setFelt_host (s : State) (i : Nat) (x : FeltX) : (s.setFelt i x).host = s.host := rfl
@[simp] theorem State.setFelt_casLanes (s : State) (i : Nat) (x : FeltX) : (s.setFelt i x).casLanes = s.casLanes := rfl
@[simp] theorem State.setFelt_cas (s : State) (i : Nat) (x : FeltX) : (s.setFelt i x).cas = s.cas := rfl
@[simp] theorem State.setFelt_svc (s : State) (i : Nat) (x : FeltX) : (s.setFelt i x).svc = s.svc := rfl
@[simp] theorem State.setFelt_pending (s : State) (i : Nat) (x : FeltX) : (s.setFelt i x).pending = s.pending := rfl
@[simp] theorem State.setFelt_rd (s : State) (i : Nat) (x : FeltX) (k1 : Nat) : (s.setFelt i x).rd k1 = s.rd k1 := rfl
@[simp] theorem State.setFelt_fld (s : State) (i : Nat) (x : FeltX) (c1 : Nat) (G : Fld) : (s.setFelt i x).fld c1 G = s.fld c1 G := rfl
@[simp] theorem State.setFelt_flag (s : State) (i : Nat) (x : FeltX) (c1 : Nat) (G : Fld) : (s.setFelt i x).flag c1 G = s.flag c1 G := rfl
@[simp] theorem State.setFelt_byte (s : State) (i : Nat) (x : FeltX) (k1 : Nat) : (s.setFelt i x).byte k1 = s.byte k1 := rfl
@[simp] theorem State.setFelt_memWord (s : State) (i : Nat) (x : FeltX) (k1 : Nat) : (s.setFelt i x).memWord k1 = s.memWord k1 := rfl
@[simp] theorem State.setFelt_timer (s : State) (i : Nat) (x : FeltX) (k1 : Nat) : (s.setFelt i x).timer k1 = s.timer k1 := rfl
@[simp] theorem State.setFelt_lane (s : State) (i : Nat) (x : FeltX) (k1 : Nat) : (s.setFelt i x).lane k1 = s.lane k1 := rfl
@[simp] theorem State.setFelt_phase (s : State) (i : Nat) (x : FeltX) (k1 : Nat) : (s.setFelt i x).phase k1 = s.phase k1 := rfl
@[simp] theorem State.setFelt_wf (s : State) (i : Nat) (x : FeltX) (k1 : Nat) : (s.setFelt i x).wf k1 = s.wf k1 := rfl
@[simp] theorem State.setFelt_house (s : State) (i : Nat) (x : FeltX) (k1 : Nat) : (s.setFelt i x).house k1 = s.house k1 := rfl
@[simp] theorem State.setFelt_port (s : State) (i : Nat) (x : FeltX) (k1 : Nat) : (s.setFelt i x).port k1 = s.port k1 := rfl
@[simp] theorem State.setFelt_gauge (s : State) (i : Nat) (x : FeltX) (k1 : Nat) : (s.setFelt i x).gauge k1 = s.gauge k1 := rfl
@[simp] theorem State.setFelt_engine (s : State) (i : Nat) (x : FeltX) (k1 : Nat) : (s.setFelt i x).engine k1 = s.engine k1 := rfl
@[simp] theorem State.setFelt_dma (s : State) (i : Nat) (x : FeltX) (k1 : Nat) : (s.setFelt i x).dma k1 = s.dma k1 := rfl
@[simp] theorem State.setFelt_cap (s : State) (i : Nat) (x : FeltX) (k1 : Nat) : (s.setFelt i x).cap k1 = s.cap k1 := rfl
@[simp] theorem State.setFelt_casLane (s : State) (i : Nat) (x : FeltX) (k1 : Nat) : (s.setFelt i x).casLane k1 = s.casLane k1 := rfl

/-! State.setWf. -/

@[simp] theorem State.setWf_regs (s : State) (i : Nat) (x : ListX) : (s.setWf i x).regs = s.regs := rfl
@[simp] theorem State.setWf_mem (s : State) (i : Nat) (x : ListX) : (s.setWf i x).mem = s.mem := rfl
@[simp] theorem State.setWf_lineNs (s : State) (i : Nat) (x : ListX) : (s.setWf i x).lineNs = s.lineNs := rfl
@[simp] theorem State.setWf_timeOfs (s : State) (i : Nat) (x : ListX) : (s.setWf i x).timeOfs = s.timeOfs := rfl
@[simp] theorem State.setWf_snaps (s : State) (i : Nat) (x : ListX) : (s.setWf i x).snaps = s.snaps := rfl
@[simp] theorem State.setWf_reports (s : State) (i : Nat) (x : ListX) : (s.setWf i x).reports = s.reports := rfl
@[simp] theorem State.setWf_fc (s : State) (i : Nat) (x : ListX) : (s.setWf i x).fc = s.fc := rfl
@[simp] theorem State.setWf_pulses (s : State) (i : Nat) (x : ListX) : (s.setWf i x).pulses = s.pulses := rfl
@[simp] theorem State.setWf_tinFlags (s : State) (i : Nat) (x : ListX) : (s.setWf i x).tinFlags = s.tinFlags := rfl
@[simp] theorem State.setWf_tio (s : State) (i : Nat) (x : ListX) : (s.setWf i x).tio = s.tio := rfl
@[simp] theorem State.setWf_dmaArr (s : State) (i : Nat) (x : ListX) : (s.setWf i x).dmaArr = s.dmaArr := rfl
@[simp] theorem State.setWf_tmrs (s : State) (i : Nat) (x : ListX) : (s.setWf i x).tmrs = s.tmrs := rfl
@[simp] theorem State.setWf_freeCount (s : State) (i : Nat) (x : ListX) : (s.setWf i x).freeCount = s.freeCount := rfl
@[simp] theorem State.setWf_lanes (s : State) (i : Nat) (x : ListX) : (s.setWf i x).lanes = s.lanes := rfl
@[simp] theorem State.setWf_phases (s : State) (i : Nat) (x : ListX) : (s.setWf i x).phases = s.phases := rfl
@[simp] theorem State.setWf_felts (s : State) (i : Nat) (x : ListX) : (s.setWf i x).felts = s.felts := rfl
@[simp] theorem State.setWf_sync (s : State) (i : Nat) (x : ListX) : (s.setWf i x).sync = s.sync := rfl
@[simp] theorem State.setWf_time (s : State) (i : Nat) (x : ListX) : (s.setWf i x).time = s.time := rfl
@[simp] theorem State.setWf_monTrk (s : State) (i : Nat) (x : ListX) : (s.setWf i x).monTrk = s.monTrk := rfl
@[simp] theorem State.setWf_casRx (s : State) (i : Nat) (x : ListX) : (s.setWf i x).casRx = s.casRx := rfl
@[simp] theorem State.setWf_adm (s : State) (i : Nat) (x : ListX) : (s.setWf i x).adm = s.adm := rfl
@[simp] theorem State.setWf_casOut (s : State) (i : Nat) (x : ListX) : (s.setWf i x).casOut = s.casOut := rfl
@[simp] theorem State.setWf_ilkHold (s : State) (i : Nat) (x : ListX) : (s.setWf i x).ilkHold = s.ilkHold := rfl
@[simp] theorem State.setWf_forceOff (s : State) (i : Nat) (x : ListX) : (s.setWf i x).forceOff = s.forceOff := rfl
@[simp] theorem State.setWf_nv (s : State) (i : Nat) (x : ListX) : (s.setWf i x).nv = s.nv := rfl
@[simp] theorem State.setWf_houses (s : State) (i : Nat) (x : ListX) : (s.setWf i x).houses = s.houses := rfl
@[simp] theorem State.setWf_bus (s : State) (i : Nat) (x : ListX) : (s.setWf i x).bus = s.bus := rfl
@[simp] theorem State.setWf_ilkHouse (s : State) (i : Nat) (x : ListX) : (s.setWf i x).ilkHouse = s.ilkHouse := rfl
@[simp] theorem State.setWf_ports (s : State) (i : Nat) (x : ListX) : (s.setWf i x).ports = s.ports := rfl
@[simp] theorem State.setWf_portFelt (s : State) (i : Nat) (x : ListX) : (s.setWf i x).portFelt = s.portFelt := rfl
@[simp] theorem State.setWf_gauges (s : State) (i : Nat) (x : ListX) : (s.setWf i x).gauges = s.gauges := rfl
@[simp] theorem State.setWf_gauRec (s : State) (i : Nat) (x : ListX) : (s.setWf i x).gauRec = s.gauRec := rfl
@[simp] theorem State.setWf_engines (s : State) (i : Nat) (x : ListX) : (s.setWf i x).engines = s.engines := rfl
@[simp] theorem State.setWf_dmas (s : State) (i : Nat) (x : ListX) : (s.setWf i x).dmas = s.dmas := rfl
@[simp] theorem State.setWf_caps (s : State) (i : Nat) (x : ListX) : (s.setWf i x).caps = s.caps := rfl
@[simp] theorem State.setWf_dmaDone (s : State) (i : Nat) (x : ListX) : (s.setWf i x).dmaDone = s.dmaDone := rfl
@[simp] theorem State.setWf_dmaLast (s : State) (i : Nat) (x : ListX) : (s.setWf i x).dmaLast = s.dmaLast := rfl
@[simp] theorem State.setWf_expQ (s : State) (i : Nat) (x : ListX) : (s.setWf i x).expQ = s.expQ := rfl
@[simp] theorem State.setWf_sup (s : State) (i : Nat) (x : ListX) : (s.setWf i x).sup = s.sup := rfl
@[simp] theorem State.setWf_img (s : State) (i : Nat) (x : ListX) : (s.setWf i x).img = s.img := rfl
@[simp] theorem State.setWf_flash (s : State) (i : Nat) (x : ListX) : (s.setWf i x).flash = s.flash := rfl
@[simp] theorem State.setWf_pwr (s : State) (i : Nat) (x : ListX) : (s.setWf i x).pwr = s.pwr := rfl
@[simp] theorem State.setWf_host (s : State) (i : Nat) (x : ListX) : (s.setWf i x).host = s.host := rfl
@[simp] theorem State.setWf_casLanes (s : State) (i : Nat) (x : ListX) : (s.setWf i x).casLanes = s.casLanes := rfl
@[simp] theorem State.setWf_cas (s : State) (i : Nat) (x : ListX) : (s.setWf i x).cas = s.cas := rfl
@[simp] theorem State.setWf_svc (s : State) (i : Nat) (x : ListX) : (s.setWf i x).svc = s.svc := rfl
@[simp] theorem State.setWf_pending (s : State) (i : Nat) (x : ListX) : (s.setWf i x).pending = s.pending := rfl
@[simp] theorem State.setWf_rd (s : State) (i : Nat) (x : ListX) (k1 : Nat) : (s.setWf i x).rd k1 = s.rd k1 := rfl
@[simp] theorem State.setWf_fld (s : State) (i : Nat) (x : ListX) (c1 : Nat) (G : Fld) : (s.setWf i x).fld c1 G = s.fld c1 G := rfl
@[simp] theorem State.setWf_flag (s : State) (i : Nat) (x : ListX) (c1 : Nat) (G : Fld) : (s.setWf i x).flag c1 G = s.flag c1 G := rfl
@[simp] theorem State.setWf_byte (s : State) (i : Nat) (x : ListX) (k1 : Nat) : (s.setWf i x).byte k1 = s.byte k1 := rfl
@[simp] theorem State.setWf_memWord (s : State) (i : Nat) (x : ListX) (k1 : Nat) : (s.setWf i x).memWord k1 = s.memWord k1 := rfl
@[simp] theorem State.setWf_timer (s : State) (i : Nat) (x : ListX) (k1 : Nat) : (s.setWf i x).timer k1 = s.timer k1 := rfl
@[simp] theorem State.setWf_lane (s : State) (i : Nat) (x : ListX) (k1 : Nat) : (s.setWf i x).lane k1 = s.lane k1 := rfl
@[simp] theorem State.setWf_phase (s : State) (i : Nat) (x : ListX) (k1 : Nat) : (s.setWf i x).phase k1 = s.phase k1 := rfl
@[simp] theorem State.setWf_felt (s : State) (i : Nat) (x : ListX) (k1 : Nat) : (s.setWf i x).felt k1 = s.felt k1 := rfl
@[simp] theorem State.setWf_house (s : State) (i : Nat) (x : ListX) (k1 : Nat) : (s.setWf i x).house k1 = s.house k1 := rfl
@[simp] theorem State.setWf_port (s : State) (i : Nat) (x : ListX) (k1 : Nat) : (s.setWf i x).port k1 = s.port k1 := rfl
@[simp] theorem State.setWf_gauge (s : State) (i : Nat) (x : ListX) (k1 : Nat) : (s.setWf i x).gauge k1 = s.gauge k1 := rfl
@[simp] theorem State.setWf_engine (s : State) (i : Nat) (x : ListX) (k1 : Nat) : (s.setWf i x).engine k1 = s.engine k1 := rfl
@[simp] theorem State.setWf_dma (s : State) (i : Nat) (x : ListX) (k1 : Nat) : (s.setWf i x).dma k1 = s.dma k1 := rfl
@[simp] theorem State.setWf_cap (s : State) (i : Nat) (x : ListX) (k1 : Nat) : (s.setWf i x).cap k1 = s.cap k1 := rfl
@[simp] theorem State.setWf_casLane (s : State) (i : Nat) (x : ListX) (k1 : Nat) : (s.setWf i x).casLane k1 = s.casLane k1 := rfl

/-! State.setHouse. -/

@[simp] theorem State.setHouse_regs (s : State) (i : Nat) (x : HouseX) : (s.setHouse i x).regs = s.regs := rfl
@[simp] theorem State.setHouse_mem (s : State) (i : Nat) (x : HouseX) : (s.setHouse i x).mem = s.mem := rfl
@[simp] theorem State.setHouse_lineNs (s : State) (i : Nat) (x : HouseX) : (s.setHouse i x).lineNs = s.lineNs := rfl
@[simp] theorem State.setHouse_timeOfs (s : State) (i : Nat) (x : HouseX) : (s.setHouse i x).timeOfs = s.timeOfs := rfl
@[simp] theorem State.setHouse_snaps (s : State) (i : Nat) (x : HouseX) : (s.setHouse i x).snaps = s.snaps := rfl
@[simp] theorem State.setHouse_reports (s : State) (i : Nat) (x : HouseX) : (s.setHouse i x).reports = s.reports := rfl
@[simp] theorem State.setHouse_fc (s : State) (i : Nat) (x : HouseX) : (s.setHouse i x).fc = s.fc := rfl
@[simp] theorem State.setHouse_pulses (s : State) (i : Nat) (x : HouseX) : (s.setHouse i x).pulses = s.pulses := rfl
@[simp] theorem State.setHouse_tinFlags (s : State) (i : Nat) (x : HouseX) : (s.setHouse i x).tinFlags = s.tinFlags := rfl
@[simp] theorem State.setHouse_tio (s : State) (i : Nat) (x : HouseX) : (s.setHouse i x).tio = s.tio := rfl
@[simp] theorem State.setHouse_dmaArr (s : State) (i : Nat) (x : HouseX) : (s.setHouse i x).dmaArr = s.dmaArr := rfl
@[simp] theorem State.setHouse_tmrs (s : State) (i : Nat) (x : HouseX) : (s.setHouse i x).tmrs = s.tmrs := rfl
@[simp] theorem State.setHouse_freeCount (s : State) (i : Nat) (x : HouseX) : (s.setHouse i x).freeCount = s.freeCount := rfl
@[simp] theorem State.setHouse_lanes (s : State) (i : Nat) (x : HouseX) : (s.setHouse i x).lanes = s.lanes := rfl
@[simp] theorem State.setHouse_phases (s : State) (i : Nat) (x : HouseX) : (s.setHouse i x).phases = s.phases := rfl
@[simp] theorem State.setHouse_felts (s : State) (i : Nat) (x : HouseX) : (s.setHouse i x).felts = s.felts := rfl
@[simp] theorem State.setHouse_lists (s : State) (i : Nat) (x : HouseX) : (s.setHouse i x).lists = s.lists := rfl
@[simp] theorem State.setHouse_sync (s : State) (i : Nat) (x : HouseX) : (s.setHouse i x).sync = s.sync := rfl
@[simp] theorem State.setHouse_time (s : State) (i : Nat) (x : HouseX) : (s.setHouse i x).time = s.time := rfl
@[simp] theorem State.setHouse_monTrk (s : State) (i : Nat) (x : HouseX) : (s.setHouse i x).monTrk = s.monTrk := rfl
@[simp] theorem State.setHouse_casRx (s : State) (i : Nat) (x : HouseX) : (s.setHouse i x).casRx = s.casRx := rfl
@[simp] theorem State.setHouse_adm (s : State) (i : Nat) (x : HouseX) : (s.setHouse i x).adm = s.adm := rfl
@[simp] theorem State.setHouse_casOut (s : State) (i : Nat) (x : HouseX) : (s.setHouse i x).casOut = s.casOut := rfl
@[simp] theorem State.setHouse_ilkHold (s : State) (i : Nat) (x : HouseX) : (s.setHouse i x).ilkHold = s.ilkHold := rfl
@[simp] theorem State.setHouse_forceOff (s : State) (i : Nat) (x : HouseX) : (s.setHouse i x).forceOff = s.forceOff := rfl
@[simp] theorem State.setHouse_nv (s : State) (i : Nat) (x : HouseX) : (s.setHouse i x).nv = s.nv := rfl
@[simp] theorem State.setHouse_bus (s : State) (i : Nat) (x : HouseX) : (s.setHouse i x).bus = s.bus := rfl
@[simp] theorem State.setHouse_ilkHouse (s : State) (i : Nat) (x : HouseX) : (s.setHouse i x).ilkHouse = s.ilkHouse := rfl
@[simp] theorem State.setHouse_ports (s : State) (i : Nat) (x : HouseX) : (s.setHouse i x).ports = s.ports := rfl
@[simp] theorem State.setHouse_portFelt (s : State) (i : Nat) (x : HouseX) : (s.setHouse i x).portFelt = s.portFelt := rfl
@[simp] theorem State.setHouse_gauges (s : State) (i : Nat) (x : HouseX) : (s.setHouse i x).gauges = s.gauges := rfl
@[simp] theorem State.setHouse_gauRec (s : State) (i : Nat) (x : HouseX) : (s.setHouse i x).gauRec = s.gauRec := rfl
@[simp] theorem State.setHouse_engines (s : State) (i : Nat) (x : HouseX) : (s.setHouse i x).engines = s.engines := rfl
@[simp] theorem State.setHouse_dmas (s : State) (i : Nat) (x : HouseX) : (s.setHouse i x).dmas = s.dmas := rfl
@[simp] theorem State.setHouse_caps (s : State) (i : Nat) (x : HouseX) : (s.setHouse i x).caps = s.caps := rfl
@[simp] theorem State.setHouse_dmaDone (s : State) (i : Nat) (x : HouseX) : (s.setHouse i x).dmaDone = s.dmaDone := rfl
@[simp] theorem State.setHouse_dmaLast (s : State) (i : Nat) (x : HouseX) : (s.setHouse i x).dmaLast = s.dmaLast := rfl
@[simp] theorem State.setHouse_expQ (s : State) (i : Nat) (x : HouseX) : (s.setHouse i x).expQ = s.expQ := rfl
@[simp] theorem State.setHouse_sup (s : State) (i : Nat) (x : HouseX) : (s.setHouse i x).sup = s.sup := rfl
@[simp] theorem State.setHouse_img (s : State) (i : Nat) (x : HouseX) : (s.setHouse i x).img = s.img := rfl
@[simp] theorem State.setHouse_flash (s : State) (i : Nat) (x : HouseX) : (s.setHouse i x).flash = s.flash := rfl
@[simp] theorem State.setHouse_pwr (s : State) (i : Nat) (x : HouseX) : (s.setHouse i x).pwr = s.pwr := rfl
@[simp] theorem State.setHouse_host (s : State) (i : Nat) (x : HouseX) : (s.setHouse i x).host = s.host := rfl
@[simp] theorem State.setHouse_casLanes (s : State) (i : Nat) (x : HouseX) : (s.setHouse i x).casLanes = s.casLanes := rfl
@[simp] theorem State.setHouse_cas (s : State) (i : Nat) (x : HouseX) : (s.setHouse i x).cas = s.cas := rfl
@[simp] theorem State.setHouse_svc (s : State) (i : Nat) (x : HouseX) : (s.setHouse i x).svc = s.svc := rfl
@[simp] theorem State.setHouse_pending (s : State) (i : Nat) (x : HouseX) : (s.setHouse i x).pending = s.pending := rfl
@[simp] theorem State.setHouse_rd (s : State) (i : Nat) (x : HouseX) (k1 : Nat) : (s.setHouse i x).rd k1 = s.rd k1 := rfl
@[simp] theorem State.setHouse_fld (s : State) (i : Nat) (x : HouseX) (c1 : Nat) (G : Fld) : (s.setHouse i x).fld c1 G = s.fld c1 G := rfl
@[simp] theorem State.setHouse_flag (s : State) (i : Nat) (x : HouseX) (c1 : Nat) (G : Fld) : (s.setHouse i x).flag c1 G = s.flag c1 G := rfl
@[simp] theorem State.setHouse_byte (s : State) (i : Nat) (x : HouseX) (k1 : Nat) : (s.setHouse i x).byte k1 = s.byte k1 := rfl
@[simp] theorem State.setHouse_memWord (s : State) (i : Nat) (x : HouseX) (k1 : Nat) : (s.setHouse i x).memWord k1 = s.memWord k1 := rfl
@[simp] theorem State.setHouse_timer (s : State) (i : Nat) (x : HouseX) (k1 : Nat) : (s.setHouse i x).timer k1 = s.timer k1 := rfl
@[simp] theorem State.setHouse_lane (s : State) (i : Nat) (x : HouseX) (k1 : Nat) : (s.setHouse i x).lane k1 = s.lane k1 := rfl
@[simp] theorem State.setHouse_phase (s : State) (i : Nat) (x : HouseX) (k1 : Nat) : (s.setHouse i x).phase k1 = s.phase k1 := rfl
@[simp] theorem State.setHouse_felt (s : State) (i : Nat) (x : HouseX) (k1 : Nat) : (s.setHouse i x).felt k1 = s.felt k1 := rfl
@[simp] theorem State.setHouse_wf (s : State) (i : Nat) (x : HouseX) (k1 : Nat) : (s.setHouse i x).wf k1 = s.wf k1 := rfl
@[simp] theorem State.setHouse_port (s : State) (i : Nat) (x : HouseX) (k1 : Nat) : (s.setHouse i x).port k1 = s.port k1 := rfl
@[simp] theorem State.setHouse_gauge (s : State) (i : Nat) (x : HouseX) (k1 : Nat) : (s.setHouse i x).gauge k1 = s.gauge k1 := rfl
@[simp] theorem State.setHouse_engine (s : State) (i : Nat) (x : HouseX) (k1 : Nat) : (s.setHouse i x).engine k1 = s.engine k1 := rfl
@[simp] theorem State.setHouse_dma (s : State) (i : Nat) (x : HouseX) (k1 : Nat) : (s.setHouse i x).dma k1 = s.dma k1 := rfl
@[simp] theorem State.setHouse_cap (s : State) (i : Nat) (x : HouseX) (k1 : Nat) : (s.setHouse i x).cap k1 = s.cap k1 := rfl
@[simp] theorem State.setHouse_casLane (s : State) (i : Nat) (x : HouseX) (k1 : Nat) : (s.setHouse i x).casLane k1 = s.casLane k1 := rfl

/-! State.setPort. -/

@[simp] theorem State.setPort_regs (s : State) (i : Nat) (x : PortX) : (s.setPort i x).regs = s.regs := rfl
@[simp] theorem State.setPort_mem (s : State) (i : Nat) (x : PortX) : (s.setPort i x).mem = s.mem := rfl
@[simp] theorem State.setPort_lineNs (s : State) (i : Nat) (x : PortX) : (s.setPort i x).lineNs = s.lineNs := rfl
@[simp] theorem State.setPort_timeOfs (s : State) (i : Nat) (x : PortX) : (s.setPort i x).timeOfs = s.timeOfs := rfl
@[simp] theorem State.setPort_snaps (s : State) (i : Nat) (x : PortX) : (s.setPort i x).snaps = s.snaps := rfl
@[simp] theorem State.setPort_reports (s : State) (i : Nat) (x : PortX) : (s.setPort i x).reports = s.reports := rfl
@[simp] theorem State.setPort_fc (s : State) (i : Nat) (x : PortX) : (s.setPort i x).fc = s.fc := rfl
@[simp] theorem State.setPort_pulses (s : State) (i : Nat) (x : PortX) : (s.setPort i x).pulses = s.pulses := rfl
@[simp] theorem State.setPort_tinFlags (s : State) (i : Nat) (x : PortX) : (s.setPort i x).tinFlags = s.tinFlags := rfl
@[simp] theorem State.setPort_tio (s : State) (i : Nat) (x : PortX) : (s.setPort i x).tio = s.tio := rfl
@[simp] theorem State.setPort_dmaArr (s : State) (i : Nat) (x : PortX) : (s.setPort i x).dmaArr = s.dmaArr := rfl
@[simp] theorem State.setPort_tmrs (s : State) (i : Nat) (x : PortX) : (s.setPort i x).tmrs = s.tmrs := rfl
@[simp] theorem State.setPort_freeCount (s : State) (i : Nat) (x : PortX) : (s.setPort i x).freeCount = s.freeCount := rfl
@[simp] theorem State.setPort_lanes (s : State) (i : Nat) (x : PortX) : (s.setPort i x).lanes = s.lanes := rfl
@[simp] theorem State.setPort_phases (s : State) (i : Nat) (x : PortX) : (s.setPort i x).phases = s.phases := rfl
@[simp] theorem State.setPort_felts (s : State) (i : Nat) (x : PortX) : (s.setPort i x).felts = s.felts := rfl
@[simp] theorem State.setPort_lists (s : State) (i : Nat) (x : PortX) : (s.setPort i x).lists = s.lists := rfl
@[simp] theorem State.setPort_sync (s : State) (i : Nat) (x : PortX) : (s.setPort i x).sync = s.sync := rfl
@[simp] theorem State.setPort_time (s : State) (i : Nat) (x : PortX) : (s.setPort i x).time = s.time := rfl
@[simp] theorem State.setPort_monTrk (s : State) (i : Nat) (x : PortX) : (s.setPort i x).monTrk = s.monTrk := rfl
@[simp] theorem State.setPort_casRx (s : State) (i : Nat) (x : PortX) : (s.setPort i x).casRx = s.casRx := rfl
@[simp] theorem State.setPort_adm (s : State) (i : Nat) (x : PortX) : (s.setPort i x).adm = s.adm := rfl
@[simp] theorem State.setPort_casOut (s : State) (i : Nat) (x : PortX) : (s.setPort i x).casOut = s.casOut := rfl
@[simp] theorem State.setPort_ilkHold (s : State) (i : Nat) (x : PortX) : (s.setPort i x).ilkHold = s.ilkHold := rfl
@[simp] theorem State.setPort_forceOff (s : State) (i : Nat) (x : PortX) : (s.setPort i x).forceOff = s.forceOff := rfl
@[simp] theorem State.setPort_nv (s : State) (i : Nat) (x : PortX) : (s.setPort i x).nv = s.nv := rfl
@[simp] theorem State.setPort_houses (s : State) (i : Nat) (x : PortX) : (s.setPort i x).houses = s.houses := rfl
@[simp] theorem State.setPort_bus (s : State) (i : Nat) (x : PortX) : (s.setPort i x).bus = s.bus := rfl
@[simp] theorem State.setPort_ilkHouse (s : State) (i : Nat) (x : PortX) : (s.setPort i x).ilkHouse = s.ilkHouse := rfl
@[simp] theorem State.setPort_portFelt (s : State) (i : Nat) (x : PortX) : (s.setPort i x).portFelt = s.portFelt := rfl
@[simp] theorem State.setPort_gauges (s : State) (i : Nat) (x : PortX) : (s.setPort i x).gauges = s.gauges := rfl
@[simp] theorem State.setPort_gauRec (s : State) (i : Nat) (x : PortX) : (s.setPort i x).gauRec = s.gauRec := rfl
@[simp] theorem State.setPort_engines (s : State) (i : Nat) (x : PortX) : (s.setPort i x).engines = s.engines := rfl
@[simp] theorem State.setPort_dmas (s : State) (i : Nat) (x : PortX) : (s.setPort i x).dmas = s.dmas := rfl
@[simp] theorem State.setPort_caps (s : State) (i : Nat) (x : PortX) : (s.setPort i x).caps = s.caps := rfl
@[simp] theorem State.setPort_dmaDone (s : State) (i : Nat) (x : PortX) : (s.setPort i x).dmaDone = s.dmaDone := rfl
@[simp] theorem State.setPort_dmaLast (s : State) (i : Nat) (x : PortX) : (s.setPort i x).dmaLast = s.dmaLast := rfl
@[simp] theorem State.setPort_expQ (s : State) (i : Nat) (x : PortX) : (s.setPort i x).expQ = s.expQ := rfl
@[simp] theorem State.setPort_sup (s : State) (i : Nat) (x : PortX) : (s.setPort i x).sup = s.sup := rfl
@[simp] theorem State.setPort_img (s : State) (i : Nat) (x : PortX) : (s.setPort i x).img = s.img := rfl
@[simp] theorem State.setPort_flash (s : State) (i : Nat) (x : PortX) : (s.setPort i x).flash = s.flash := rfl
@[simp] theorem State.setPort_pwr (s : State) (i : Nat) (x : PortX) : (s.setPort i x).pwr = s.pwr := rfl
@[simp] theorem State.setPort_host (s : State) (i : Nat) (x : PortX) : (s.setPort i x).host = s.host := rfl
@[simp] theorem State.setPort_casLanes (s : State) (i : Nat) (x : PortX) : (s.setPort i x).casLanes = s.casLanes := rfl
@[simp] theorem State.setPort_cas (s : State) (i : Nat) (x : PortX) : (s.setPort i x).cas = s.cas := rfl
@[simp] theorem State.setPort_svc (s : State) (i : Nat) (x : PortX) : (s.setPort i x).svc = s.svc := rfl
@[simp] theorem State.setPort_pending (s : State) (i : Nat) (x : PortX) : (s.setPort i x).pending = s.pending := rfl
@[simp] theorem State.setPort_rd (s : State) (i : Nat) (x : PortX) (k1 : Nat) : (s.setPort i x).rd k1 = s.rd k1 := rfl
@[simp] theorem State.setPort_fld (s : State) (i : Nat) (x : PortX) (c1 : Nat) (G : Fld) : (s.setPort i x).fld c1 G = s.fld c1 G := rfl
@[simp] theorem State.setPort_flag (s : State) (i : Nat) (x : PortX) (c1 : Nat) (G : Fld) : (s.setPort i x).flag c1 G = s.flag c1 G := rfl
@[simp] theorem State.setPort_byte (s : State) (i : Nat) (x : PortX) (k1 : Nat) : (s.setPort i x).byte k1 = s.byte k1 := rfl
@[simp] theorem State.setPort_memWord (s : State) (i : Nat) (x : PortX) (k1 : Nat) : (s.setPort i x).memWord k1 = s.memWord k1 := rfl
@[simp] theorem State.setPort_timer (s : State) (i : Nat) (x : PortX) (k1 : Nat) : (s.setPort i x).timer k1 = s.timer k1 := rfl
@[simp] theorem State.setPort_lane (s : State) (i : Nat) (x : PortX) (k1 : Nat) : (s.setPort i x).lane k1 = s.lane k1 := rfl
@[simp] theorem State.setPort_phase (s : State) (i : Nat) (x : PortX) (k1 : Nat) : (s.setPort i x).phase k1 = s.phase k1 := rfl
@[simp] theorem State.setPort_felt (s : State) (i : Nat) (x : PortX) (k1 : Nat) : (s.setPort i x).felt k1 = s.felt k1 := rfl
@[simp] theorem State.setPort_wf (s : State) (i : Nat) (x : PortX) (k1 : Nat) : (s.setPort i x).wf k1 = s.wf k1 := rfl
@[simp] theorem State.setPort_house (s : State) (i : Nat) (x : PortX) (k1 : Nat) : (s.setPort i x).house k1 = s.house k1 := rfl
@[simp] theorem State.setPort_gauge (s : State) (i : Nat) (x : PortX) (k1 : Nat) : (s.setPort i x).gauge k1 = s.gauge k1 := rfl
@[simp] theorem State.setPort_engine (s : State) (i : Nat) (x : PortX) (k1 : Nat) : (s.setPort i x).engine k1 = s.engine k1 := rfl
@[simp] theorem State.setPort_dma (s : State) (i : Nat) (x : PortX) (k1 : Nat) : (s.setPort i x).dma k1 = s.dma k1 := rfl
@[simp] theorem State.setPort_cap (s : State) (i : Nat) (x : PortX) (k1 : Nat) : (s.setPort i x).cap k1 = s.cap k1 := rfl
@[simp] theorem State.setPort_casLane (s : State) (i : Nat) (x : PortX) (k1 : Nat) : (s.setPort i x).casLane k1 = s.casLane k1 := rfl

/-! State.setGauge. -/

@[simp] theorem State.setGauge_regs (s : State) (i : Nat) (x : GaugeX) : (s.setGauge i x).regs = s.regs := rfl
@[simp] theorem State.setGauge_mem (s : State) (i : Nat) (x : GaugeX) : (s.setGauge i x).mem = s.mem := rfl
@[simp] theorem State.setGauge_lineNs (s : State) (i : Nat) (x : GaugeX) : (s.setGauge i x).lineNs = s.lineNs := rfl
@[simp] theorem State.setGauge_timeOfs (s : State) (i : Nat) (x : GaugeX) : (s.setGauge i x).timeOfs = s.timeOfs := rfl
@[simp] theorem State.setGauge_snaps (s : State) (i : Nat) (x : GaugeX) : (s.setGauge i x).snaps = s.snaps := rfl
@[simp] theorem State.setGauge_reports (s : State) (i : Nat) (x : GaugeX) : (s.setGauge i x).reports = s.reports := rfl
@[simp] theorem State.setGauge_fc (s : State) (i : Nat) (x : GaugeX) : (s.setGauge i x).fc = s.fc := rfl
@[simp] theorem State.setGauge_pulses (s : State) (i : Nat) (x : GaugeX) : (s.setGauge i x).pulses = s.pulses := rfl
@[simp] theorem State.setGauge_tinFlags (s : State) (i : Nat) (x : GaugeX) : (s.setGauge i x).tinFlags = s.tinFlags := rfl
@[simp] theorem State.setGauge_tio (s : State) (i : Nat) (x : GaugeX) : (s.setGauge i x).tio = s.tio := rfl
@[simp] theorem State.setGauge_dmaArr (s : State) (i : Nat) (x : GaugeX) : (s.setGauge i x).dmaArr = s.dmaArr := rfl
@[simp] theorem State.setGauge_tmrs (s : State) (i : Nat) (x : GaugeX) : (s.setGauge i x).tmrs = s.tmrs := rfl
@[simp] theorem State.setGauge_freeCount (s : State) (i : Nat) (x : GaugeX) : (s.setGauge i x).freeCount = s.freeCount := rfl
@[simp] theorem State.setGauge_lanes (s : State) (i : Nat) (x : GaugeX) : (s.setGauge i x).lanes = s.lanes := rfl
@[simp] theorem State.setGauge_phases (s : State) (i : Nat) (x : GaugeX) : (s.setGauge i x).phases = s.phases := rfl
@[simp] theorem State.setGauge_felts (s : State) (i : Nat) (x : GaugeX) : (s.setGauge i x).felts = s.felts := rfl
@[simp] theorem State.setGauge_lists (s : State) (i : Nat) (x : GaugeX) : (s.setGauge i x).lists = s.lists := rfl
@[simp] theorem State.setGauge_sync (s : State) (i : Nat) (x : GaugeX) : (s.setGauge i x).sync = s.sync := rfl
@[simp] theorem State.setGauge_time (s : State) (i : Nat) (x : GaugeX) : (s.setGauge i x).time = s.time := rfl
@[simp] theorem State.setGauge_monTrk (s : State) (i : Nat) (x : GaugeX) : (s.setGauge i x).monTrk = s.monTrk := rfl
@[simp] theorem State.setGauge_casRx (s : State) (i : Nat) (x : GaugeX) : (s.setGauge i x).casRx = s.casRx := rfl
@[simp] theorem State.setGauge_adm (s : State) (i : Nat) (x : GaugeX) : (s.setGauge i x).adm = s.adm := rfl
@[simp] theorem State.setGauge_casOut (s : State) (i : Nat) (x : GaugeX) : (s.setGauge i x).casOut = s.casOut := rfl
@[simp] theorem State.setGauge_ilkHold (s : State) (i : Nat) (x : GaugeX) : (s.setGauge i x).ilkHold = s.ilkHold := rfl
@[simp] theorem State.setGauge_forceOff (s : State) (i : Nat) (x : GaugeX) : (s.setGauge i x).forceOff = s.forceOff := rfl
@[simp] theorem State.setGauge_nv (s : State) (i : Nat) (x : GaugeX) : (s.setGauge i x).nv = s.nv := rfl
@[simp] theorem State.setGauge_houses (s : State) (i : Nat) (x : GaugeX) : (s.setGauge i x).houses = s.houses := rfl
@[simp] theorem State.setGauge_bus (s : State) (i : Nat) (x : GaugeX) : (s.setGauge i x).bus = s.bus := rfl
@[simp] theorem State.setGauge_ilkHouse (s : State) (i : Nat) (x : GaugeX) : (s.setGauge i x).ilkHouse = s.ilkHouse := rfl
@[simp] theorem State.setGauge_ports (s : State) (i : Nat) (x : GaugeX) : (s.setGauge i x).ports = s.ports := rfl
@[simp] theorem State.setGauge_portFelt (s : State) (i : Nat) (x : GaugeX) : (s.setGauge i x).portFelt = s.portFelt := rfl
@[simp] theorem State.setGauge_gauRec (s : State) (i : Nat) (x : GaugeX) : (s.setGauge i x).gauRec = s.gauRec := rfl
@[simp] theorem State.setGauge_engines (s : State) (i : Nat) (x : GaugeX) : (s.setGauge i x).engines = s.engines := rfl
@[simp] theorem State.setGauge_dmas (s : State) (i : Nat) (x : GaugeX) : (s.setGauge i x).dmas = s.dmas := rfl
@[simp] theorem State.setGauge_caps (s : State) (i : Nat) (x : GaugeX) : (s.setGauge i x).caps = s.caps := rfl
@[simp] theorem State.setGauge_dmaDone (s : State) (i : Nat) (x : GaugeX) : (s.setGauge i x).dmaDone = s.dmaDone := rfl
@[simp] theorem State.setGauge_dmaLast (s : State) (i : Nat) (x : GaugeX) : (s.setGauge i x).dmaLast = s.dmaLast := rfl
@[simp] theorem State.setGauge_expQ (s : State) (i : Nat) (x : GaugeX) : (s.setGauge i x).expQ = s.expQ := rfl
@[simp] theorem State.setGauge_sup (s : State) (i : Nat) (x : GaugeX) : (s.setGauge i x).sup = s.sup := rfl
@[simp] theorem State.setGauge_img (s : State) (i : Nat) (x : GaugeX) : (s.setGauge i x).img = s.img := rfl
@[simp] theorem State.setGauge_flash (s : State) (i : Nat) (x : GaugeX) : (s.setGauge i x).flash = s.flash := rfl
@[simp] theorem State.setGauge_pwr (s : State) (i : Nat) (x : GaugeX) : (s.setGauge i x).pwr = s.pwr := rfl
@[simp] theorem State.setGauge_host (s : State) (i : Nat) (x : GaugeX) : (s.setGauge i x).host = s.host := rfl
@[simp] theorem State.setGauge_casLanes (s : State) (i : Nat) (x : GaugeX) : (s.setGauge i x).casLanes = s.casLanes := rfl
@[simp] theorem State.setGauge_cas (s : State) (i : Nat) (x : GaugeX) : (s.setGauge i x).cas = s.cas := rfl
@[simp] theorem State.setGauge_svc (s : State) (i : Nat) (x : GaugeX) : (s.setGauge i x).svc = s.svc := rfl
@[simp] theorem State.setGauge_pending (s : State) (i : Nat) (x : GaugeX) : (s.setGauge i x).pending = s.pending := rfl
@[simp] theorem State.setGauge_rd (s : State) (i : Nat) (x : GaugeX) (k1 : Nat) : (s.setGauge i x).rd k1 = s.rd k1 := rfl
@[simp] theorem State.setGauge_fld (s : State) (i : Nat) (x : GaugeX) (c1 : Nat) (G : Fld) : (s.setGauge i x).fld c1 G = s.fld c1 G := rfl
@[simp] theorem State.setGauge_flag (s : State) (i : Nat) (x : GaugeX) (c1 : Nat) (G : Fld) : (s.setGauge i x).flag c1 G = s.flag c1 G := rfl
@[simp] theorem State.setGauge_byte (s : State) (i : Nat) (x : GaugeX) (k1 : Nat) : (s.setGauge i x).byte k1 = s.byte k1 := rfl
@[simp] theorem State.setGauge_memWord (s : State) (i : Nat) (x : GaugeX) (k1 : Nat) : (s.setGauge i x).memWord k1 = s.memWord k1 := rfl
@[simp] theorem State.setGauge_timer (s : State) (i : Nat) (x : GaugeX) (k1 : Nat) : (s.setGauge i x).timer k1 = s.timer k1 := rfl
@[simp] theorem State.setGauge_lane (s : State) (i : Nat) (x : GaugeX) (k1 : Nat) : (s.setGauge i x).lane k1 = s.lane k1 := rfl
@[simp] theorem State.setGauge_phase (s : State) (i : Nat) (x : GaugeX) (k1 : Nat) : (s.setGauge i x).phase k1 = s.phase k1 := rfl
@[simp] theorem State.setGauge_felt (s : State) (i : Nat) (x : GaugeX) (k1 : Nat) : (s.setGauge i x).felt k1 = s.felt k1 := rfl
@[simp] theorem State.setGauge_wf (s : State) (i : Nat) (x : GaugeX) (k1 : Nat) : (s.setGauge i x).wf k1 = s.wf k1 := rfl
@[simp] theorem State.setGauge_house (s : State) (i : Nat) (x : GaugeX) (k1 : Nat) : (s.setGauge i x).house k1 = s.house k1 := rfl
@[simp] theorem State.setGauge_port (s : State) (i : Nat) (x : GaugeX) (k1 : Nat) : (s.setGauge i x).port k1 = s.port k1 := rfl
@[simp] theorem State.setGauge_engine (s : State) (i : Nat) (x : GaugeX) (k1 : Nat) : (s.setGauge i x).engine k1 = s.engine k1 := rfl
@[simp] theorem State.setGauge_dma (s : State) (i : Nat) (x : GaugeX) (k1 : Nat) : (s.setGauge i x).dma k1 = s.dma k1 := rfl
@[simp] theorem State.setGauge_cap (s : State) (i : Nat) (x : GaugeX) (k1 : Nat) : (s.setGauge i x).cap k1 = s.cap k1 := rfl
@[simp] theorem State.setGauge_casLane (s : State) (i : Nat) (x : GaugeX) (k1 : Nat) : (s.setGauge i x).casLane k1 = s.casLane k1 := rfl

/-! State.setEngine. -/

@[simp] theorem State.setEngine_regs (s : State) (i : Nat) (x : EngX) : (s.setEngine i x).regs = s.regs := rfl
@[simp] theorem State.setEngine_mem (s : State) (i : Nat) (x : EngX) : (s.setEngine i x).mem = s.mem := rfl
@[simp] theorem State.setEngine_lineNs (s : State) (i : Nat) (x : EngX) : (s.setEngine i x).lineNs = s.lineNs := rfl
@[simp] theorem State.setEngine_timeOfs (s : State) (i : Nat) (x : EngX) : (s.setEngine i x).timeOfs = s.timeOfs := rfl
@[simp] theorem State.setEngine_snaps (s : State) (i : Nat) (x : EngX) : (s.setEngine i x).snaps = s.snaps := rfl
@[simp] theorem State.setEngine_reports (s : State) (i : Nat) (x : EngX) : (s.setEngine i x).reports = s.reports := rfl
@[simp] theorem State.setEngine_fc (s : State) (i : Nat) (x : EngX) : (s.setEngine i x).fc = s.fc := rfl
@[simp] theorem State.setEngine_pulses (s : State) (i : Nat) (x : EngX) : (s.setEngine i x).pulses = s.pulses := rfl
@[simp] theorem State.setEngine_tinFlags (s : State) (i : Nat) (x : EngX) : (s.setEngine i x).tinFlags = s.tinFlags := rfl
@[simp] theorem State.setEngine_tio (s : State) (i : Nat) (x : EngX) : (s.setEngine i x).tio = s.tio := rfl
@[simp] theorem State.setEngine_dmaArr (s : State) (i : Nat) (x : EngX) : (s.setEngine i x).dmaArr = s.dmaArr := rfl
@[simp] theorem State.setEngine_tmrs (s : State) (i : Nat) (x : EngX) : (s.setEngine i x).tmrs = s.tmrs := rfl
@[simp] theorem State.setEngine_freeCount (s : State) (i : Nat) (x : EngX) : (s.setEngine i x).freeCount = s.freeCount := rfl
@[simp] theorem State.setEngine_lanes (s : State) (i : Nat) (x : EngX) : (s.setEngine i x).lanes = s.lanes := rfl
@[simp] theorem State.setEngine_phases (s : State) (i : Nat) (x : EngX) : (s.setEngine i x).phases = s.phases := rfl
@[simp] theorem State.setEngine_felts (s : State) (i : Nat) (x : EngX) : (s.setEngine i x).felts = s.felts := rfl
@[simp] theorem State.setEngine_lists (s : State) (i : Nat) (x : EngX) : (s.setEngine i x).lists = s.lists := rfl
@[simp] theorem State.setEngine_sync (s : State) (i : Nat) (x : EngX) : (s.setEngine i x).sync = s.sync := rfl
@[simp] theorem State.setEngine_time (s : State) (i : Nat) (x : EngX) : (s.setEngine i x).time = s.time := rfl
@[simp] theorem State.setEngine_monTrk (s : State) (i : Nat) (x : EngX) : (s.setEngine i x).monTrk = s.monTrk := rfl
@[simp] theorem State.setEngine_casRx (s : State) (i : Nat) (x : EngX) : (s.setEngine i x).casRx = s.casRx := rfl
@[simp] theorem State.setEngine_adm (s : State) (i : Nat) (x : EngX) : (s.setEngine i x).adm = s.adm := rfl
@[simp] theorem State.setEngine_casOut (s : State) (i : Nat) (x : EngX) : (s.setEngine i x).casOut = s.casOut := rfl
@[simp] theorem State.setEngine_ilkHold (s : State) (i : Nat) (x : EngX) : (s.setEngine i x).ilkHold = s.ilkHold := rfl
@[simp] theorem State.setEngine_forceOff (s : State) (i : Nat) (x : EngX) : (s.setEngine i x).forceOff = s.forceOff := rfl
@[simp] theorem State.setEngine_nv (s : State) (i : Nat) (x : EngX) : (s.setEngine i x).nv = s.nv := rfl
@[simp] theorem State.setEngine_houses (s : State) (i : Nat) (x : EngX) : (s.setEngine i x).houses = s.houses := rfl
@[simp] theorem State.setEngine_bus (s : State) (i : Nat) (x : EngX) : (s.setEngine i x).bus = s.bus := rfl
@[simp] theorem State.setEngine_ilkHouse (s : State) (i : Nat) (x : EngX) : (s.setEngine i x).ilkHouse = s.ilkHouse := rfl
@[simp] theorem State.setEngine_ports (s : State) (i : Nat) (x : EngX) : (s.setEngine i x).ports = s.ports := rfl
@[simp] theorem State.setEngine_portFelt (s : State) (i : Nat) (x : EngX) : (s.setEngine i x).portFelt = s.portFelt := rfl
@[simp] theorem State.setEngine_gauges (s : State) (i : Nat) (x : EngX) : (s.setEngine i x).gauges = s.gauges := rfl
@[simp] theorem State.setEngine_gauRec (s : State) (i : Nat) (x : EngX) : (s.setEngine i x).gauRec = s.gauRec := rfl
@[simp] theorem State.setEngine_dmas (s : State) (i : Nat) (x : EngX) : (s.setEngine i x).dmas = s.dmas := rfl
@[simp] theorem State.setEngine_caps (s : State) (i : Nat) (x : EngX) : (s.setEngine i x).caps = s.caps := rfl
@[simp] theorem State.setEngine_dmaDone (s : State) (i : Nat) (x : EngX) : (s.setEngine i x).dmaDone = s.dmaDone := rfl
@[simp] theorem State.setEngine_dmaLast (s : State) (i : Nat) (x : EngX) : (s.setEngine i x).dmaLast = s.dmaLast := rfl
@[simp] theorem State.setEngine_expQ (s : State) (i : Nat) (x : EngX) : (s.setEngine i x).expQ = s.expQ := rfl
@[simp] theorem State.setEngine_sup (s : State) (i : Nat) (x : EngX) : (s.setEngine i x).sup = s.sup := rfl
@[simp] theorem State.setEngine_img (s : State) (i : Nat) (x : EngX) : (s.setEngine i x).img = s.img := rfl
@[simp] theorem State.setEngine_flash (s : State) (i : Nat) (x : EngX) : (s.setEngine i x).flash = s.flash := rfl
@[simp] theorem State.setEngine_pwr (s : State) (i : Nat) (x : EngX) : (s.setEngine i x).pwr = s.pwr := rfl
@[simp] theorem State.setEngine_host (s : State) (i : Nat) (x : EngX) : (s.setEngine i x).host = s.host := rfl
@[simp] theorem State.setEngine_casLanes (s : State) (i : Nat) (x : EngX) : (s.setEngine i x).casLanes = s.casLanes := rfl
@[simp] theorem State.setEngine_cas (s : State) (i : Nat) (x : EngX) : (s.setEngine i x).cas = s.cas := rfl
@[simp] theorem State.setEngine_svc (s : State) (i : Nat) (x : EngX) : (s.setEngine i x).svc = s.svc := rfl
@[simp] theorem State.setEngine_pending (s : State) (i : Nat) (x : EngX) : (s.setEngine i x).pending = s.pending := rfl
@[simp] theorem State.setEngine_rd (s : State) (i : Nat) (x : EngX) (k1 : Nat) : (s.setEngine i x).rd k1 = s.rd k1 := rfl
@[simp] theorem State.setEngine_fld (s : State) (i : Nat) (x : EngX) (c1 : Nat) (G : Fld) : (s.setEngine i x).fld c1 G = s.fld c1 G := rfl
@[simp] theorem State.setEngine_flag (s : State) (i : Nat) (x : EngX) (c1 : Nat) (G : Fld) : (s.setEngine i x).flag c1 G = s.flag c1 G := rfl
@[simp] theorem State.setEngine_byte (s : State) (i : Nat) (x : EngX) (k1 : Nat) : (s.setEngine i x).byte k1 = s.byte k1 := rfl
@[simp] theorem State.setEngine_memWord (s : State) (i : Nat) (x : EngX) (k1 : Nat) : (s.setEngine i x).memWord k1 = s.memWord k1 := rfl
@[simp] theorem State.setEngine_timer (s : State) (i : Nat) (x : EngX) (k1 : Nat) : (s.setEngine i x).timer k1 = s.timer k1 := rfl
@[simp] theorem State.setEngine_lane (s : State) (i : Nat) (x : EngX) (k1 : Nat) : (s.setEngine i x).lane k1 = s.lane k1 := rfl
@[simp] theorem State.setEngine_phase (s : State) (i : Nat) (x : EngX) (k1 : Nat) : (s.setEngine i x).phase k1 = s.phase k1 := rfl
@[simp] theorem State.setEngine_felt (s : State) (i : Nat) (x : EngX) (k1 : Nat) : (s.setEngine i x).felt k1 = s.felt k1 := rfl
@[simp] theorem State.setEngine_wf (s : State) (i : Nat) (x : EngX) (k1 : Nat) : (s.setEngine i x).wf k1 = s.wf k1 := rfl
@[simp] theorem State.setEngine_house (s : State) (i : Nat) (x : EngX) (k1 : Nat) : (s.setEngine i x).house k1 = s.house k1 := rfl
@[simp] theorem State.setEngine_port (s : State) (i : Nat) (x : EngX) (k1 : Nat) : (s.setEngine i x).port k1 = s.port k1 := rfl
@[simp] theorem State.setEngine_gauge (s : State) (i : Nat) (x : EngX) (k1 : Nat) : (s.setEngine i x).gauge k1 = s.gauge k1 := rfl
@[simp] theorem State.setEngine_dma (s : State) (i : Nat) (x : EngX) (k1 : Nat) : (s.setEngine i x).dma k1 = s.dma k1 := rfl
@[simp] theorem State.setEngine_cap (s : State) (i : Nat) (x : EngX) (k1 : Nat) : (s.setEngine i x).cap k1 = s.cap k1 := rfl
@[simp] theorem State.setEngine_casLane (s : State) (i : Nat) (x : EngX) (k1 : Nat) : (s.setEngine i x).casLane k1 = s.casLane k1 := rfl

/-! State.setDma. -/

@[simp] theorem State.setDma_regs (s : State) (i : Nat) (x : DmaX) : (s.setDma i x).regs = s.regs := rfl
@[simp] theorem State.setDma_mem (s : State) (i : Nat) (x : DmaX) : (s.setDma i x).mem = s.mem := rfl
@[simp] theorem State.setDma_lineNs (s : State) (i : Nat) (x : DmaX) : (s.setDma i x).lineNs = s.lineNs := rfl
@[simp] theorem State.setDma_timeOfs (s : State) (i : Nat) (x : DmaX) : (s.setDma i x).timeOfs = s.timeOfs := rfl
@[simp] theorem State.setDma_snaps (s : State) (i : Nat) (x : DmaX) : (s.setDma i x).snaps = s.snaps := rfl
@[simp] theorem State.setDma_reports (s : State) (i : Nat) (x : DmaX) : (s.setDma i x).reports = s.reports := rfl
@[simp] theorem State.setDma_fc (s : State) (i : Nat) (x : DmaX) : (s.setDma i x).fc = s.fc := rfl
@[simp] theorem State.setDma_pulses (s : State) (i : Nat) (x : DmaX) : (s.setDma i x).pulses = s.pulses := rfl
@[simp] theorem State.setDma_tinFlags (s : State) (i : Nat) (x : DmaX) : (s.setDma i x).tinFlags = s.tinFlags := rfl
@[simp] theorem State.setDma_tio (s : State) (i : Nat) (x : DmaX) : (s.setDma i x).tio = s.tio := rfl
@[simp] theorem State.setDma_dmaArr (s : State) (i : Nat) (x : DmaX) : (s.setDma i x).dmaArr = s.dmaArr := rfl
@[simp] theorem State.setDma_tmrs (s : State) (i : Nat) (x : DmaX) : (s.setDma i x).tmrs = s.tmrs := rfl
@[simp] theorem State.setDma_freeCount (s : State) (i : Nat) (x : DmaX) : (s.setDma i x).freeCount = s.freeCount := rfl
@[simp] theorem State.setDma_lanes (s : State) (i : Nat) (x : DmaX) : (s.setDma i x).lanes = s.lanes := rfl
@[simp] theorem State.setDma_phases (s : State) (i : Nat) (x : DmaX) : (s.setDma i x).phases = s.phases := rfl
@[simp] theorem State.setDma_felts (s : State) (i : Nat) (x : DmaX) : (s.setDma i x).felts = s.felts := rfl
@[simp] theorem State.setDma_lists (s : State) (i : Nat) (x : DmaX) : (s.setDma i x).lists = s.lists := rfl
@[simp] theorem State.setDma_sync (s : State) (i : Nat) (x : DmaX) : (s.setDma i x).sync = s.sync := rfl
@[simp] theorem State.setDma_time (s : State) (i : Nat) (x : DmaX) : (s.setDma i x).time = s.time := rfl
@[simp] theorem State.setDma_monTrk (s : State) (i : Nat) (x : DmaX) : (s.setDma i x).monTrk = s.monTrk := rfl
@[simp] theorem State.setDma_casRx (s : State) (i : Nat) (x : DmaX) : (s.setDma i x).casRx = s.casRx := rfl
@[simp] theorem State.setDma_adm (s : State) (i : Nat) (x : DmaX) : (s.setDma i x).adm = s.adm := rfl
@[simp] theorem State.setDma_casOut (s : State) (i : Nat) (x : DmaX) : (s.setDma i x).casOut = s.casOut := rfl
@[simp] theorem State.setDma_ilkHold (s : State) (i : Nat) (x : DmaX) : (s.setDma i x).ilkHold = s.ilkHold := rfl
@[simp] theorem State.setDma_forceOff (s : State) (i : Nat) (x : DmaX) : (s.setDma i x).forceOff = s.forceOff := rfl
@[simp] theorem State.setDma_nv (s : State) (i : Nat) (x : DmaX) : (s.setDma i x).nv = s.nv := rfl
@[simp] theorem State.setDma_houses (s : State) (i : Nat) (x : DmaX) : (s.setDma i x).houses = s.houses := rfl
@[simp] theorem State.setDma_bus (s : State) (i : Nat) (x : DmaX) : (s.setDma i x).bus = s.bus := rfl
@[simp] theorem State.setDma_ilkHouse (s : State) (i : Nat) (x : DmaX) : (s.setDma i x).ilkHouse = s.ilkHouse := rfl
@[simp] theorem State.setDma_ports (s : State) (i : Nat) (x : DmaX) : (s.setDma i x).ports = s.ports := rfl
@[simp] theorem State.setDma_portFelt (s : State) (i : Nat) (x : DmaX) : (s.setDma i x).portFelt = s.portFelt := rfl
@[simp] theorem State.setDma_gauges (s : State) (i : Nat) (x : DmaX) : (s.setDma i x).gauges = s.gauges := rfl
@[simp] theorem State.setDma_gauRec (s : State) (i : Nat) (x : DmaX) : (s.setDma i x).gauRec = s.gauRec := rfl
@[simp] theorem State.setDma_engines (s : State) (i : Nat) (x : DmaX) : (s.setDma i x).engines = s.engines := rfl
@[simp] theorem State.setDma_caps (s : State) (i : Nat) (x : DmaX) : (s.setDma i x).caps = s.caps := rfl
@[simp] theorem State.setDma_dmaDone (s : State) (i : Nat) (x : DmaX) : (s.setDma i x).dmaDone = s.dmaDone := rfl
@[simp] theorem State.setDma_dmaLast (s : State) (i : Nat) (x : DmaX) : (s.setDma i x).dmaLast = s.dmaLast := rfl
@[simp] theorem State.setDma_expQ (s : State) (i : Nat) (x : DmaX) : (s.setDma i x).expQ = s.expQ := rfl
@[simp] theorem State.setDma_sup (s : State) (i : Nat) (x : DmaX) : (s.setDma i x).sup = s.sup := rfl
@[simp] theorem State.setDma_img (s : State) (i : Nat) (x : DmaX) : (s.setDma i x).img = s.img := rfl
@[simp] theorem State.setDma_flash (s : State) (i : Nat) (x : DmaX) : (s.setDma i x).flash = s.flash := rfl
@[simp] theorem State.setDma_pwr (s : State) (i : Nat) (x : DmaX) : (s.setDma i x).pwr = s.pwr := rfl
@[simp] theorem State.setDma_host (s : State) (i : Nat) (x : DmaX) : (s.setDma i x).host = s.host := rfl
@[simp] theorem State.setDma_casLanes (s : State) (i : Nat) (x : DmaX) : (s.setDma i x).casLanes = s.casLanes := rfl
@[simp] theorem State.setDma_cas (s : State) (i : Nat) (x : DmaX) : (s.setDma i x).cas = s.cas := rfl
@[simp] theorem State.setDma_svc (s : State) (i : Nat) (x : DmaX) : (s.setDma i x).svc = s.svc := rfl
@[simp] theorem State.setDma_pending (s : State) (i : Nat) (x : DmaX) : (s.setDma i x).pending = s.pending := rfl
@[simp] theorem State.setDma_rd (s : State) (i : Nat) (x : DmaX) (k1 : Nat) : (s.setDma i x).rd k1 = s.rd k1 := rfl
@[simp] theorem State.setDma_fld (s : State) (i : Nat) (x : DmaX) (c1 : Nat) (G : Fld) : (s.setDma i x).fld c1 G = s.fld c1 G := rfl
@[simp] theorem State.setDma_flag (s : State) (i : Nat) (x : DmaX) (c1 : Nat) (G : Fld) : (s.setDma i x).flag c1 G = s.flag c1 G := rfl
@[simp] theorem State.setDma_byte (s : State) (i : Nat) (x : DmaX) (k1 : Nat) : (s.setDma i x).byte k1 = s.byte k1 := rfl
@[simp] theorem State.setDma_memWord (s : State) (i : Nat) (x : DmaX) (k1 : Nat) : (s.setDma i x).memWord k1 = s.memWord k1 := rfl
@[simp] theorem State.setDma_timer (s : State) (i : Nat) (x : DmaX) (k1 : Nat) : (s.setDma i x).timer k1 = s.timer k1 := rfl
@[simp] theorem State.setDma_lane (s : State) (i : Nat) (x : DmaX) (k1 : Nat) : (s.setDma i x).lane k1 = s.lane k1 := rfl
@[simp] theorem State.setDma_phase (s : State) (i : Nat) (x : DmaX) (k1 : Nat) : (s.setDma i x).phase k1 = s.phase k1 := rfl
@[simp] theorem State.setDma_felt (s : State) (i : Nat) (x : DmaX) (k1 : Nat) : (s.setDma i x).felt k1 = s.felt k1 := rfl
@[simp] theorem State.setDma_wf (s : State) (i : Nat) (x : DmaX) (k1 : Nat) : (s.setDma i x).wf k1 = s.wf k1 := rfl
@[simp] theorem State.setDma_house (s : State) (i : Nat) (x : DmaX) (k1 : Nat) : (s.setDma i x).house k1 = s.house k1 := rfl
@[simp] theorem State.setDma_port (s : State) (i : Nat) (x : DmaX) (k1 : Nat) : (s.setDma i x).port k1 = s.port k1 := rfl
@[simp] theorem State.setDma_gauge (s : State) (i : Nat) (x : DmaX) (k1 : Nat) : (s.setDma i x).gauge k1 = s.gauge k1 := rfl
@[simp] theorem State.setDma_engine (s : State) (i : Nat) (x : DmaX) (k1 : Nat) : (s.setDma i x).engine k1 = s.engine k1 := rfl
@[simp] theorem State.setDma_cap (s : State) (i : Nat) (x : DmaX) (k1 : Nat) : (s.setDma i x).cap k1 = s.cap k1 := rfl
@[simp] theorem State.setDma_casLane (s : State) (i : Nat) (x : DmaX) (k1 : Nat) : (s.setDma i x).casLane k1 = s.casLane k1 := rfl

/-! State.setCap. -/

@[simp] theorem State.setCap_regs (s : State) (i : Nat) (x : CapX) : (s.setCap i x).regs = s.regs := rfl
@[simp] theorem State.setCap_mem (s : State) (i : Nat) (x : CapX) : (s.setCap i x).mem = s.mem := rfl
@[simp] theorem State.setCap_lineNs (s : State) (i : Nat) (x : CapX) : (s.setCap i x).lineNs = s.lineNs := rfl
@[simp] theorem State.setCap_timeOfs (s : State) (i : Nat) (x : CapX) : (s.setCap i x).timeOfs = s.timeOfs := rfl
@[simp] theorem State.setCap_snaps (s : State) (i : Nat) (x : CapX) : (s.setCap i x).snaps = s.snaps := rfl
@[simp] theorem State.setCap_reports (s : State) (i : Nat) (x : CapX) : (s.setCap i x).reports = s.reports := rfl
@[simp] theorem State.setCap_fc (s : State) (i : Nat) (x : CapX) : (s.setCap i x).fc = s.fc := rfl
@[simp] theorem State.setCap_pulses (s : State) (i : Nat) (x : CapX) : (s.setCap i x).pulses = s.pulses := rfl
@[simp] theorem State.setCap_tinFlags (s : State) (i : Nat) (x : CapX) : (s.setCap i x).tinFlags = s.tinFlags := rfl
@[simp] theorem State.setCap_tio (s : State) (i : Nat) (x : CapX) : (s.setCap i x).tio = s.tio := rfl
@[simp] theorem State.setCap_dmaArr (s : State) (i : Nat) (x : CapX) : (s.setCap i x).dmaArr = s.dmaArr := rfl
@[simp] theorem State.setCap_tmrs (s : State) (i : Nat) (x : CapX) : (s.setCap i x).tmrs = s.tmrs := rfl
@[simp] theorem State.setCap_freeCount (s : State) (i : Nat) (x : CapX) : (s.setCap i x).freeCount = s.freeCount := rfl
@[simp] theorem State.setCap_lanes (s : State) (i : Nat) (x : CapX) : (s.setCap i x).lanes = s.lanes := rfl
@[simp] theorem State.setCap_phases (s : State) (i : Nat) (x : CapX) : (s.setCap i x).phases = s.phases := rfl
@[simp] theorem State.setCap_felts (s : State) (i : Nat) (x : CapX) : (s.setCap i x).felts = s.felts := rfl
@[simp] theorem State.setCap_lists (s : State) (i : Nat) (x : CapX) : (s.setCap i x).lists = s.lists := rfl
@[simp] theorem State.setCap_sync (s : State) (i : Nat) (x : CapX) : (s.setCap i x).sync = s.sync := rfl
@[simp] theorem State.setCap_time (s : State) (i : Nat) (x : CapX) : (s.setCap i x).time = s.time := rfl
@[simp] theorem State.setCap_monTrk (s : State) (i : Nat) (x : CapX) : (s.setCap i x).monTrk = s.monTrk := rfl
@[simp] theorem State.setCap_casRx (s : State) (i : Nat) (x : CapX) : (s.setCap i x).casRx = s.casRx := rfl
@[simp] theorem State.setCap_adm (s : State) (i : Nat) (x : CapX) : (s.setCap i x).adm = s.adm := rfl
@[simp] theorem State.setCap_casOut (s : State) (i : Nat) (x : CapX) : (s.setCap i x).casOut = s.casOut := rfl
@[simp] theorem State.setCap_ilkHold (s : State) (i : Nat) (x : CapX) : (s.setCap i x).ilkHold = s.ilkHold := rfl
@[simp] theorem State.setCap_forceOff (s : State) (i : Nat) (x : CapX) : (s.setCap i x).forceOff = s.forceOff := rfl
@[simp] theorem State.setCap_nv (s : State) (i : Nat) (x : CapX) : (s.setCap i x).nv = s.nv := rfl
@[simp] theorem State.setCap_houses (s : State) (i : Nat) (x : CapX) : (s.setCap i x).houses = s.houses := rfl
@[simp] theorem State.setCap_bus (s : State) (i : Nat) (x : CapX) : (s.setCap i x).bus = s.bus := rfl
@[simp] theorem State.setCap_ilkHouse (s : State) (i : Nat) (x : CapX) : (s.setCap i x).ilkHouse = s.ilkHouse := rfl
@[simp] theorem State.setCap_ports (s : State) (i : Nat) (x : CapX) : (s.setCap i x).ports = s.ports := rfl
@[simp] theorem State.setCap_portFelt (s : State) (i : Nat) (x : CapX) : (s.setCap i x).portFelt = s.portFelt := rfl
@[simp] theorem State.setCap_gauges (s : State) (i : Nat) (x : CapX) : (s.setCap i x).gauges = s.gauges := rfl
@[simp] theorem State.setCap_gauRec (s : State) (i : Nat) (x : CapX) : (s.setCap i x).gauRec = s.gauRec := rfl
@[simp] theorem State.setCap_engines (s : State) (i : Nat) (x : CapX) : (s.setCap i x).engines = s.engines := rfl
@[simp] theorem State.setCap_dmas (s : State) (i : Nat) (x : CapX) : (s.setCap i x).dmas = s.dmas := rfl
@[simp] theorem State.setCap_dmaDone (s : State) (i : Nat) (x : CapX) : (s.setCap i x).dmaDone = s.dmaDone := rfl
@[simp] theorem State.setCap_dmaLast (s : State) (i : Nat) (x : CapX) : (s.setCap i x).dmaLast = s.dmaLast := rfl
@[simp] theorem State.setCap_expQ (s : State) (i : Nat) (x : CapX) : (s.setCap i x).expQ = s.expQ := rfl
@[simp] theorem State.setCap_sup (s : State) (i : Nat) (x : CapX) : (s.setCap i x).sup = s.sup := rfl
@[simp] theorem State.setCap_img (s : State) (i : Nat) (x : CapX) : (s.setCap i x).img = s.img := rfl
@[simp] theorem State.setCap_flash (s : State) (i : Nat) (x : CapX) : (s.setCap i x).flash = s.flash := rfl
@[simp] theorem State.setCap_pwr (s : State) (i : Nat) (x : CapX) : (s.setCap i x).pwr = s.pwr := rfl
@[simp] theorem State.setCap_host (s : State) (i : Nat) (x : CapX) : (s.setCap i x).host = s.host := rfl
@[simp] theorem State.setCap_casLanes (s : State) (i : Nat) (x : CapX) : (s.setCap i x).casLanes = s.casLanes := rfl
@[simp] theorem State.setCap_cas (s : State) (i : Nat) (x : CapX) : (s.setCap i x).cas = s.cas := rfl
@[simp] theorem State.setCap_svc (s : State) (i : Nat) (x : CapX) : (s.setCap i x).svc = s.svc := rfl
@[simp] theorem State.setCap_pending (s : State) (i : Nat) (x : CapX) : (s.setCap i x).pending = s.pending := rfl
@[simp] theorem State.setCap_rd (s : State) (i : Nat) (x : CapX) (k1 : Nat) : (s.setCap i x).rd k1 = s.rd k1 := rfl
@[simp] theorem State.setCap_fld (s : State) (i : Nat) (x : CapX) (c1 : Nat) (G : Fld) : (s.setCap i x).fld c1 G = s.fld c1 G := rfl
@[simp] theorem State.setCap_flag (s : State) (i : Nat) (x : CapX) (c1 : Nat) (G : Fld) : (s.setCap i x).flag c1 G = s.flag c1 G := rfl
@[simp] theorem State.setCap_byte (s : State) (i : Nat) (x : CapX) (k1 : Nat) : (s.setCap i x).byte k1 = s.byte k1 := rfl
@[simp] theorem State.setCap_memWord (s : State) (i : Nat) (x : CapX) (k1 : Nat) : (s.setCap i x).memWord k1 = s.memWord k1 := rfl
@[simp] theorem State.setCap_timer (s : State) (i : Nat) (x : CapX) (k1 : Nat) : (s.setCap i x).timer k1 = s.timer k1 := rfl
@[simp] theorem State.setCap_lane (s : State) (i : Nat) (x : CapX) (k1 : Nat) : (s.setCap i x).lane k1 = s.lane k1 := rfl
@[simp] theorem State.setCap_phase (s : State) (i : Nat) (x : CapX) (k1 : Nat) : (s.setCap i x).phase k1 = s.phase k1 := rfl
@[simp] theorem State.setCap_felt (s : State) (i : Nat) (x : CapX) (k1 : Nat) : (s.setCap i x).felt k1 = s.felt k1 := rfl
@[simp] theorem State.setCap_wf (s : State) (i : Nat) (x : CapX) (k1 : Nat) : (s.setCap i x).wf k1 = s.wf k1 := rfl
@[simp] theorem State.setCap_house (s : State) (i : Nat) (x : CapX) (k1 : Nat) : (s.setCap i x).house k1 = s.house k1 := rfl
@[simp] theorem State.setCap_port (s : State) (i : Nat) (x : CapX) (k1 : Nat) : (s.setCap i x).port k1 = s.port k1 := rfl
@[simp] theorem State.setCap_gauge (s : State) (i : Nat) (x : CapX) (k1 : Nat) : (s.setCap i x).gauge k1 = s.gauge k1 := rfl
@[simp] theorem State.setCap_engine (s : State) (i : Nat) (x : CapX) (k1 : Nat) : (s.setCap i x).engine k1 = s.engine k1 := rfl
@[simp] theorem State.setCap_dma (s : State) (i : Nat) (x : CapX) (k1 : Nat) : (s.setCap i x).dma k1 = s.dma k1 := rfl
@[simp] theorem State.setCap_casLane (s : State) (i : Nat) (x : CapX) (k1 : Nat) : (s.setCap i x).casLane k1 = s.casLane k1 := rfl

/-! State.setCasLane. -/

@[simp] theorem State.setCasLane_regs (s : State) (i : Nat) (x : CasLane) : (s.setCasLane i x).regs = s.regs := rfl
@[simp] theorem State.setCasLane_mem (s : State) (i : Nat) (x : CasLane) : (s.setCasLane i x).mem = s.mem := rfl
@[simp] theorem State.setCasLane_lineNs (s : State) (i : Nat) (x : CasLane) : (s.setCasLane i x).lineNs = s.lineNs := rfl
@[simp] theorem State.setCasLane_timeOfs (s : State) (i : Nat) (x : CasLane) : (s.setCasLane i x).timeOfs = s.timeOfs := rfl
@[simp] theorem State.setCasLane_snaps (s : State) (i : Nat) (x : CasLane) : (s.setCasLane i x).snaps = s.snaps := rfl
@[simp] theorem State.setCasLane_reports (s : State) (i : Nat) (x : CasLane) : (s.setCasLane i x).reports = s.reports := rfl
@[simp] theorem State.setCasLane_fc (s : State) (i : Nat) (x : CasLane) : (s.setCasLane i x).fc = s.fc := rfl
@[simp] theorem State.setCasLane_pulses (s : State) (i : Nat) (x : CasLane) : (s.setCasLane i x).pulses = s.pulses := rfl
@[simp] theorem State.setCasLane_tinFlags (s : State) (i : Nat) (x : CasLane) : (s.setCasLane i x).tinFlags = s.tinFlags := rfl
@[simp] theorem State.setCasLane_tio (s : State) (i : Nat) (x : CasLane) : (s.setCasLane i x).tio = s.tio := rfl
@[simp] theorem State.setCasLane_dmaArr (s : State) (i : Nat) (x : CasLane) : (s.setCasLane i x).dmaArr = s.dmaArr := rfl
@[simp] theorem State.setCasLane_tmrs (s : State) (i : Nat) (x : CasLane) : (s.setCasLane i x).tmrs = s.tmrs := rfl
@[simp] theorem State.setCasLane_freeCount (s : State) (i : Nat) (x : CasLane) : (s.setCasLane i x).freeCount = s.freeCount := rfl
@[simp] theorem State.setCasLane_lanes (s : State) (i : Nat) (x : CasLane) : (s.setCasLane i x).lanes = s.lanes := rfl
@[simp] theorem State.setCasLane_phases (s : State) (i : Nat) (x : CasLane) : (s.setCasLane i x).phases = s.phases := rfl
@[simp] theorem State.setCasLane_felts (s : State) (i : Nat) (x : CasLane) : (s.setCasLane i x).felts = s.felts := rfl
@[simp] theorem State.setCasLane_lists (s : State) (i : Nat) (x : CasLane) : (s.setCasLane i x).lists = s.lists := rfl
@[simp] theorem State.setCasLane_sync (s : State) (i : Nat) (x : CasLane) : (s.setCasLane i x).sync = s.sync := rfl
@[simp] theorem State.setCasLane_time (s : State) (i : Nat) (x : CasLane) : (s.setCasLane i x).time = s.time := rfl
@[simp] theorem State.setCasLane_monTrk (s : State) (i : Nat) (x : CasLane) : (s.setCasLane i x).monTrk = s.monTrk := rfl
@[simp] theorem State.setCasLane_casRx (s : State) (i : Nat) (x : CasLane) : (s.setCasLane i x).casRx = s.casRx := rfl
@[simp] theorem State.setCasLane_adm (s : State) (i : Nat) (x : CasLane) : (s.setCasLane i x).adm = s.adm := rfl
@[simp] theorem State.setCasLane_casOut (s : State) (i : Nat) (x : CasLane) : (s.setCasLane i x).casOut = s.casOut := rfl
@[simp] theorem State.setCasLane_ilkHold (s : State) (i : Nat) (x : CasLane) : (s.setCasLane i x).ilkHold = s.ilkHold := rfl
@[simp] theorem State.setCasLane_forceOff (s : State) (i : Nat) (x : CasLane) : (s.setCasLane i x).forceOff = s.forceOff := rfl
@[simp] theorem State.setCasLane_nv (s : State) (i : Nat) (x : CasLane) : (s.setCasLane i x).nv = s.nv := rfl
@[simp] theorem State.setCasLane_houses (s : State) (i : Nat) (x : CasLane) : (s.setCasLane i x).houses = s.houses := rfl
@[simp] theorem State.setCasLane_bus (s : State) (i : Nat) (x : CasLane) : (s.setCasLane i x).bus = s.bus := rfl
@[simp] theorem State.setCasLane_ilkHouse (s : State) (i : Nat) (x : CasLane) : (s.setCasLane i x).ilkHouse = s.ilkHouse := rfl
@[simp] theorem State.setCasLane_ports (s : State) (i : Nat) (x : CasLane) : (s.setCasLane i x).ports = s.ports := rfl
@[simp] theorem State.setCasLane_portFelt (s : State) (i : Nat) (x : CasLane) : (s.setCasLane i x).portFelt = s.portFelt := rfl
@[simp] theorem State.setCasLane_gauges (s : State) (i : Nat) (x : CasLane) : (s.setCasLane i x).gauges = s.gauges := rfl
@[simp] theorem State.setCasLane_gauRec (s : State) (i : Nat) (x : CasLane) : (s.setCasLane i x).gauRec = s.gauRec := rfl
@[simp] theorem State.setCasLane_engines (s : State) (i : Nat) (x : CasLane) : (s.setCasLane i x).engines = s.engines := rfl
@[simp] theorem State.setCasLane_dmas (s : State) (i : Nat) (x : CasLane) : (s.setCasLane i x).dmas = s.dmas := rfl
@[simp] theorem State.setCasLane_caps (s : State) (i : Nat) (x : CasLane) : (s.setCasLane i x).caps = s.caps := rfl
@[simp] theorem State.setCasLane_dmaDone (s : State) (i : Nat) (x : CasLane) : (s.setCasLane i x).dmaDone = s.dmaDone := rfl
@[simp] theorem State.setCasLane_dmaLast (s : State) (i : Nat) (x : CasLane) : (s.setCasLane i x).dmaLast = s.dmaLast := rfl
@[simp] theorem State.setCasLane_expQ (s : State) (i : Nat) (x : CasLane) : (s.setCasLane i x).expQ = s.expQ := rfl
@[simp] theorem State.setCasLane_sup (s : State) (i : Nat) (x : CasLane) : (s.setCasLane i x).sup = s.sup := rfl
@[simp] theorem State.setCasLane_img (s : State) (i : Nat) (x : CasLane) : (s.setCasLane i x).img = s.img := rfl
@[simp] theorem State.setCasLane_flash (s : State) (i : Nat) (x : CasLane) : (s.setCasLane i x).flash = s.flash := rfl
@[simp] theorem State.setCasLane_pwr (s : State) (i : Nat) (x : CasLane) : (s.setCasLane i x).pwr = s.pwr := rfl
@[simp] theorem State.setCasLane_host (s : State) (i : Nat) (x : CasLane) : (s.setCasLane i x).host = s.host := rfl
@[simp] theorem State.setCasLane_cas (s : State) (i : Nat) (x : CasLane) : (s.setCasLane i x).cas = s.cas := rfl
@[simp] theorem State.setCasLane_svc (s : State) (i : Nat) (x : CasLane) : (s.setCasLane i x).svc = s.svc := rfl
@[simp] theorem State.setCasLane_pending (s : State) (i : Nat) (x : CasLane) : (s.setCasLane i x).pending = s.pending := rfl
@[simp] theorem State.setCasLane_rd (s : State) (i : Nat) (x : CasLane) (k1 : Nat) : (s.setCasLane i x).rd k1 = s.rd k1 := rfl
@[simp] theorem State.setCasLane_fld (s : State) (i : Nat) (x : CasLane) (c1 : Nat) (G : Fld) : (s.setCasLane i x).fld c1 G = s.fld c1 G := rfl
@[simp] theorem State.setCasLane_flag (s : State) (i : Nat) (x : CasLane) (c1 : Nat) (G : Fld) : (s.setCasLane i x).flag c1 G = s.flag c1 G := rfl
@[simp] theorem State.setCasLane_byte (s : State) (i : Nat) (x : CasLane) (k1 : Nat) : (s.setCasLane i x).byte k1 = s.byte k1 := rfl
@[simp] theorem State.setCasLane_memWord (s : State) (i : Nat) (x : CasLane) (k1 : Nat) : (s.setCasLane i x).memWord k1 = s.memWord k1 := rfl
@[simp] theorem State.setCasLane_timer (s : State) (i : Nat) (x : CasLane) (k1 : Nat) : (s.setCasLane i x).timer k1 = s.timer k1 := rfl
@[simp] theorem State.setCasLane_lane (s : State) (i : Nat) (x : CasLane) (k1 : Nat) : (s.setCasLane i x).lane k1 = s.lane k1 := rfl
@[simp] theorem State.setCasLane_phase (s : State) (i : Nat) (x : CasLane) (k1 : Nat) : (s.setCasLane i x).phase k1 = s.phase k1 := rfl
@[simp] theorem State.setCasLane_felt (s : State) (i : Nat) (x : CasLane) (k1 : Nat) : (s.setCasLane i x).felt k1 = s.felt k1 := rfl
@[simp] theorem State.setCasLane_wf (s : State) (i : Nat) (x : CasLane) (k1 : Nat) : (s.setCasLane i x).wf k1 = s.wf k1 := rfl
@[simp] theorem State.setCasLane_house (s : State) (i : Nat) (x : CasLane) (k1 : Nat) : (s.setCasLane i x).house k1 = s.house k1 := rfl
@[simp] theorem State.setCasLane_port (s : State) (i : Nat) (x : CasLane) (k1 : Nat) : (s.setCasLane i x).port k1 = s.port k1 := rfl
@[simp] theorem State.setCasLane_gauge (s : State) (i : Nat) (x : CasLane) (k1 : Nat) : (s.setCasLane i x).gauge k1 = s.gauge k1 := rfl
@[simp] theorem State.setCasLane_engine (s : State) (i : Nat) (x : CasLane) (k1 : Nat) : (s.setCasLane i x).engine k1 = s.engine k1 := rfl
@[simp] theorem State.setCasLane_dma (s : State) (i : Nat) (x : CasLane) (k1 : Nat) : (s.setCasLane i x).dma k1 = s.dma k1 := rfl
@[simp] theorem State.setCasLane_cap (s : State) (i : Nat) (x : CasLane) (k1 : Nat) : (s.setCasLane i x).cap k1 = s.cap k1 := rfl

/-! State.report. -/

@[simp] theorem State.report_regs (s : State) (c i k a : Nat) : (s.report c i k a).regs = s.regs := rfl
@[simp] theorem State.report_mem (s : State) (c i k a : Nat) : (s.report c i k a).mem = s.mem := rfl
@[simp] theorem State.report_lineNs (s : State) (c i k a : Nat) : (s.report c i k a).lineNs = s.lineNs := rfl
@[simp] theorem State.report_timeOfs (s : State) (c i k a : Nat) : (s.report c i k a).timeOfs = s.timeOfs := rfl
@[simp] theorem State.report_snaps (s : State) (c i k a : Nat) : (s.report c i k a).snaps = s.snaps := rfl
@[simp] theorem State.report_fc (s : State) (c i k a : Nat) : (s.report c i k a).fc = s.fc := rfl
@[simp] theorem State.report_pulses (s : State) (c i k a : Nat) : (s.report c i k a).pulses = s.pulses := rfl
@[simp] theorem State.report_tinFlags (s : State) (c i k a : Nat) : (s.report c i k a).tinFlags = s.tinFlags := rfl
@[simp] theorem State.report_tio (s : State) (c i k a : Nat) : (s.report c i k a).tio = s.tio := rfl
@[simp] theorem State.report_dmaArr (s : State) (c i k a : Nat) : (s.report c i k a).dmaArr = s.dmaArr := rfl
@[simp] theorem State.report_tmrs (s : State) (c i k a : Nat) : (s.report c i k a).tmrs = s.tmrs := rfl
@[simp] theorem State.report_freeCount (s : State) (c i k a : Nat) : (s.report c i k a).freeCount = s.freeCount := rfl
@[simp] theorem State.report_lanes (s : State) (c i k a : Nat) : (s.report c i k a).lanes = s.lanes := rfl
@[simp] theorem State.report_phases (s : State) (c i k a : Nat) : (s.report c i k a).phases = s.phases := rfl
@[simp] theorem State.report_felts (s : State) (c i k a : Nat) : (s.report c i k a).felts = s.felts := rfl
@[simp] theorem State.report_lists (s : State) (c i k a : Nat) : (s.report c i k a).lists = s.lists := rfl
@[simp] theorem State.report_sync (s : State) (c i k a : Nat) : (s.report c i k a).sync = s.sync := rfl
@[simp] theorem State.report_time (s : State) (c i k a : Nat) : (s.report c i k a).time = s.time := rfl
@[simp] theorem State.report_monTrk (s : State) (c i k a : Nat) : (s.report c i k a).monTrk = s.monTrk := rfl
@[simp] theorem State.report_casRx (s : State) (c i k a : Nat) : (s.report c i k a).casRx = s.casRx := rfl
@[simp] theorem State.report_adm (s : State) (c i k a : Nat) : (s.report c i k a).adm = s.adm := rfl
@[simp] theorem State.report_casOut (s : State) (c i k a : Nat) : (s.report c i k a).casOut = s.casOut := rfl
@[simp] theorem State.report_ilkHold (s : State) (c i k a : Nat) : (s.report c i k a).ilkHold = s.ilkHold := rfl
@[simp] theorem State.report_forceOff (s : State) (c i k a : Nat) : (s.report c i k a).forceOff = s.forceOff := rfl
@[simp] theorem State.report_nv (s : State) (c i k a : Nat) : (s.report c i k a).nv = s.nv := rfl
@[simp] theorem State.report_houses (s : State) (c i k a : Nat) : (s.report c i k a).houses = s.houses := rfl
@[simp] theorem State.report_bus (s : State) (c i k a : Nat) : (s.report c i k a).bus = s.bus := rfl
@[simp] theorem State.report_ilkHouse (s : State) (c i k a : Nat) : (s.report c i k a).ilkHouse = s.ilkHouse := rfl
@[simp] theorem State.report_ports (s : State) (c i k a : Nat) : (s.report c i k a).ports = s.ports := rfl
@[simp] theorem State.report_portFelt (s : State) (c i k a : Nat) : (s.report c i k a).portFelt = s.portFelt := rfl
@[simp] theorem State.report_gauges (s : State) (c i k a : Nat) : (s.report c i k a).gauges = s.gauges := rfl
@[simp] theorem State.report_gauRec (s : State) (c i k a : Nat) : (s.report c i k a).gauRec = s.gauRec := rfl
@[simp] theorem State.report_engines (s : State) (c i k a : Nat) : (s.report c i k a).engines = s.engines := rfl
@[simp] theorem State.report_dmas (s : State) (c i k a : Nat) : (s.report c i k a).dmas = s.dmas := rfl
@[simp] theorem State.report_caps (s : State) (c i k a : Nat) : (s.report c i k a).caps = s.caps := rfl
@[simp] theorem State.report_dmaDone (s : State) (c i k a : Nat) : (s.report c i k a).dmaDone = s.dmaDone := rfl
@[simp] theorem State.report_dmaLast (s : State) (c i k a : Nat) : (s.report c i k a).dmaLast = s.dmaLast := rfl
@[simp] theorem State.report_expQ (s : State) (c i k a : Nat) : (s.report c i k a).expQ = s.expQ := rfl
@[simp] theorem State.report_sup (s : State) (c i k a : Nat) : (s.report c i k a).sup = s.sup := rfl
@[simp] theorem State.report_img (s : State) (c i k a : Nat) : (s.report c i k a).img = s.img := rfl
@[simp] theorem State.report_flash (s : State) (c i k a : Nat) : (s.report c i k a).flash = s.flash := rfl
@[simp] theorem State.report_pwr (s : State) (c i k a : Nat) : (s.report c i k a).pwr = s.pwr := rfl
@[simp] theorem State.report_host (s : State) (c i k a : Nat) : (s.report c i k a).host = s.host := rfl
@[simp] theorem State.report_casLanes (s : State) (c i k a : Nat) : (s.report c i k a).casLanes = s.casLanes := rfl
@[simp] theorem State.report_cas (s : State) (c i k a : Nat) : (s.report c i k a).cas = s.cas := rfl
@[simp] theorem State.report_svc (s : State) (c i k a : Nat) : (s.report c i k a).svc = s.svc := rfl
@[simp] theorem State.report_pending (s : State) (c i k a : Nat) : (s.report c i k a).pending = s.pending := rfl
@[simp] theorem State.report_rd (s : State) (c i k a : Nat) (k1 : Nat) : (s.report c i k a).rd k1 = s.rd k1 := rfl
@[simp] theorem State.report_fld (s : State) (c i k a : Nat) (c1 : Nat) (G : Fld) : (s.report c i k a).fld c1 G = s.fld c1 G := rfl
@[simp] theorem State.report_flag (s : State) (c i k a : Nat) (c1 : Nat) (G : Fld) : (s.report c i k a).flag c1 G = s.flag c1 G := rfl
@[simp] theorem State.report_byte (s : State) (c i k a : Nat) (k1 : Nat) : (s.report c i k a).byte k1 = s.byte k1 := rfl
@[simp] theorem State.report_memWord (s : State) (c i k a : Nat) (k1 : Nat) : (s.report c i k a).memWord k1 = s.memWord k1 := rfl
@[simp] theorem State.report_timer (s : State) (c i k a : Nat) (k1 : Nat) : (s.report c i k a).timer k1 = s.timer k1 := rfl
@[simp] theorem State.report_lane (s : State) (c i k a : Nat) (k1 : Nat) : (s.report c i k a).lane k1 = s.lane k1 := rfl
@[simp] theorem State.report_phase (s : State) (c i k a : Nat) (k1 : Nat) : (s.report c i k a).phase k1 = s.phase k1 := rfl
@[simp] theorem State.report_felt (s : State) (c i k a : Nat) (k1 : Nat) : (s.report c i k a).felt k1 = s.felt k1 := rfl
@[simp] theorem State.report_wf (s : State) (c i k a : Nat) (k1 : Nat) : (s.report c i k a).wf k1 = s.wf k1 := rfl
@[simp] theorem State.report_house (s : State) (c i k a : Nat) (k1 : Nat) : (s.report c i k a).house k1 = s.house k1 := rfl
@[simp] theorem State.report_port (s : State) (c i k a : Nat) (k1 : Nat) : (s.report c i k a).port k1 = s.port k1 := rfl
@[simp] theorem State.report_gauge (s : State) (c i k a : Nat) (k1 : Nat) : (s.report c i k a).gauge k1 = s.gauge k1 := rfl
@[simp] theorem State.report_engine (s : State) (c i k a : Nat) (k1 : Nat) : (s.report c i k a).engine k1 = s.engine k1 := rfl
@[simp] theorem State.report_dma (s : State) (c i k a : Nat) (k1 : Nat) : (s.report c i k a).dma k1 = s.dma k1 := rfl
@[simp] theorem State.report_cap (s : State) (c i k a : Nat) (k1 : Nat) : (s.report c i k a).cap k1 = s.cap k1 := rfl
@[simp] theorem State.report_casLane (s : State) (c i k a : Nat) (k1 : Nat) : (s.report c i k a).casLane k1 = s.casLane k1 := rfl

/-! State.pulse. -/

@[simp] theorem State.pulse_regs (s : State) (l : Nat) : (s.pulse l).regs = s.regs := rfl
@[simp] theorem State.pulse_mem (s : State) (l : Nat) : (s.pulse l).mem = s.mem := rfl
@[simp] theorem State.pulse_lineNs (s : State) (l : Nat) : (s.pulse l).lineNs = s.lineNs := rfl
@[simp] theorem State.pulse_timeOfs (s : State) (l : Nat) : (s.pulse l).timeOfs = s.timeOfs := rfl
@[simp] theorem State.pulse_snaps (s : State) (l : Nat) : (s.pulse l).snaps = s.snaps := rfl
@[simp] theorem State.pulse_reports (s : State) (l : Nat) : (s.pulse l).reports = s.reports := rfl
@[simp] theorem State.pulse_fc (s : State) (l : Nat) : (s.pulse l).fc = s.fc := rfl
@[simp] theorem State.pulse_tinFlags (s : State) (l : Nat) : (s.pulse l).tinFlags = s.tinFlags := rfl
@[simp] theorem State.pulse_tio (s : State) (l : Nat) : (s.pulse l).tio = s.tio := rfl
@[simp] theorem State.pulse_dmaArr (s : State) (l : Nat) : (s.pulse l).dmaArr = s.dmaArr := rfl
@[simp] theorem State.pulse_tmrs (s : State) (l : Nat) : (s.pulse l).tmrs = s.tmrs := rfl
@[simp] theorem State.pulse_freeCount (s : State) (l : Nat) : (s.pulse l).freeCount = s.freeCount := rfl
@[simp] theorem State.pulse_lanes (s : State) (l : Nat) : (s.pulse l).lanes = s.lanes := rfl
@[simp] theorem State.pulse_phases (s : State) (l : Nat) : (s.pulse l).phases = s.phases := rfl
@[simp] theorem State.pulse_felts (s : State) (l : Nat) : (s.pulse l).felts = s.felts := rfl
@[simp] theorem State.pulse_lists (s : State) (l : Nat) : (s.pulse l).lists = s.lists := rfl
@[simp] theorem State.pulse_sync (s : State) (l : Nat) : (s.pulse l).sync = s.sync := rfl
@[simp] theorem State.pulse_time (s : State) (l : Nat) : (s.pulse l).time = s.time := rfl
@[simp] theorem State.pulse_monTrk (s : State) (l : Nat) : (s.pulse l).monTrk = s.monTrk := rfl
@[simp] theorem State.pulse_casRx (s : State) (l : Nat) : (s.pulse l).casRx = s.casRx := rfl
@[simp] theorem State.pulse_adm (s : State) (l : Nat) : (s.pulse l).adm = s.adm := rfl
@[simp] theorem State.pulse_casOut (s : State) (l : Nat) : (s.pulse l).casOut = s.casOut := rfl
@[simp] theorem State.pulse_ilkHold (s : State) (l : Nat) : (s.pulse l).ilkHold = s.ilkHold := rfl
@[simp] theorem State.pulse_forceOff (s : State) (l : Nat) : (s.pulse l).forceOff = s.forceOff := rfl
@[simp] theorem State.pulse_nv (s : State) (l : Nat) : (s.pulse l).nv = s.nv := rfl
@[simp] theorem State.pulse_houses (s : State) (l : Nat) : (s.pulse l).houses = s.houses := rfl
@[simp] theorem State.pulse_bus (s : State) (l : Nat) : (s.pulse l).bus = s.bus := rfl
@[simp] theorem State.pulse_ilkHouse (s : State) (l : Nat) : (s.pulse l).ilkHouse = s.ilkHouse := rfl
@[simp] theorem State.pulse_ports (s : State) (l : Nat) : (s.pulse l).ports = s.ports := rfl
@[simp] theorem State.pulse_portFelt (s : State) (l : Nat) : (s.pulse l).portFelt = s.portFelt := rfl
@[simp] theorem State.pulse_gauges (s : State) (l : Nat) : (s.pulse l).gauges = s.gauges := rfl
@[simp] theorem State.pulse_gauRec (s : State) (l : Nat) : (s.pulse l).gauRec = s.gauRec := rfl
@[simp] theorem State.pulse_engines (s : State) (l : Nat) : (s.pulse l).engines = s.engines := rfl
@[simp] theorem State.pulse_dmas (s : State) (l : Nat) : (s.pulse l).dmas = s.dmas := rfl
@[simp] theorem State.pulse_caps (s : State) (l : Nat) : (s.pulse l).caps = s.caps := rfl
@[simp] theorem State.pulse_dmaDone (s : State) (l : Nat) : (s.pulse l).dmaDone = s.dmaDone := rfl
@[simp] theorem State.pulse_dmaLast (s : State) (l : Nat) : (s.pulse l).dmaLast = s.dmaLast := rfl
@[simp] theorem State.pulse_expQ (s : State) (l : Nat) : (s.pulse l).expQ = s.expQ := rfl
@[simp] theorem State.pulse_sup (s : State) (l : Nat) : (s.pulse l).sup = s.sup := rfl
@[simp] theorem State.pulse_img (s : State) (l : Nat) : (s.pulse l).img = s.img := rfl
@[simp] theorem State.pulse_flash (s : State) (l : Nat) : (s.pulse l).flash = s.flash := rfl
@[simp] theorem State.pulse_pwr (s : State) (l : Nat) : (s.pulse l).pwr = s.pwr := rfl
@[simp] theorem State.pulse_host (s : State) (l : Nat) : (s.pulse l).host = s.host := rfl
@[simp] theorem State.pulse_casLanes (s : State) (l : Nat) : (s.pulse l).casLanes = s.casLanes := rfl
@[simp] theorem State.pulse_cas (s : State) (l : Nat) : (s.pulse l).cas = s.cas := rfl
@[simp] theorem State.pulse_svc (s : State) (l : Nat) : (s.pulse l).svc = s.svc := rfl
@[simp] theorem State.pulse_pending (s : State) (l : Nat) : (s.pulse l).pending = s.pending := rfl
@[simp] theorem State.pulse_rd (s : State) (l : Nat) (k1 : Nat) : (s.pulse l).rd k1 = s.rd k1 := rfl
@[simp] theorem State.pulse_fld (s : State) (l : Nat) (c1 : Nat) (G : Fld) : (s.pulse l).fld c1 G = s.fld c1 G := rfl
@[simp] theorem State.pulse_flag (s : State) (l : Nat) (c1 : Nat) (G : Fld) : (s.pulse l).flag c1 G = s.flag c1 G := rfl
@[simp] theorem State.pulse_byte (s : State) (l : Nat) (k1 : Nat) : (s.pulse l).byte k1 = s.byte k1 := rfl
@[simp] theorem State.pulse_memWord (s : State) (l : Nat) (k1 : Nat) : (s.pulse l).memWord k1 = s.memWord k1 := rfl
@[simp] theorem State.pulse_timer (s : State) (l : Nat) (k1 : Nat) : (s.pulse l).timer k1 = s.timer k1 := rfl
@[simp] theorem State.pulse_lane (s : State) (l : Nat) (k1 : Nat) : (s.pulse l).lane k1 = s.lane k1 := rfl
@[simp] theorem State.pulse_phase (s : State) (l : Nat) (k1 : Nat) : (s.pulse l).phase k1 = s.phase k1 := rfl
@[simp] theorem State.pulse_felt (s : State) (l : Nat) (k1 : Nat) : (s.pulse l).felt k1 = s.felt k1 := rfl
@[simp] theorem State.pulse_wf (s : State) (l : Nat) (k1 : Nat) : (s.pulse l).wf k1 = s.wf k1 := rfl
@[simp] theorem State.pulse_house (s : State) (l : Nat) (k1 : Nat) : (s.pulse l).house k1 = s.house k1 := rfl
@[simp] theorem State.pulse_port (s : State) (l : Nat) (k1 : Nat) : (s.pulse l).port k1 = s.port k1 := rfl
@[simp] theorem State.pulse_gauge (s : State) (l : Nat) (k1 : Nat) : (s.pulse l).gauge k1 = s.gauge k1 := rfl
@[simp] theorem State.pulse_engine (s : State) (l : Nat) (k1 : Nat) : (s.pulse l).engine k1 = s.engine k1 := rfl
@[simp] theorem State.pulse_dma (s : State) (l : Nat) (k1 : Nat) : (s.pulse l).dma k1 = s.dma k1 := rfl
@[simp] theorem State.pulse_cap (s : State) (l : Nat) (k1 : Nat) : (s.pulse l).cap k1 = s.cap k1 := rfl
@[simp] theorem State.pulse_casLane (s : State) (l : Nat) (k1 : Nat) : (s.pulse l).casLane k1 = s.casLane k1 := rfl

/-! State.setSnap. -/

@[simp] theorem State.setSnap_regs (s : State) (m : Master) (k : Nat) (v : Word) : (s.setSnap m k v).regs = s.regs := rfl
@[simp] theorem State.setSnap_mem (s : State) (m : Master) (k : Nat) (v : Word) : (s.setSnap m k v).mem = s.mem := rfl
@[simp] theorem State.setSnap_lineNs (s : State) (m : Master) (k : Nat) (v : Word) : (s.setSnap m k v).lineNs = s.lineNs := rfl
@[simp] theorem State.setSnap_timeOfs (s : State) (m : Master) (k : Nat) (v : Word) : (s.setSnap m k v).timeOfs = s.timeOfs := rfl
@[simp] theorem State.setSnap_reports (s : State) (m : Master) (k : Nat) (v : Word) : (s.setSnap m k v).reports = s.reports := rfl
@[simp] theorem State.setSnap_fc (s : State) (m : Master) (k : Nat) (v : Word) : (s.setSnap m k v).fc = s.fc := rfl
@[simp] theorem State.setSnap_pulses (s : State) (m : Master) (k : Nat) (v : Word) : (s.setSnap m k v).pulses = s.pulses := rfl
@[simp] theorem State.setSnap_tinFlags (s : State) (m : Master) (k : Nat) (v : Word) : (s.setSnap m k v).tinFlags = s.tinFlags := rfl
@[simp] theorem State.setSnap_tio (s : State) (m : Master) (k : Nat) (v : Word) : (s.setSnap m k v).tio = s.tio := rfl
@[simp] theorem State.setSnap_dmaArr (s : State) (m : Master) (k : Nat) (v : Word) : (s.setSnap m k v).dmaArr = s.dmaArr := rfl
@[simp] theorem State.setSnap_tmrs (s : State) (m : Master) (k : Nat) (v : Word) : (s.setSnap m k v).tmrs = s.tmrs := rfl
@[simp] theorem State.setSnap_freeCount (s : State) (m : Master) (k : Nat) (v : Word) : (s.setSnap m k v).freeCount = s.freeCount := rfl
@[simp] theorem State.setSnap_lanes (s : State) (m : Master) (k : Nat) (v : Word) : (s.setSnap m k v).lanes = s.lanes := rfl
@[simp] theorem State.setSnap_phases (s : State) (m : Master) (k : Nat) (v : Word) : (s.setSnap m k v).phases = s.phases := rfl
@[simp] theorem State.setSnap_felts (s : State) (m : Master) (k : Nat) (v : Word) : (s.setSnap m k v).felts = s.felts := rfl
@[simp] theorem State.setSnap_lists (s : State) (m : Master) (k : Nat) (v : Word) : (s.setSnap m k v).lists = s.lists := rfl
@[simp] theorem State.setSnap_sync (s : State) (m : Master) (k : Nat) (v : Word) : (s.setSnap m k v).sync = s.sync := rfl
@[simp] theorem State.setSnap_time (s : State) (m : Master) (k : Nat) (v : Word) : (s.setSnap m k v).time = s.time := rfl
@[simp] theorem State.setSnap_monTrk (s : State) (m : Master) (k : Nat) (v : Word) : (s.setSnap m k v).monTrk = s.monTrk := rfl
@[simp] theorem State.setSnap_casRx (s : State) (m : Master) (k : Nat) (v : Word) : (s.setSnap m k v).casRx = s.casRx := rfl
@[simp] theorem State.setSnap_adm (s : State) (m : Master) (k : Nat) (v : Word) : (s.setSnap m k v).adm = s.adm := rfl
@[simp] theorem State.setSnap_casOut (s : State) (m : Master) (k : Nat) (v : Word) : (s.setSnap m k v).casOut = s.casOut := rfl
@[simp] theorem State.setSnap_ilkHold (s : State) (m : Master) (k : Nat) (v : Word) : (s.setSnap m k v).ilkHold = s.ilkHold := rfl
@[simp] theorem State.setSnap_forceOff (s : State) (m : Master) (k : Nat) (v : Word) : (s.setSnap m k v).forceOff = s.forceOff := rfl
@[simp] theorem State.setSnap_nv (s : State) (m : Master) (k : Nat) (v : Word) : (s.setSnap m k v).nv = s.nv := rfl
@[simp] theorem State.setSnap_houses (s : State) (m : Master) (k : Nat) (v : Word) : (s.setSnap m k v).houses = s.houses := rfl
@[simp] theorem State.setSnap_bus (s : State) (m : Master) (k : Nat) (v : Word) : (s.setSnap m k v).bus = s.bus := rfl
@[simp] theorem State.setSnap_ilkHouse (s : State) (m : Master) (k : Nat) (v : Word) : (s.setSnap m k v).ilkHouse = s.ilkHouse := rfl
@[simp] theorem State.setSnap_ports (s : State) (m : Master) (k : Nat) (v : Word) : (s.setSnap m k v).ports = s.ports := rfl
@[simp] theorem State.setSnap_portFelt (s : State) (m : Master) (k : Nat) (v : Word) : (s.setSnap m k v).portFelt = s.portFelt := rfl
@[simp] theorem State.setSnap_gauges (s : State) (m : Master) (k : Nat) (v : Word) : (s.setSnap m k v).gauges = s.gauges := rfl
@[simp] theorem State.setSnap_gauRec (s : State) (m : Master) (k : Nat) (v : Word) : (s.setSnap m k v).gauRec = s.gauRec := rfl
@[simp] theorem State.setSnap_engines (s : State) (m : Master) (k : Nat) (v : Word) : (s.setSnap m k v).engines = s.engines := rfl
@[simp] theorem State.setSnap_dmas (s : State) (m : Master) (k : Nat) (v : Word) : (s.setSnap m k v).dmas = s.dmas := rfl
@[simp] theorem State.setSnap_caps (s : State) (m : Master) (k : Nat) (v : Word) : (s.setSnap m k v).caps = s.caps := rfl
@[simp] theorem State.setSnap_dmaDone (s : State) (m : Master) (k : Nat) (v : Word) : (s.setSnap m k v).dmaDone = s.dmaDone := rfl
@[simp] theorem State.setSnap_dmaLast (s : State) (m : Master) (k : Nat) (v : Word) : (s.setSnap m k v).dmaLast = s.dmaLast := rfl
@[simp] theorem State.setSnap_expQ (s : State) (m : Master) (k : Nat) (v : Word) : (s.setSnap m k v).expQ = s.expQ := rfl
@[simp] theorem State.setSnap_sup (s : State) (m : Master) (k : Nat) (v : Word) : (s.setSnap m k v).sup = s.sup := rfl
@[simp] theorem State.setSnap_img (s : State) (m : Master) (k : Nat) (v : Word) : (s.setSnap m k v).img = s.img := rfl
@[simp] theorem State.setSnap_flash (s : State) (m : Master) (k : Nat) (v : Word) : (s.setSnap m k v).flash = s.flash := rfl
@[simp] theorem State.setSnap_pwr (s : State) (m : Master) (k : Nat) (v : Word) : (s.setSnap m k v).pwr = s.pwr := rfl
@[simp] theorem State.setSnap_host (s : State) (m : Master) (k : Nat) (v : Word) : (s.setSnap m k v).host = s.host := rfl
@[simp] theorem State.setSnap_casLanes (s : State) (m : Master) (k : Nat) (v : Word) : (s.setSnap m k v).casLanes = s.casLanes := rfl
@[simp] theorem State.setSnap_cas (s : State) (m : Master) (k : Nat) (v : Word) : (s.setSnap m k v).cas = s.cas := rfl
@[simp] theorem State.setSnap_svc (s : State) (m : Master) (k : Nat) (v : Word) : (s.setSnap m k v).svc = s.svc := rfl
@[simp] theorem State.setSnap_pending (s : State) (m : Master) (k : Nat) (v : Word) : (s.setSnap m k v).pending = s.pending := rfl
@[simp] theorem State.setSnap_rd (s : State) (m : Master) (k : Nat) (v : Word) (k1 : Nat) : (s.setSnap m k v).rd k1 = s.rd k1 := rfl
@[simp] theorem State.setSnap_fld (s : State) (m : Master) (k : Nat) (v : Word) (c1 : Nat) (G : Fld) : (s.setSnap m k v).fld c1 G = s.fld c1 G := rfl
@[simp] theorem State.setSnap_flag (s : State) (m : Master) (k : Nat) (v : Word) (c1 : Nat) (G : Fld) : (s.setSnap m k v).flag c1 G = s.flag c1 G := rfl
@[simp] theorem State.setSnap_byte (s : State) (m : Master) (k : Nat) (v : Word) (k1 : Nat) : (s.setSnap m k v).byte k1 = s.byte k1 := rfl
@[simp] theorem State.setSnap_memWord (s : State) (m : Master) (k : Nat) (v : Word) (k1 : Nat) : (s.setSnap m k v).memWord k1 = s.memWord k1 := rfl
@[simp] theorem State.setSnap_timer (s : State) (m : Master) (k : Nat) (v : Word) (k1 : Nat) : (s.setSnap m k v).timer k1 = s.timer k1 := rfl
@[simp] theorem State.setSnap_lane (s : State) (m : Master) (k : Nat) (v : Word) (k1 : Nat) : (s.setSnap m k v).lane k1 = s.lane k1 := rfl
@[simp] theorem State.setSnap_phase (s : State) (m : Master) (k : Nat) (v : Word) (k1 : Nat) : (s.setSnap m k v).phase k1 = s.phase k1 := rfl
@[simp] theorem State.setSnap_felt (s : State) (m : Master) (k : Nat) (v : Word) (k1 : Nat) : (s.setSnap m k v).felt k1 = s.felt k1 := rfl
@[simp] theorem State.setSnap_wf (s : State) (m : Master) (k : Nat) (v : Word) (k1 : Nat) : (s.setSnap m k v).wf k1 = s.wf k1 := rfl
@[simp] theorem State.setSnap_house (s : State) (m : Master) (k : Nat) (v : Word) (k1 : Nat) : (s.setSnap m k v).house k1 = s.house k1 := rfl
@[simp] theorem State.setSnap_port (s : State) (m : Master) (k : Nat) (v : Word) (k1 : Nat) : (s.setSnap m k v).port k1 = s.port k1 := rfl
@[simp] theorem State.setSnap_gauge (s : State) (m : Master) (k : Nat) (v : Word) (k1 : Nat) : (s.setSnap m k v).gauge k1 = s.gauge k1 := rfl
@[simp] theorem State.setSnap_engine (s : State) (m : Master) (k : Nat) (v : Word) (k1 : Nat) : (s.setSnap m k v).engine k1 = s.engine k1 := rfl
@[simp] theorem State.setSnap_dma (s : State) (m : Master) (k : Nat) (v : Word) (k1 : Nat) : (s.setSnap m k v).dma k1 = s.dma k1 := rfl
@[simp] theorem State.setSnap_cap (s : State) (m : Master) (k : Nat) (v : Word) (k1 : Nat) : (s.setSnap m k v).cap k1 = s.cap k1 := rfl
@[simp] theorem State.setSnap_casLane (s : State) (m : Master) (k : Nat) (v : Word) (k1 : Nat) : (s.setSnap m k v).casLane k1 = s.casLane k1 := rfl

end Sys2Proof.Machine
end

