-- ==== Sys2Proof/Laws/Regs.lean ====
section
/-! SUPPORT. The laws of registers and memory: a read after a write, what a write leaves, and the canonical forms. -/
namespace Sys2Proof.Machine
-- One proof after another: side by side they take more memory than a check may have.
set_option Elab.async false

/-- The registers after a write of one. -/
theorem State.rd_wr (s : State) (a b : Nat) (v : Word) : (s.wr a v).rd b = if b = a then v else s.rd b :=
  sparseGet_set _ _ _ _ _

@[simp] theorem State.rd_wr_same (s : State) (a : Nat) (v : Word) : (s.wr a v).rd a = v := by simp [State.rd_wr]

theorem State.rd_wr_ne (s : State) (a b : Nat) (v : Word) (h : b ≠ a) : (s.wr a v).rd b = s.rd b := by simp [State.rd_wr, h]

theorem State.rd_setFld (s : State) (b : Nat) (F : Fld) (v k : Nat) :
    (s.setFld b F v).rd k = if k = b + F.off then fset (s.rd (b + F.off)) F v else s.rd k := State.rd_wr _ _ _ _

/-- A field of a register after a write of a register. -/
theorem State.fld_wr (s : State) (a : Nat) (w : Word) (c : Nat) (G : Fld) :
    (s.wr a w).fld c G = if c + G.off = a then fget w G else s.fld c G := by
  unfold State.fld
  rw [State.rd_wr]
  split <;> rfl

/-- The field that was set. -/
theorem State.fld_setFld_same (s : State) (b : Nat) (F : Fld) (v : Nat) (h : F.lo ≤ F.hi) (hh : F.hi < 32) :
    (s.setFld b F v).fld b F = v % 2 ^ (F.hi - F.lo + 1) := by
  unfold State.setFld
  rw [State.fld_wr, if_pos rfl, fget_fset_same _ _ _ h hh]

/-- A field of another register. -/
theorem State.fld_setFld_ne (s : State) (b : Nat) (F : Fld) (v c : Nat) (G : Fld) (h : c + G.off ≠ b + F.off) :
    (s.setFld b F v).fld c G = s.fld c G := by
  unfold State.setFld
  rw [State.fld_wr, if_neg h]

/-- A disjoint field of the same register. -/
theorem State.fld_setFld_other (s : State) (b : Nat) (F : Fld) (v c : Nat) (G : Fld) (hb : c + G.off = b + F.off)
    (h : F.lo ≤ F.hi) (hh : F.hi < 32) (hg : G.lo ≤ G.hi) (hd : F.hi < G.lo ∨ G.hi < F.lo) :
    (s.setFld b F v).fld c G = s.fld c G := by
  unfold State.setFld
  rw [State.fld_wr, if_pos hb, fget_fset_other _ _ _ _ h hh hg hd]
  unfold State.fld
  rw [hb]

/-! Memory. -/

theorem State.byte_setByte (s : State) (a k : Nat) (v : Byte) : (s.setByte a v).byte k = if k = a then v else s.byte k :=
  sparseGet_set _ _ _ _ _

/-- A word write changes the four bytes from its address up and no other. -/
theorem State.byte_setMemWord (s : State) (a k : Nat) (v : Word) :
    (s.setMemWord a v).byte k = if a ≤ k ∧ k < a + 4 then byteOf v (k - a) else s.byte k := by
  unfold State.setMemWord
  simp only [State.byte_setByte]
  by_cases h3 : k = a + 3
  · rw [if_pos h3, if_pos (by omega), h3, Nat.add_sub_cancel_left]
  rw [if_neg h3]
  by_cases h2 : k = a + 2
  · rw [if_pos h2, if_pos (by omega), h2, Nat.add_sub_cancel_left]
  rw [if_neg h2]
  by_cases h1 : k = a + 1
  · rw [if_pos h1, if_pos (by omega), h1, Nat.add_sub_cancel_left]
  rw [if_neg h1]
  by_cases h0 : k = a
  · rw [if_pos h0, if_pos (by omega), h0, Nat.sub_self]
  rw [if_neg h0, if_neg (by omega)]

theorem State.byte_setBytes (s : State) (a k : Nat) (l : List Byte) :
    (s.setBytes a l).byte k = if h : a ≤ k ∧ k - a < l.length then l[k - a]'h.2 else s.byte k := by
  induction l generalizing s a with
  | nil => simp [State.setBytes]
  | cons b t ih =>
    simp only [State.setBytes, ih, State.byte_setByte]
    by_cases h1 : k = a
    · subst h1; simp
    · by_cases h2 : a + 1 ≤ k
      · have e : k - a = (k - (a + 1)) + 1 := by omega
        by_cases h3 : k - (a + 1) < t.length
        · rw [dif_pos ⟨h2, h3⟩, dif_pos ⟨by omega, by simp; omega⟩]
          simp [e]
        · rw [dif_neg (by omega), dif_neg (by simp; omega), if_neg h1]
      · rw [dif_neg (by omega), dif_neg (by omega), if_neg h1]

theorem leWord_byteOf (v : Word) : leWord (byteOf v 0) (byteOf v 1) (byteOf v 2) (byteOf v 3) = v := by
  apply BitVec.eq_of_getLsbD_eq
  intro i hi
  simp only [leWord, BitVec.getLsbD_append]
  have key : ∀ k j, j < 8 → i = 8 * k + j → (byteOf v k).getLsbD j = v.getLsbD i := by
    intro k j hj e
    subst e
    unfold byteOf
    rw [BitVec.getLsbD_ofNat, Nat.testBit_shiftRight]
    simp only [BitVec.getLsbD, hj, decide_true, Bool.true_and]
  by_cases h0 : i < 8
  · simp only [h0, ↓reduceIte]
    exact key 0 i h0 (by omega)
  by_cases h1 : i - 8 < 8
  · simp only [h0, h1, ↓reduceIte]
    exact key 1 (i - 8) h1 (by omega)
  by_cases h2 : i - 8 - 8 < 8
  · simp only [h0, h1, h2, ↓reduceIte]
    exact key 2 (i - 8 - 8) h2 (by omega)
  simp only [h0, h1, h2, ↓reduceIte]
  exact key 3 (i - 8 - 8 - 8) (by omega) (by omega)

/-- A word of memory reads what was written there (R7). -/
@[simp] theorem State.memWord_setMemWord (s : State) (a : Nat) (v : Word) : (s.setMemWord a v).memWord a = v := by
  simp only [State.memWord, State.byte_setMemWord]
  have h0 : a ≤ a ∧ a < a + 4 := by omega
  have h1 : a ≤ a + 1 ∧ a + 1 < a + 4 := by omega
  have h2 : a ≤ a + 2 ∧ a + 2 < a + 4 := by omega
  have h3 : a ≤ a + 3 ∧ a + 3 < a + 4 := by omega
  rw [if_pos h0, if_pos h1, if_pos h2, if_pos h3]
  simp only [Nat.sub_self, Nat.add_sub_cancel_left]
  exact leWord_byteOf v

/-! The canonical forms. -/

theorem State.wr_regs_wf (s : State) (a : Nat) (v : Word) (h : sparseWf regReset s.regs = true) :
    sparseWf regReset (s.wr a v).regs = true := sparseSet_wf _ _ _ _ h

theorem State.setByte_mem_wf (s : State) (a : Nat) (v : Byte) (h : Memory.wf s.mem = true) :
    Memory.wf (s.setByte a v).mem = true := sparseSet_wf _ _ _ _ h

theorem State.setMemWord_mem_wf (s : State) (a : Nat) (v : Word) (h : Memory.wf s.mem = true) :
    Memory.wf (s.setMemWord a v).mem = true := by
  unfold State.setMemWord
  exact State.setByte_mem_wf _ _ _ (State.setByte_mem_wf _ _ _ (State.setByte_mem_wf _ _ _ (State.setByte_mem_wf _ _ _ h)))

theorem State.setBytes_mem_wf (s : State) (a : Nat) (l : List Byte) (h : Memory.wf s.mem = true) :
    Memory.wf (s.setBytes a l).mem = true := by
  induction l generalizing s a with
  | nil => exact h
  | cons b t ih => exact ih _ _ (State.setByte_mem_wf _ _ _ h)

theorem State.reset_mem_wf : Memory.wf State.reset.mem = true := rfl

theorem State.reset_regs_wf : sparseWf regReset State.reset.regs = true := rfl

end Sys2Proof.Machine
end

