-- ==== Sys2Proof/Laws/Engine.lean ====
section
/-! SUPPORT. What an instruction of an engine can do: contexts after an update, the issue of an instruction, and the shapes of
instruction that the families share. -/
namespace Sys2Proof.Machine
-- One proof after another: side by side they take more memory than a check may have.
set_option Elab.async false

/-! Instances. -/

theorem State.engine_setEngine (s : State) (i k : Nat) (x : EngX) :
    (s.setEngine i x).engine k = if k = i then x else s.engine k := sparseGet_set _ _ _ _ _

@[simp] theorem State.engine_setEngine_same (s : State) (i : Nat) (x : EngX) : (s.setEngine i x).engine i = x := by
  simp [State.engine_setEngine]

/-- An update of an engine leaves everything that is not an engine. -/
theorem State.setEngine_rest (s : State) (i : Nat) (x : EngX) : { s.setEngine i x with engines := [] } = { s with engines := [] } := rfl

@[simp] theorem State.ctx_setCtx_same (s : State) (e c : Nat) (x : EngCtx) : (s.setCtx e c x).ctx e c = x := by
  simp [State.ctx, State.setCtx]

theorem State.ctx_setCtx_ne (s : State) (e c k : Nat) (x : EngCtx) (h : k ≠ c) : (s.setCtx e c x).ctx e k = s.ctx e k := by
  simp [State.ctx, State.setCtx, sparseGet_set_ne _ _ _ _ _ h]

theorem State.engine_setCtx_ne (s : State) (e c k : Nat) (x : EngCtx) (h : k ≠ e) : (s.setCtx e c x).engine k = s.engine k := by
  simp [State.setCtx, State.engine_setEngine, h]

theorem State.engine_setCtx_same (s : State) (e c : Nat) (x : EngCtx) :
    (s.setCtx e c x).engine e = { s.engine e with ctxs := sparseSet (fun _ => ctx0) (s.engine e).ctxs c x } := by
  simp [State.setCtx]

/-- Setting a context changes that context only. -/
theorem State.setCtx_frame (s : State) (e c : Nat) (x : EngCtx) : CtxTo s (s.setCtx e c x) e c x where
  now := State.ctx_setCtx_same s e c x
  ctxs k h := State.ctx_setCtx_ne s e c k x h
  own := by rw [State.engine_setCtx_same]
  engines k h := State.engine_setCtx_ne s e c k x h
  rest := rfl

theorem CtxTo.trans {s t u : State} {e c : Nat} {x y : EngCtx} (h : CtxTo s t e c x) (k : CtxTo t u e c y) : CtxTo s u e c y where
  now := k.now
  ctxs j hj := (k.ctxs j hj).trans (h.ctxs j hj)
  own := k.own.trans h.own
  engines j hj := (k.engines j hj).trans (h.engines j hj)
  rest := k.rest.trans h.rest

@[simp] theorem State.setCtx_rd (s : State) (e c : Nat) (x : EngCtx) (a : Nat) : (s.setCtx e c x).rd a = s.rd a := rfl
@[simp] theorem State.setCtx_fld (s : State) (e c : Nat) (x : EngCtx) (b : Nat) (F : Fld) : (s.setCtx e c x).fld b F = s.fld b F := rfl
@[simp] theorem State.setCtx_flag (s : State) (e c : Nat) (x : EngCtx) (b : Nat) (F : Fld) : (s.setCtx e c x).flag b F = s.flag b F := rfl
@[simp] theorem State.setCtx_byte (s : State) (e c : Nat) (x : EngCtx) (a : Nat) : (s.setCtx e c x).byte a = s.byte a := rfl
@[simp] theorem State.setCtx_memWord (s : State) (e c : Nat) (x : EngCtx) (a : Nat) : (s.setCtx e c x).memWord a = s.memWord a := rfl
@[simp] theorem State.setCtx_mem (s : State) (e c : Nat) (x : EngCtx) : (s.setCtx e c x).mem = s.mem := rfl
@[simp] theorem State.setCtx_regs (s : State) (e c : Nat) (x : EngCtx) : (s.setCtx e c x).regs = s.regs := rfl
@[simp] theorem State.setCtx_reports (s : State) (e c : Nat) (x : EngCtx) : (s.setCtx e c x).reports = s.reports := rfl
@[simp] theorem State.setCtx_pulses (s : State) (e c : Nat) (x : EngCtx) : (s.setCtx e c x).pulses = s.pulses := rfl
@[simp] theorem State.setCtx_pwr (s : State) (e c : Nat) (x : EngCtx) : (s.setCtx e c x).pwr = s.pwr := rfl

/-! Registers of a context. -/

theorem EngCtx.reg_setReg (x : EngCtx) (r q : BitVec 5) (v : Word) :
    (x.setReg r v).reg q = if q = r then (if r = 0#5 then 0#32 else v) else x.reg q := by
  unfold EngCtx.reg EngCtx.setReg
  by_cases hr : r = 0#5
  · subst hr
    by_cases hq : q = 0#5 <;> simp [hq]
  · rw [if_neg hr]
    by_cases hq : q = 0#5
    · subst hq
      simp [Ne.symm hr]
    · rw [if_neg hq, if_neg hq]
      simp only [sparseGet_set, hr, if_false]
      by_cases h : q = r
      · subst h; simp
      · have : q.toNat ≠ r.toNat := fun e => h (BitVec.eq_of_toNat_eq e)
        simp [h, this]

@[simp] theorem EngCtx.reg_goto (x : EngCtx) (n : Nat) (r : BitVec 5) : (x.goto n).reg r = x.reg r := rfl
@[simp] theorem EngCtx.reg_flags (x : EngCtx) (n : Nat) (r : BitVec 5) : (x.flags n).reg r = x.reg r := rfl
@[simp] theorem EngCtx.pc_goto (x : EngCtx) (n : Nat) : (x.goto n).pc = n % 4096 := rfl
@[simp] theorem EngCtx.pc_setReg (x : EngCtx) (r : BitVec 5) (v : Word) : (x.setReg r v).pc = x.pc := by
  unfold EngCtx.setReg; split <;> rfl
@[simp] theorem EngCtx.pl_setReg (x : EngCtx) (r : BitVec 5) (v : Word) : (x.setReg r v).pl = x.pl := by
  unfold EngCtx.setReg; split <;> rfl
@[simp] theorem EngCtx.ph_setReg (x : EngCtx) (r : BitVec 5) (v : Word) : (x.setReg r v).ph = x.ph := by
  unfold EngCtx.setReg; split <;> rfl
@[simp] theorem EngCtx.sl_setReg (x : EngCtx) (r : BitVec 5) (v : Word) : (x.setReg r v).sl = x.sl := by
  unfold EngCtx.setReg; split <;> rfl
@[simp] theorem EngCtx.fps_setReg (x : EngCtx) (r : BitVec 5) (v : Word) : (x.setReg r v).fps = x.fps := by
  unfold EngCtx.setReg; split <;> rfl

/-- A register written after flags have been raised and the PC set. -/
theorem EngCtx.wrote_setReg (x : EngCtx) (pc fl : Nat) (rd : BitVec 5) (v : Word) :
    x.Wrote (((x.goto pc).flags fl).setReg rd v) (pc % 4096) rd v fl where
  pc := by simp [EngCtx.flags]
  val := by simp [EngCtx.reg_setReg]
  others r h := by simp [EngCtx.reg_setReg, h]
  pl := by simp [EngCtx.flags, EngCtx.goto]
  ph := by simp [EngCtx.flags, EngCtx.goto]
  sl := by simp [EngCtx.flags, EngCtx.goto]
  fps := by simp [EngCtx.flags, EngCtx.goto]

theorem EngCtx.flags_zero (x : EngCtx) : x.flags 0 = x := by simp [EngCtx.flags]

/-- No register written: g0 stands for none. -/
theorem EngCtx.wrote_goto (x : EngCtx) (pc fl : Nat) : x.Wrote ((x.goto pc).flags fl) (pc % 4096) 0#5 0#32 fl where
  pc := rfl
  val := rfl
  others _ _ := rfl
  pl := rfl
  ph := rfl
  sl := rfl
  fps := rfl

/-! The issue of an instruction. -/

theorem engIssue_eq {s : State} {e c : Nat} (h : engRuns s e = some c) (op : State → Nat → EngRes) :
    engIssue s e op = (match op (s.setCtx e c ((s.ctx e c).goto ((s.ctx e c).pc + 1))) c with
      | .done t => t
      | .fault k a => engFault s e c k a
      | .stall => s) := by
  simp only [engIssue, h] <;> rfl

theorem engRuns_awake {s : State} {e c : Nat} (h : engRuns s e = some c) : s.pwr.core = true ∧ s.pwr.asleep = false := by
  unfold engRuns at h
  split at h
  · rename_i hc
    simp only [Bool.and_eq_true, Bool.not_eq_true'] at hc
    exact ⟨hc.1.1.1, hc.1.1.2⟩
  · cases h

/-- An instruction that makes no report and no pulse is followed by nothing. -/
theorem State.engDo_eq {s : State} {e c : Nat} (h : Issues s e c) (act : State → State)
    (hr : (act s).reports = s.reports) (hp : (act s).pulses = s.pulses) : s.engDo act = act s := by
  have := engRuns_awake h.runs
  simp [State.engDo, this.1, this.2, hr, hp, h.pulses]

theorem engReg_frame {s : State} {e c : Nat} (h : engRuns s e = some c) (f : EngCtx → EngCtx) :
    CtxTo s (engReg s e f) e c (f ((s.ctx e c).goto ((s.ctx e c).pc + 1))) := by
  unfold engReg
  rw [engIssue_eq h]
  simp only [State.ctx_setCtx_same]
  exact (State.setCtx_frame s e c _).trans (State.setCtx_frame _ e c _)

theorem CtxTo.reports {s t : State} {e c : Nat} {x : EngCtx} (h : CtxTo s t e c x) : t.reports = s.reports :=
  (congrArg State.reports h.rest : _)

theorem CtxTo.pulses {s t : State} {e c : Nat} {x : EngCtx} (h : CtxTo s t e c x) : t.pulses = s.pulses :=
  (congrArg State.pulses h.rest : _)

/-- An instruction that only changes its context. -/
theorem State.engDo_engReg {s : State} {e c : Nat} (h : Issues s e c) (f : EngCtx → EngCtx) :
    CtxTo s (s.engDo (fun s => engReg s e f)) e c (f ((s.ctx e c).goto ((s.ctx e c).pc + 1))) := by
  have k := engReg_frame h.runs f
  rw [State.engDo_eq h _ k.reports k.pulses]
  exact k

/-- An instruction that writes one register with a value taken from the context's registers. -/
theorem State.engDo_setReg {s : State} {e c : Nat} (h : Issues s e c) (rd : BitVec 5) (g : EngCtx → Word)
    (hg : ∀ x n, g (EngCtx.goto x n) = g x) :
    Wrote s (s.engDo (fun s => engReg s e (fun x => x.setReg rd (g x)))) e c (nextPc s e c) rd (g (s.ctx e c)) 0 := by
  refine ⟨_, State.engDo_engReg h _, ?_⟩
  have := EngCtx.wrote_setReg (s.ctx e c) ((s.ctx e c).pc + 1) 0 rd (g (s.ctx e c))
  rw [EngCtx.flags_zero] at this
  simpa [hg, nextPc] using this

/-- An instruction that writes one register and raises flags. -/
theorem State.engDo_setF {s : State} {e c : Nat} (h : Issues s e c) (rd : BitVec 5) (g : EngCtx → Word × Nat)
    (hg : ∀ x n, g (EngCtx.goto x n) = g x) :
    Wrote s (s.engDo (fun s => engReg s e (fun x => x.setF rd (g x)))) e c (nextPc s e c) rd (g (s.ctx e c)).1 (g (s.ctx e c)).2 := by
  refine ⟨_, State.engDo_engReg h _, ?_⟩
  simp only [EngCtx.setF, hg]
  exact EngCtx.wrote_setReg (s.ctx e c) ((s.ctx e c).pc + 1) _ rd _

/-- An instruction that moves the PC alone. -/
theorem State.engDo_jump {s : State} {e c : Nat} (h : Issues s e c) (g : EngCtx → Nat)
    (hg : ∀ x n, g (EngCtx.goto x n) = g x) :
    Wrote s (s.engDo (fun s => engReg s e (fun x => x.goto (g x)))) e c (g (s.ctx e c) % 4096) 0#5 0#32 0 := by
  refine ⟨_, State.engDo_engReg h _, ?_⟩
  rw [hg]
  exact ⟨rfl, rfl, fun _ _ => rfl, rfl, rfl, rfl, by simp [EngCtx.goto]⟩

/-- A branch that a condition decides. -/
theorem State.engDo_branch {s : State} {e c : Nat} (h : Issues s e c) (w : Nat) (off : BitVec 13)
    (cond : EngCtx → Option (Bool × Nat)) (hc : ∀ x n, cond (EngCtx.goto x n) = cond x) (t : Bool) (fl : Nat)
    (ht : cond (s.ctx e c) = some (t, fl)) :
    Wrote s (s.engDo (fun s => engBranch s e w off cond)) e c
      (if t then ((((s.ctx e c).pc : Int) + off.toInt) % 4096).toNat else nextPc s e c) 0#5 0#32 fl := by
  have k : CtxTo s (engBranch s e w off cond) e c
      (if t then (((s.ctx e c).goto ((s.ctx e c).pc + 1)).flags fl).branch off
        else ((s.ctx e c).goto ((s.ctx e c).pc + 1)).flags fl) := by
    unfold engBranch
    rw [engIssue_eq h.runs]
    simp only [State.ctx_setCtx_same, hc, ht]
    exact (State.setCtx_frame s e c _).trans (State.setCtx_frame _ e c _)
  refine ⟨_, by rw [State.engDo_eq h _ k.reports k.pulses]; exact k, ?_⟩
  cases t
  · exact EngCtx.wrote_goto (s.ctx e c) ((s.ctx e c).pc + 1) fl
  · refine ⟨?_, rfl, fun _ _ => rfl, rfl, rfl, rfl, rfl⟩
    have h1 := off.isLt
    have : off.toInt < 4096 ∧ -4096 ≤ off.toInt := by
      constructor
      · have := BitVec.toInt_lt (x := off); norm_num at this; omega
      · have := BitVec.le_toInt (x := off); norm_num at this; omega
    simp only [EngCtx.branch, EngCtx.goto, EngCtx.flags, if_true]
    have e1 : ((s.ctx e c).pc + 1) % 4096 + 4095 ≥ 0 := by omega
    omega

/-! Data space. -/

theorem engByte_setCtx (s : State) (e c c2 a : Nat) (x : EngCtx) : engByte (s.setCtx e c2 x) e c a = engByte s e c a := by
  unfold engByte
  simp only [State.engine_setCtx_same]
  rfl

theorem engLoad_setCtx (s : State) (e c c2 a n : Nat) (x : EngCtx) : engLoad (s.setCtx e c2 x) e c a n = engLoad s e c a n := by
  unfold engLoad
  simp only [engByte_setCtx]

theorem engCheck_setCtx (s : State) (e : Fin 96) (c c2 a n : Nat) (w : Bool) (x : EngCtx) :
    engCheck (s.setCtx e c2 x) e c a n w = engCheck s e c a n w := rfl

theorem engWaits_setCtx (s : State) (e c2 a : Nat) (w : Bool) (x : EngCtx) : engWaits (s.setCtx e c2 x) w a = engWaits s w a := rfl

/-- An aligned, allowed load that no store of the slate and no boot scan holds back. -/
theorem State.engDo_load {s : State} {e : Fin 96} {c : Nat} (h : Issues s e c) (rd ra : BitVec 5) (imm : BitVec 16) (n : Nat)
    (ext : Nat → Word) (ha : engAddr (s.ctx e c) ra imm % n = 0)
    (hk : engCheck s e c (engAddr (s.ctx e c) ra imm) n false = none)
    (hw : engWaits s false (engAddr (s.ctx e c) ra imm) = false) :
    Wrote s (s.engDo (fun s => engLd s e rd ra imm n ext)) e c (nextPc s e c) rd
      (ext (engLoad s e c (engAddr (s.ctx e c) ra imm) n)) 0 := by
  have k : CtxTo s (engLd s e rd ra imm n ext) e c
      (((s.ctx e c).goto ((s.ctx e c).pc + 1)).setReg rd (ext (engLoad s e c (engAddr (s.ctx e c) ra imm) n))) := by
    unfold engLd
    rw [engIssue_eq h.runs]
    have e1 : engAddr ((s.ctx e c).goto ((s.ctx e c).pc + 1)) ra imm = engAddr (s.ctx e c) ra imm := rfl
    simp only [State.ctx_setCtx_same, e1, engAccess, ha, ne_eq, not_true, if_false, engCheck_setCtx, hk, engWaits_setCtx, hw,
      engLoad_setCtx, Bool.false_eq_true]
    exact (State.setCtx_frame s e c _).trans (State.setCtx_frame _ e c _)
  refine ⟨_, by rw [State.engDo_eq h _ k.reports k.pulses]; exact k, ?_⟩
  have := EngCtx.wrote_setReg (s.ctx e c) ((s.ctx e c).pc + 1) 0 rd (ext (engLoad s e c (engAddr (s.ctx e c) ra imm) n))
  rwa [EngCtx.flags_zero] at this

end Sys2Proof.Machine
end

