-- ==== Sys2Proof/Laws/Finish.lean ====
section
/-! SUPPORT. What follows a command in a quiet machine: nothing, unless the command itself gives it something. -/
namespace Sys2Proof.Machine
-- One proof after another: side by side they take more memory than a check may have.
set_option Elab.async false

/-- A command that leaves the ports, the timetable, the pulses, the reports and ALERT_N's enables as they were in a quiet
machine is followed by nothing. -/
theorem finish_quiet {s t : State} (h : Quiet s) (hport : t.portFelt = s.portFelt) (hsup : t.sup = s.sup)
    (hforce : t.forceOff = s.forceOff) (hheld : t.img.ttHeld = s.img.ttHeld) (hpulse : t.pulses = s.pulses)
    (hrep : t.reports = s.reports) (hint : t.rd (fcB + R.FC_INT_EN) = s.rd (fcB + R.FC_INT_EN)) : finish s t = t := by
  have e1 : portsJudge t = t := by unfold portsJudge; rw [hport, h.ports]; simp
  have e2 : newReports s t = [] := by unfold newReports; rw [hrep]; simp
  have e3 : ttSweep [] t = t := by
    unfold ttSweep
    simp [hforce, h.force, hsup, h.seq, h.rails]
  have e4 : heldTimetable t = t := by unfold heldTimetable; simp [hheld, h.held]
  have e5 : alertNotice s t = t := by
    unfold alertNotice alertLow
    rw [hint, h.alert]
    simp
  have e6 : settle s t = t := by
    unfold settle reportsSort
    simp [hpulse, h.pulses, hrep, h.reports]
    rw [← h.reports, ← hrep, ← h.pulses, ← hpulse]
  unfold finish
  simp only [e1, e2, e3, e4, e5, e6]

/-- A command of the core clock runs in a quiet machine. -/
theorem State.clocked_quiet {s : State} (h : Quiet s) (act : State → State) : s.clocked act = finish s (act s) := by
  simp [State.clocked, State.run, h.awake, h.core]

/-- A command runs where the core domain is out of reset. -/
theorem State.run_core {s : State} (h : s.pwr.core = true) (act : State → State) : s.run act = finish s (act s) := by
  simp [State.run, h]

end Sys2Proof.Machine
end

