-- ==== Sys2Proof/Laws/Store.lean ====
section
/-! SUPPORT. What a store of an engine can do: the bytes it reaches and what it leaves. -/
namespace Sys2Proof.Machine
-- One proof after another: side by side they take more memory than a check may have.
set_option Elab.async false

/-- Two data addresses of a context never share a place. -/
theorem engLoc_inj (e : Fin 96) (c a b : Nat) (p : Bool × Nat) (ha : engLoc e c a = some p) (hb : engLoc e c b = some p) : a = b := by
  have he := e.isLt
  unfold engLoc at ha hb
  obtain ⟨st, q⟩ := p
  split_ifs at ha hb <;> simp only [Option.some.injEq, Prod.mk.injEq] at ha hb <;> grind

theorem engSetByte_ctx (s : State) (e c a k : Nat) (v : Byte) : (engSetByte s e c a v).ctx e k = s.ctx e k := by
  unfold engSetByte
  split
  · simp [State.ctx]
  · rfl
  · rfl

theorem engByte_engSetByte (s : State) (e : Fin 96) (c a k : Nat) (v : Byte) (h : (engLoc e c a).isSome) :
    engByte (engSetByte s e c a v) e c k = if k = a then v else engByte s e c k := by
  obtain ⟨⟨st, p⟩, hp⟩ := Option.isSome_iff_exists.mp h
  by_cases hk : k = a
  · subst hk
    rw [if_pos rfl]
    unfold engByte engSetByte
    cases st <;> simp [hp, State.byte, State.setByte]
  · rw [if_neg hk]
    have hne : ∀ q, engLoc e c k = some (st, q) → q ≠ p := by
      intro q hq hqp
      subst hqp
      exact hk (engLoc_inj e c k a _ hq hp)
    unfold engByte engSetByte
    rw [hp]
    cases hl : engLoc e c k with
    | none => cases st <;> rfl
    | some w =>
      obtain ⟨st2, q⟩ := w
      cases st <;> cases st2
      · simp [State.byte_setByte, hne q hl]
      · rfl
      · simp
      · simp [sparseGet_set, hne q hl]

theorem byte_engSetByte (s : State) (e c a h : Nat) (v : Byte) (hn : engLoc e c a ≠ some (false, h)) :
    (engSetByte s e c a v).byte h = s.byte h := by
  unfold engSetByte
  split
  · rfl
  · rename_i q hq
    rw [State.byte_setByte, if_neg]
    intro e1
    exact hn (e1 ▸ hq)
  · rfl

theorem engSetByte_own (s : State) (e c a : Nat) (v : Byte) :
    { (engSetByte s e c a v).engine e with ctxs := [], stack := [] } = { s.engine e with ctxs := [], stack := [] } := by
  unfold engSetByte
  split
  · simp
  · rfl
  · rfl

theorem engSetByte_engines (s : State) (e c a k : Nat) (v : Byte) (hk : k ≠ e) : (engSetByte s e c a v).engine k = s.engine k := by
  unfold engSetByte
  split
  · simp [State.engine_setEngine, hk]
  · rfl
  · rfl

theorem engSetByte_rest (s : State) (e c a : Nat) (v : Byte) :
    { engSetByte s e c a v with engines := [], mem := [] } = { s with engines := [], mem := [] } := by
  unfold engSetByte
  split <;> rfl

/-- A store of n bytes all of whose addresses lie in the data space. -/
theorem engStore_stored (s : State) (e : Fin 96) (c a n : Nat) (v : Word) (h : ∀ i, i < n → (engLoc e c (a + i)).isSome) :
    Stored s (engStore s e c a n v.toNat) e c a n v (s.ctx e c) := by
  induction n with
  | zero => exact ⟨by omega, fun _ _ => rfl, fun _ _ => rfl, rfl, fun _ _ => rfl, rfl, fun _ _ => rfl, rfl⟩
  | succ n ih =>
    have ih := ih (fun i hi => h i (by omega))
    have hs : engStore s e c a (n + 1) v.toNat =
        engSetByte (engStore s e c a n v.toNat) e c (a + n) (BitVec.ofNat 8 (v.toNat / 2 ^ (8 * n))) := by
      simp [engStore, List.range_succ]
    rw [hs]
    have hb := engByte_engSetByte (engStore s e c a n v.toNat) e c (a + n)
    refine ⟨?_, ?_, ?_, ?_, ?_, ?_, ?_, ?_⟩
    · intro i hi
      rw [hb _ _ (h n (by omega))]
      by_cases e1 : i = n
      · subst e1; simp [byteOf, Nat.shiftRight_eq_div_pow]
      · rw [if_neg (by omega)]; exact ih.bytes i (by omega)
    · intro k hk
      rw [hb _ _ (h n (by omega)), if_neg (by omega)]
      exact ih.others k (by omega)
    · intro k hk
      rw [byte_engSetByte _ _ _ _ _ _ (hk n (by omega))]
      exact ih.memory k (fun i hi => hk i (by omega))
    · rw [engSetByte_ctx]; exact ih.now
    · intro k hk
      rw [engSetByte_ctx]; exact ih.ctxs k hk
    · rw [engSetByte_own]; exact ih.own
    · intro k hk
      rw [engSetByte_engines _ _ _ _ _ _ hk]; exact ih.engines k hk
    · rw [engSetByte_rest]; exact ih.rest

/-- An aligned access that the checks allow lies in the data space whole. -/
theorem engLoc_range (s : State) (e : Fin 96) (c a n : Nat) (w : Bool) (hn : n = 1 ∨ n = 2 ∨ n = 4) (ha : a % n = 0)
    (hk : engCheck s e c a n w = none) (i : Nat) (hi : i < n) : (engLoc e c (a + i)).isSome := by
  have : engLoc e c a ≠ none := by
    intro h0
    unfold engCheck at hk
    rw [h0] at hk
    cases hk
  unfold engLoc at this ⊢
  split_ifs at this ⊢ <;> first | rfl | (exfalso; apply this; rfl) | (exfalso; rcases hn with rfl | rfl | rfl <;> omega)

theorem Stored.of_setCtx {s t : State} {e c a n : Nat} {v : Word} {x y : EngCtx} (h : Stored (s.setCtx e c x) t e c a n v y) :
    Stored s t e c a n v y where
  bytes := h.bytes
  others k hk := (h.others k hk).trans (engByte_setCtx s e c c k x)
  memory k hk := h.memory k hk
  now := h.now
  ctxs k hk := (h.ctxs k hk).trans (State.ctx_setCtx_ne s e c k x hk)
  own := h.own.trans (by rw [State.engine_setCtx_same])
  engines k hk := (h.engines k hk).trans (State.engine_setCtx_ne s e c k x hk)
  rest := h.rest

theorem Stored.to_setCtx {s t : State} {e c a n : Nat} {v : Word} {x y : EngCtx} (h : Stored s t e c a n v x) :
    Stored s (t.setCtx e c y) e c a n v y where
  bytes i hi := (engByte_setCtx t e c c _ y).trans (h.bytes i hi)
  others k hk := (engByte_setCtx t e c c k y).trans (h.others k hk)
  memory k hk := h.memory k hk
  now := State.ctx_setCtx_same _ _ _ _
  ctxs k hk := (State.ctx_setCtx_ne t e c k y hk).trans (h.ctxs k hk)
  own := Eq.trans (by rw [State.engine_setCtx_same]) h.own
  engines k hk := (State.engine_setCtx_ne t e c k y hk).trans (h.engines k hk)
  rest := h.rest

theorem Stored.reports {s t : State} {e c a n : Nat} {v : Word} {y : EngCtx} (h : Stored s t e c a n v y) : t.reports = s.reports :=
  (congrArg State.reports h.rest : _)
theorem Stored.pulses {s t : State} {e c a n : Nat} {v : Word} {y : EngCtx} (h : Stored s t e c a n v y) : t.pulses = s.pulses :=
  (congrArg State.pulses h.rest : _)

/-- An aligned, allowed store that does not wait (R318). -/
theorem State.engDo_store {s : State} {e : Fin 96} {c : Nat} (h : Issues s e c) (rs ra : BitVec 5) (imm : BitVec 16) (n : Nat)
    (hn : n = 1 ∨ n = 2 ∨ n = 4) (ha : engAddr (s.ctx e c) ra imm % n = 0)
    (hk : engCheck s e c (engAddr (s.ctx e c) ra imm) n true = none) (hw : engWaits s true (engAddr (s.ctx e c) ra imm) = false) :
    Stored s (s.engDo (fun s => engSt s e rs ra imm n)) e c (engAddr (s.ctx e c) ra imm) n ((s.ctx e c).reg rs)
      ((s.ctx e c).goto ((s.ctx e c).pc + 1)) := by
  have k : Stored s (engSt s e rs ra imm n) e c (engAddr (s.ctx e c) ra imm) n ((s.ctx e c).reg rs)
      ((s.ctx e c).goto ((s.ctx e c).pc + 1)) := by
    unfold engSt
    rw [engIssue_eq h.runs]
    have e1 : engAddr ((s.ctx e c).goto ((s.ctx e c).pc + 1)) ra imm = engAddr (s.ctx e c) ra imm := rfl
    simp only [State.ctx_setCtx_same, e1, engAccess, ha, ne_eq, not_true, if_false, engCheck_setCtx, hk, engWaits_setCtx, hw,
      Bool.and_false, Bool.false_eq_true, EngCtx.reg_goto]
    have := engStore_stored (s.setCtx e c ((s.ctx e c).goto ((s.ctx e c).pc + 1))) e c (engAddr (s.ctx e c) ra imm) n
      ((s.ctx e c).reg rs) (fun i hi => engLoc_range s e c _ n true hn ha hk i hi)
    rw [State.ctx_setCtx_same] at this
    exact this.of_setCtx
  rw [State.engDo_eq h _ k.reports k.pulses]
  exact k

/-! Frames (R323). -/

theorem leNat_byteOf (v : Word) : leNat [byteOf v 0, byteOf v 1, byteOf v 2, byteOf v 3] = v.toNat := by
  have h := v.isLt
  simp only [leNat, byteOf, BitVec.toNat_ofNat, Nat.shiftRight_eq_div_pow]
  norm_num
  omega

/-- A word of the data space after a word has been stored there. -/
theorem engLoad_stored {s t : State} {e c a : Nat} {v : Word} {y : EngCtx} (h : Stored s t e c a 4 v y) :
    engLoad t e c a 4 = v.toNat := by
  rw [← leNat_byteOf v, ← h.bytes 0 (by omega), ← h.bytes 1 (by omega), ← h.bytes 2 (by omega), ← h.bytes 3 (by omega)]
  rfl

/-- A word of the data space that a store does not reach. -/
theorem engLoad_unstored {s t : State} {e c a n b : Nat} {v : Word} {y : EngCtx} (h : Stored s t e c a n v y)
    (hb : b + 4 ≤ a ∨ a + n ≤ b) : engLoad t e c b 4 = engLoad s e c b 4 := by
  have : ∀ i, i < 4 → engByte t e c (b + i) = engByte s e c (b + i) := fun i hi => h.others (b + i) (by omega)
  unfold engLoad
  congr 1
  exact List.map_congr_left (fun i hi => this i (List.mem_range.mp hi))

/-- What storing the words ws from base + 4 × n up leaves. -/
structure FrameStored (s t : State) (e c base n : Nat) (ws : List Word) : Prop where
  words : ∀ i w, ws[i]? = some w → engLoad t e c (base + 4 * (n + i)) 4 = w.toNat
  others : ∀ k, k < base + 4 * n ∨ base + 4 * (n + ws.length) ≤ k → engByte t e c k = engByte s e c k
  ctxs : ∀ k, t.ctx e k = s.ctx e k
  own : { t.engine e with ctxs := [], stack := [] } = { s.engine e with ctxs := [], stack := [] }
  engines : ∀ k, k ≠ e → t.engine k = s.engine k
  rest : { t with engines := [], mem := [] } = { s with engines := [], mem := [] }

theorem FrameStored.reports {s t : State} {e c a n : Nat} {ws : List Word} (h : FrameStored s t e c a n ws) : t.reports = s.reports :=
  (congrArg State.reports h.rest : _)
theorem FrameStored.pulses {s t : State} {e c a n : Nat} {ws : List Word} (h : FrameStored s t e c a n ws) : t.pulses = s.pulses :=
  (congrArg State.pulses h.rest : _)
theorem FrameStored.regs {s t : State} {e c a n : Nat} {ws : List Word} (h : FrameStored s t e c a n ws) : t.regs = s.regs :=
  (congrArg State.regs h.rest : _)

theorem frameStore_stored (s : State) (e : Fin 96) (c base n : Nat) (ws : List Word)
    (hr : base + 4 * (n + ws.length) ≤ 2 ^ 32)
    (hl : ∀ i, i < ws.length → ∀ j, j < 4 → (engLoc e c (base + 4 * (n + i) + j)).isSome) :
    FrameStored s ((ws.zipIdx n).foldl (fun s p => engStore s e c ((base + 4 * p.2) % 2 ^ 32) 4 p.1.toNat) s) e c base n ws := by
  induction ws generalizing s n with
  | nil => exact ⟨fun i w h => by simp at h, fun _ _ => rfl, fun _ => rfl, rfl, fun _ _ => rfl, rfl⟩
  | cons w ws ih =>
    simp only [List.length_cons] at hr hl
    have hm : (base + 4 * n) % 2 ^ 32 = base + 4 * n := Nat.mod_eq_of_lt (by omega)
    have hs := engStore_stored s e c (base + 4 * n) 4 w (fun i hi => by simpa using hl 0 (by omega) i hi)
    have hi := ih (engStore s e c (base + 4 * n) 4 w.toNat) (n + 1) (by omega)
      (fun i h j hj => by
        have := hl (i + 1) (by omega) j hj
        have e1 : base + 4 * (n + 1 + i) + j = base + 4 * (n + (i + 1)) + j := by omega
        rwa [e1])
    simp only [List.zipIdx_cons, List.foldl_cons, hm]
    refine ⟨?_, ?_, ?_, ?_, ?_, ?_⟩
    · intro i v hv
      cases i with
      | zero =>
        simp only [List.getElem?_cons_zero, Option.some.injEq] at hv
        subst hv
        have : engLoad ((ws.zipIdx (n + 1)).foldl (fun s p => engStore s e c ((base + 4 * p.2) % 2 ^ 32) 4 p.1.toNat)
            (engStore s e c (base + 4 * n) 4 w.toNat)) e c (base + 4 * n) 4 =
            engLoad (engStore s e c (base + 4 * n) 4 w.toNat) e c (base + 4 * n) 4 := by
          unfold engLoad
          congr 1
          exact List.map_congr_left (fun i hi' => hi.others _ (by have := List.mem_range.mp hi'; omega))
        have e0 : base + 4 * (n + 0) = base + 4 * n := rfl
        rw [e0, this]
        exact engLoad_stored hs
      | succ i =>
        have := hi.words i v (by simpa using hv)
        have e1 : base + 4 * (n + (i + 1)) = base + 4 * (n + 1 + i) := by omega
        rw [e1]; exact this
    · intro k hk
      simp only [List.length_cons] at hk
      rw [hi.others k (by omega), hs.others k (by omega)]
    · intro k
      rw [hi.ctxs k]
      by_cases hk : k = c
      · subst hk; exact hs.now
      · exact hs.ctxs k hk
    · exact hi.own.trans hs.own
    · intro k hk
      rw [hi.engines k hk, hs.engines k hk]
    · exact hi.rest.trans hs.rest

end Sys2Proof.Machine
end

