-- ==== Sys2Proof/Laws/Write.lean ====
section
/-! SUPPORT. Accesses of masters: the row of a register by its unit, what a write of it does, and what an accepted write or read
of a register amounts to. -/
namespace Sys2Proof.Machine
-- One proof after another: side by side they take more memory than a check may have.
set_option Elab.async false

/-! The row and the action of a register, by its unit. -/

theorem regRow_eng (e o : Nat) (hi : e < 96) (ho : o < 0x200) :
    regRow (engB e + o) = (rowsEng0 ++ rowsEng1).find? (fun r => r.covers o) := by
  have e1 : unitMaps.find? (fun u => decide (u.base ≤ engB e + o) && decide (engB e + o < u.base + u.size)) =
      some (⟨0x200000, 0xc000, 0x200, rowsEng0 ++ rowsEng1⟩ : UnitMap) := by
    unfold unitMaps engB
    simp only [List.find?_cons]
    repeat' split
    all_goals first
      | rfl
      | (exfalso; simp only [Bool.and_eq_true, decide_eq_true_eq, Bool.and_eq_false_iff, decide_eq_false_iff_not] at *; omega)
  unfold regRow
  rw [e1]
  have e2 : (engB e + o - 0x200000) % 0x200 = o := by unfold engB; omega
  simp only [e2]

theorem regAction_eng (s : State) (m : Master) (e o : Nat) (w old : Word) (hi : e < 96) (ho : o < 0x200) :
    regAction s m (engB e + o) w old = engAction s e o w.toNat := by
  unfold regAction engB
  dsimp only
  repeat rw [if_neg (by omega)]
  have e1 : (0x200000 + 0x200 * e + o - 0x200000) / 0x200 = e := by omega
  have e2 : (0x200000 + 0x200 * e + o - 0x200000) % 0x200 = o := by omega
  simp only [e1, e2]

theorem regRow_sl (l o : Nat) (hi : l < 12) (ho : o < 0x1000) :
    regRow (slB l + o) = (rowsSl0 ++ rowsSl1).find? (fun r => r.covers o) := by
  have e1 : unitMaps.find? (fun u => decide (u.base ≤ slB l + o) && decide (slB l + o < u.base + u.size)) =
      some (⟨0xc0000, 0xc000, 0x1000, rowsSl0 ++ rowsSl1⟩ : UnitMap) := by
    unfold unitMaps slB
    simp only [List.find?_cons]
    repeat' split
    all_goals first
      | rfl
      | (exfalso; simp only [Bool.and_eq_true, decide_eq_true_eq, Bool.and_eq_false_iff, decide_eq_false_iff_not] at *; omega)
  unfold regRow
  rw [e1]
  have e2 : (slB l + o - 0xc0000) % 0x1000 = o := by unfold slB; omega
  simp only [e2]

theorem regAction_sl (s : State) (m : Master) (l o : Nat) (w old : Word) (hi : l < 12) (ho : o < 0x1000) :
    regAction s m (slB l + o) w old = slAction s l o w.toNat old := by
  unfold regAction slB
  dsimp only
  repeat rw [if_neg (by omega)]
  rw [if_pos (by omega)]
  have e1 : (0xc0000 + 0x1000 * l + o - 0xc0000) / 0x1000 = l := by omega
  have e2 : (0xc0000 + 0x1000 * l + o - 0xc0000) % 0x1000 = o := by omega
  simp only [e1, e2]

theorem regRow_felt (f o : Nat) (hi : f < 96) (ho : o < 0x800) :
    regRow (feltB f + o) = (rowsFelt0 ++ rowsFelt1 ++ rowsFelt2 ++ rowsFelt3 ++ rowsFelt4).find? (fun r => r.covers o) := by
  have e1 : unitMaps.find? (fun u => decide (u.base ≤ feltB f + o) && decide (feltB f + o < u.base + u.size)) =
      some (⟨0x180000, 0x30000, 0x800, rowsFelt0 ++ rowsFelt1 ++ rowsFelt2 ++ rowsFelt3 ++ rowsFelt4⟩ : UnitMap) := by
    unfold unitMaps feltB
    simp only [List.find?_cons]
    repeat' split
    all_goals first
      | rfl
      | (exfalso; simp only [Bool.and_eq_true, decide_eq_true_eq, Bool.and_eq_false_iff, decide_eq_false_iff_not] at *; omega)
  unfold regRow
  rw [e1]
  have e2 : (feltB f + o - 0x180000) % 0x800 = o := by unfold feltB; omega
  simp only [e2]

theorem regAction_felt (s : State) (m : Master) (f o : Nat) (w old : Word) (hi : f < 96) (ho : o < 0x800) :
    regAction s m (feltB f + o) w old = feltAction s f o w.toNat old := by
  unfold regAction feltB
  dsimp only
  repeat rw [if_neg (by omega)]
  rw [if_pos (by omega)]
  have e1 : (0x180000 + 0x800 * f + o - 0x180000) / 0x800 = f := by omega
  have e2 : (0x180000 + 0x800 * f + o - 0x180000) % 0x800 = o := by omega
  simp only [e1, e2]

theorem regRow_pd (n o : Nat) (hi : n < 48) (ho : o < 0x800) :
    regRow (pdB n + o) = (rowsPd0 ++ rowsPd1).find? (fun r => r.covers o) := by
  have e1 : unitMaps.find? (fun u => decide (u.base ≤ pdB n + o) && decide (pdB n + o < u.base + u.size)) =
      some (⟨0x1c0000, 0x18000, 0x800, rowsPd0 ++ rowsPd1⟩ : UnitMap) := by
    unfold unitMaps pdB
    simp only [List.find?_cons]
    repeat' split
    all_goals first
      | rfl
      | (exfalso; simp only [Bool.and_eq_true, decide_eq_true_eq, Bool.and_eq_false_iff, decide_eq_false_iff_not] at *; omega)
  unfold regRow
  rw [e1]
  have e2 : (pdB n + o - 0x1c0000) % 0x800 = o := by unfold pdB; omega
  simp only [e2]

theorem regAction_pd (s : State) (m : Master) (n o : Nat) (w old : Word) (hi : n < 48) (ho : o < 0x800) :
    regAction s m (pdB n + o) w old = pdAction s n o w.toNat old := by
  unfold regAction pdB
  dsimp only
  repeat rw [if_neg (by omega)]
  rw [if_pos (by omega)]
  have e1 : (0x1c0000 + 0x800 * n + o - 0x1c0000) / 0x800 = n := by omega
  have e2 : (0x1c0000 + 0x800 * n + o - 0x1c0000) % 0x800 = o := by omega
  simp only [e1, e2]

theorem regRow_tmr (n o : Nat) (hi : n < 64) (ho : o < 0x100) :
    regRow (tmrB n + o) = (rowsTmr0 ++ rowsTmr1).find? (fun r => r.covers o) := by
  have e1 : unitMaps.find? (fun u => decide (u.base ≤ tmrB n + o) && decide (tmrB n + o < u.base + u.size)) =
      some (⟨0x40000, 0x4000, 0x100, rowsTmr0 ++ rowsTmr1⟩ : UnitMap) := by
    unfold unitMaps tmrB
    simp only [List.find?_cons]
    repeat' split
    all_goals first
      | rfl
      | (exfalso; simp only [Bool.and_eq_true, decide_eq_true_eq, Bool.and_eq_false_iff, decide_eq_false_iff_not] at *; omega)
  unfold regRow
  rw [e1]
  have e2 : (tmrB n + o - 0x40000) % 0x100 = o := by unfold tmrB; omega
  simp only [e2]

theorem regAction_tmr (s : State) (m : Master) (n o : Nat) (w old : Word) (hi : n < 64) (ho : o < 0x100) :
    regAction s m (tmrB n + o) w old = tmrAction s n o w.toNat old := by
  unfold regAction tmrB
  dsimp only
  repeat rw [if_neg (by omega)]
  rw [if_pos (by omega)]
  have e1 : (0x40000 + 0x100 * n + o - 0x40000) / 0x100 = n := by omega
  have e2 : (0x40000 + 0x100 * n + o - 0x40000) % 0x100 = o := by omega
  simp only [e1, e2]

theorem regRow_hse (h o : Nat) (hi : h < 8) (ho : o < 0x100) :
    regRow (hseB h + o) = (rowsHse0 ++ rowsHse1).find? (fun r => r.covers o) := by
  have e1 : unitMaps.find? (fun u => decide (u.base ≤ hseB h + o) && decide (hseB h + o < u.base + u.size)) =
      some (⟨0x70000, 0x800, 0x100, rowsHse0 ++ rowsHse1⟩ : UnitMap) := by
    unfold unitMaps hseB
    simp only [List.find?_cons]
    repeat' split
    all_goals first
      | rfl
      | (exfalso; simp only [Bool.and_eq_true, decide_eq_true_eq, Bool.and_eq_false_iff, decide_eq_false_iff_not] at *; omega)
  unfold regRow
  rw [e1]
  have e2 : (hseB h + o - 0x70000) % 0x100 = o := by unfold hseB; omega
  simp only [e2]

theorem regAction_hse (s : State) (m : Master) (h o : Nat) (w old : Word) (hi : h < 8) (ho : o < 0x100) :
    regAction s m (hseB h + o) w old = (if o = R.HSE_CTRL then houseCtrlWritten s h w.toNat old else s) := by
  unfold regAction hseB
  dsimp only
  repeat rw [if_neg (by omega)]
  rw [if_pos (by omega)]
  have e1 : (0x70000 + 0x100 * h + o - 0x70000) / 0x100 = h := by omega
  have e2 : (0x70000 + 0x100 * h + o - 0x70000) % 0x100 = o := by omega
  simp only [e1, e2]

theorem regRow_gau (g o : Nat) (hi : g < 100) (ho : o < 0x100) :
    regRow (gauB g + o) = (rowsGau0 ++ rowsGau1 ++ rowsGau2 ++ rowsGau3).find? (fun r => r.covers o) := by
  have e1 : unitMaps.find? (fun u => decide (u.base ≤ gauB g + o) && decide (gauB g + o < u.base + u.size)) =
      some (⟨0x90000, 0x6400, 0x100, rowsGau0 ++ rowsGau1 ++ rowsGau2 ++ rowsGau3⟩ : UnitMap) := by
    unfold unitMaps gauB
    simp only [List.find?_cons]
    repeat' split
    all_goals first
      | rfl
      | (exfalso; simp only [Bool.and_eq_true, decide_eq_true_eq, Bool.and_eq_false_iff, decide_eq_false_iff_not] at *; omega)
  unfold regRow
  rw [e1]
  have e2 : (gauB g + o - 0x90000) % 0x100 = o := by unfold gauB; omega
  simp only [e2]

theorem regAction_gau (s : State) (m : Master) (g o : Nat) (w old : Word) (hi : g < 100) (ho : o < 0x100) :
    regAction s m (gauB g + o) w old = gauAction s g o w.toNat old := by
  unfold regAction gauB
  dsimp only
  repeat rw [if_neg (by omega)]
  rw [if_pos (by omega)]
  have e1 : (0x90000 + 0x100 * g + o - 0x90000) / 0x100 = g := by omega
  have e2 : (0x90000 + 0x100 * g + o - 0x90000) % 0x100 = o := by omega
  simp only [e1, e2]

theorem regRow_dma (c o : Nat) (hi : c < 32) (ho : o < 0x40) :
    regRow (dmaB c + o) = (rowsDma0).find? (fun r => r.covers o) := by
  have e1 : unitMaps.find? (fun u => decide (u.base ≤ dmaB c + o) && decide (dmaB c + o < u.base + u.size)) =
      some (⟨0xe0000, 0x800, 0x40, rowsDma0⟩ : UnitMap) := by
    unfold unitMaps dmaB
    simp only [List.find?_cons]
    repeat' split
    all_goals first
      | rfl
      | (exfalso; simp only [Bool.and_eq_true, decide_eq_true_eq, Bool.and_eq_false_iff, decide_eq_false_iff_not] at *; omega)
  unfold regRow
  rw [e1]
  have e2 : (dmaB c + o - 0xe0000) % 0x40 = o := by unfold dmaB; omega
  simp only [e2]

theorem regAction_dma (s : State) (m : Master) (c o : Nat) (w old : Word) (hi : c < 32) (ho : o < 0x40) :
    regAction s m (dmaB c + o) w old = (if o = R.DMA_CTRL then dmaCtrlWritten s c w.toNat else if o = R.DMA_DESC then s.dmaMod c (fun x => { x with fresh := true }) else s) := by
  unfold regAction dmaB
  dsimp only
  repeat rw [if_neg (by omega)]
  rw [if_pos (by omega)]
  have e1 : (0xe0000 + 0x40 * c + o - 0xe0000) / 0x40 = c := by omega
  have e2 : (0xe0000 + 0x40 * c + o - 0xe0000) % 0x40 = o := by omega
  simp only [e1, e2]

theorem regRow_cap (u o : Nat) (hi : u < 8) (ho : o < 0x100) :
    regRow (capB u + o) = (rowsCap0).find? (fun r => r.covers o) := by
  have e1 : unitMaps.find? (fun x => decide (x.base ≤ capB u + o) && decide (capB u + o < x.base + x.size)) =
      some (⟨0xe8000, 0x800, 0x100, rowsCap0⟩ : UnitMap) := by
    unfold unitMaps capB
    simp only [List.find?_cons]
    repeat' split
    all_goals first
      | rfl
      | (exfalso; simp only [Bool.and_eq_true, decide_eq_true_eq, Bool.and_eq_false_iff, decide_eq_false_iff_not] at *; omega)
  unfold regRow
  rw [e1]
  have e2 : (capB u + o - 0xe8000) % 0x100 = o := by unfold capB; omega
  simp only [e2]

theorem regAction_cap (s : State) (m : Master) (u o : Nat) (w old : Word) (hi : u < 8) (ho : o < 0x100) :
    regAction s m (capB u + o) w old = (if o = R.CAP_CTRL then capCtrlWritten s u w.toNat else s) := by
  unfold regAction capB
  dsimp only
  repeat rw [if_neg (by omega)]
  rw [if_pos (by omega)]
  have e1 : (0xe8000 + 0x100 * u + o - 0xe8000) / 0x100 = u := by omega
  have e2 : (0xe8000 + 0x100 * u + o - 0xe8000) % 0x100 = o := by omega
  simp only [e1, e2]

theorem regRow_phs (p o : Nat) (hi : p < 192) (ho : o < 0x800) :
    regRow (phsB p + o) = (rowsPhs0 ++ rowsPhs1 ++ rowsPhs2 ++ rowsPhs3).find? (fun r => r.covers o) := by
  have e1 : unitMaps.find? (fun u => decide (u.base ≤ phsB p + o) && decide (phsB p + o < u.base + u.size)) =
      some (⟨0x100000, 0x60000, 0x800, rowsPhs0 ++ rowsPhs1 ++ rowsPhs2 ++ rowsPhs3⟩ : UnitMap) := by
    unfold unitMaps phsB
    simp only [List.find?_cons]
    repeat' split
    all_goals first
      | rfl
      | (exfalso; simp only [Bool.and_eq_true, decide_eq_true_eq, Bool.and_eq_false_iff, decide_eq_false_iff_not] at *; omega)
  unfold regRow
  rw [e1]
  have e2 : (phsB p + o - 0x100000) % 0x800 = o := by unfold phsB; omega
  simp only [e2]

theorem regAction_phs (s : State) (m : Master) (p o : Nat) (w old : Word) (hi : p < 192) (ho : o < 0x800) :
    regAction s m (phsB p + o) w old = s := by
  unfold regAction phsB
  dsimp only
  repeat rw [if_neg (by omega)]
  rw [if_pos (by omega)]

theorem regAction_fc (s : State) (m : Master) (o : Nat) (w old : Word) (ho : o < 0x10000) :
    regAction s m (fcB + o) w old = fcAction s o w.toNat := by
  unfold regAction fcB
  dsimp only
  rw [if_neg (by omega), if_pos (by omega)]
  rw [Nat.add_sub_cancel_left]

theorem regAction_evt (s : State) (m : Master) (o : Nat) (w old : Word) (ho : o < 0x10000) :
    regAction s m (evtB + o) w old = evtAction s o w.toNat := by
  unfold regAction evtB
  dsimp only
  repeat rw [if_neg (by omega)]
  rw [if_pos (by omega)]
  rw [Nat.add_sub_cancel_left]

theorem regAction_time (s : State) (m : Master) (o : Nat) (w old : Word) (ho : o < 0x10000) :
    regAction s m (timeB + o) w old = timeAction s o w.toNat := by
  unfold regAction timeB
  dsimp only
  repeat rw [if_neg (by omega)]
  rw [if_pos (by omega)]
  rw [Nat.add_sub_cancel_left]

theorem regAction_sup (s : State) (m : Master) (o : Nat) (w old : Word) (ho : o < 0x10000) :
    regAction s m (supB + o) w old = supAction s o w.toNat := by
  unfold regAction supB
  dsimp only
  repeat rw [if_neg (by omega)]
  rw [if_pos (by omega)]
  rw [Nat.add_sub_cancel_left]

theorem regAction_bus (s : State) (m : Master) (o : Nat) (w old : Word) (ho : o < 0x10000) :
    regAction s m (busB + o) w old = busAction s o w.toNat old := by
  unfold regAction busB
  dsimp only
  repeat rw [if_neg (by omega)]
  rw [if_pos (by omega)]
  rw [Nat.add_sub_cancel_left]

theorem regAction_nv (s : State) (m : Master) (o : Nat) (w old : Word) (ho : o < 0x10000) :
    regAction s m (nvB + o) w old = nvAction s o w.toNat := by
  unfold regAction nvB
  dsimp only
  repeat rw [if_neg (by omega)]
  rw [if_pos (by omega)]
  rw [Nat.add_sub_cancel_left]

theorem regAction_cas (s : State) (m : Master) (o : Nat) (w old : Word) (ho : o < 0x10000) :
    regAction s m (casB + o) w old = casAction s o w.toNat := by
  unfold regAction casB
  dsimp only
  repeat rw [if_neg (by omega)]
  rw [if_pos (by omega)]
  rw [Nat.add_sub_cancel_left]

/-! Accepted accesses. -/

/-- A command of a master that is not asleep and out of reset runs at once. -/
theorem State.byMaster_awake {s : State} (h : Awake s) (m : Master) (act : State → State) : s.byMaster m act = finish s (act s) := by
  have hw : wakeUp s = s := by unfold wakeUp; rw [h.clock]; rfl
  unfold State.byMaster
  rw [State.run_core h.core]
  cases m <;> simp [hw, h.clock]

theorem not_memory (a : Nat) (h : a < 0x1000000) : inRam a = false ∧ inSlate a = false ∧ inRecord a = false := by
  refine ⟨?_, ?_, ?_⟩ <;> simp [inRam, inSlate, inRecord] <;> omega

/-- An accepted write of a register that is not coherent: the register takes its word and the unit acts. -/
theorem masterWrite_reg {s : State} {m : Master} {a : Nat} {w : Word} {r : RegRow} (h : Accepts s m a w) (hr : regRow a = some r)
    (hc : r.coh = false) (ha : a % 4 = 0) (hm : a < 0x1000000) :
    masterWrite m a w s = regAction (s.wr a (regTake s m a r w)) m a w (s.rd a) := by
  obtain ⟨h1, h2, h3⟩ := not_memory a hm
  have e1 : busPut m a w s = (regAction (s.wr a (regTake s m a r w)) m a w (s.rd a), true) := by
    unfold busPut regWrite regAccept regStore
    simp [h1, h2, h3, ha, h.allowed, hr, hc]
  unfold masterWrite
  rw [e1]
  rfl

theorem State.put_reg {s : State} {m : Master} {b o v : Nat} {r : RegRow} (h : Accepts s m (b + o) (BitVec.ofNat 32 v))
    (hr : regRow (b + o) = some r) (hc : r.coh = false) (ha : (b + o) % 4 = 0) (hm : b + o < 0x1000000) :
    s.put m b o v = finish s (regAction (s.wr (b + o) (regTake s m (b + o) r (BitVec.ofNat 32 v))) m (b + o) (BitVec.ofNat 32 v)
      (s.rd (b + o))) := by
  unfold State.put
  rw [State.byMaster_awake h.toAwake, masterWrite_reg h hr hc ha hm]

theorem State.ctl_reg {s : State} {m : Master} {b v : Nat} {F : Fld} {r : RegRow}
    (h : Accepts s m (b + F.off) (fset (s.kept (b + F.off)) F v))
    (hr : regRow (b + F.off) = some r) (hc : r.coh = false) (ha : (b + F.off) % 4 = 0) (hm : b + F.off < 0x1000000) :
    s.ctl m b F v = finish s (regAction (s.wr (b + F.off) (regTake s m (b + F.off) r (fset (s.kept (b + F.off)) F v))) m (b + F.off)
      (fset (s.kept (b + F.off)) F v) (s.rd (b + F.off))) := by
  unfold State.ctl
  rw [State.byMaster_awake h.toAwake, masterWrite_reg h hr hc ha hm]

/-- An accepted read of a register. -/
theorem State.get_reg {s : State} {m : Master} {a : Nat} {r : RegRow} (h : Readable s m a) (hr : regRow a = some r)
    (ha : a % 4 = 0) (hm : a < 0x1000000) : s.get m a = finish s (regRead m a r s).2 := by
  obtain ⟨h1, h2, h3⟩ := not_memory a hm
  unfold State.get
  rw [State.byMaster_awake h.toAwake]
  unfold masterRead busGet
  simp [h.allowed, ha, h1, h2, h3, hr]

end Sys2Proof.Machine
end

