-- ==== Sys2Proof/Laws/Stored.lean ====
section
/-! SUPPORT. What a register takes from a write: fields read-write, write-one-to-clear and write-only, and the words that a master
writes to change one field. -/
namespace Sys2Proof.Machine
-- One proof after another: side by side they take more memory than a check may have.
set_option Elab.async false

/-- The bits of a field within its register. -/
def fmask (F : Fld) : Nat := (2 ^ (F.hi - F.lo + 1) - 1) * 2 ^ F.lo

theorem fmask_testBit (F : Fld) (k : Nat) (h : F.lo ≤ F.hi) : (fmask F).testBit k = (decide (F.lo ≤ k) && decide (k ≤ F.hi)) := by
  unfold fmask
  rw [Nat.testBit_mul_two_pow, Nat.testBit_two_pow_sub_one]
  by_cases h1 : F.lo ≤ k <;> by_cases h2 : k ≤ F.hi <;> simp [h1, h2]
  all_goals omega

theorem fset_getLsbD (w : Word) (F : Fld) (v k : Nat) (h : F.lo ≤ F.hi) (hk : k < 32) :
    (fset w F v).getLsbD k = if F.lo ≤ k ∧ k ≤ F.hi then v.testBit (k - F.lo) else w.getLsbD k := by
  unfold fset
  rw [BitVec.getLsbD_ofNat, setBits_testBit _ _ _ _ _ h]
  simp only [hk, decide_true, Bool.true_and]
  rfl

/-- Bit by bit, what a register takes. -/
theorem RegRow.stored_getLsbD (r : RegRow) (old v : Word) (k : Nat) (hk : k < 32) (hr : r.rw ||| r.rwl < 2 ^ 32) :
    (r.stored old v).getLsbD k =
      ((((if (r.rw ||| r.rwl).testBit k then v.getLsbD k else old.getLsbD k) && !(v.getLsbD k && r.w1c.testBit k))) ||
        (v.getLsbD k && r.w1s.testBit k)) := by
  have e1 : ∀ x : Nat, x < 2 ^ 32 → (0xFFFFFFFF - x).testBit k = !x.testBit k := by
    intro x hx
    have : 0xFFFFFFFF - x = 2 ^ 32 - (x + 1) := by omega
    rw [this, Nat.testBit_two_pow_sub_succ hx]
    simp [hk]
  have e2 : v.toNat &&& r.w1c < 2 ^ 32 := lt_of_le_of_lt Nat.and_le_left v.isLt
  have ev : v.toNat.testBit k = v.getLsbD k := rfl
  have eo : old.toNat.testBit k = old.getLsbD k := rfl
  unfold RegRow.stored
  simp only [BitVec.getLsbD_ofNat, hk, decide_true, Bool.true_and, Nat.testBit_or, Nat.testBit_and, e1 _ hr, e1 _ e2, ev, eo]
  cases h1 : r.rw.testBit k <;> cases h2 : r.rwl.testBit k <;> cases v.getLsbD k <;> cases old.getLsbD k <;> simp

/-- Read-write fields written with the word as it stands but for one of them: that field changes and nothing else. -/
theorem RegRow.stored_kept (r : RegRow) (old : Word) (F : Fld) (v : Nat) (h : F.lo ≤ F.hi) (hr : r.rw ||| r.rwl < 2 ^ 32)
    (hf : fmask F &&& (r.rw ||| r.rwl) = fmask F) (hw : (r.rw ||| r.rwl) &&& (r.w1c ||| r.w1s) = 0) :
    r.stored old (fset (old &&& BitVec.ofNat 32 (r.rw ||| r.rwl)) F v) = fset old F v := by
  apply BitVec.eq_of_getLsbD_eq
  intro k hk
  rw [RegRow.stored_getLsbD r _ _ k hk hr, fset_getLsbD _ _ _ _ h hk, fset_getLsbD _ _ _ _ h hk]
  have a1 := congrArg (fun n => n.testBit k) hf
  have a2 := congrArg (fun n => n.testBit k) hw
  simp only [Nat.testBit_and, Nat.testBit_or, fmask_testBit F k h, Nat.zero_testBit] at a1 a2
  simp only [BitVec.getLsbD_and, BitVec.getLsbD_ofNat, hk, decide_true, Bool.true_and, Nat.testBit_or]
  by_cases h1 : F.lo ≤ k ∧ k ≤ F.hi
  · simp only [h1, and_self, if_true, decide_true, Bool.and_self, Bool.true_and] at a1 ⊢
    rw [a1] at a2 ⊢
    simp at a2 ⊢
    simp [a2]
  · simp only [if_neg h1]
    cases b : (r.rw.testBit k || r.rwl.testBit k) <;> simp [b] at a2 ⊢
    simp [a2]

/-- A write-only field written, the read-write fields as they stand: nothing is stored. -/
theorem RegRow.stored_only (r : RegRow) (old : Word) (F : Fld) (v : Nat) (h : F.lo ≤ F.hi) (hr : r.rw ||| r.rwl < 2 ^ 32)
    (hf : fmask F &&& (r.rw ||| r.rwl ||| r.w1c ||| r.w1s) = 0) (hw : (r.rw ||| r.rwl) &&& (r.w1c ||| r.w1s) = 0) :
    r.stored old (fset (old &&& BitVec.ofNat 32 (r.rw ||| r.rwl)) F v) = old := by
  apply BitVec.eq_of_getLsbD_eq
  intro k hk
  rw [RegRow.stored_getLsbD r _ _ k hk hr, fset_getLsbD _ _ _ _ h hk]
  have a1 := congrArg (fun n => n.testBit k) hf
  have a2 := congrArg (fun n => n.testBit k) hw
  simp only [Nat.testBit_and, Nat.testBit_or, fmask_testBit F k h, Nat.zero_testBit] at a1 a2
  simp only [BitVec.getLsbD_and, BitVec.getLsbD_ofNat, hk, decide_true, Bool.true_and, Nat.testBit_or]
  by_cases h1 : F.lo ≤ k ∧ k ≤ F.hi
  · simp only [h1, and_self, if_true, decide_true, Bool.and_self, Bool.true_and, Bool.or_eq_false_iff] at a1 ⊢
    simp [a1]
  · simp only [if_neg h1]
    cases b : (r.rw.testBit k || r.rwl.testBit k) <;> simp [b] at a2 ⊢
    simp [a2]

/-- A register whose only stored field is F takes that field of the word. -/
theorem RegRow.stored_field (r : RegRow) (old v : Word) (F : Fld) (h : F.lo ≤ F.hi) (hh : F.hi < 32)
    (hf : r.rw ||| r.rwl = fmask F) (hc : r.w1c = 0) (hs : r.w1s = 0) : r.stored old v = fset old F (v.toNat / 2 ^ F.lo) := by
  apply BitVec.eq_of_getLsbD_eq
  intro k hk
  have hr : r.rw ||| r.rwl < 2 ^ 32 := by
    rw [hf]
    apply Nat.lt_pow_two_of_testBit
    intro j hj
    rw [fmask_testBit F j h]
    simp; omega
  rw [RegRow.stored_getLsbD r _ _ k hk hr, fset_getLsbD _ _ _ _ h hk, hf, hc, hs, fmask_testBit F k h, Nat.testBit_div_two_pow]
  by_cases h1 : F.lo ≤ k ∧ k ≤ F.hi
  · have : F.lo + (k - F.lo) = k := by omega
    simp [h1, BitVec.getLsbD]
  · simp [h1]

/-! Registers and their fields after updates. -/

theorem RegsTo.refl (s : State) : RegsTo s s [] := fun _ => rfl
theorem RegsTo.same {s t : State} (h : t.regs = s.regs) : RegsTo s t [] := fun a => by
  show t.rd a = s.rd a
  unfold State.rd; rw [h]
/-- A field written after others. -/
theorem RegsTo.setFld {s t : State} {l : List (Nat × Fld × Nat)} (h : RegsTo s t l) (b : Nat) (F : Fld) (v : Nat) :
    RegsTo s (t.setFld b F v) (l ++ [(b, F, v)]) := by
  intro a
  rw [List.foldl_append]
  simp only [List.foldl_cons, List.foldl_nil]
  rw [← h a]
  unfold State.setFld
  rw [State.rd_wr]
  by_cases e : b + F.off = a
  · subst e; simp
  · simp [e, Ne.symm e]
/-- What is not a register may change as it will. -/
theorem RegsTo.of_regs {s t u : State} {l : List (Nat × Fld × Nat)} (h : RegsTo s t l) (hr : u.regs = t.regs) : RegsTo s u l := by
  intro a
  rw [← h a]
  unfold State.rd; rw [hr]
theorem RegsTo.trans {s t u : State} {l k : List (Nat × Fld × Nat)} (h : RegsTo s t l) (g : RegsTo t u k) : RegsTo s u (l ++ k) := by
  intro a
  rw [List.foldl_append, ← h a]
  exact g a
/-- A register written with one field changed. -/
theorem RegsTo.wr (s : State) (b : Nat) (F : Fld) (v : Nat) (w : Word) (h : w = fset (s.rd (b + F.off)) F v) :
    RegsTo s (s.wr (b + F.off) w) [(b, F, v)] := by
  subst h
  exact (RegsTo.refl s).setFld b F v

end Sys2Proof.Machine
end

