-- ==== Sys2Proof/Tests/Slice0.lean ====
section
/-! SUPPORT. The model's own tests: ill-formed commands that the check refuses, instruction words written out from the spec's
encoding tables, one step on small states against the manual's worked examples, and for every statement with hypotheses a
concrete state and operands that meet them. -/
open Sys2Proof Sys2Proof.Machine

namespace Slice0
set_option maxRecDepth 1000000
-- One proof after another: side by side they take more memory than a check may have.
set_option Elab.async false

/-! Ill-formed commands: one for each check. -/

theorem test_wf_field : (Instr.bfxu 0 1#5 2#5 30#5 2#5).wellFormed = false ∧ (Instr.bfi 0 1#5 2#5 31#5 1#5).wellFormed = false ∧
    (Instr.bfxs 0 1#5 2#5 1#5 31#5).wellFormed = false ∧ (Instr.bfxs 0 1#5 2#5 0#5 31#5).wellFormed = true := by decide
theorem test_wf_cond : (Instr.br 0 1#5 2#5 6#3 0#13).wellFormed = false ∧ (Instr.bri 0 1#5 7#3 0#5 0#13).wellFormed = false ∧
    (Instr.fbr 0 1#5 2#5 5#3 0#13).wellFormed = false ∧ (Instr.br 0 1#5 2#5 5#3 0#13).wellFormed = true := by decide
theorem test_wf_illegal : (Instr.illegal 0 0x04000000#32).wellFormed = false ∧ (Instr.illegal 0 0#32).wellFormed = true := by decide
theorem test_wf_master : (Instr.registerWrite (.dma 3) 0#32 0#32).wellFormed = false ∧ (Instr.fcClear .cascade).wellFormed = false ∧
    (Instr.store .loader).wellFormed = false ∧ (Instr.crown .coherent).wellFormed = false ∧
    (Instr.twReset (.ctrl .loader)).wellFormed = false ∧ (Instr.twReset (.pin true)).wellFormed = true := by decide
theorem test_wf_list_start : (Instr.listStart .spi 0 2#32).wellFormed = false ∧ (Instr.listStart .spi 0 1#32).wellFormed = true := by decide
theorem test_wf_pd_message : (Instr.svcPdMessage 0 [1#8]).wellFormed = false ∧ (Instr.svcPdMessage 0 [1#8, 0#8]).wellFormed = true := by
  decide
theorem test_wf_spi_abort : (Instr.spiAbort (some (true, 0#32, 1025#16))).wellFormed = false ∧
    (Instr.spiAbort (some (true, 0#32, 1024#16))).wellFormed = true := by decide
theorem test_wf_unknown_command : (Instr.hostUnknownCommand .spi 0x0B#8 1#16 0#16).wellFormed = false ∧
    (Instr.hostUnknownCommand .spi 0x0C#8 1#16 0#16).wellFormed = true := by decide
theorem test_wf_write_length : ∀ l : List Word, 65536 ≤ l.length → (Instr.write .spi 0#32 l 0#16).wellFormed = false ∧
    (Instr.writeFix .spi 0#32 l 0#16).wellFormed = false := by
  intro l h; simp [Instr.wellFormed]; omega

/-! Instruction words, written out from the formats of R312 and the opcodes of R314 to R322. -/

/-- The word of CALL in the worked example that follows R326, and of its RET. -/
theorem test_word_call : achalDecode 18 0xA80053A0#32 = some (.call 18 5#14 0x3A0#12) ∧
    achalDecode 18 0xB0005000#32 = some (.ret 18 5#14) := by decide
theorem test_word_alu : achalDecode 0 0b00000100001000100001100000000011#32 = some (.or 0 1#5 2#5 3#5) ∧
    achalDecode 0 0b00000100001000100000000000010000#32 = some (.clz 0 1#5 2#5) ∧
    achalDecode 0 0b00000100001000100000100000010000#32 = none := by decide
theorem test_word_imm : achalDecode 0 0b00001000001000101111111111111111#32 = some (.addi 0 1#5 2#5 0xFFFF#16) ∧
    achalDecode 0 0b00100100001000100000000000011011#32 = some (.perm 0 1#5 2#5 0x1B#8) ∧
    achalDecode 0 0b00011100001000101111100000000010#32 = some (.srai 0 1#5 2#5 31#5) := by decide
theorem test_word_data : achalDecode 0 0b01000000001000100000000000000100#32 = some (.ldw 0 1#5 2#5 4#16) ∧
    achalDecode 0 0b01100000001000100000000000000100#32 = some (.xchg 0 1#5 2#5 4#16) ∧
    achalDecode 0 0b01110000001000100000000000000100#32 = some (.ioOut 0 1#5 2#5 4#16) := by decide
theorem test_word_bit : achalDecode 0 0b01110100010000010000010000000001#32 = some (.btst 0 2#5 1#5 0x401#12) ∧
    achalDecode 0 0b01110100010000000001010000000001#32 = some (.bset 0 2#5 0x401#12) ∧
    achalDecode 0 0b01110100010000010001010000000001#32 = none := by decide
theorem test_word_branch : achalDecode 0 0b10000000001000100111111111111111#32 = some (.br 0 1#5 2#5 3#3 0x1FFF#13) ∧
    achalDecode 0 0b10001110000000000010000000000100#32 = some (.bb 0 0x800#12 true 4#13) ∧
    achalDecode 0 0b10010000001111111000000000000001#32 = some (.brb 0 1#5 31#5 true 1#13) := by decide
theorem test_word_product : achalDecode 0 0b00110000000000010001000000000001#32 = some (.mulu 0 1#5 2#5) ∧
    achalDecode 0 0b00110100000000010001000000000001#32 = some (.fmac 0 1#5 2#5) ∧
    achalDecode 0 0b00110100001000010001000000000001#32 = none := by decide
theorem test_word_system : achalDecode 0 0b11000000000000000000000000000000#32 = some (.nop 0) ∧
    achalDecode 0 0b11000000100000001011111011101111#32 = some (.trap 0 0xBEEF#16) ∧
    achalDecode 0 0b11000001001000110000000000000111#32 = some (.mts 0 3#5 7#5) := by decide

/-! One command on a small state, against the manual's worked examples. -/

/-- The core domain out of reset with its clock running. -/
def base : State := { State.reset with pwr := { State.reset.pwr with core := true, asleep := false } }
/-- The state s with fields of the block at b set. -/
def F' (s : State) (b : Nat) (l : List (Fld × Nat)) : State := l.foldl (fun s p => s.setFld b p.1 p.2) s
/-- Engine e running context c. -/
def running (e c : Nat) : State :=
  let s := base.setFld (engB e) F.ENG_STATUS_STATE 1
  s.setEngine e { s.engine e with cur := some c }
/-- General registers of context c of engine e set. -/
def withRegs (s : State) (e c : Nat) (l : List (BitVec 5 × Word)) : State :=
  s.setCtx e c (l.foldl (fun x p => x.setReg p.1 p.2) (s.ctx e c))

/-- Engine e18 before the CALL of the worked example that follows R326. -/
def beforeCall (sp : Word) : State :=
  let s := withRegs (running 18 0) 18 0 [(1, 0x45), (2, sp), (4, 0x44), (9, 0x99)]
  s.setCtx 18 0 { s.ctx 18 0 with pc := 0x120, sl := 0x3E00 }
/-- A next state. -/
def after (o : Host.Outcome State Fault Refusal) : State :=
  match o with
  | .next t => t
  | _ => State.reset

theorem test_call_example :
    let t := after (exec (.call 18 5#14 0x3A0#12) (beforeCall 0x3F00))
    (t.ctx 18 0).reg 2 = 0x3EE8#32 ∧ (t.ctx 18 0).reg 1 = 0x121#32 ∧ (t.ctx 18 0).pc = 0x3A0 ∧
      engLoad t 18 0 0x3EE8 4 = 0x45#32 ∧ engLoad t 18 0 0x3EEC 4 = 5#32 ∧ engLoad t 18 0 0x3EFC 4 = 0x99#32 := by decide +kernel
theorem test_call_stack_fault :
    let t := after (exec (.call 18 5#14 0x3A0#12) (beforeCall 0x3E10))
    (t.engine 18).fcause = 5 ∧ (t.engine 18).fpc = 0x120 ∧ (t.engine 18).faddr = 0x3DF8 ∧ (t.ctx 18 0).reg 2 = 0x3E10#32 := by
  decide +kernel
/-- The RET of the same example, of the frame that the CALL has left. -/
theorem test_ret_example :
    let t := after (exec (.ret 18 5#14) (after (exec (.call 18 5#14 0x3A0#12) (beforeCall 0x3F00))))
    (t.ctx 18 0).reg 2 = 0x3F00#32 ∧ (t.ctx 18 0).reg 1 = 0x45#32 ∧ (t.ctx 18 0).pc = 0x121 ∧
      (t.ctx 18 0).reg 4 = 0x44#32 ∧ (t.ctx 18 0).reg 9 = 0x99#32 := by decide +kernel
/-- A byte order: a word stored with STW lies least significant byte first (R308). -/
theorem test_store_bytes :
    let s := after (exec (.stw 18 4#5 2#5 0#16) (withRegs (running 18 0) 18 0 [(2, 0x100), (4, 0x11223344)]))
    engLoad s 18 0 0x100 1 = 0x44 ∧ engLoad s 18 0 0x103 1 = 0x11 := by decide +kernel
/-- The first FMAC row of R335: 0.5 times S plus S gives 2 S, with one rounding. -/
theorem test_fmac_row : fMacF 0x3F000000#32 0x00000001#32 0x00000001#32 = (0x00000002#32, 24) := by decide +kernel
/-- The function signature of a device with blank key slots, by R513. -/
theorem test_fsig : fsigWord base false = 0x74ad5c74#32 ∧ fsigWord base true = 0xaf9a0cc2#32 := by decide +kernel
/-- A packet of the cascade with nothing in it. -/
def pk0 : CasPkt := ⟨0, 0, 0, false, 0, []⟩

/-! For every statement with hypotheses, states and operands that meet them: one conjunct for each clause, in the statement's order. -/

namespace Engine
def en (e c : Nat) (l : List (Fld × Nat)) : State := let s := F' base (engB e) ([(F.ENG_STATUS_STATE,1)] ++ l); s.setEngine e { s.engine e with cur := some c }
def cx (e c : Nat) (f : EngCtx → EngCtx) (s : State) : State := s.setCtx e c (f (s.ctx e c))
def g (l : List (BitVec 5 × Word)) (x : EngCtx) : EngCtx := l.foldl (fun x p => x.setReg p.1 p.2) x
def e0 : State := cx 5 2 (g [(3,0x1000),(4,7),(2,0x3ff8)]) (en 5 2 [])
/-- Every engine may write the slate and the shared memory (R478). -/
def grantE (s : State) : State := (List.range 16).foldl (fun s k => s.wr (0x20400 + 0x80*k + 4) 0xAAAAAAAA) s

theorem witness_IntegerAluResults :
    ∃ (s : State) (e : Fin 96) (c : Nat) (ra : BitVec 5),
    (Issues s e c) ∧
    let a := (s.ctx e c).reg ra
    ∃ k : Nat,
    (k ≤ 32) ∧
    (a.toNat < 2 ^ (32 - k)) ∧
    ((a = 0#32 ∨ 2 ^ (32 - k) ≤ 2 * a.toNat)) ∧
    ((a = 0#32 → k = 32)) :=
  ⟨e0, 5, 2, 3, ⟨by decide +kernel, by decide +kernel⟩, 19, by decide +kernel, by decide +kernel, by decide +kernel,
    by decide +kernel⟩
theorem witness_ImmediateResults :
    (∃ (s : State) (e : Fin 96) (c : Nat) (ra : BitVec 5),
     (Issues s e c) ∧
     let a := (s.ctx e c).reg ra
     ∃ (sel : BitVec 8) (r : Word),
     ((∀ i, i < 4 → byteOf r i = byteOf a (2 * (sel.getLsbD (2 * i + 1)).toNat + (sel.getLsbD (2 * i)).toNat)))) ∧
    (∃ (s : State) (e : Fin 96) (c : Nat) (rd ra : BitVec 5),
     (Issues s e c) ∧
     let a := (s.ctx e c).reg ra
     ∃ pos wm1 : BitVec 5,
     (pos.toNat + wm1.toNat < 32) ∧
     ∃ r : Word,
     ((∀ k, k < 32 → r.getLsbD k = if pos.toNat ≤ k ∧ k ≤ pos.toNat + wm1.toNat then a.getLsbD (k - pos.toNat)
           else ((s.ctx e c).reg rd).getLsbD k))) :=
  ⟨⟨e0, 5, 2, 3, ⟨by decide +kernel, by decide +kernel⟩, 0x00#8, 0x00000000#32, by decide +kernel⟩,
   ⟨e0, 5, 2, 6, 3, ⟨by decide +kernel, by decide +kernel⟩, 0x00#5, 0x00#5, by decide +kernel, 0x00000000#32, by decide +kernel⟩⟩
theorem witness_LoadResults :
    (∃ (s : State) (e : Fin 96) (c : Nat) (ra : BitVec 5) (imm : BitVec 16),
     (Issues s e c) ∧
     let a := ((s.ctx e c).reg ra + imm.signExtend 32).toNat
     (engWaits s false a = false) ∧
     (a % 4 = 0) ∧
     (engCheck s e c a 4 false = none)) ∧
    (∃ (s : State) (e : Fin 96) (c : Nat) (ra : BitVec 5) (imm : BitVec 16),
     (Issues s e c) ∧
     let a := ((s.ctx e c).reg ra + imm.signExtend 32).toNat
     (engWaits s false a = false) ∧
     (a % 2 = 0) ∧
     (engCheck s e c a 2 false = none)) ∧
    (∃ (s : State) (e : Fin 96) (c : Nat) (ra : BitVec 5) (imm : BitVec 16),
     (Issues s e c) ∧
     let a := ((s.ctx e c).reg ra + imm.signExtend 32).toNat
     (engWaits s false a = false) ∧
     (engCheck s e c a 1 false = none)) :=
  ⟨⟨e0, 5, 2, 3, 8, ⟨by decide +kernel, by decide +kernel⟩, by decide +kernel, by decide +kernel, by decide +kernel⟩,
   ⟨e0, 5, 2, 3, 8, ⟨by decide +kernel, by decide +kernel⟩, by decide +kernel, by decide +kernel, by decide +kernel⟩,
   ⟨e0, 5, 2, 3, 8, ⟨by decide +kernel, by decide +kernel⟩, by decide +kernel, by decide +kernel⟩⟩
theorem witness_StoreResults :
    (∃ (s : State) (e : Fin 96) (c : Nat) (ra : BitVec 5) (imm : BitVec 16),
     (Issues s e c) ∧
     let a := ((s.ctx e c).reg ra + imm.signExtend 32).toNat
     (engWaits s true a = false) ∧
     (a % 4 = 0) ∧
     (engCheck s e c a 4 true = none) ∧
     (engCheck s e c a 4 false = none)) ∧
    (∃ (s : State) (e : Fin 96) (c : Nat) (ra : BitVec 5) (imm : BitVec 16),
     (Issues s e c) ∧
     let a := ((s.ctx e c).reg ra + imm.signExtend 32).toNat
     (engWaits s true a = false) ∧
     (a % 2 = 0) ∧
     (engCheck s e c a 2 true = none)) ∧
    (∃ (s : State) (e : Fin 96) (c : Nat) (ra : BitVec 5) (imm : BitVec 16),
     (Issues s e c) ∧
     let a := ((s.ctx e c).reg ra + imm.signExtend 32).toNat
     (engWaits s true a = false) ∧
     (engCheck s e c a 1 true = none)) :=
  ⟨⟨e0, 5, 2, 3, 8, ⟨by decide +kernel, by decide +kernel⟩, by decide +kernel, by decide +kernel, by decide +kernel, by decide +kernel⟩,
   ⟨e0, 5, 2, 3, 8, ⟨by decide +kernel, by decide +kernel⟩, by decide +kernel, by decide +kernel, by decide +kernel⟩,
   ⟨e0, 5, 2, 3, 8, ⟨by decide +kernel, by decide +kernel⟩, by decide +kernel, by decide +kernel⟩⟩
theorem witness_CodeAccessResults :
    (∃ (s : State) (e : Fin 96) (c : Nat) (ra : BitVec 5) (imm : BitVec 16),
     (Issues s e c) ∧
     let k := ((s.ctx e c).reg ra + imm.signExtend 32).toNat % 4096
     (mpuOk s e c true (4 * k) (4 * k + 3) false = true)) ∧
    (∃ (s : State) (e : Fin 96) (c : Nat) (ra : BitVec 5) (imm : BitVec 16),
     (Issues s e c) ∧
     let k := ((s.ctx e c).reg ra + imm.signExtend 32).toNat % 4096
     (mpuOk s e c true (4 * k) (4 * k + 3) true = true)) :=
  ⟨⟨e0, 5, 2, 3, 8, ⟨by decide +kernel, by decide +kernel⟩, by decide +kernel⟩,
   ⟨e0, 5, 2, 3, 8, ⟨by decide +kernel, by decide +kernel⟩, by decide +kernel⟩⟩
theorem witness_BranchResults :
    (∃ (s : State) (e : Fin 96) (c : Nat),
     (Issues s e c)) ∧
    (∃ (s : State) (e : Fin 96) (c : Nat),
     (Issues s e c)) ∧
    (∃ (s : State) (e : Fin 96) (c : Nat),
     (Issues s e c)) ∧
    (∃ (s : State) (e : Fin 96) (c : Nat),
     (Issues s e c) ∧
     ∃ (n : BitVec 12) (sense v : Bool),
     (bitRead s e n.toNat = some v)) :=
  ⟨⟨e0, 5, 2, ⟨by decide +kernel, by decide +kernel⟩⟩,
   ⟨e0, 5, 2, ⟨by decide +kernel, by decide +kernel⟩⟩,
   ⟨e0, 5, 2, ⟨by decide +kernel, by decide +kernel⟩⟩,
   ⟨e0, 5, 2, ⟨by decide +kernel, by decide +kernel⟩, 0x000#12, true, false, by decide +kernel⟩⟩
theorem witness_JumpResults :
    ∃ (s : State) (e : Fin 96) (c : Nat),
    (Issues s e c) :=
  ⟨e0, 5, 2, ⟨by decide +kernel, by decide +kernel⟩⟩
end Engine

namespace EngineFlow
open Engine

theorem witness_CallResults :
    ∃ (s : State) (e : Fin 96) (c : Nat) (mask : BitVec 14) (tgt : BitVec 12) (ra : BitVec 5),
    (Issues s e c) ∧
    let x := s.ctx e c
    let size := 8 + 8 * ((List.range 14).filter (fun k => mask.getLsbD k)).length
    let new := (x.reg 2#5).toNat - size
    ((x.reg 2#5).toNat % 8 = 0) ∧
    (size ≤ (x.reg 2#5).toNat) ∧
    (x.sl.toNat ≤ new) ∧
    ((∀ i, i < size / 4 → engCheck s e c (new + 4 * i) 4 true = none ∧ engWaits s true (new + 4 * i) = false)) :=
  ⟨e0, 5, 2, 3#14, 0x123#12, 3, ⟨by decide +kernel, by decide +kernel⟩, by decide +kernel, by decide +kernel, by decide +kernel, by decide +kernel⟩
theorem witness_RetResults :
    ∃ (s : State) (e : Fin 96) (c : Nat) (mask : BitVec 14),
    (Issues s e c) ∧
    let x := s.ctx e c
    let sp := (x.reg 2#5).toNat
    let size := 8 + 8 * ((List.range 14).filter (fun k => mask.getLsbD k)).length
    (sp % 8 = 0) ∧
    (sp + size ≤ 2 ^ 32) ∧
    ((∀ i, i < size / 4 → engCheck s e c (sp + 4 * i) 4 false = none ∧ engWaits s false (sp + 4 * i) = false)) ∧
    (engLoad s e c (sp + 4) 4 = mask.toNat) :=
  ⟨(engStore (cx 5 2 (g [(2, 0x3fe0)]) (en 5 2 [])) 5 2 0x3fe4 4 3), 5, 2, 3#14, ⟨by decide +kernel, by decide +kernel⟩, by decide +kernel, by decide +kernel, by decide +kernel, by decide +kernel⟩
theorem witness_IoFaults_1 :
    (∃ (s : State) (e : Fin 96) (c : Nat) (ra : BitVec 5) (imm : BitVec 16),
     (Issues s e c) ∧
     (c ≤ 8) ∧
     let x := s.ctx e c
     let io := ((x.reg ra) + imm.setWidth 32).toNat % 65536
     let s1 := s.setCtx e c (x.goto (x.pc + 1))
     (ioRead s1 e io = none)) ∧
    (∃ (s : State) (e : Fin 96) (c : Nat) (r ra : BitVec 5) (imm : BitVec 16),
     (Issues s e c) ∧
     (c ≤ 8) ∧
     let x := s.ctx e c
     let io := ((x.reg ra) + imm.setWidth 32).toNat % 65536
     let s1 := s.setCtx e c (x.goto (x.pc + 1))
     (ioWrite s1 e io (x.reg r) = none)) ∧
    (∃ (s : State) (e : Fin 96) (c : Nat) (r ra : BitVec 5) (off : BitVec 12),
     (Issues s e c) ∧
     (c ≤ 8) ∧
     let x := s.ctx e c
     let b := ((x.reg ra) + off.setWidth 32).toNat % 4096
     let s1 := s.setCtx e c (x.goto (x.pc + 1))
     (bitRead s1 e b = none)) ∧
    (∃ (s : State) (e : Fin 96) (c : Nat) (off : BitVec 12),
     (Issues s e c) ∧
     (c ≤ 8) ∧
     let x := s.ctx e c
     let s1 := s.setCtx e c (x.goto (x.pc + 1))
     (bitRead s1 e off.toNat = none)) ∧
    (∃ (s : State) (e : Fin 96) (c : Nat) (r ra : BitVec 5) (off : BitVec 12),
     (Issues s e c) ∧
     (c ≤ 8) ∧
     let x := s.ctx e c
     let b := ((x.reg ra) + off.setWidth 32).toNat % 4096
     let s1 := s.setCtx e c (x.goto (x.pc + 1))
     ∃ v,
     (bitRead s1 e b = some v) ∧
     ∃ p, (p ∈ [(Instr.bset e ra off, true), (.bclr e ra off, false), (.btgl e ra off, !v), (.bwr e ra r off, (x.reg r).getLsbD 0)]) ∧
     (bitWrite s1 e b p.2 = none)) ∧
    (∃ (s : State) (e : Fin 96) (c : Nat) (r : BitVec 5),
     (Issues s e c) ∧
     (c ≤ 8) ∧
     ∃ (sr : BitVec 5) (w : Word),
     (12 ≤ sr.toNat) ∧
     (achalEncode (.mfs e r sr) = some (e, w))) :=
  ⟨⟨e0, 5, 2, 3, 0x7000, ⟨by decide +kernel, by decide +kernel⟩, by decide +kernel, by decide +kernel⟩,
   ⟨e0, 5, 2, 4, 3, 0x7000, ⟨by decide +kernel, by decide +kernel⟩, by decide +kernel, by decide +kernel⟩,
   ⟨e0, 5, 2, 4, 3, 0x400#12, ⟨by decide +kernel, by decide +kernel⟩, by decide +kernel, by decide +kernel⟩,
   ⟨e0, 5, 2, 0xC00#12, ⟨by decide +kernel, by decide +kernel⟩, by decide +kernel, by decide +kernel⟩,
   ⟨e0, 5, 2, 4, 3, 0x700#12, ⟨by decide +kernel, by decide +kernel⟩, by decide +kernel, false, by decide +kernel, (Instr.bset 5 3 0x700#12, true), by decide +kernel, by decide +kernel⟩,
   ⟨e0, 5, 2, 4, ⟨by decide +kernel, by decide +kernel⟩, by decide +kernel, 12#5, achalWord (.mfs 5 4 12#5), by decide +kernel, by decide +kernel⟩⟩
theorem witness_IoFaults_2 :
    ∃ (s : State) (e : Fin 96) (c : Nat) (r : BitVec 5),
    (Issues s e c) ∧
    (c ≤ 8) ∧
    ∃ (sr : BitVec 5) (w : Word),
    (4 ≤ sr.toNat) ∧
    (achalEncode (.mts e r sr) = some (e, w)) :=
  ⟨e0, 5, 2, 4, ⟨by decide +kernel, by decide +kernel⟩, by decide +kernel, 4#5, achalWord (.mts 5 4 4#5), by decide +kernel, by decide +kernel⟩
theorem witness_CallFaults :
    (∃ (s : State) (e : Fin 96) (c : Nat) (mask : BitVec 14) (tgt : BitVec 12) (ra : BitVec 5),
     (Issues s e c) ∧
     (c ≤ 8) ∧
     let x := s.ctx e c
     let g2 := (x.reg 2#5).toNat
     ∃ p, (p ∈ [Instr.call e mask tgt, .callr e mask ra]) ∧
     (g2 % 8 ≠ 0)) ∧
    (∃ (s : State) (e : Fin 96) (c : Nat) (mask : BitVec 14) (tgt : BitVec 12) (ra : BitVec 5),
     (Issues s e c) ∧
     (c ≤ 8) ∧
     let x := s.ctx e c
     let g2 := (x.reg 2#5).toNat
     let size := 8 + 8 * ((List.range 14).filter (fun k => mask.getLsbD k)).length
     let new := (x.reg 2#5 - BitVec.ofNat 32 size).toNat
     ∃ p, (p ∈ [Instr.call e mask tgt, .callr e mask ra]) ∧
     (g2 % 8 = 0) ∧
     (new < x.sl.toNat ∨ g2 < new)) ∧
    (∃ (s : State) (e : Fin 96) (c : Nat) (mask : BitVec 14) (tgt : BitVec 12) (ra : BitVec 5),
     (Issues s e c) ∧
     (c ≤ 8) ∧
     let x := s.ctx e c
     let g2 := (x.reg 2#5).toNat
     let size := 8 + 8 * ((List.range 14).filter (fun k => mask.getLsbD k)).length
     let new := (x.reg 2#5 - BitVec.ofNat 32 size).toNat
     let at_ := fun (base i : Nat) => (base + 4 * i) % 2 ^ 32
     let refused := fun (base : Nat) (w : Bool) (i cause : Nat) => i < size / 4 ∧ engCheck s e c (at_ base i) 4 w = some cause ∧
       ∀ j, j < i → engCheck s e c (at_ base j) 4 w = none
     ∃ p, (p ∈ [Instr.call e mask tgt, .callr e mask ra]) ∧
     (g2 % 8 = 0) ∧
     (x.sl.toNat ≤ new) ∧
     (new ≤ g2) ∧
     ∃ i cause,
     (refused new true i cause)) ∧
    (∃ (s : State) (e : Fin 96) (c : Nat) (mask : BitVec 14),
     (Issues s e c) ∧
     (c ≤ 8) ∧
     let x := s.ctx e c
     let g2 := (x.reg 2#5).toNat
     let size := 8 + 8 * ((List.range 14).filter (fun k => mask.getLsbD k)).length
     let at_ := fun (base i : Nat) => (base + 4 * i) % 2 ^ 32
     let refused := fun (base : Nat) (w : Bool) (i cause : Nat) => i < size / 4 ∧ engCheck s e c (at_ base i) 4 w = some cause ∧
       ∀ j, j < i → engCheck s e c (at_ base j) 4 w = none
     (g2 % 8 = 0) ∧
     ∃ i cause,
     (refused g2 false i cause)) ∧
    (∃ (s : State) (e : Fin 96) (c : Nat) (mask : BitVec 14),
     (Issues s e c) ∧
     (c ≤ 8) ∧
     let x := s.ctx e c
     let g2 := (x.reg 2#5).toNat
     let size := 8 + 8 * ((List.range 14).filter (fun k => mask.getLsbD k)).length
     let at_ := fun (base i : Nat) => (base + 4 * i) % 2 ^ 32
     (g2 % 8 = 0) ∧
     ((∀ i, i < size / 4 → engCheck s e c (at_ g2 i) 4 false = none ∧ engWaits s false (at_ g2 i) = false)) ∧
     (engLoad s e c (at_ g2 1) 4 ≠ mask.toNat)) :=
  ⟨⟨(cx 5 2 (g [(2,0x3ffc)]) (en 5 2 [])), 5, 2, 3#14, 0x123#12, 3, ⟨by decide +kernel, by decide +kernel⟩, by decide +kernel, Instr.call 5 3#14 0x123#12, by decide +kernel, by decide +kernel⟩,
   ⟨(cx 5 2 (fun x => {g [(2,0x3f00)] x with sl := 0x3ef8}) (en 5 2 [])), 5, 2, 3#14, 0x123#12, 3, ⟨by decide +kernel, by decide +kernel⟩, by decide +kernel, Instr.callr 5 3#14 3, by decide +kernel, by decide +kernel, by decide +kernel⟩,
   ⟨(F' (cx 5 2 (g [(2,0x3f00)]) (en 5 2 [])) (engB 5) [(F.ENG_MPU_CTRL_EN,1)]), 5, 2, 3#14, 0x123#12, 3, ⟨by decide +kernel, by decide +kernel⟩, by decide +kernel, Instr.call 5 3#14 0x123#12, by decide +kernel, by decide +kernel, by decide +kernel, by decide +kernel, 0, 3, by decide +kernel⟩,
   ⟨(F' e0 (engB 5) [(F.ENG_MPU_CTRL_EN,1)]), 5, 2, 3#14, ⟨by decide +kernel, by decide +kernel⟩, by decide +kernel, by decide +kernel, 0, 3, by decide +kernel⟩,
   ⟨(cx 5 2 (g [(2, 0x3fe0)]) (en 5 2 [])), 5, 2, 3#14, ⟨by decide +kernel, by decide +kernel⟩, by decide +kernel, by decide +kernel, by decide +kernel, by decide +kernel⟩⟩
theorem witness_AccessFaults_1 :
    (∃ (s : State) (e : Fin 96) (c : Nat) (r ra : BitVec 5) (imm : BitVec 16),
     (Issues s e c) ∧
     (c ≤ 8) ∧
     let a := ((s.ctx e c).reg ra + imm.signExtend 32).toNat
     ∃ p, (p ∈ [(Instr.ldw e r ra imm, 4, false), (.ldh e r ra imm, 2, false), (.ldhu e r ra imm, 2, false), (.ldb e r ra imm, 1, false),
             (.ldbu e r ra imm, 1, false), (.stw e r ra imm, 4, true), (.sth e r ra imm, 2, true), (.stb e r ra imm, 1, true)]) ∧
     (a % p.2.1 ≠ 0)) ∧
    (∃ (s : State) (e : Fin 96) (c : Nat) (r ra : BitVec 5) (imm : BitVec 16),
     (Issues s e c) ∧
     (c ≤ 8) ∧
     let a := ((s.ctx e c).reg ra + imm.signExtend 32).toNat
     ∃ p, (p ∈ [(Instr.ldw e r ra imm, 4, false), (.ldh e r ra imm, 2, false), (.ldhu e r ra imm, 2, false), (.ldb e r ra imm, 1, false),
             (.ldbu e r ra imm, 1, false), (.stw e r ra imm, 4, true), (.sth e r ra imm, 2, true), (.stb e r ra imm, 1, true)]) ∧
     (a % p.2.1 = 0) ∧
     ∃ cause,
     (engCheck s e c a p.2.1 p.2.2 = some cause)) ∧
    (∃ (s : State) (e : Fin 96) (c : Nat) (r ra : BitVec 5) (imm : BitVec 16),
     (Issues s e c) ∧
     (c ≤ 8) ∧
     let a := ((s.ctx e c).reg ra + imm.signExtend 32).toNat
     ∃ p, (p ∈ [(Instr.ldw e r ra imm, 4, false), (.ldh e r ra imm, 2, false), (.ldhu e r ra imm, 2, false), (.ldb e r ra imm, 1, false),
             (.ldbu e r ra imm, 1, false), (.stw e r ra imm, 4, true), (.sth e r ra imm, 2, true), (.stb e r ra imm, 1, true)]) ∧
     (a % p.2.1 = 0) ∧
     (engCheck s e c a p.2.1 p.2.2 = none) ∧
     (engWaits s p.2.2 a = true)) ∧
    (∃ (s : State) (e : Fin 96) (c : Nat) (ra : BitVec 5) (imm : BitVec 16),
     (Issues s e c) ∧
     (c ≤ 8) ∧
     let a := ((s.ctx e c).reg ra + imm.signExtend 32).toNat
     (a % 4 ≠ 0)) ∧
    (∃ (s : State) (e : Fin 96) (c : Nat) (ra : BitVec 5) (imm : BitVec 16),
     (Issues s e c) ∧
     (c ≤ 8) ∧
     let a := ((s.ctx e c).reg ra + imm.signExtend 32).toNat
     (a % 4 = 0) ∧
     ∃ cause,
     (engCheck s e c a 4 false = some cause)) ∧
    (∃ (s : State) (e : Fin 96) (c : Nat) (ra : BitVec 5) (imm : BitVec 16),
     (Issues s e c) ∧
     (c ≤ 8) ∧
     let a := ((s.ctx e c).reg ra + imm.signExtend 32).toNat
     (a % 4 = 0) ∧
     (engCheck s e c a 4 false = none) ∧
     (engWaits s false a = false) ∧
     ∃ cause,
     (engCheck s e c a 4 true = some cause)) :=
  ⟨⟨e0, 5, 2, 4, 3, 6, ⟨by decide +kernel, by decide +kernel⟩, by decide +kernel, (Instr.ldw 5 4 3 6, 4, false), by decide +kernel, by decide +kernel⟩,
   ⟨(F' e0 (engB 5) [(F.ENG_MPU_CTRL_EN,1)]), 5, 2, 4, 3, 8, ⟨by decide +kernel, by decide +kernel⟩, by decide +kernel, (Instr.sth 5 4 3 8, 2, true), by decide +kernel, by decide +kernel, 3, by decide +kernel⟩,
   ⟨(grantE (cx 5 2 (g [(3,0x3000010),(4,7)]) (en 5 2 []))), 5, 2, 4, 3, 8, ⟨by decide +kernel, by decide +kernel⟩, by decide +kernel, (Instr.stw 5 4 3 8, 4, true), by decide +kernel, by decide +kernel, by decide +kernel, by decide +kernel⟩,
   ⟨e0, 5, 2, 3, 6, ⟨by decide +kernel, by decide +kernel⟩, by decide +kernel, by decide +kernel⟩,
   ⟨(F' e0 (engB 5) [(F.ENG_MPU_CTRL_EN,1)]), 5, 2, 3, 8, ⟨by decide +kernel, by decide +kernel⟩, by decide +kernel, by decide +kernel, 3, by decide +kernel⟩,
   ⟨((F' e0 (engB 5) [(F.ENG_MPU_CTRL_EN,1)]).wr (engB 5 + R.ENG_MPU_LIM) 0x3fff |>.wr (engB 5 + R.ENG_MPU_ATTR) 0x403), 5, 2, 3, 8, ⟨by decide +kernel, by decide +kernel⟩, by decide +kernel, by decide +kernel, by decide +kernel, by decide +kernel, 3, by decide +kernel⟩⟩
theorem witness_AccessFaults_2 :
    (∃ (s : State) (e : Fin 96) (c : Nat) (ra : BitVec 5) (imm : BitVec 16),
     (Issues s e c) ∧
     (c ≤ 8) ∧
     let a := ((s.ctx e c).reg ra + imm.signExtend 32).toNat
     (a % 4 = 0) ∧
     (engCheck s e c a 4 false = none) ∧
     (engCheck s e c a 4 true = none) ∧
     (engWaits s true a = true)) ∧
    (∃ (s : State) (e : Fin 96) (c : Nat),
     (Issues s e c) ∧
     (c ≤ 8)) ∧
    (∃ (s : State) (e : Fin 96) (c : Nat) (ra : BitVec 5) (imm : BitVec 16),
     (Issues s e c) ∧
     (c ≤ 8) ∧
     let a := ((s.ctx e c).reg ra + imm.signExtend 32).toNat
     let k := a % 4096
     (mpuOk s e c true (4 * k) (4 * k + 3) false = false)) ∧
    (∃ (s : State) (e : Fin 96) (c : Nat) (ra : BitVec 5) (imm : BitVec 16),
     (Issues s e c) ∧
     (c ≤ 8) ∧
     let a := ((s.ctx e c).reg ra + imm.signExtend 32).toNat
     let k := a % 4096
     (mpuOk s e c true (4 * k) (4 * k + 3) true = false)) :=
  ⟨⟨(grantE (cx 5 2 (g [(3,0x3000010),(4,7)]) (en 5 2 []))), 5, 2, 3, 8, ⟨by decide +kernel, by decide +kernel⟩, by decide +kernel, by decide +kernel, by decide +kernel, by decide +kernel, by decide +kernel⟩,
   ⟨e0, 5, 2, ⟨by decide +kernel, by decide +kernel⟩, by decide +kernel⟩,
   ⟨(F' e0 (engB 5) [(F.ENG_MPU_CTRL_EN,1)]), 5, 2, 3, 8, ⟨by decide +kernel, by decide +kernel⟩, by decide +kernel, by decide +kernel⟩,
   ⟨(F' e0 (engB 5) [(F.ENG_MPU_CTRL_EN,1)]), 5, 2, 3, 8, ⟨by decide +kernel, by decide +kernel⟩, by decide +kernel, by decide +kernel⟩⟩
/-- The hypotheses of SpecialRegisterReads, SpecialRegisterWrites, ProductIssues, FloatResults: an engine that issues. -/
theorem witness_SpecialRegisters_ProductIssues_FloatResults : ∃ (s : State) (e : Fin 96) (c : Nat), Issues s e c :=
  ⟨e0, 5, 2, by decide +kernel, by decide +kernel⟩
theorem witness_ProductCompletes :
    ∃ (s : State) (e : Fin 96) (c : Nat) (p : EngProd) (l : List EngProd), Issues s e c ∧ (s.engine e).prods = p :: l :=
  ⟨e0.setEngine 5 { e0.engine 5 with prods := [⟨true, 1, 2, 0⟩] }, 5, 2, ⟨true, 1, 2, 0⟩, [],
    ⟨by decide +kernel, by decide +kernel⟩, by decide +kernel⟩
theorem witness_FloatExactness_nan : ∃ a b c : Word,
    fIsNaN (fAddF a b).1 ∧ fIsNaN (fMulF a b).1 ∧ fIsNaN (fDivF a b).1 ∧ fIsNaN (fMacF a b c).1 :=
  ⟨0x7FC00000, 0x3F800000, 0x3F800000, by decide +kernel⟩
theorem witness_FloatExactness_sum : ∃ a b r : Word, fFinite a ∧ fFinite b ∧ fFinite r ∧ fVal r ≠ 0 ∧ fVal a + fVal b = fVal r :=
  ⟨0x3F800000, 0xBF000000, 0x3F000000, by decide +kernel⟩
theorem witness_FloatExactness_product : ∃ a b r : Word,
    fFinite a ∧ fFinite b ∧ fFinite r ∧ fVal r ≠ 0 ∧ fVal a * fVal b = fVal r * 2 ^ 149 :=
  ⟨0x40000000, 0x3F000000, 0x3F800000, by decide +kernel⟩
/-- Engine 5 in context 2 with a and b in g3 and g4 and pl in PL. -/
def flt (q : Word × Word × Word) : State := cx 5 2 (fun x => { g [(3, q.1), (4, q.2.1)] x with pl := q.2.2 }) (en 5 2 [])
/-- Operands of R335: at least one row of every operation, FMAC with its PL. -/
def fltRows : List (Word × Word × Word) :=
  [(0x00000001#32, 0x00000001#32, 0#32), (0x7F7FFFFF#32, 0xFF7FFFFF#32, 0#32), (0x3F800000#32, 0x00000001#32, 0#32),
    (0x00800000#32, 0x00000001#32, 0#32), (0x00000001#32, 0x3F000000#32, 0x00000001#32), (0x7F7FFFFF#32, 0x40000000#32, 0xFF7FFFFF#32),
    (0x7F7FFFFF#32, 0x3F800000#32, 0x7F7FFFFF#32), (0x00000001#32, 0x80000000#32, 0#32), (0x7F7FFFFF#32, 0x00000001#32, 0#32),
    (0xFF7FFFFF#32, 0#32, 0#32), (0x00000001#32, 0#32, 0#32), (0x80000001#32, 0#32, 0#32)]
theorem witness_FloatTable : ∀ q ∈ fltRows, Issues (flt q) 5 2 ∧ ((flt q).engine 5).prods = [] ∧
    ((flt q).ctx 5 2).reg 3 = q.1 ∧ ((flt q).ctx 5 2).reg 4 = q.2.1 ∧ ((flt q).ctx 5 2).pl = q.2.2 := by
  have k : fltRows.all (fun q => decide (engRuns (flt q) 5 = some 2 ∧ (flt q).pulses = [] ∧ ((flt q).engine 5).prods = [] ∧
      ((flt q).ctx 5 2).reg 3 = q.1 ∧ ((flt q).ctx 5 2).reg 4 = q.2.1 ∧ ((flt q).ctx 5 2).pl = q.2.2)) = true := by decide +kernel
  intro q h
  have k := of_decide_eq_true (List.all_eq_true.mp k q h)
  exact ⟨⟨k.1, k.2.1⟩, k.2.2⟩

end EngineFlow
namespace EngineIo
def en (e c : Nat) (l : List (Fld × Nat)) : State := let s := F' base (engB e) ([(F.ENG_STATUS_STATE,1)] ++ l); s.setEngine e { s.engine e with cur := some c }
def cx (e c : Nat) (f : EngCtx → EngCtx) (s : State) : State := s.setCtx e c (f (s.ctx e c))
def g (l : List (BitVec 5 × Word)) (x : EngCtx) : EngCtx := l.foldl (fun x p => x.setReg p.1 p.2) x

theorem witness_BitResults :
    ∃ (s : State) (e : Fin 96) (c : Nat) (ra : BitVec 5) (imm : BitVec 12) (v : Bool),
    (Quiet s) ∧
    (Issues s e c) ∧
    let b := ((s.ctx e c).reg ra + imm.setWidth 32).toNat % 4096
    (bitRead s e b = some v) ∧
    (b < 0x400 ∨ (0x908 ≤ b ∧ b < 0x930)) :=
  ⟨(cx 5 2 (g [(3,7),(4,1)]) (en 5 2 [])), 5, 2, 3, 0x20, false, ⟨by decide +kernel, by decide +kernel, by decide +kernel,
    by decide +kernel, by decide +kernel, by decide +kernel, by decide +kernel, by decide +kernel, by decide +kernel,
    by decide +kernel⟩, ⟨by decide +kernel, by decide +kernel⟩, by decide +kernel, by decide +kernel⟩
theorem witness_MailboxIo :
    (∃ (s : State) (e : Fin 96) (c : Nat) (ra : BitVec 5) (imm : BitVec 16) (k : Fin 4) (v : Word) (l : List Word),
     (Quiet s) ∧
     (Issues s e c) ∧
     let io := ((s.ctx e c).reg ra + imm.setWidth 32).toNat % 65536
     (io = 0x70 + 2 * k.val) ∧
     (mbxFifo s e k = v :: l)) ∧
    (∃ (s : State) (e : Fin 96) (c : Nat) (ra : BitVec 5) (imm : BitVec 16) (k : Fin 4),
     (Quiet s) ∧
     (Issues s e c) ∧
     let io := ((s.ctx e c).reg ra + imm.setWidth 32).toNat % 65536
     (io = 0x71 + 2 * k.val) ∧
     ((mbxFifo s e (4 + k)).length < 16)) :=
  ⟨⟨(mbxPush (mbxPush (cx 5 2 (g [(3,2),(4,1)]) (en 5 2 [])) 5 1 77) 5 1 78), 5, 2, 3, 0x70, 1, 77, [78], ⟨by decide +kernel,
    by decide +kernel, by decide +kernel, by decide +kernel, by decide +kernel, by decide +kernel, by decide +kernel,
    by decide +kernel, by decide +kernel, by decide +kernel⟩, ⟨by decide +kernel, by decide +kernel⟩, by decide +kernel,
    by decide +kernel⟩,
   ⟨(mbxPush (mbxPush (cx 5 2 (g [(3,2),(4,1)]) (en 5 2 [])) 5 5 77) 5 1 78), 5, 2, 3, 0x71, 1, ⟨by decide +kernel,
    by decide +kernel, by decide +kernel, by decide +kernel, by decide +kernel, by decide +kernel, by decide +kernel,
    by decide +kernel, by decide +kernel, by decide +kernel⟩, ⟨by decide +kernel, by decide +kernel⟩, by decide +kernel,
    by decide +kernel⟩⟩
theorem witness_IoResults :
    (∃ (s : State) (e : Fin 96) (c : Nat) (ra : BitVec 5) (imm : BitVec 16),
     (Issues s e c) ∧
     let io := ((s.ctx e c).reg ra + imm.setWidth 32).toNat % 65536
     let s1 := s.setCtx e c ((s.ctx e c).goto ((s.ctx e c).pc + 1))
     ∃ w u,
     (ioRead s1 e io = some (w, u))) ∧
    (∃ (s : State) (e : Fin 96) (c : Nat) (r ra : BitVec 5) (imm : BitVec 16),
     (Issues s e c) ∧
     let io := ((s.ctx e c).reg ra + imm.setWidth 32).toNat % 65536
     let s1 := s.setCtx e c ((s.ctx e c).goto ((s.ctx e c).pc + 1))
     ∃ u,
     (ioWrite s1 e io ((s.ctx e c).reg r) = some u)) :=
  ⟨⟨(cx 5 2 (g [(3,2),(4,1)]) (en 5 2 [])), 5, 2, 3, 0x0, ⟨by decide +kernel, by decide +kernel⟩,
    Option.isSome_iff_exists.mp (show (ioRead _ 5 _).isSome = true by decide +kernel) |>.elim fun q h => ⟨q.1, q.2, h⟩⟩,
   ⟨(cx 5 2 (g [(3,2),(4,1)]) (en 5 2 [])), 5, 2, 4, 3, 0x0, ⟨by decide +kernel, by decide +kernel⟩,
    Option.isSome_iff_exists.mp (show (ioWrite _ 5 _ _).isSome = true by decide +kernel)⟩⟩
theorem witness_TaskFaults :
    ∃ (s : State) (e : Fin 96) (c : Nat),
    (Issues s e c) ∧
    (c ≤ 8) :=
  ⟨(let s := cx 5 2 (g [(3,2),(4,1)]) (en 5 2 []); s.setEngine 5 {s.engine 5 with prods := [⟨true,1,2,3⟩]}), 5, 2, ⟨by decide +kernel, by decide +kernel⟩, by decide +kernel⟩
theorem witness_TaskControl :
    (∃ (s : State) (e : Fin 96) (c : Nat),
     (Issues s e c) ∧
     (c < 8)) ∧
    (∃ (s : State) (e : Fin 96) (c : Nat),
     (Issues s e c) ∧
     (c = 8) ∧
     ∃ k,
     (k < 8) ∧
     (s.fld (engB e) F.ENG_FSTAT_FTASK = k) ∧
     (s.fld (engB e) F.ENG_FSTAT_ACTION = 0)) ∧
    (∃ (s : State) (e : Fin 96) (c : Nat),
     (Issues s e c) ∧
     (c = 8) ∧
     ∃ k,
     (k < 8) ∧
     (s.fld (engB e) F.ENG_FSTAT_FTASK = k) ∧
     (s.fld (engB e) F.ENG_FSTAT_ACTION = 1)) ∧
    (∃ (s : State) (e : Fin 96) (c : Nat),
     (Issues s e c) ∧
     (c = 8) ∧
     ∃ k,
     (k < 8) ∧
     (s.fld (engB e) F.ENG_FSTAT_FTASK = k) ∧
     (s.fld (engB e) F.ENG_FSTAT_ACTION = 2)) ∧
    (∃ (s : State) (e : Fin 96) (c : Nat),
     (Issues s e c) ∧
     (c = 8) ∧
     ∃ k,
     (k < 8) ∧
     (s.fld (engB e) F.ENG_FSTAT_FTASK = k) ∧
     (s.fld (engB e) F.ENG_FSTAT_ACTION = 3)) :=
  ⟨
    ⟨(let s := cx 5 2 (g [(3,2),(4,1)]) (F' (F' (en 5 2 []) (engB 5 + 0x10) [(F.ENG_TASK_CFG_EN,1),(F.ENG_TASK_CFG_ENTRY,99)]) (engB 5 + 0x20) [(F.ENG_TASK_SP_SP,0x1234),(F.ENG_TASK_SL_SL,77)]); s.setEngine 5 {s.engine 5 with prods := [⟨true,1,2,3⟩]}),
    5, 2, ⟨by decide +kernel, by decide +kernel⟩, by decide +kernel⟩,
   
    ⟨(let s := cx 5 8 (g [(3,2),(4,1)]) (F' (F' (F' (en 5 8 []) (engB 5 + 0x10) [(F.ENG_TASK_CFG_EN,1),(F.ENG_TASK_CFG_ENTRY,99)]) (engB 5 + 0x10) [(F.ENG_TASK_SP_SP,0x1234),(F.ENG_TASK_SL_SL,77)]) (engB 5) [(F.ENG_FSTAT_FTASK,2),(F.ENG_FSTAT_ACTION,(0 : Fin 4))]); s.setEngine 5
     {s.engine 5 with fpc := 4095, prods := [⟨true,1,2,3⟩]}), 5, 8, ⟨by decide +kernel, by decide +kernel⟩, by decide +kernel, 2,
     by decide +kernel,
    by decide +kernel, by decide +kernel⟩,
   
    ⟨(let s := cx 5 8 (g [(3,2),(4,1)]) (F' (F' (F' (en 5 8 []) (engB 5 + 0x10) [(F.ENG_TASK_CFG_EN,1),(F.ENG_TASK_CFG_ENTRY,99)]) (engB 5 + 0x10) [(F.ENG_TASK_SP_SP,0x1234),(F.ENG_TASK_SL_SL,77)]) (engB 5) [(F.ENG_FSTAT_FTASK,2),(F.ENG_FSTAT_ACTION,(1 : Fin 4))]); s.setEngine 5
     {s.engine 5 with fpc := 4095, prods := [⟨true,1,2,3⟩]}), 5, 8, ⟨by decide +kernel, by decide +kernel⟩, by decide +kernel, 2,
     by decide +kernel,
    by decide +kernel, by decide +kernel⟩,
   
    ⟨(let s := cx 5 8 (g [(3,2),(4,1)]) (F' (F' (F' (en 5 8 []) (engB 5 + 0x10) [(F.ENG_TASK_CFG_EN,1),(F.ENG_TASK_CFG_ENTRY,99)]) (engB 5 + 0x10) [(F.ENG_TASK_SP_SP,0x1234),(F.ENG_TASK_SL_SL,77)]) (engB 5) [(F.ENG_FSTAT_FTASK,2),(F.ENG_FSTAT_ACTION,(2 : Fin 4))]); s.setEngine 5
     {s.engine 5 with fpc := 4095, prods := [⟨true,1,2,3⟩]}), 5, 8, ⟨by decide +kernel, by decide +kernel⟩, by decide +kernel, 2,
     by decide +kernel,
    by decide +kernel, by decide +kernel⟩,
   
    ⟨(let s := cx 5 8 (g [(3,2),(4,1)]) (F' (F' (F' (en 5 8 []) (engB 5 + 0x10) [(F.ENG_TASK_CFG_EN,1),(F.ENG_TASK_CFG_ENTRY,99)]) (engB 5 + 0x10) [(F.ENG_TASK_SP_SP,0x1234),(F.ENG_TASK_SL_SL,77)]) (engB 5) [(F.ENG_FSTAT_FTASK,2),(F.ENG_FSTAT_ACTION,(3 : Fin 4))]); s.setEngine 5
     {s.engine 5 with fpc := 4095, prods := [⟨true,1,2,3⟩]}), 5, 8, ⟨by decide +kernel, by decide +kernel⟩, by decide +kernel, 2,
     by decide +kernel,
    by decide +kernel, by decide +kernel⟩⟩
theorem witness_EngineCommands_1 :
    (∃ (s : State) (e : Fin 96) (m : Master),
     (Accepts s m (engB e + R.ENG_CTRL) 1#32)) ∧
    (∃ (s : State) (e : Fin 96) (m : Master),
     (Accepts s m (engB e + R.ENG_CTRL) 4#32) ∧
     (engState s e = 1)) ∧
    (∃ (s : State) (e : Fin 96) (m : Master),
     (Accepts s m (engB e + R.ENG_CTRL) 2#32) ∧
     (engState s e = 2)) ∧
    (∃ (s : State) (e : Fin 96) (m : Master),
     (Accepts s m (engB e + R.ENG_CTRL) 8#32) ∧
     (engState s e = 1 ∨ engState s e = 2)) ∧
    (∃ (s : State) (e : Fin 96) (m : Master),
     ∃ (k : Fin 4) (v : Word),
     (Accepts s m (engB e + (R.ENG_MBX_IN + 8 * k)) v) ∧
     ((mbxFifo s e k).length < 16)) ∧
    (∃ (s : State) (e : Fin 96) (m : Master),
     ∃ (k : Fin 4) (v : Word),
     (Accepts s m (engB e + (R.ENG_MBX_IN + 8 * k)) v) ∧
     (¬ (mbxFifo s e k).length < 16)) ∧
    (∃ (s : State) (e : Fin 96) (m : Master),
     ∃ (k : Fin 4),
     (Readable s m (engB e + R.ENG_MBX_OUT + 8 * k)) ∧
     ∃ (v : Word) (l : List Word),
     (mbxFifo s e (4 + k) = v :: l)) ∧
    (∃ (s : State) (e : Fin 96) (m : Master),
     ∃ mask : BitVec 8,
     (Accepts s m (engB e + R.ENG_SWTRIG) (mask.setWidth 32))) :=
  ⟨⟨(en 5 2 []), 5, .spi, ⟨⟨by decide +kernel, by decide +kernel⟩, by decide +kernel⟩⟩,
   ⟨(en 5 2 []), 5, .spi, ⟨⟨by decide +kernel, by decide +kernel⟩, by decide +kernel⟩, by decide +kernel⟩,
   ⟨(F' base (engB 5) [(F.ENG_STATUS_STATE,2)]), 5, .spi, ⟨⟨by decide +kernel, by decide +kernel⟩, by decide +kernel⟩,
    by decide +kernel⟩,
   ⟨(en 5 2 []), 5, .spi, ⟨⟨by decide +kernel, by decide +kernel⟩, by decide +kernel⟩, by decide +kernel⟩,
   ⟨(en 5 2 []), 5, .spi, 0, 0x00000000#32, ⟨⟨by decide +kernel, by decide +kernel⟩, by decide +kernel⟩, by decide +kernel⟩,
   ⟨(mbxPush (mbxPush ((List.range 20).foldl (fun s _ => mbxPush s 5 2 9) (en 5 2 [])) 5 5 77) 5 5 78), 5, .spi, 2,
    0x00000000#32, ⟨⟨by decide +kernel, by decide +kernel⟩, by decide +kernel⟩, by decide +kernel⟩,
   ⟨(mbxPush (mbxPush ((List.range 20).foldl (fun s _ => mbxPush s 5 2 9) (en 5 2 [])) 5 5 77) 5 5 78), 5, .spi, 1,
    ⟨⟨by decide +kernel, by decide +kernel⟩, by decide +kernel⟩, 0x0000004d#32, ([0x0000004e#32]), by decide +kernel⟩,
   ⟨(en 5 2 []), 5, .spi, 0x00#8, ⟨⟨by decide +kernel, by decide +kernel⟩, by decide +kernel⟩⟩⟩
theorem witness_EngineCommands_2 :
    (∃ (s : State) (e : Fin 96) (m : Master),
     (Accepts s m (engB e + R.ENG_MPU_CTRL) (fset (s.kept (engB e + R.ENG_MPU_CTRL)) F.ENG_MPU_CTRL_LOCK 1))) ∧
    (∃ (s : State) (e : Fin 96),
     (Awake s) ∧
     (engState s e = 1) ∧
     ((s.engine e).due = true) ∧
     (s.fld (engB e) F.ENG_CFG_FV_EN ≠ 0)) :=
  ⟨⟨(en 5 2 []), 5, .spi, ⟨⟨by decide +kernel, by decide +kernel⟩, by decide +kernel⟩⟩,
   
    ⟨(let s := cx 5 8 (g [(3,2),(4,1)]) (en 5 2 [(F.ENG_CFG_FV_EN,1),(F.ENG_CFG_FAULT_VEC,0xabc)]); s.setEngine 5 {s.engine 5 with due := true}),
    5, ⟨by decide +kernel, by decide +kernel⟩, by decide +kernel, by decide +kernel, by decide +kernel⟩⟩
theorem witness_TaskDispatch :
    ∃ (s : State) (e : Fin 96) (k : Nat),
    (Awake s) ∧
    (engState s e = 1) ∧
    ((s.engine e).due = false) ∧
    ((s.engine e).cur ≠ some 8) ∧
    (k < 8) ∧
    (taskState s e k = 1) ∧
    (taskTrig s e k = true) ∧
    ((s.engine e).cur ≠ some k) ∧
    ((∀ j, j < 8 → j ≠ k → taskState s e j = 2 ∨ taskState s e j = 3 ∨ (taskState s e j = 1 ∧ taskTrig s e j = true) →
      bits (taskCfg s e j) 14 12 < bits (taskCfg s e k) 14 12)) :=
  
    ⟨(let s := en 5 1 []; let s := F' s (engB 5 + 0x10) [(⟨R.ENG_TASK_STAT,2,0⟩,3),(⟨0x40,15,0⟩,0x9000)]; let s := F' s (engB 5 + 0x30) [(⟨R.ENG_TASK_STAT,2,0⟩,1),(⟨0x40,28,0⟩,0x190AD000)]; s.setEngine 5 {s.engine 5 with sw := 255}),
    5, (3 : Fin 8), ⟨by decide +kernel, by decide +kernel⟩, by decide +kernel, by decide +kernel, by decide +kernel,
    by decide +kernel, by decide +kernel, by decide +kernel, by decide +kernel, by decide +kernel⟩
end EngineIo

namespace Timers
def tm (n : Nat) (l : List (Fld × Nat)) (f : TimerX → TimerX := id) : State := let s := F' base (tmrB n) ([(F.TMR_STATUS_STATE,2),(F.TMR_RELOAD_RELOAD,100)] ++ l); s.setTimer n (f (s.timer n))

theorem witness_TimerTicks :
    (∃ (s : State) (n : Fin 64),
     (Awake s) ∧
     (tmrCounting s n = true) ∧
     let b := tmrB n
     let x := s.timer n
     let d := max 0x10000 (s.fld b F.TMR_DIV_DIV)
     (s.fld b F.TMR_CFG_SRC < 4) ∧
     (x.acc + 0x10000 < d)) ∧
    (∃ (s : State) (n : Fin 64),
     (Awake s) ∧
     (tmrCounting s n = true) ∧
     let b := tmrB n
     let x := s.timer n
     let d := max 0x10000 (s.fld b F.TMR_DIV_DIV)
     (s.fld b F.TMR_CFG_SRC < 4) ∧
     (d ≤ x.acc + 0x10000) ∧
     (s.fld b F.TMR_COUNT_COUNT ≠ activeReload s n)) ∧
    (∃ (s : State) (n : Fin 64),
     (Awake s) ∧
     (tmrCounting s n = true) ∧
     let b := tmrB n
     let x := s.timer n
     let d := max 0x10000 (s.fld b F.TMR_DIV_DIV)
     (s.fld b F.TMR_CFG_SRC < 4) ∧
     (d ≤ x.acc + 0x10000) ∧
     (s.fld b F.TMR_COUNT_COUNT = activeReload s n) ∧
     (s.fld (tmrB ((n + 1) % 64)) F.TMR_CFG_SRC ≠ 7)) :=
  ⟨⟨(tm 3 [(F.TMR_DIV_DIV,0x30000),(F.TMR_COUNT_COUNT,7)]), 3, ⟨by decide +kernel, by decide +kernel⟩, by decide +kernel, by decide +kernel, by decide +kernel⟩,
   ⟨(tm 3 [(F.TMR_DIV_DIV,0x30000),(F.TMR_COUNT_COUNT,7)] (fun x => {x with acc := 0x2ffff, fresh := true})), 3, ⟨by decide +kernel, by decide +kernel⟩, by decide +kernel, by decide +kernel, by decide +kernel, by decide +kernel⟩,
   ⟨(tm 62 [(F.TMR_COUNT_COUNT,55),(F.TMR_CFG_OUT,(0 : Fin 4))] (fun x => {x with active := some 55})), 62, ⟨by decide +kernel,
    by decide +kernel⟩, by decide +kernel, by decide +kernel, by decide +kernel, by decide +kernel, by decide +kernel⟩⟩
theorem witness_CompareFires :
    (∃ (s : State) (n : Fin 64),
     (Awake s) ∧
     (tmrCounting s n = true) ∧
     (s.flag (tmrB n) F.TMR_STATUS_ARMED = true) ∧
     let b := tmrB n
     let m := activeReload s n + 1
     let past := (((s.fld b F.TMR_COUNT_COUNT : Int) - s.fld b F.TMR_CMP_CMP) % (m : Int)).toNat
     (max 1 (m / 2) ≤ past)) ∧
    (∃ (s : State) (n : Fin 64),
     (Awake s) ∧
     (tmrCounting s n = true) ∧
     (s.flag (tmrB n) F.TMR_STATUS_ARMED = true) ∧
     let b := tmrB n
     let m := activeReload s n + 1
     let past := (((s.fld b F.TMR_COUNT_COUNT : Int) - s.fld b F.TMR_CMP_CMP) % (m : Int)).toNat
     (past < max 1 (m / 2)) ∧
     (s.fld b F.TMR_CFG_REARM = 2)) :=
  ⟨⟨(tm 3 [(F.TMR_STATUS_ARMED,1),(F.TMR_CMP_CMP,50)] (fun x => {x with fresh := true})), 3, ⟨by decide +kernel,
    by decide +kernel⟩, by decide +kernel, by decide +kernel, by decide +kernel⟩,
   
    ⟨(tm 3 [(F.TMR_STATUS_ARMED,1),(F.TMR_CMP_CMP,500),(F.TMR_RELOAD_RELOAD,0),(F.TMR_COUNT_COUNT,53),(F.TMR_CFG_REARM,(2 : Fin 4)),(F.TMR_INTERVAL_INTERVAL,0),(F.TMR_CFG_OUT,3-(2 : Fin 4)),(F.TMR_EVT_EN_CMP,1)]),
    3, ⟨by decide +kernel, by decide +kernel⟩, by decide +kernel, by decide +kernel, by decide +kernel, by decide +kernel⟩⟩
theorem witness_TimerControl :
    (∃ (s : State) (m : Master) (n : Fin 64) (wait : Bool),
     let b := tmrB n
     let word := fun en => fset (fset (s.kept b) F.TMR_CTRL_EN en) F.TMR_CTRL_WAIT_START (b2n wait)
     (Accepts s m b (word 0))) ∧
    (∃ (s : State) (m : Master) (n : Fin 64) (wait : Bool),
     let b := tmrB n
     let word := fun en => fset (fset (s.kept b) F.TMR_CTRL_EN en) F.TMR_CTRL_WAIT_START (b2n wait)
     (Accepts s m b (word 1)) ∧
     (tmrCounting s n = true)) ∧
    (∃ (s : State) (m : Master) (n : Fin 64) (wait : Bool),
     let b := tmrB n
     let word := fun en => fset (fset (s.kept b) F.TMR_CTRL_EN en) F.TMR_CTRL_WAIT_START (b2n wait)
     (Accepts s m b (word 1)) ∧
     (tmrCounting s n = false) ∧
     (wait = true)) ∧
    (∃ (s : State) (m : Master) (n : Fin 64) (wait : Bool),
     let b := tmrB n
     let x := s.timer n
     let word := fun en => fset (fset (s.kept b) F.TMR_CTRL_EN en) F.TMR_CTRL_WAIT_START (b2n wait)
     (Accepts s m b (word 1)) ∧
     (tmrCounting s n = false) ∧
     (wait = false) ∧
     (x.stored = false)) ∧
    (∃ (s : State) (m : Master) (n : Fin 64) (wait : Bool),
     let b := tmrB n
     let x := s.timer n
     let word := fun en => fset (fset (s.kept b) F.TMR_CTRL_EN en) F.TMR_CTRL_WAIT_START (b2n wait)
     (Accepts s m b (word 1)) ∧
     (tmrCounting s n = false) ∧
     (wait = false) ∧
     (x.stored = true)) ∧
    (∃ (s : State) (m : Master) (n : Fin 64),
     let b := tmrB n
     (Accepts s m b (fset (s.kept b) F.TMR_CTRL_ABORT 1))) :=
  ⟨⟨(tm 3 [(F.TMR_STATUS_STATE,1)] (fun x => {x with acc := 7})), .spi, 3, true, ⟨⟨by decide +kernel, by decide +kernel⟩,
    by decide +kernel⟩⟩,
   ⟨(tm 3 [(F.TMR_STATUS_ARMED,1),(F.TMR_COUNT_COUNT,53),(F.TMR_CTRL_EN,1)] (fun x => {x with acc := 7, stored := true})), .spi,
    3, true, ⟨⟨by decide +kernel, by decide +kernel⟩, by decide +kernel⟩, by decide +kernel⟩,
   ⟨(tm 3 [(F.TMR_STATUS_STATE,1)] (fun x => {x with acc := 7})), .spi, 3, true, ⟨⟨by decide +kernel, by decide +kernel⟩,
    by decide +kernel⟩, by decide +kernel, by decide +kernel⟩,
   ⟨(tm 3 [(F.TMR_STATUS_STATE,1)] (fun x => {x with acc := 7})), .spi, 3, false, ⟨⟨by decide +kernel, by decide +kernel⟩,
    by decide +kernel⟩, by decide +kernel, by decide +kernel, by decide +kernel⟩,
   ⟨(tm 3 [(F.TMR_STATUS_STATE,0)] (fun x => {x with acc := 7, stored := true})), .spi, 3, false, ⟨⟨by decide +kernel,
    by decide +kernel⟩, by decide +kernel⟩, by decide +kernel, by decide +kernel, by decide +kernel⟩,
   ⟨(tm 3 [(F.TMR_STATUS_STATE,1)] (fun x => {x with acc := 7})), .spi, 3, ⟨⟨by decide +kernel, by decide +kernel⟩,
    by decide +kernel⟩⟩⟩
theorem witness_TimerRegisterWrites :
    (∃ (s : State) (m : Master) (n : Fin 64) (v : Word),
     let b := tmrB n
     (Accepts s m (b + R.TMR_RELOAD) v)) ∧
    (∃ (s : State) (m : Master) (n : Fin 64) (v : Word),
     let b := tmrB n
     (Accepts s m (b + R.TMR_COUNT) v)) ∧
    (∃ (s : State) (m : Master) (n : Fin 64) (v : Word),
     let b := tmrB n
     (Accepts s m (b + R.TMR_CMP) v) ∧
     (tmrCounting s n = true)) ∧
    (∃ (s : State) (m : Master) (n : Fin 64) (v : Word),
     let b := tmrB n
     (Accepts s m (b + R.TMR_CMP) v) ∧
     (tmrCounting s n = false)) :=
  ⟨⟨(tm 3 [(F.TMR_STATUS_STATE,1)]), .spi, 3, 77, ⟨⟨by decide +kernel, by decide +kernel⟩, by decide +kernel⟩⟩,
   ⟨(tm 3 [(F.TMR_STATUS_STATE,1)]), .spi, 3, 77, ⟨⟨by decide +kernel, by decide +kernel⟩, by decide +kernel⟩⟩,
   ⟨(tm 3 [(F.TMR_STATUS_STATE,2)]), .spi, 3, 77, ⟨⟨by decide +kernel, by decide +kernel⟩, by decide +kernel⟩,
    by decide +kernel⟩,
   ⟨(tm 3 [(F.TMR_STATUS_STATE,1)]), .spi, 3, 77, ⟨⟨by decide +kernel, by decide +kernel⟩, by decide +kernel⟩,
    by decide +kernel⟩⟩
theorem witness_TimerStartsStops :
    (∃ (s : State) (m : Master) (high : Bool) (mask : Word),
     (Accepts s m (evtB + if high then R.EVT_TSTART_HI else R.EVT_TSTART_LO) mask)) ∧
    (∃ (s : State) (m : Master) (high : Bool) (mask : Word),
     (Accepts s m (evtB + if high then R.EVT_TSTOP_HI else R.EVT_TSTOP_LO) mask)) :=
  ⟨
    ⟨(F' (F' (tm 3 [(F.TMR_STATUS_ARMED,1)]) (tmrB 40) [(F.TMR_STATUS_STATE,2),(F.TMR_STATUS_ARMED,1)]) (tmrB 33) [(F.TMR_STATUS_STATE,1)]),
    .spi, true, 0x10f, ⟨⟨by decide +kernel, by decide +kernel⟩, by decide +kernel⟩⟩,
   
    ⟨(F' (F' (tm 3 [(F.TMR_STATUS_ARMED,1)]) (tmrB 40) [(F.TMR_STATUS_STATE,2),(F.TMR_STATUS_ARMED,1)]) (tmrB 33) [(F.TMR_STATUS_STATE,1)]),
    .spi, true, 0x10f, ⟨⟨by decide +kernel, by decide +kernel⟩, by decide +kernel⟩⟩⟩
theorem witness_PinEdges :
    (∃ (s : State) (pin : Fin 8) (rising : Bool),
     (Awake s) ∧
     ∃ n,
     (n < 64) ∧
     (tmrCounting s n = true) ∧
     (s.flag (tmrB n) F.TMR_CFG_CAP_EN = true) ∧
     (s.fld (tmrB n) F.TMR_CFG_CPIN = pin) ∧
     (s.flag (tmrB n) F.TMR_CFG_CAPV = false) ∧
     (rising = true)) ∧
    (∃ (s : State) (pin : Fin 8) (rising : Bool),
     (Awake s) ∧
     ∃ n,
     (n < 64) ∧
     (tmrCounting s n = true) ∧
     (s.flag (tmrB n) F.TMR_CFG_CAP_EN = true) ∧
     (s.fld (tmrB n) F.TMR_CFG_CPIN = pin) ∧
     (s.flag (tmrB n) F.TMR_CFG_CAPV = false) ∧
     (rising = false) ∧
     ((s.timer n).rise = true)) :=
  ⟨
    ⟨(tm 3 [(F.TMR_CFG_CAP_EN,1),(F.TMR_CFG_CPIN,5),(F.TMR_COUNT_COUNT,20),(F.TMR_CAP_R_VALUE,50)] (fun x => {x with rise := true})),
    5, true, ⟨by decide +kernel, by decide +kernel⟩, 3, by decide +kernel, by decide +kernel, by decide +kernel,
    by decide +kernel, by decide +kernel, by decide +kernel⟩,
   
    ⟨(tm 3 [(F.TMR_CFG_CAP_EN,1),(F.TMR_CFG_CPIN,5),(F.TMR_COUNT_COUNT,20),(F.TMR_CAP_R_VALUE,50)] (fun x => {x with rise := true})),
    5, false, ⟨by decide +kernel, by decide +kernel⟩, 3, by decide +kernel, by decide +kernel, by decide +kernel,
    by decide +kernel, by decide +kernel, by decide +kernel, by decide +kernel⟩⟩
end Timers

namespace DmaCapture
def grant (s : State) : State := (s.wr 0x201c0 0xAAAAAAAA).wr 0x201d8 0xAAAAAAAA
def dm (c : Nat) (l : List (Fld × Nat)) (f : DmaX → DmaX := id) : State := let s := F' base (dmaB c) l; s.setDma c (f (s.dma c))
def dd (a : Nat) (ws : List Word) : State := let s := dm 2 [(F.DMA_STATUS_STATE,2)] (fun x => {x with next := some a}); (ws.zip (List.range 8)).foldl (fun s p => s.setMemWord (a + 4*p.2) p.1) s
def de (ctl : Word) (src dst : Nat) : State := (List.range 64).foldl (fun s k => s.setByte (0x2000000 + k) (BitVec.ofNat 8 (k+1))) (dm 2 [(F.DMA_STATUS_STATE,2),(F.DMA_REMAIN_REMAIN,6)] (fun x => {x with next := none, desc := [BitVec.ofNat 32 src,BitVec.ofNat 32 dst,ctl,0,0,0,0,0], src := src, dst := dst}))
def ca (u : Nat) (l : List (Fld × Nat)) (f : CapX → CapX := id) : State := let s := F' base (capB u) ([(F.CAP_RING_BASE_BASE,0x2001000),(F.CAP_RING_SIZE_K,1),(F.CAP_SRC_QTY,1),(F.CAP_SRC_SLOTS,3),(F.CAP_REC_FRAMES,3)] ++ l); s.setCap u (f (s.cap u))
def r0 : CapRec := ⟨1,3,3,0x123456789,4,1,false,false,[1,2,3,4,5,6,7,8]⟩

theorem witness_DmaControl :
    (∃ (s : State) (m : Master) (c : Fin 32),
     let b := dmaB c
     let st := dmaState s c
     (Accepts s m b (fset (s.kept b) F.DMA_CTRL_EN 0)) ∧
     (st = 1 ∨ st = 2)) ∧
    (∃ (s : State) (m : Master) (c : Fin 32),
     let b := dmaB c
     let st := dmaState s c
     (Accepts s m b (fset (s.kept b) F.DMA_CTRL_EN 0)) ∧
     (st ≠ 1) ∧
     (st ≠ 2)) ∧
    (∃ (s : State) (m : Master) (c : Fin 32),
     let b := dmaB c
     let st := dmaState s c
     (Accepts s m b (fset (s.kept b) F.DMA_CTRL_EN 1)) ∧
     (st = 1 ∨ st = 2)) ∧
    (∃ (s : State) (m : Master) (c : Fin 32),
     let b := dmaB c
     let st := dmaState s c
     (Accepts s m b (fset (s.kept b) F.DMA_CTRL_EN 1)) ∧
     (st = 0 ∨ st = 5) ∧
     (s.flag b F.DMA_TRIG_EN = false)) ∧
    (∃ (s : State) (m : Master) (c : Fin 32),
     let b := dmaB c
     let st := dmaState s c
     (Accepts s m b (fset (s.kept b) F.DMA_CTRL_EN 1)) ∧
     (st = 0 ∨ st = 5) ∧
     (s.flag b F.DMA_TRIG_EN = true) ∧
     (s.fld b F.DMA_STATUS_PEND = 0)) ∧
    (∃ (s : State) (m : Master) (c : Fin 32),
     let b := dmaB c
     let st := dmaState s c
     (Accepts s m b (fset (s.kept b) F.DMA_CTRL_EN 1)) ∧
     (st = 3 ∨ st = 4) ∧
     ((s.dma c).fresh = false) ∧
     ((s.dma c).mid = true)) ∧
    (∃ (s : State) (m : Master) (c : Fin 32),
     let b := dmaB c
     (Accepts s m b (fset (s.kept b) F.DMA_CTRL_ABORT 1))) :=
  ⟨
    ⟨(dm 31 [(F.DMA_STATUS_STATE,(1 : Fin 6)),(F.DMA_STATUS_ERR,3),(F.DMA_STATUS_PEND,(1 : Fin 6)%2),(F.DMA_TRIG_EN,b2n true),(F.DMA_DESC_DESC,0x2000100)] (fun x =>
     {x with mid := true, fresh := (1 : Fin 6).val == 0})), .spi, 31, ⟨⟨by decide +kernel, by decide +kernel⟩, by decide +kernel⟩,
     by decide +kernel⟩,
   
    ⟨(dm 31 [(F.DMA_STATUS_STATE,(0 : Fin 6)),(F.DMA_STATUS_ERR,3),(F.DMA_STATUS_PEND,(0 : Fin 6)%2),(F.DMA_TRIG_EN,b2n true),(F.DMA_DESC_DESC,0x2000100)] (fun x =>
     {x with mid := true, fresh := (0 : Fin 6).val == 0})), .spi, 31, ⟨⟨by decide +kernel, by decide +kernel⟩, by decide +kernel⟩,
     by decide +kernel,
    by decide +kernel⟩,
   
    ⟨(dm 31 [(F.DMA_STATUS_STATE,(1 : Fin 6)),(F.DMA_STATUS_ERR,3),(F.DMA_STATUS_PEND,(1 : Fin 6)%2),(F.DMA_TRIG_EN,b2n true),(F.DMA_DESC_DESC,0x2000100)] (fun x =>
     {x with mid := true, fresh := (1 : Fin 6).val == 0})), .spi, 31, ⟨⟨by decide +kernel, by decide +kernel⟩, by decide +kernel⟩,
     by decide +kernel⟩,
   
    ⟨(dm 31 [(F.DMA_STATUS_STATE,(0 : Fin 6)),(F.DMA_STATUS_ERR,3),(F.DMA_STATUS_PEND,(0 : Fin 6)%2),(F.DMA_TRIG_EN,b2n false),(F.DMA_DESC_DESC,0x2000100)] (fun x =>
     {x with mid := false, fresh := (0 : Fin 6).val == 0})), .spi, 31, ⟨⟨by decide +kernel, by decide +kernel⟩, by decide +kernel⟩,
     by decide +kernel,
    by decide +kernel⟩,
   
    ⟨(dm 31 [(F.DMA_STATUS_STATE,(0 : Fin 6)),(F.DMA_STATUS_ERR,3),(F.DMA_STATUS_PEND,(0 : Fin 6)%2),(F.DMA_TRIG_EN,b2n true),(F.DMA_DESC_DESC,0x2000100)] (fun x =>
     {x with mid := true, fresh := (0 : Fin 6).val == 0})), .spi, 31, ⟨⟨by decide +kernel, by decide +kernel⟩, by decide +kernel⟩,
     by decide +kernel,
    by decide +kernel, by decide +kernel⟩,
   
    ⟨(dm 31 [(F.DMA_STATUS_STATE,(3 : Fin 6)),(F.DMA_STATUS_ERR,3),(F.DMA_STATUS_PEND,(3 : Fin 6)%2),(F.DMA_TRIG_EN,b2n true),(F.DMA_DESC_DESC,0x2000100)] (fun x =>
     {x with mid := true, fresh := (3 : Fin 6).val == 0})), .spi, 31, ⟨⟨by decide +kernel, by decide +kernel⟩, by decide +kernel⟩,
     by decide +kernel,
    by decide +kernel, by decide +kernel⟩,
   
    ⟨(dm 31 [(F.DMA_STATUS_STATE,(0 : Fin 6)),(F.DMA_STATUS_ERR,3),(F.DMA_STATUS_PEND,(0 : Fin 6)%2),(F.DMA_TRIG_EN,b2n true),(F.DMA_DESC_DESC,0x2000100)] (fun x =>
     {x with mid := true, fresh := (0 : Fin 6).val == 0})), .spi, 31, ⟨⟨by decide +kernel, by decide +kernel⟩, by decide +kernel⟩⟩⟩
theorem witness_DmaTriggers :
    ∃ (s : State) (c : Fin 32) (n : Nat),
    (Awake s) ∧
    (sparseGet (fun _ => 0) s.dmaArr c = n + 1) ∧
    (s.flag (dmaB c) F.DMA_TRIG_EN = true) :=
  
    ⟨({dm 31 [(F.DMA_STATUS_STATE,(0 : Fin 6)),(F.DMA_STATUS_PEND,255),(F.DMA_STATUS_LOST,254),(F.DMA_TRIG_EN,1)] with dmaArr := [(3,1),(31,5)]}),
    31, 4, ⟨by decide +kernel, by decide +kernel⟩, by decide +kernel, by decide +kernel⟩
theorem witness_DmaDescriptors :
    (∃ (s : State) (c : Fin 32) (a : Nat),
     (Awake s) ∧
     (dmaState s c = 2) ∧
     ((s.dma c).next = some a) ∧
     let w := fun k => s.memWord (a + 4 * k)
     let ctl := (w 2).toNat
     let size := 2 ^ bits ctl 17 16
     let good := bits ctl 31 28 = 0 ∧ bits (w 3).toNat 31 24 = 0 ∧ w 6 = 0#32 ∧ w 7 = 0#32 ∧ bits ctl 27 24 < 12 ∧
       (w 0).toNat % size = 0 ∧ (w 1).toNat % size = 0
     let place := a % 32 = 0 ∧ 0x2000000 ≤ a ∧ a < 0x2400000 ∧ passOk s (.dma c) false a = true
     (place) ∧
     (good)) ∧
    (∃ (s : State) (c : Fin 32) (a : Nat),
     (Awake s) ∧
     (dmaState s c = 2) ∧
     ((s.dma c).next = some a) ∧
     let w := fun k => s.memWord (a + 4 * k)
     let ctl := (w 2).toNat
     let size := 2 ^ bits ctl 17 16
     let good := bits ctl 31 28 = 0 ∧ bits (w 3).toNat 31 24 = 0 ∧ w 6 = 0#32 ∧ w 7 = 0#32 ∧ bits ctl 27 24 < 12 ∧
       (w 0).toNat % size = 0 ∧ (w 1).toNat % size = 0
     let place := a % 32 = 0 ∧ 0x2000000 ≤ a ∧ a < 0x2400000 ∧ passOk s (.dma c) false a = true
     (place) ∧
     (¬ good)) ∧
    (∃ (s : State) (c : Fin 32) (a : Nat),
     (Awake s) ∧
     (dmaState s c = 2) ∧
     ((s.dma c).next = some a) ∧
     let place := a % 32 = 0 ∧ 0x2000000 ≤ a ∧ a < 0x2400000 ∧ passOk s (.dma c) false a = true
     (¬ place)) :=
  ⟨⟨(grant <| dd 0x2000100 [0x2000000,0x2000010,0x20005,0,7,7,0,0]), 2, 0x2000100, ⟨by decide +kernel, by decide +kernel⟩,
    by decide +kernel, by decide +kernel, by decide +kernel, by decide +kernel⟩,
   ⟨(grant <| dd 0x2000100 [0x2000000,0x2000010,0xF0020005,0,7,7,0,0]), 2, 0x2000100, ⟨by decide +kernel, by decide +kernel⟩,
    by decide +kernel, by decide +kernel, by decide +kernel, by decide +kernel⟩,
   ⟨(grant <| dd 0x2000104 [0x2000000,0x2000010,0x20005,0,7,7,0,0]), 2, 0x2000104, ⟨by decide +kernel, by decide +kernel⟩,
    by decide +kernel, by decide +kernel, by decide +kernel⟩⟩
theorem witness_DmaElements :
    ∃ (s : State) (c : Fin 32),
    (Awake s) ∧
    (dmaTurn s = some c.val) ∧
    let b := dmaB c
    let x := s.dma c
    let ctl := (x.desc.getD 2 0#32).toNat
    let left := s.fld b F.DMA_REMAIN_REMAIN
    (inRam x.src = true) ∧
    (inRam x.dst = true) ∧
    (passOk s (.dma c) false x.src = true) ∧
    (passOk s (.dma c) true x.dst = true) ∧
    (bits ctl 27 24 = 0) ∧
    (bits ctl 22 22 = 0) ∧
    (1 < left) :=
  ⟨(grant <| de 0x20005 0x2000000 0x2000010), 2, ⟨by decide +kernel, by decide +kernel⟩, by decide +kernel, by decide +kernel,
    by decide +kernel, by decide +kernel, by decide +kernel, by decide +kernel, by decide +kernel, by decide +kernel⟩
theorem witness_CaptureControl :
    (∃ (s : State) (m : Master) (u : Fin 8),
     let b := capB u
     let st := capState s u
     (Accepts s m b (fset (s.kept b) F.CAP_CTRL_EN 1)) ∧
     (st ≠ 1) ∧
     (st ≠ 2) ∧
     (capCheck s u ≠ 0)) ∧
    (∃ (s : State) (m : Master) (u : Fin 8),
     let b := capB u
     let st := capState s u
     (Accepts s m b (fset (s.kept b) F.CAP_CTRL_EN 1)) ∧
     (st ≠ 1) ∧
     (st ≠ 2) ∧
     (capCheck s u = 0)) ∧
    (∃ (s : State) (m : Master) (u : Fin 8),
     let b := capB u
     let st := capState s u
     (Accepts s m b (fset (s.kept b) F.CAP_CTRL_EN 0)) ∧
     (st = 1)) ∧
    (∃ (s : State) (m : Master) (u : Fin 8),
     let b := capB u
     let st := capState s u
     (Accepts s m b (fset (s.kept b) F.CAP_CTRL_EN 0)) ∧
     (st = 2)) ∧
    (∃ (s : State) (m : Master) (u : Fin 8),
     let b := capB u
     let st := capState s u
     (Accepts s m b (fset (s.kept b) F.CAP_CTRL_EN 0)) ∧
     (st ≠ 1) ∧
     (st ≠ 2)) ∧
    (∃ (s : State) (m : Master) (u : Fin 8),
     let b := capB u
     (Accepts s m b (fset (s.kept b) F.CAP_CTRL_ABORT 1))) :=
  ⟨⟨(ca 7 [(F.CAP_SRC_QTY,0),(F.CAP_RING_SIZE_K,0)]), .spi, 7, ⟨⟨by decide +kernel, by decide +kernel⟩, by decide +kernel⟩,
    by decide +kernel, by decide +kernel, by decide +kernel⟩,
   ⟨(ca 7 [(F.CAP_SRC_QTY,(1 : Fin 4)),(F.CAP_REC_FRAMES,4)] (fun x => {x with cur := some r0, pair := 5})), .spi, 7,
    ⟨⟨by decide +kernel, by decide +kernel⟩, by decide +kernel⟩, by decide +kernel, by decide +kernel, by decide +kernel⟩,
   ⟨(ca 7 [(F.CAP_STATUS_STATE,(1 : Fin 4)),(F.CAP_CTRL_START,(0 : Fin 4))] (fun x => {x with cur := some r0, pair := 5})),
    .spi, 7, ⟨⟨by decide +kernel, by decide +kernel⟩, by decide +kernel⟩, by decide +kernel⟩,
   ⟨(ca 7 [(F.CAP_STATUS_STATE,(2 : Fin 4)),(F.CAP_CTRL_START,(0 : Fin 4))] (fun x => {x with cur := some r0, pair := 5})),
    .spi, 7, ⟨⟨by decide +kernel, by decide +kernel⟩, by decide +kernel⟩, by decide +kernel⟩,
   ⟨(ca 7 [(F.CAP_SRC_QTY,0),(F.CAP_RING_SIZE_K,0)]), .spi, 7, ⟨⟨by decide +kernel, by decide +kernel⟩, by decide +kernel⟩,
    by decide +kernel, by decide +kernel⟩,
   ⟨(ca 7 [(F.CAP_SRC_QTY,0),(F.CAP_RING_SIZE_K,0)]), .spi, 7, ⟨⟨by decide +kernel, by decide +kernel⟩, by decide +kernel⟩⟩⟩
theorem witness_CaptureRecords :
    (∃ (s : State) (u : Fin 8) (r : CapRec) (l : List CapRec),
     let b := capB u
     let seq := s.rd (b + R.CAP_SEQ)
     let bs := recBytes r u seq
     let n := bs.length
     (s.pwr.core = true) ∧
     ((s.cap u).closed = r :: l) ∧
     (r.lost = false) ∧
     (s.flag b F.CAP_CTRL_DEST = false) ∧
     (capState s u = 2) ∧
     (capSize s u - 4 - capUnread s u < n)) ∧
    (∃ (s : State) (u : Fin 8) (r : CapRec) (l : List CapRec),
     let b := capB u
     let seq := s.rd (b + R.CAP_SEQ)
     let bs := recBytes r u seq
     let n := bs.length
     let wr := s.fld b F.CAP_WR_WR
     let base := (s.rd (b + R.CAP_RING_BASE)).toNat
     (s.pwr.core = true) ∧
     ((s.cap u).closed = r :: l) ∧
     (r.lost = false) ∧
     (s.flag b F.CAP_CTRL_DEST = false) ∧
     (capState s u = 2) ∧
     (n ≤ capSize s u - 4 - capUnread s u) ∧
     ((∀ k, k < n / 4 → passOk s (.dma 0) true (base + (wr + 4 * k) % capSize s u) = true))) ∧
    (∃ (s : State) (m : Master) (u : Fin 8) (v : Word),
     let b := capB u
     (Accepts s m (b + R.CAP_RD) v)) :=
  ⟨
    ⟨(grant <| ca 7 [(F.CAP_STATUS_STATE,2),(F.CAP_WR_WR,4092),(F.CAP_RD_RD,0),(F.CAP_SEQ_SEQ,9)] (fun x => {x with closed := [r0,r0]})),
    7, r0, [r0], by decide +kernel, by decide +kernel, by decide +kernel, by decide +kernel, by decide +kernel,
    by decide +kernel⟩,
   
    ⟨(grant <| ca 7 [(F.CAP_STATUS_STATE,2),(F.CAP_WR_WR,4092),(F.CAP_RD_RD,4000),(F.CAP_SEQ_SEQ,9)] (fun x => {x with closed := [r0,r0]})),
    7, r0, [r0], by decide +kernel, by decide +kernel, by decide +kernel, by decide +kernel, by decide +kernel,
    by decide +kernel, by decide +kernel⟩,
   
    ⟨(grant <| ca 7 [(F.CAP_STATUS_STATE,2),(F.CAP_WR_WR,4092),(F.CAP_RD_RD,0),(F.CAP_SEQ_SEQ,9)] (fun x => {x with closed := [r0,r0]})),
    .spi, 7, 4, ⟨⟨by decide +kernel, by decide +kernel⟩, by decide +kernel⟩⟩⟩
end DmaCapture

namespace Images
/-- A live image with one section, at the flash address of image A. -/
def imA : List (Nat × Byte) :=
  [(0, 77), (1, 90), (2, 73), (3, 77), (4, 1), (5, 0), (6, 0), (7, 0), (8, 1), (9, 0), (10, 0), (11, 0),
    (12, 32), (13, 0), (14, 0), (15, 0), (16, 46), (17, 155), (18, 57), (19, 8), (20, 17), (21, 0), (22, 0), (23, 0),
    (24, 34), (25, 0), (26, 0), (27, 0), (28, 224), (29, 0), (30, 0), (31, 0), (32, 1), (33, 1), (34, 1), (35, 0),
    (36, 0), (37, 0), (38, 0), (39, 0), (40, 0), (41, 0), (42, 0), (43, 0), (44, 0), (45, 0), (46, 0), (47, 0),
    (48, 0), (49, 0), (50, 0), (51, 0), (52, 2), (53, 0), (54, 0), (55, 0), (56, 16), (57, 0), (58, 0), (59, 0)] ++
  [(60, 178), (61, 47), (62, 93), (63, 116), (64, 146), (65, 113), (66, 0), (67, 0), (68, 0), (70, 0), (71, 0), (72, 0),
    (73, 0), (74, 0), (75, 0), (76, 0), (77, 0), (78, 0), (79, 0), (80, 15), (81, 0), (82, 0), (83, 0), (84, 132),
    (85, 0), (86, 0), (87, 0), (88, 91), (89, 75), (90, 103), (91, 88), (92, 0), (93, 0), (94, 0), (95, 0), (96, 41),
    (97, 21), (98, 152), (99, 157), (100, 153), (101, 224), (102, 50), (103, 182), (104, 77), (105, 227), (106, 113), (107, 64), (108, 231),
    (109, 83), (110, 12), (111, 48), (112, 116), (113, 135), (114, 16), (115, 14), (116, 231), (117, 199), (118, 145), (119, 115), (120, 7)] ++
  [(121, 156), (122, 244), (123, 83), (124, 79), (125, 253), (126, 156), (127, 108), (128, 120), (129, 92), (130, 223), (131, 223), (132, 245),
    (133, 77), (134, 76), (135, 206), (136, 107), (137, 130), (138, 187), (139, 26), (140, 158), (141, 75), (142, 235), (143, 87), (144, 251),
    (145, 8), (146, 149), (147, 22), (148, 182), (149, 115), (150, 16), (151, 213), (152, 188), (153, 140), (154, 196), (155, 4), (156, 90),
    (157, 190), (158, 181), (159, 9), (160, 124), (161, 242), (162, 123), (163, 24), (164, 141), (165, 3), (166, 79), (167, 126), (168, 138),
    (169, 82), (170, 56), (171, 3), (172, 4), (173, 181), (174, 26), (175, 195), (176, 192), (177, 137), (178, 105), (179, 226), (180, 119)] ++
  [(181, 242), (182, 27), (183, 53), (184, 166), (185, 11), (186, 72), (187, 252), (188, 71), (189, 102), (190, 153), (191, 120), (192, 8),
    (193, 69), (194, 190), (195, 74), (196, 8), (197, 251), (198, 23), (199, 211), (200, 98), (201, 133), (202, 125), (203, 25), (204, 190),
    (205, 79), (206, 26), (207, 168), (208, 22), (209, 169), (210, 60), (211, 229), (212, 17), (213, 194), (214, 49), (215, 100), (216, 150),
    (217, 19), (218, 76), (219, 169), (220, 150), (221, 113), (222, 109), (223, 127)]
/-- A header, by offset. -/
def imH : List (Nat × Byte) :=
  [(0, 77), (1, 90), (2, 73), (3, 77), (4, 1), (5, 0), (6, 0), (7, 0), (8, 1), (9, 0), (10, 0), (11, 0),
    (12, 32), (13, 0), (14, 0), (15, 0), (16, 234), (17, 107), (18, 242), (19, 236), (20, 51), (21, 0), (22, 0), (23, 0),
    (24, 68), (25, 0), (26, 0), (27, 0), (28, 80), (29, 13), (30, 0), (31, 0), (32, 1), (33, 1), (34, 0), (35, 0),
    (36, 0), (37, 0), (38, 0), (39, 0), (40, 0), (41, 0), (42, 0), (43, 0), (44, 0), (45, 0), (46, 0), (47, 0),
    (48, 0), (49, 0), (50, 0), (51, 0)]
/-- A full image, by offset: two words of felt 3's coefficients, a program of engine 2 that starts, the registers locked. -/
def imF : List (Nat × Byte) :=
  [(0, 77), (1, 90), (2, 73), (3, 77), (4, 1), (5, 0), (6, 0), (7, 0), (8, 1), (9, 0), (10, 0), (11, 0),
    (12, 32), (13, 0), (14, 0), (15, 0), (16, 147), (17, 84), (18, 109), (19, 55), (20, 51), (21, 0), (22, 0), (23, 0),
    (24, 68), (25, 0), (26, 0), (27, 0), (28, 124), (29, 0), (30, 0), (31, 0), (32, 1), (33, 1), (34, 2), (35, 0),
    (36, 0), (37, 0), (38, 0), (39, 0), (40, 0), (41, 0), (42, 0), (43, 0), (44, 0), (45, 0), (46, 0), (47, 0),
    (48, 0), (49, 0), (50, 0), (51, 0), (52, 6), (53, 0), (54, 1), (55, 0), (56, 16), (57, 0), (58, 0), (59, 0)] ++
  [(60, 222), (61, 71), (62, 166), (63, 128), (64, 0), (65, 25), (66, 24), (67, 0), (68, 2), (69, 0), (70, 0), (71, 16),
    (72, 0), (73, 0), (74, 128), (75, 63), (76, 0), (77, 0), (78, 0), (79, 64), (80, 8), (81, 0), (82, 1), (83, 0),
    (84, 20), (85, 0), (86, 0), (87, 0), (88, 224), (89, 235), (90, 219), (91, 29), (92, 2), (93, 0), (94, 1), (95, 16),
    (96, 1), (97, 0), (98, 1), (99, 0), (100, 7), (101, 0), (102, 0), (103, 0), (104, 0), (105, 0), (106, 0), (107, 192),
    (108, 120), (109, 86), (110, 52), (111, 18), (112, 15), (113, 0), (114, 1), (115, 0), (116, 0), (117, 0), (118, 0), (119, 0)] ++
  [(120, 0), (121, 0), (122, 0), (123, 0)]
/-- A live image on it, by offset: one word of felt 3's coefficients. -/
def imL : List (Nat × Byte) :=
  [(0, 77), (1, 90), (2, 73), (3, 77), (4, 1), (5, 0), (6, 0), (7, 0), (8, 1), (9, 0), (10, 0), (11, 0),
    (12, 32), (13, 0), (14, 0), (15, 0), (16, 22), (17, 48), (18, 167), (19, 161), (20, 85), (21, 0), (22, 0), (23, 0),
    (24, 102), (25, 0), (26, 0), (27, 0), (28, 88), (29, 0), (30, 0), (31, 0), (32, 1), (33, 1), (34, 1), (35, 0),
    (36, 51), (37, 0), (38, 0), (39, 0), (40, 0), (41, 0), (42, 0), (43, 0), (44, 0), (45, 0), (46, 0), (47, 0),
    (48, 0), (49, 0), (50, 0), (51, 0), (52, 6), (53, 0), (54, 1), (55, 0), (56, 12), (57, 0), (58, 0), (59, 0)] ++
  [(60, 40), (61, 228), (62, 190), (63, 184), (64, 4), (65, 25), (66, 24), (67, 0), (68, 1), (69, 0), (70, 0), (71, 16),
    (72, 0), (73, 0), (74, 128), (75, 63), (76, 15), (77, 0), (78, 1), (79, 0), (80, 0), (81, 0), (82, 0), (83, 0),
    (84, 0), (85, 0), (86, 0), (87, 0)]
def fl (s : State) (a : Nat) (l : List (Nat × Byte)) : State := { s with flash := s.flash ++ l.map (fun p => (a + p.1, p.2)) }
def ld (f : LoadX → LoadX) (s : State) : State := { s with img := f s.img }
def A (s : State) := { s with flash := imA }
def rdy (s : State) := F' s nvB [(F.NV_STATUS_READY,1)]
def p1 (src : Nat) (s : State) := ld (fun x => {x with src := src}) (F' s 0 [(F.SYS_IMG_STATUS_STATE,1)])
def p2 (src : Nat) (s : State) := ld (fun x => {x with src := src, loaded := true}) (F' s 0 [(F.SYS_IMG_STATUS_STATE,2)])
/-- Pass 2 of an image of slot 0 that has passed the first, of the kind given. -/
def applied (im : List (Nat × Byte)) (live : Bool) (s : State) : State :=
  let s := p2 1 { s with flash := im }
  ld (fun x => { x with live := live, loaded := live, crcs := (imgSecs s 1).2.map (fun x => x.crc) }) s
def il (s : State) := F' s supB [(F.SUP_ILK_STAT_STATE,0x1111)]
def df (s : State) (f : Nat) (m : Word) : State := F' ((s.wr (cstAt 0 f) m).wr (cstAt 0 f + 24) 0x100) (feltB f) [(F.FELT_STATUS_STATE,1)]
/-- An image passes when each of its checks does. -/
theorem imgCheckOk {s : State} {src : Nat} {cs : List ImgSec} {a b : ImgSec} (h0 : headCheck s src = 0)
    (h1 : imgSecs s src = (0, cs)) (h2 : (required (imgHead s src).live).all (fun t => cs.any (fun c => c.typ == t)) = true)
    (h3 : ¬ ((imgHead s src).live = true ∧ (cs.any (fun c => c.typ == 3 || c.typ == 8) = true ∨ s.img.loaded = false ∨
      (imgHead s src).base ≠ (s.rd R.SYS_IMG_ID).toNat)))
    (h4 : (cs.map (bodyCheck s src (imgHead s src))).find? (fun k => k != 0) = none) (ha : secOf cs 2 = some a)
    (hb : secOf cs 15 = some b) (h5 : constraintsOk s src a = true) (h6 : signatureCheck s src b = 0) : imgCheck s src = 0 := by
  unfold imgCheck
  simp only [h0, h1, h2, h4, ha, hb, h5, h6, ne_eq, not_true_eq_false, if_false, if_true, Bool.not_true, Bool.false_eq_true]
  rw [if_neg h3]
/-- A signature is accepted without fused keys when it verifies. -/
theorem sigOk {s : State} {src x y d r t : Nat} {c : ImgSec} (h0 : s.flag 0 F.SYS_FUSE_SIG_REQ = false)
    (hx : beNat ((imgBytes s src (c.off + 4) 64).take 32) = x) (hy : beNat ((imgBytes s src (c.off + 4) 64).drop 32) = y)
    (hd : sha256 (imgBytes s src 0 (c.off - 12)) = d) (hr : beNat ((imgBytes s src (c.off + 68) 64).take 32) = r)
    (ht : beNat ((imgBytes s src (c.off + 68) 64).drop 32) = t) (hv : p256Verify x y d r t = true) : signatureCheck s src c = 0 := by
  simp only [signatureCheck, h0, hx, hy, hd, hr, ht, hv, Bool.false_and, Bool.false_eq_true, if_false, if_true]
/-- A signature verifies when its two multiples add up to the point that r names. -/
theorem verifyOk {x y d r t w : Nat} {a b : Option (Nat × Nat)} {q : Nat × Nat}
    (hk : (decide (x < p256P) && decide (y < p256P) && (y * y % p256P == (x * x * x + (p256P - 3) * x + p256B) % p256P)) = true)
    (hg : (decide (0 < r) && decide (r < p256N) && decide (0 < t) && decide (t < p256N)) = true)
    (hw : invMod p256N t = w) (ha : ecMul 256 (d * w % p256N) (some p256G) = a) (hb : ecMul 256 (r * w % p256N) (some (x, y)) = b)
    (hq : ecAdd a b = some q) (hr : (q.1 % p256N == r) = true) : p256Verify x y d r t = true := by
  obtain ⟨q1, q2⟩ := q
  simp only [p256Verify, hk, hg, hw, ha, hb, hq, Bool.and_true, if_true]
  exact hr
/-- Pass 1 of a live reload of image A: its signature is made with the private key for which both multiples are the base point. -/
def reloadA : State := ld (fun x => { x with loaded := true }) (p1 1 (A base))
theorem ecMul_zero : ∀ (n : Nat) (p : Option (Nat × Nat)), ecMul n 0 p = none
  | 0, _ => rfl
  | n + 1, p => by simp [ecMul, ecMul_zero n, ecAdd]
theorem ecMul_one (n : Nat) (q : Nat × Nat) : ecMul (n + 1) 1 (some q) = some q := by simp [ecMul, ecMul_zero, ecAdd]
theorem timesOne {k : Nat} {q : Nat × Nat} (h : k = 1) : ecMul 256 k (some q) = some q := h ▸ ecMul_one 255 q
theorem verifyA : p256Verify 18582983894635617274317462713966429687912024973592313885069011948070634364012
    54441636887288329877973253780552111517362219590115362281831824691682447635721
    3741728563923575232774384197077824025101102733563259019357513852980863004031
    56515219790691171413109057904011688695424810155802929973526481321309856242040
    3741728563923575232774384197077824025101102733563259019357513852980863004031 = true :=
  verifyOk (w := 5257223713852610351222461785467409049139491377315911613856143043117045798397) (a := some p256G) (b := some p256G)
    (q := (56515219790691171413109057904011688695424810155802929973526481321309856242040,
      3377031843712258259223711451491452598088675519751548567112458094635497583569))
    (by decide +kernel) (by decide +kernel) (by decide +kernel) (timesOne (by decide +kernel)) (by decide +kernel)
    (by decide +kernel) (by decide +kernel)
theorem reloadA_good : imgCheck reloadA 1 = 0 :=
  imgCheckOk (cs := [⟨1, 20, 32, 0x08399b2e⟩, ⟨2, 64, 16, 0x745d2fb2⟩, ⟨15, 92, 132, 0x58674b5b⟩]) (a := ⟨2, 64, 16, 0x745d2fb2⟩)
    (b := ⟨15, 92, 132, 0x58674b5b⟩)
    (by decide +kernel) (by decide +kernel) (by decide +kernel) (by decide +kernel) (by decide +kernel) (by decide +kernel)
    (by decide +kernel) (by decide +kernel)
    (sigOk (by decide +kernel) (by decide +kernel) (by decide +kernel) (by decide +kernel) (by decide +kernel) (by decide +kernel) verifyA)
/-- The check of the image of the source in use, once that source is known. -/
theorem imgAt {s : State} (h : s.img.src = 1) (k : imgCheck s 1 = 0) : imgCheck s s.img.src = 0 := h ▸ k

theorem witness_MemoryWordWrite :
    (∃ (s : State) (m : Master) (a : Word),
     (Quiet s) ∧
     (0x2000000 ≤ a.toNat) ∧
     (a.toNat < 0x2400000) ∧
     (a.toNat % 4 = 0) ∧
     (passOk s m true a.toNat = true)) ∧
    (∃ (s : State) (m : Master) (a : Word),
     (Quiet s) ∧
     (0x2000000 ≤ a.toNat) ∧
     (a.toNat < 0x2400000) ∧
     (a.toNat % 4 ≠ 0 ∨ passOk s m true a.toNat = false)) :=
  ⟨⟨base, .spi, 0x2000100, ⟨by decide +kernel, by decide +kernel, by decide +kernel, by decide +kernel, by decide +kernel,
    by decide +kernel, by decide +kernel, by decide +kernel, by decide +kernel, by decide +kernel⟩, by decide +kernel,
    by decide +kernel, by decide +kernel, by decide +kernel⟩,
   ⟨base, .spi, 0x2000101, ⟨by decide +kernel, by decide +kernel, by decide +kernel, by decide +kernel, by decide +kernel,
    by decide +kernel, by decide +kernel, by decide +kernel, by decide +kernel, by decide +kernel⟩, by decide +kernel,
    by decide +kernel, by decide +kernel⟩⟩
theorem witness_ImageCommands :
    (∃ (s : State) (m : Master) (src : Fin 8),
     (Accepts s m R.SYS_IMG_CTRL (BitVec.ofNat 32 (1 + 2 * src.val))) ∧
     (loading s = true)) ∧
    (∃ (s : State) (m : Master) (src : Fin 8),
     (Accepts s m R.SYS_IMG_CTRL (BitVec.ofNat 32 (1 + 2 * src.val))) ∧
     (loading s = false) ∧
     (src.val = 1 ∨ src.val = 2 ∨ src.val = 3) ∧
     (s.img.loaded = false ∨ outputsActive s = false)) ∧
    (∃ (s : State) (m : Master) (src : Fin 8),
     (Accepts s m R.SYS_IMG_CTRL (BitVec.ofNat 32 (1 + 2 * src.val))) ∧
     (loading s = false) ∧
     (src.val = 1 ∨ src.val = 2 ∨ src.val = 3) ∧
     (s.img.loaded = true) ∧
     (outputsActive s = true) ∧
     (headCheck s src = 0) ∧
     ((imgHead s src).live = false)) ∧
    (∃ (s : State) (m : Master),
     (Accepts s m R.SYS_IMG_CTRL 0x100#32)) :=
  ⟨⟨(F' (A base) 0 [(F.SYS_DIGEST_STAT_BUSY,1)]), .spi, (0 : Fin 8), ⟨⟨by decide +kernel, by decide +kernel⟩,
    by decide +kernel⟩, by decide +kernel⟩,
   ⟨(A base), .spi, (1 : Fin 8), ⟨⟨by decide +kernel, by decide +kernel⟩, by decide +kernel⟩, by decide +kernel,
    by decide +kernel, by decide +kernel⟩,
   ⟨(F' (ld (fun x => {x with loaded := true}) (fl base 0 imH)) (feltB 3) [(F.FELT_STATUS_STATE,6)]), .spi, (1 : Fin 8),
    ⟨⟨by decide +kernel, by decide +kernel⟩, by decide +kernel⟩, by decide +kernel, by decide +kernel, by decide +kernel,
    by decide +kernel, by decide +kernel, by decide +kernel⟩,
   ⟨(A base), .spi, ⟨⟨by decide +kernel, by decide +kernel⟩, by decide +kernel⟩⟩⟩
theorem witness_BootImage :
    (∃ (s : State),
     (s.pwr.core = true) ∧
     (s.flag nvB F.NV_STATUS_READY = true) ∧
     (s.img.chosen = false) ∧
     (loading s = false) ∧
     (s.img.loaded = false) ∧
     let empty := fun src => imgNum s src 0 4 = 0xFFFFFFFF
     (empty 1) ∧
     (empty 2)) ∧
    (∃ (s : State),
     (s.pwr.core = true) ∧
     (s.flag nvB F.NV_STATUS_READY = true) ∧
     (s.img.chosen = false) ∧
     (loading s = false) ∧
     (s.img.loaded = false) ∧
     let empty := fun src => imgNum s src 0 4 = 0xFFFFFFFF
     (¬ empty 1) ∧
     (headCheck s 1 = 0) ∧
     (empty 2)) ∧
    (∃ (s : State),
     (s.pwr.core = true) ∧
     (s.flag nvB F.NV_STATUS_READY = true) ∧
     (s.img.chosen = false) ∧
     (loading s = false) ∧
     (s.img.loaded = false) ∧
     let empty := fun src => imgNum s src 0 4 = 0xFFFFFFFF
     (¬ empty 1) ∧
     (headCheck s 1 = 0) ∧
     (¬ empty 2) ∧
     (headCheck s 2 = 0)) :=
  ⟨⟨(rdy base), by decide +kernel, by decide +kernel, by decide +kernel, by decide +kernel, by decide +kernel,
    by decide +kernel, by decide +kernel⟩,
   ⟨(rdy (A base)), by decide +kernel, by decide +kernel, by decide +kernel, by decide +kernel, by decide +kernel,
    by decide +kernel, by decide +kernel, by decide +kernel⟩,
   ⟨(rdy (fl (A base) 0x400000 imH)), by decide +kernel, by decide +kernel, by decide +kernel, by decide +kernel,
    by decide +kernel, by decide +kernel, by decide +kernel, by decide +kernel, by decide +kernel⟩⟩
theorem witness_ImagePass1 :
    (∃ (s : State),
     (s.pwr.core = true) ∧
     (s.fld 0 F.SYS_IMG_STATUS_STATE = 1) ∧
     (s.img.src ≠ 4) ∧
     (imgCheck s s.img.src ≠ 0) ∧
     (s.img.cand = []) ∧
     ((∀ f, f < 96 → feltState s f ≠ 2)) ∧
     ((∀ h, h < 8 → s.flag (hseB h) F.HSE_CTRL_EN = false ∨ houseOn s h = true))) ∧
    (∃ (s : State),
     (s.pwr.core = true) ∧
     (s.fld 0 F.SYS_IMG_STATUS_STATE = 1) ∧
     (s.img.src ≠ 4) ∧
     (imgCheck s s.img.src = 0) ∧
     (s.img.want ≠ some (!(imgHead s s.img.src).live)) ∧
     (s.img.loaded = false ∨ outputsActive s = false ∨ (imgHead s s.img.src).live = true) ∧
     ((imgHead s s.img.src).live = true)) :=
  ⟨⟨(p1 1 (A base)), by decide +kernel, by decide +kernel, by decide +kernel, by decide +kernel, by decide +kernel, by decide +kernel, by decide +kernel⟩,
   ⟨(ld (fun x => {x with loaded := true}) (p1 1 (A base))), by decide +kernel, by decide +kernel, by decide +kernel, imgAt (by decide +kernel) reloadA_good, by decide +kernel, by decide +kernel, by decide +kernel⟩⟩
theorem witness_ImageApplied :
    (∃ (s : State) (src : Fin 5),
     (s.pwr.core = true) ∧
     (s.fld 0 F.SYS_IMG_STATUS_STATE = 2) ∧
     (s.img.src = src.val) ∧
     (1 ≤ src.val) ∧
     (src.val ≤ 3) ∧
     let r := imgSecs s src
     let cs := r.2
     let h := imgHead s src
     (headCheck s src = 0) ∧
     (r.1 = 0) ∧
     (cs.map (fun x => x.crc) = s.img.crcs) ∧
     ((∀ c ∈ cs, loadTypes.contains c.typ = true → ∀ rs, secRecs s src c = some rs → rs.all (recInRange c.typ) = true)) ∧
     ((∀ c ∈ cs, c.typ = 3 → c.len = h.size * 0xC40)) ∧
     (s.img.live = true)) ∧
    (∃ (s : State) (src : Fin 5),
     (s.pwr.core = true) ∧
     (s.fld 0 F.SYS_IMG_STATUS_STATE = 2) ∧
     (s.img.src = src.val) ∧
     (1 ≤ src.val) ∧
     (src.val ≤ 3) ∧
     let r := imgSecs s src
     let cs := r.2
     let h := imgHead s src
     (headCheck s src = 0) ∧
     (r.1 = 0) ∧
     (cs.map (fun x => x.crc) = s.img.crcs) ∧
     ((∀ c ∈ cs, loadTypes.contains c.typ = true → ∀ rs, secRecs s src c = some rs → rs.all (recInRange c.typ) = true)) ∧
     ((∀ c ∈ cs, c.typ = 3 → c.len = h.size * 0xC40)) ∧
     (s.img.live = false) ∧
     (s.isCrown = true ∨ (s.role = 0 ∧ h.size ≤ 1)) ∧
     (bit h.flags 1 = true)) :=
  ⟨⟨(applied imL true base), 1, by decide +kernel, by decide +kernel, by decide +kernel, by decide +kernel, by decide +kernel, by decide +kernel, by decide +kernel, by decide +kernel, by decide +kernel, by decide +kernel, by decide +kernel⟩,
   ⟨(applied imF false base), 1, by decide +kernel, by decide +kernel, by decide +kernel, by decide +kernel, by decide +kernel, by decide +kernel, by decide +kernel, by decide +kernel, by decide +kernel, by decide +kernel, by decide +kernel, by decide +kernel, by decide +kernel⟩⟩
theorem witness_ImagePass2 :
    (∃ (s : State),
     (s.pwr.core = true) ∧
     let r := imgSecs s s.img.src
     let changed := headCheck s s.img.src ≠ 0 ∨ r.1 ≠ 0 ∨ r.2.map (fun x => x.crc) ≠ s.img.crcs
     (s.fld 0 F.SYS_IMG_STATUS_STATE = 2) ∧
     (s.img.src ≠ 4) ∧
     (changed) ∧
     (s.img.cand = [])) ∧
    (∃ (s : State),
     (s.pwr.core = true) ∧
     let r := imgSecs s s.img.src
     let changed := headCheck s s.img.src ≠ 0 ∨ r.1 ≠ 0 ∨ r.2.map (fun x => x.crc) ≠ s.img.crcs
     (s.fld 0 F.SYS_IMG_STATUS_STATE = 2) ∧
     (s.img.src ≠ 4) ∧
     (¬ changed) ∧
     (s.img.live = true) ∧
     ((∀ c ∈ r.2, loadTypes.contains c.typ = false)) ∧
     (s.portFelt = []) ∧
     ((∀ n, n < 4 → ilkStop s n = false)) ∧
     (s.ilkHold = []) ∧
     (s.ilkHouse = [])) ∧
    (∃ (s : State),
     (s.pwr.core = true) ∧
     (s.flag 0 F.SYS_DIGEST_STAT_BUSY = true) ∧
     (s.img.held = []) ∧
     ((s.isBrim = true → s.cas.same = true ∧ s.cas.imgPos = s.position)) ∧
     (s.img.waits = true)) ∧
    (∃ (s : State),
     (s.pwr.core = true) ∧
     (s.flag 0 F.SYS_DIGEST_STAT_BUSY = true) ∧
     (s.img.held = []) ∧
     (s.img.waits = false) ∧
     (s.isBrim = true) ∧
     (s.cas.same = false) ∧
     (s.fld 0 F.SYS_IMG_STATUS_STATE = 3)) :=
  ⟨⟨(p2 1 (A base)), by decide +kernel, by decide +kernel, by decide +kernel, by decide +kernel, by decide +kernel⟩,
   ⟨(let s := il (p2 1 (A base)); ld (fun x => {x with live := true, crcs := (imgSecs s 1).2.map (fun x => x.crc)}) s), by decide +kernel, by decide +kernel, by decide +kernel, by decide +kernel, by decide +kernel, by decide +kernel, by decide +kernel, by decide +kernel, by decide +kernel, by decide +kernel⟩,
   ⟨(F' (ld (fun x => {x with sums := [(2,9)], waits := true}) base) 0 [(F.SYS_DIGEST_STAT_BUSY,1)]), by decide +kernel, by decide +kernel, by decide +kernel, by decide +kernel, by decide +kernel⟩,
   ⟨(F' (F' (ld (fun x => {x with sums := [(2,9)]}) base) 0 [(F.SYS_DIGEST_STAT_BUSY,1),(F.SYS_IMG_STATUS_STATE,3)]) casB [(F.CAS_STATUS_ROLE,2)]), by decide +kernel, by decide +kernel, by decide +kernel, by decide +kernel, by decide +kernel, by decide +kernel, by decide +kernel⟩⟩
theorem witness_Refelting :
    (∃ (s : State) (m : Master) (f : Fin 96),
     let word := BitVec.ofNat 32 (s.position * 2 ^ 16 + 2 ^ 8 + f.val)
     let named := refeltNamed s
     (Accepts s m R.SYS_REFELT_CTRL word) ∧
     (named.length < 1 ∨ 24 < named.length)) ∧
    (∃ (s : State) (m : Master) (f : Fin 96),
     let word := BitVec.ofNat 32 (s.position * 2 ^ 16 + 2 ^ 8 + f.val)
     let named := refeltNamed s
     (Accepts s m R.SYS_REFELT_CTRL word) ∧
     (s.isCrown = false) ∧
     (1 ≤ named.length) ∧
     (named.length ≤ 24) ∧
     (feltDefined s f = true) ∧
     (feltState s f = 1) ∧
     (named.any (inOtherFelt s s.position f) = false) ∧
     (named.any (isSense s) = false) ∧
     (loading s = false)) ∧
    (∃ (s : State),
     (s.pwr.core = true) ∧
     (s.img.waits = true)) :=
  ⟨⟨base, .spi, 3, ⟨⟨by decide +kernel, by decide +kernel⟩, by decide +kernel⟩, by decide +kernel⟩,
   ⟨((df (df base 3 3) 4 0xf0).wr R.SYS_REFELT_MASK 0x0000000E), .spi, 3, ⟨⟨by decide +kernel, by decide +kernel⟩,
    by decide +kernel⟩, by decide +kernel, by decide +kernel, by decide +kernel, by decide +kernel, by decide +kernel, by decide +kernel, by decide +kernel, by decide +kernel⟩,
   ⟨(ld (fun x => {x with waits := true, digest := 0x500000007}) base), by decide +kernel, by decide +kernel⟩⟩
end Images

namespace Faults
def fx (f : FcX → FcX) (s : State) : State := { s with fc := f s.fc }
def ms (c i k : Nat) : Msg := ⟨c,i,k,kindSev k,0,7⟩
def rep (l : List Msg) (s : State) := { s with reports := l }
def M := ms 11 3 K.RAIL_LOG
def react (k : Nat) (sc : Nat) (s : State) := F' s (fcB + 4*k) [(F.FC_REACT_SCOPE,sc),(F.FC_REACT_HOLD,0),(F.FC_REACT_SPREAD,0)]
def df (s : State) (f : Nat) (m : Word) : State := F' ((s.wr (cstAt 0 f) m).wr (cstAt 0 f + 24) 0x100) (feltB f) [(F.FELT_STATUS_STATE,6)]
def und (m : Msg) := fx (fun x => {x with undecided := [⟨m,false⟩,⟨M,true⟩]})
def sp : CasPkt := ⟨5,2,0,true,0,[4,0x1234,BitVec.ofNat 32 (K.RAIL_LOG*4096 + 3*256)]⟩

theorem witness_ReportQueued :
    (∃ (s : State) (m : Msg) (l : List Msg),
     (Awake s) ∧
     (s.reports = m :: l) ∧
     (s.fc.queue.all (fun e => !sameSource e.msg m && !e.marker) = true) ∧
     (s.fc.queue.length < 63) ∧
     ((⟨m, s.stamp, false⟩ : QEntry).marker = false) ∧
     (m.sev < s.fld fcB F.FC_CFG_STORE_SEV) ∧
     (m.sev < s.fld fcB F.FC_CFG_CARD_SEV)) ∧
    (∃ (s : State) (m : Msg) (l : List Msg),
     (Awake s) ∧
     (s.reports = m :: l) ∧
     ∃ e q,
     (s.fc.queue = e :: q) ∧
     (sameSource e.msg m = true) ∧
     (e.read = false) ∧
     (e.marker = false) ∧
     (e.msg.count < 255)) :=
  ⟨⟨(F' (rep [M,M] base) fcB [(F.FC_CFG_STORE_SEV,9),(F.FC_CFG_CARD_SEV,9)]), M, [M], ⟨by decide +kernel, by decide +kernel⟩,
    by decide +kernel, by decide +kernel, by decide +kernel, by decide +kernel, by decide +kernel, by decide +kernel⟩,
   ⟨(fx (fun x => {x with queue := [⟨M,5,false⟩,⟨M,5,true⟩]}) (rep [M,M] base)), M, [M], ⟨by decide +kernel, by decide +kernel⟩,
    by decide +kernel,
     ({ msg := { cls := 11, inst := 3, kind := 122, sev := 6, count := 0, arg := 7 }, stamp := 0x0000000000000005#64, read := false }),
      ([{ msg := { cls := 11, inst := 3, kind := 122, sev := 6, count := 0, arg := 7 }, stamp := 0x0000000000000005#64, read := true }]), by decide +kernel, by decide +kernel, by decide +kernel,
    by decide +kernel, by decide +kernel⟩⟩
theorem witness_QueueAccess :
    (∃ (s : State) (m : Master),
     ∃ e q,
     (s.fc.queue = e :: q) ∧
     (Readable s m (fcB + R.FC_Q_MSG_LO))) ∧
    (∃ (s : State) (m : Master),
     (Accepts s m (fcB + R.FC_Q_POP) 1#32)) ∧
    (∃ (s : State) (m : Master),
     ∃ k : BitVec 8,
     (Accepts s m (fcB + R.FC_INJ_HI) (k.setWidth 32))) :=
  ⟨⟨(fx (fun x => {x with queue := [⟨M,5,false⟩,⟨ms 15 0 K.OVERFLOW,5,true⟩]}) (F' base fcB [(F.FC_INJ_LO_ARG,0x1234)])), .spi,
    ({ msg := { cls := 11, inst := 3, kind := 122, sev := 6, count := 0, arg := 7 }, stamp := 0x0000000000000005#64, read := false }),
     ([{ msg := { cls := 15, inst := 0, kind := 1, sev := 0, count := 0, arg := 7 }, stamp := 0x0000000000000005#64, read := true }]), by decide +kernel, ⟨⟨by decide +kernel, by decide +kernel⟩,
    by decide +kernel⟩⟩,
   ⟨(F' base fcB [(F.FC_INJ_LO_ARG,0x1234)]), .spi, ⟨⟨by decide +kernel, by decide +kernel⟩, by decide +kernel⟩⟩,
   ⟨(F' base fcB [(F.FC_INJ_LO_ARG,0x1234)]), .spi, 0x00#8, ⟨⟨by decide +kernel, by decide +kernel⟩, by decide +kernel⟩⟩⟩
theorem witness_ReactionDecided_1 :
    (∃ (s : State) (r : Report) (l : List Report),
     (s.pwr.core = true) ∧
     (s.fc.undecided = r :: l) ∧
     (r.spread = false) ∧
     let n := (scopeOf s r.msg).1
     (reactFld s r.msg.kind F.FC_REACT_HOLD = 0) ∧
     (reactFld s r.msg.kind F.FC_REACT_SPREAD = 0) ∧
     (n = 0 ∨ n = 1) ∧
     (r.msg.kind ≠ K.HUB_TRIP) ∧
     (r.msg.kind ≠ K.PD_GUARD) ∧
     (n = 0)) ∧
    (∃ (s : State) (r : Report) (l : List Report),
     (s.pwr.core = true) ∧
     (s.fc.undecided = r :: l) ∧
     (r.spread = false) ∧
     let n := (scopeOf s r.msg).1
     (reactFld s r.msg.kind F.FC_REACT_HOLD = 0) ∧
     (reactFld s r.msg.kind F.FC_REACT_SPREAD = 0) ∧
     (n = 0 ∨ n = 1) ∧
     (r.msg.kind ≠ K.HUB_TRIP) ∧
     (r.msg.kind ≠ K.PD_GUARD) ∧
     (n = 1)) ∧
    (∃ (s : State) (r : Report) (l : List Report),
     (s.pwr.core = true) ∧
     (s.fc.undecided = r :: l) ∧
     (r.spread = false) ∧
     let n := (scopeOf s r.msg).1
     (reactFld s r.msg.kind F.FC_REACT_HOLD = 0) ∧
     (reactFld s r.msg.kind F.FC_REACT_SPREAD = 0) ∧
     (2 ≤ n) ∧
     (s.fc.running = none) ∧
     (r.msg.cls ≠ 15) ∧
     (s.fld fcB F.FC_STATUS_STATE ≠ 3) ∧
     (n ≤ 4)) ∧
    (∃ (s : State) (r : Report) (l : List Report),
     (s.pwr.core = true) ∧
     (s.fc.undecided = r :: l) ∧
     (r.spread = false) ∧
     let n := (scopeOf s r.msg).1
     let fs := (scopeOf s r.msg).2
     (reactFld s r.msg.kind F.FC_REACT_HOLD = 0) ∧
     (reactFld s r.msg.kind F.FC_REACT_SPREAD = 0) ∧
     (2 ≤ n) ∧
     (s.fc.running = none) ∧
     (r.msg.cls ≠ 15) ∧
     (s.fld fcB F.FC_STATUS_STATE ≠ 3) ∧
     (fs ≠ [] ∨ 4 ≤ n)) ∧
    (∃ (s : State) (r : Report) (l : List Report),
     (s.pwr.core = true) ∧
     (s.fc.undecided = r :: l) ∧
     (r.spread = false) ∧
     let n := (scopeOf s r.msg).1
     let fs := (scopeOf s r.msg).2
     (reactFld s r.msg.kind F.FC_REACT_HOLD = 0) ∧
     (reactFld s r.msg.kind F.FC_REACT_SPREAD = 0) ∧
     (2 ≤ n) ∧
     (s.fc.running = none) ∧
     (r.msg.cls ≠ 15) ∧
     (s.fld fcB F.FC_STATUS_STATE ≠ 3) ∧
     (fs = []) ∧
     (n ≤ 3)) ∧
    (∃ (s : State) (r : Report) (l : List Report),
     (s.pwr.core = true) ∧
     (s.fc.undecided = r :: l) ∧
     (r.spread = false) ∧
     let n := (scopeOf s r.msg).1
     (reactFld s r.msg.kind F.FC_REACT_HOLD = 0) ∧
     (reactFld s r.msg.kind F.FC_REACT_SPREAD = 0) ∧
     (2 ≤ n) ∧
     (s.fc.running = none) ∧
     (r.msg.cls ≠ 15) ∧
     (s.fld fcB F.FC_STATUS_STATE ≠ 3) ∧
     (4 ≤ n) ∧
     (s.fc.heldCab = false)) :=
  ⟨⟨(und M (react K.RAIL_LOG 0 base)), ⟨M,false⟩, [⟨M,true⟩], by decide +kernel, by decide +kernel, by decide +kernel, by decide +kernel, by decide +kernel, by decide +kernel, by decide +kernel, by decide +kernel, by decide +kernel⟩,
   ⟨(und M (react K.RAIL_LOG 1 (fx (fun x => {x with wide := 3}) base))), ⟨M,false⟩, [⟨M,true⟩], by decide +kernel, by decide +kernel, by decide +kernel, by decide +kernel, by decide +kernel, by decide +kernel, by decide +kernel, by decide +kernel, by decide +kernel⟩,
   ⟨(und (ms 3 5 K.FELT_BREAKER) (react K.FELT_BREAKER 2 (df base 5 3))), ⟨ms 3 5 K.FELT_BREAKER,false⟩, [⟨M,true⟩], by decide +kernel, by decide +kernel, by decide +kernel, by decide +kernel, by decide +kernel, by decide +kernel, by decide +kernel, by decide +kernel, by decide +kernel, by decide +kernel⟩,
   ⟨(und (ms 3 5 K.FELT_BREAKER) (react K.FELT_BREAKER 2 (df base 5 3))), ⟨ms 3 5 K.FELT_BREAKER,false⟩, [⟨M,true⟩], by decide +kernel, by decide +kernel, by decide +kernel, by decide +kernel, by decide +kernel, by decide +kernel, by decide +kernel, by decide +kernel, by decide +kernel, by decide +kernel⟩,
   ⟨(und (ms 11 3 K.RAIL_LOG) (react K.RAIL_LOG 3 base)), ⟨ms 11 3 K.RAIL_LOG,false⟩, [⟨M,true⟩], by decide +kernel, by decide +kernel, by decide +kernel, by decide +kernel, by decide +kernel, by decide +kernel, by decide +kernel, by decide +kernel, by decide +kernel, by decide +kernel, by decide +kernel⟩,
   ⟨(und (ms 3 5 K.FELT_BREAKER) (react K.FELT_BREAKER 4 (df base 5 3))), ⟨ms 3 5 K.FELT_BREAKER,false⟩, [⟨M,true⟩], by decide +kernel, by decide +kernel, by decide +kernel, by decide +kernel, by decide +kernel, by decide +kernel, by decide +kernel, by decide +kernel, by decide +kernel, by decide +kernel, by decide +kernel⟩⟩
theorem witness_ReactionDecided_2 :
    ∃ (s : State) (r : Report) (l : List Report),
    (s.pwr.core = true) ∧
    (s.fc.undecided = r :: l) ∧
    (r.spread = false) ∧
    let n := (scopeOf s r.msg).1
    (reactFld s r.msg.kind F.FC_REACT_HOLD = 0) ∧
    (reactFld s r.msg.kind F.FC_REACT_SPREAD = 0) ∧
    (2 ≤ n) ∧
    (s.fc.running = none) ∧
    (r.msg.cls ≠ 15) ∧
    (s.fld fcB F.FC_STATUS_STATE ≠ 3) ∧
    (n = 5) :=
  ⟨(und (ms 3 5 K.FELT_BREAKER) (react K.FELT_BREAKER 5 (df base 5 3))), ⟨ms 3 5 K.FELT_BREAKER,false⟩, [⟨M,true⟩], by decide +kernel, by decide +kernel, by decide +kernel, by decide +kernel, by decide +kernel, by decide +kernel, by decide +kernel, by decide +kernel, by decide +kernel, by decide +kernel⟩
theorem witness_ReactionEnds :
    (∃ (s : State),
     (s.pwr.core = true) ∧
     ∃ r,
     (s.fc.running = some r) ∧
     (r.scope < 5) ∧
     (s.fc.backlog = []) ∧
     ((∀ m ∈ r.conds, m.kind ≠ K.HUB_TRIP ∧ m.kind ≠ K.PD_GUARD)) ∧
     (s.fc.wide ≠ 0) ∧
     (s.fld fcB F.FC_STATUS_STATE ≠ 3) ∧
     ((r.scope = 4 → ∀ h, h < 8 → houseOn s h = true → houseKeep s h = true ∧ houseLocal s h = true))) ∧
    (∃ (s : State),
     (s.pwr.core = true) ∧
     ∃ r,
     (s.fc.running = some r) ∧
     ((r.scope = 4 ∧ ∃ h, h < 8 ∧ houseOn s h = true ∧ houseKeep s h = false) ∨ 5 ≤ r.scope)) ∧
    (∃ (s : State),
     (s.pwr.core = true) ∧
     (s.fc.resetWait = true)) :=
  ⟨⟨(fx (fun x => {x with running := some ⟨2,[5],[M]⟩, wide := 3}) base), by decide +kernel, ({ scope := 2, felts := [5], conds := [M] }), by decide +kernel, by decide +kernel, by decide +kernel, by decide +kernel, by decide +kernel, by decide +kernel, by decide +kernel⟩,
   ⟨(fx (fun x => {x with running := some ⟨5,[],[]⟩}) base), by decide +kernel, ⟨5,[],[]⟩, by decide +kernel, by decide +kernel⟩,
   ⟨(fx (fun x => {x with resetWait := true, queue := [⟨M,5,true⟩]}) ((base.setByte 0x2000000 7).setByte 0x3100000 7)), by decide +kernel, by decide +kernel⟩⟩
theorem witness_Recovery :
    (∃ (s : State),
     let n := s.fld fcB F.FC_RECOV_STAT_COUNT
     let limit := max 1 (s.fld fcB F.FC_RECOV_MAX)
     (s.pwr.core = true) ∧
     (recessRuns s = true) ∧
     (limit ≤ n)) ∧
    (∃ (s : State),
     let n := s.fld fcB F.FC_RECOV_STAT_COUNT
     let limit := max 1 (s.fld fcB F.FC_RECOV_MAX)
     (s.pwr.core = true) ∧
     (recessRuns s = true) ∧
     (n < limit) ∧
     (s.fc.heldCab = false) ∧
     ((∀ f, f < 96 → feltState s f ≠ 2)) ∧
     ((∀ f ∈ s.fc.heldFelts, feltState s f = 10 ∧ (s.felt f).brkLat = false ∧ s.flag (feltB f) F.FELT_CTRL_EN = false)) ∧
     (s.fc.heldFelts ≠ [])) ∧
    (∃ (s : State),
     (s.pwr.core = true) ∧
     (s.fc.window = true)) ∧
    (∃ (s : State) (m : Master),
     (Accepts s m (fcB + R.FC_CTRL) 1#32) ∧
     (s.fld fcB F.FC_STATUS_STATE = 3) ∧
     (s.fc.running = none)) :=
  ⟨⟨(fx (fun x => {x with wide := 3, window := true}) (F' base fcB [(F.FC_RECOV_MAX,2),(F.FC_RECOV_STAT_COUNT,2)])),
    by decide +kernel, by decide +kernel, by decide +kernel⟩,
   ⟨(fx (fun x =>
    {x with wide := 3, conds := [M], heldFelts := [5]}) (F' (F' base fcB [(F.FC_RECOV_MAX,0),(F.FC_RECOV_STAT_COUNT,0),(F.FC_STATUS_STATE,2)]) (feltB 5) [(F.FELT_STATUS_STATE,10)])),
    by decide +kernel, by decide +kernel, by decide +kernel, by decide +kernel, by decide +kernel, by decide +kernel,
    by decide +kernel⟩,
   ⟨(fx (fun x => {x with wide := 3, window := true}) (F' base fcB [(F.FC_RECOV_MAX,2),(F.FC_RECOV_STAT_COUNT,2)])),
    by decide +kernel, by decide +kernel⟩,
   ⟨(fx (fun x =>
    {x with wide := 3, window := true}) (F' base fcB [(F.FC_RECOV_MAX,2),(F.FC_RECOV_STAT_COUNT,2),(F.FC_STATUS_STATE,3)])), .spi,
    ⟨⟨by decide +kernel, by decide +kernel⟩, by decide +kernel⟩, by decide +kernel, by decide +kernel⟩⟩
theorem witness_SpreadFault :
    ∃ (s : State) (p : CasPkt) (l : List CasPkt),
    (Awake s) ∧
    (s.casRx = p :: l) ∧
    (p.cls = 5) ∧
    (p.sub = 0) ∧
    ((p.word 0).toNat = 4) ∧
    (s.fc.running = none) ∧
    (s.fc.queue = []) ∧
    (s.fc.heldCab = true) ∧
    (s.fld fcB F.FC_STATUS_STATE ≠ 3) ∧
    let m : Msg := ⟨14, p.src, bits (p.word 2).toNat 19 12, bits (p.word 2).toNat 11 8, 0, (p.word 1).toNat⟩
    (m.sev < s.fld fcB F.FC_CFG_STORE_SEV) ∧
    (m.sev < s.fld fcB F.FC_CFG_CARD_SEV) :=
  ⟨({fx (fun x => {x with heldCab := true}) (F' (df base 5 3) fcB [(F.FC_CFG_STORE_SEV,9),(F.FC_CFG_CARD_SEV,9)]) with casRx := [sp,pk0]}), sp, [pk0], ⟨by decide +kernel, by decide +kernel⟩, by decide +kernel, by decide +kernel, by decide +kernel, by decide +kernel, by decide +kernel, by decide +kernel, by decide +kernel, by decide +kernel, by decide +kernel, by decide +kernel⟩
end Faults

namespace Lanes
def la (l st : Nat) (fs : List (Fld × Nat)) (f : LaneX → LaneX := id) : State := let s := F' base (slB l) ([(F.SL_STATUS_STATE,st)] ++ fs); s.setLane l (f (s.lane l))
def pk (c a : Nat) (b : List Word) : SidePkt := ⟨c,0,a,b⟩
/-- Lane 5 in RUN, no phase in a felt. -/
def lone (f : LaneX → LaneX) : State := showPhases (la 5 6 [] f)
theorem unassigned {s : State} (a : ∀ q, q < 192 → phaseFelt s q = none) (b : ∀ f, f < 96 → feltDefined s f = false) : Assigned s := by
  intro f q hf hq
  simp [a q hq, b f hf]
theorem lone_assigned : Assigned (lone (fun x => { x with seq := some 4 })) := unassigned (by decide +kernel) (by decide +kernel)
theorem lone_assigned' : Assigned (lone (fun x => { x with seq := some 5 })) := unassigned (by decide +kernel) (by decide +kernel)

theorem witness_TrainingTimers :
    (∃ (s : State) (l : Fin 12),
     (s.pwr.core = true) ∧
     (laneState s l = 1)) ∧
    (∃ (s : State) (l : Fin 12),
     (s.pwr.core = true) ∧
     let b := slB l
     ∃ p ∈ [(2, 1), (3, 2), (4, 7), (5, 6)],
     (laneState s l = p.1) ∧
     ((s.lane l).fails < 7) ∧
     (s.flag b F.SL_HUB_STAT_BUSY = false)) ∧
    (∃ (s : State) (l : Fin 12),
     (s.pwr.core = true) ∧
     let b := slB l
     (laneState s l = 7) ∧
     (s.flag b F.SL_HUB_STAT_BUSY = false)) ∧
    (∃ (s : State) (k : Fin 4),
     (s.pwr.core = true) ∧
     (casState s k = 1)) ∧
    (∃ (s : State) (k : Fin 4),
     (s.pwr.core = true) ∧
     (casState s k = 7)) :=
  ⟨⟨(F' (la 5 (1 : Fin 8) [(F.SL_STATUS_TRAIN_FAILS,255)] (fun x =>
   {x with fails := 6, waiting := [pk 1 1 []]})) casB [(F.CAS_LANE01_STATE,(1 : Fin 8))]), 5, by decide +kernel,
    by decide +kernel⟩,
   ⟨(F' (la 5 (2 : Fin 8) [(F.SL_STATUS_TRAIN_FAILS,255)] (fun x =>
    {x with fails := 6, waiting := [pk 1 1 []]})) casB [(F.CAS_LANE01_STATE,(2 : Fin 8))]), 5, by decide +kernel, ((2, 1)),
    by decide +kernel,
    by decide +kernel, by decide +kernel, by decide +kernel⟩,
   ⟨(F' (la 5 (7 : Fin 8) [(F.SL_STATUS_TRAIN_FAILS,255)] (fun x =>
    {x with fails := 6, waiting := [pk 1 1 []]})) casB [(F.CAS_LANE01_STATE,(7 : Fin 8))]), 5, by decide +kernel,
    by decide +kernel,
    by decide +kernel⟩,
   ⟨(F' (la 5 (1 : Fin 8) [(F.SL_STATUS_TRAIN_FAILS,255)] (fun x =>
    {x with fails := 6, waiting := [pk 1 1 []]})) casB [(F.CAS_LANE01_STATE,(1 : Fin 8))]), 0, by decide +kernel,
    by decide +kernel⟩,
   ⟨(F' (la 5 (7 : Fin 8) [(F.SL_STATUS_TRAIN_FAILS,255)] (fun x =>
    {x with fails := 6, waiting := [pk 1 1 []]})) casB [(F.CAS_LANE01_STATE,(7 : Fin 8))]), 0, by decide +kernel,
    by decide +kernel⟩⟩
theorem witness_UplinkFrames :
    (∃ (s : State) (l : Fin 12) (fr : BitVec 280) (u : UpFrame),
     (s.pwr.core = true) ∧
     let x := s.lane l
     (laneState s l = 2) ∧
     (judgeFrame x.seq (some fr) = (some u, false)) ∧
     (u.typ = 2) ∧
     (x.good < 31)) ∧
    (∃ (s : State) (l : Fin 12) (fr : BitVec 280) (u : UpFrame),
     (s.pwr.core = true) ∧
     let x := s.lane l
     (laneState s l = 2) ∧
     (judgeFrame x.seq (some fr) = (some u, false)) ∧
     (u.typ = 2) ∧
     (31 ≤ x.good)) ∧
    (∃ (s : State) (l : Fin 12),
     (s.pwr.core = true) ∧
     (laneState s l = 6) ∧
     (laneFelts s l = [])) :=
  ⟨⟨(la 5 2 [] (fun x => {x with seq := some 4, good := 3})), 5, (frameOf 2 5 0 0), ⟨2,5,0⟩, by decide +kernel,
    by decide +kernel, by decide +kernel, by decide +kernel, by decide +kernel⟩,
   ⟨(la 5 2 [] (fun x => {x with seq := some 4, good := 31})), 5, (frameOf 2 5 0 0), ⟨2,5,0⟩, by decide +kernel,
    by decide +kernel, by decide +kernel, by decide +kernel, by decide +kernel⟩,
   ⟨(la 5 6 [(F.SL_CTRL_LOSS_LIMIT,20)] (fun x => {x with seq := some 4, bad := 19})), 5, by decide +kernel, by decide +kernel,
    by decide +kernel⟩⟩
theorem witness_RunFrames :
    (∃ (s : State) (l : Fin 12) (j : Fin 16),
     (s.pwr.core = true) ∧
     (laneState s l = 6) ∧
     ((s.lane l).closing = none) ∧
     let k := nextFrame s l
     let w : Int := ((320 * k + 320 + laneTdn s l : Nat) : Int)
     let p := 16 * l.val + j.val
     let x := s.phase p
     ((∀ g ∈ laneFelts s l, feltSwitching s g = true → w + 320 ≤ ((nextRound s g).felt g).roundT)) ∧
     ((∀ i, i < 16 → (s.phase (16 * l + i)).gate < 8)) ∧
     (x.latchTx = true)) ∧
    (∃ (s : State) (l : Fin 12) (j : Fin 16),
     (s.pwr.core = true) ∧
     (laneState s l = 6) ∧
     ((s.lane l).closing = none) ∧
     let y := s.lane l
     let k := nextFrame s l
     let w : Int := ((320 * k + 320 + laneTdn s l : Nat) : Int)
     let p := 16 * l.val + j.val
     let x := s.phase p
     ((∀ g ∈ laneFelts s l, feltSwitching s g = true → w + 320 ≤ ((nextRound s g).felt g).roundT)) ∧
     ((∀ i, i < 16 → (s.phase (16 * l + i)).gate < 8)) ∧
     (x.latchTx = false) ∧
     (y.off = true)) ∧
    (∃ (s : State) (l : Fin 12) (j : Fin 16),
     (s.pwr.core = true) ∧
     (laneState s l = 6) ∧
     ((s.lane l).closing = none) ∧
     let y := s.lane l
     let k := nextFrame s l
     let w : Int := ((320 * k + 320 + laneTdn s l : Nat) : Int)
     let p := 16 * l.val + j.val
     let x := s.phase p
     ((∀ g ∈ laneFelts s l, feltSwitching s g = true → w + 320 ≤ ((nextRound s g).felt g).roundT)) ∧
     ((∀ i, i < 16 → (s.phase (16 * l + i)).gate < 8)) ∧
     (x.latchTx = false) ∧
     (y.off = false) ∧
     (phaseFelt s p = none)) ∧
    (∃ (s : State) (l : Fin 12),
     (s.pwr.core = true) ∧
     (laneState s l = 6) ∧
     ((s.lane l).closing = none) ∧
     let y := s.lane l
     let k := nextFrame s l
     let w : Int := ((320 * k + 320 + laneTdn s l : Nat) : Int)
     ((∀ g ∈ laneFelts s l, feltSwitching s g = true → w + 320 ≤ ((nextRound s g).felt g).roundT)) ∧
     ((∀ i, i < 16 → (s.phase (16 * l + i)).gate < 8)) ∧
     (y.txBody = []) ∧
     (y.resync = false) ∧
     (y.again = []) ∧
     (8 ≤ y.sent.length ∨ y.waiting = [])) ∧
    (∃ (s : State) (l : Fin 12),
     (s.pwr.core = true) ∧
     (laneState s l = 6) ∧
     ((s.lane l).closing = none) ∧
     let y := s.lane l
     let k := nextFrame s l
     let w : Int := ((320 * k + 320 + laneTdn s l : Nat) : Int)
     ((∀ g ∈ laneFelts s l, feltSwitching s g = true → w + 320 ≤ ((nextRound s g).felt g).roundT)) ∧
     ((∀ i, i < 16 → (s.phase (16 * l + i)).gate < 8)) ∧
     (y.txBody = []) ∧
     (y.resync = false) ∧
     (y.again = []) ∧
     (y.sent.length < 8)) :=
  ⟨⟨(let s := lone (fun x => { x with seq := some 4 }); s.setPhase 83 {s.phase 83 with latchTx := true}), 5, 3, by decide +kernel, by decide +kernel, by decide +kernel, by decide +kernel, by decide +kernel, by decide +kernel⟩,
   ⟨(let s := lone (fun x => { x with seq := some 4, off := true }); s), 5, 3, by decide +kernel, by decide +kernel, by decide +kernel, by decide +kernel, by decide +kernel, by decide +kernel, by decide +kernel⟩,
   ⟨(let s := lone (fun x => { x with seq := some 4 }); s), 5, 3, by decide +kernel, by decide +kernel, by decide +kernel, by decide +kernel, by decide +kernel, by decide +kernel, by decide +kernel, by decide +kernel⟩,
   ⟨(let s := lone (fun x => { x with seq := some 4 }); s), 5, by decide +kernel, by decide +kernel, by decide +kernel, by decide +kernel, by decide +kernel, by decide +kernel, by decide +kernel, by decide +kernel, by decide +kernel⟩,
   ⟨(let s := lone (fun x => { x with seq := some 4, waiting := [pk 4 0 [5]] }); s), 5, by decide +kernel, by decide +kernel, by decide +kernel, by decide +kernel, by decide +kernel, by decide +kernel, by decide +kernel, by decide +kernel, by decide +kernel⟩⟩
theorem witness_RunSamples :
    (∃ (s : State) (l : Fin 12) (fr : BitVec 280) (u : UpFrame),
     (s.pwr.core = true) ∧
     (laneState s l = 6) ∧
     (Assigned s) ∧
     (judgeFrame (s.lane l).seq (some fr) = (some u, false)) ∧
     (u.typ = 0 ∨ u.typ = 1 ∨ u.typ = 5) ∧
     let y := s.lane l
     (u.typ = 1) ∧
     (y.tripRun = false)) ∧
    (∃ (s : State) (l : Fin 12) (fr : BitVec 280) (u : UpFrame),
     (s.pwr.core = true) ∧
     (laneState s l = 6) ∧
     (Assigned s) ∧
     (judgeFrame (s.lane l).seq (some fr) = (some u, false)) ∧
     (u.typ = 0 ∨ u.typ = 1 ∨ u.typ = 5) ∧
     (u.typ ≠ 1)) ∧
    (∃ (s : State) (l : Fin 12) (fr : BitVec 280) (u : UpFrame),
     (s.pwr.core = true) ∧
     (laneState s l = 6) ∧
     (Assigned s) ∧
     (judgeFrame (s.lane l).seq (some fr) = (some u, false)) ∧
     (u.typ = 0 ∨ u.typ = 1 ∨ u.typ = 5) ∧
     let y := s.lane l
     (u.typ = 5) ∧
     (y.loss = 0) ∧
     (y.closing = none)) ∧
    (∃ (s : State) (l : Fin 12) (j : Fin 16) (fr : BitVec 280) (u : UpFrame),
     (s.pwr.core = true) ∧
     (laneState s l = 6) ∧
     (Assigned s) ∧
     (judgeFrame (s.lane l).seq (some fr) = (some u, false)) ∧
     (u.typ = 0 ∨ u.typ = 1 ∨ u.typ = 5) ∧
     let p := 16 * l.val + j.val
     let code := u.slot j
     let even := u.seq % 2 = 0
     (phaseFelt s p = none) ∧
     (code ≠ 0x2000) ∧
     (even)) ∧
    (∃ (s : State) (l : Fin 12) (j : Fin 16) (fr : BitVec 280) (u : UpFrame),
     (s.pwr.core = true) ∧
     (laneState s l = 6) ∧
     (Assigned s) ∧
     (judgeFrame (s.lane l).seq (some fr) = (some u, false)) ∧
     (u.typ = 0 ∨ u.typ = 1 ∨ u.typ = 5) ∧
     let p := 16 * l.val + j.val
     let code := u.slot j
     let even := u.seq % 2 = 0
     (phaseFelt s p = none) ∧
     (code ≠ 0x2000) ∧
     (¬ even)) ∧
    (∃ (s : State) (l : Fin 12) (j : Fin 16) (fr : BitVec 280) (u : UpFrame),
     (s.pwr.core = true) ∧
     (laneState s l = 6) ∧
     (Assigned s) ∧
     (judgeFrame (s.lane l).seq (some fr) = (some u, false)) ∧
     (u.typ = 0 ∨ u.typ = 1 ∨ u.typ = 5) ∧
     let p := 16 * l.val + j.val
     let code := u.slot j
     (phaseFelt s p = none) ∧
     (code = 0x2000)) :=
  ⟨⟨(lone (fun x => { x with seq := some 4 })), 5, (frameOf 1 5 0 0), (unframe (frameOf 1 5 0 0)), by decide +kernel, by decide +kernel, lone_assigned, by decide +kernel, by decide +kernel, by decide +kernel, by decide +kernel⟩,
   ⟨(lone (fun x => { x with seq := some 4 })), 5, (frameOf 0 5 0 0), (unframe (frameOf 0 5 0 0)), by decide +kernel, by decide +kernel, lone_assigned, by decide +kernel, by decide +kernel, by decide +kernel⟩,
   ⟨(lone (fun x => { x with seq := some 4 })), 5, (frameOf 5 5 0 0), (unframe (frameOf 5 5 0 0)), by decide +kernel, by decide +kernel, lone_assigned, by decide +kernel, by decide +kernel, by decide +kernel, by decide +kernel, by decide +kernel⟩,
   ⟨(lone (fun x => { x with seq := some 5 })), 5, 3, (frameOf 0 6 0 0), (unframe (frameOf 0 6 0 0)), by decide +kernel, by decide +kernel, lone_assigned', by decide +kernel, by decide +kernel, by decide +kernel, by decide +kernel, by decide +kernel⟩,
   ⟨(lone (fun x => { x with seq := some 4 })), 5, 3, (frameOf 0 5 0 0), (unframe (frameOf 0 5 0 0)), by decide +kernel, by decide +kernel, lone_assigned, by decide +kernel, by decide +kernel, by decide +kernel, by decide +kernel, by decide +kernel⟩,
   ⟨(lone (fun x => { x with seq := some 4 })), 5, 3, (frameOf 0 5 (0x2000 * 2 ^ (14 * 12)) 0), (unframe (frameOf 0 5 (0x2000 * 2 ^ (14 * 12)) 0)), by decide +kernel, by decide +kernel, lone_assigned, by decide +kernel, by decide +kernel, by decide +kernel, by decide +kernel⟩⟩
theorem witness_FrameSymbols :
    (∃ (fr : BitVec 280) (i : Fin 140), fr.getMsbD (2 * i) = false ∧ fr.getMsbD (2 * i + 1) = false) ∧
    (∃ (fr : BitVec 280) (i : Fin 140), fr.getMsbD (2 * i) = false ∧ fr.getMsbD (2 * i + 1) = true) ∧
    (∃ (fr : BitVec 280) (i : Fin 140), fr.getMsbD (2 * i) = true ∧ fr.getMsbD (2 * i + 1) = true) ∧
    (∃ (fr : BitVec 280) (i : Fin 140), fr.getMsbD (2 * i) = true ∧ fr.getMsbD (2 * i + 1) = false) ∧
    (∃ (s : State) (l : Nat) (fr : BitVec 280), (s.lane l).tx = some fr) :=
  ⟨⟨0x1E#280, 0, by decide +kernel⟩, ⟨0x1E#280, 137, by decide +kernel⟩, ⟨0x1E#280, 138, by decide +kernel⟩,
   ⟨0x1E#280, 139, by decide +kernel⟩, ⟨base.setLane 11 { base.lane 11 with tx := some 5 }, 11, 5, by decide +kernel⟩⟩
theorem witness_DownlinkFrames :
    ∃ (s : State) (l : Fin 12),
    (s.pwr.core = true) ∧
    let k := nextFrame s l
    ∃ p ∈ [(2, some (frameOf 2 (k % 16) 0 0)), (4, some (frameOf 4 (k % 16) 0 0)), (5, some (frameOf 0 (k % 16) offSlots 0x000F0000)), (0, none), (1, none), (7, none), (8, none)],
    (laneState s l = p.1) :=
  ⟨(la 5 (0 : Fin 9) []), 5, by decide +kernel, ((0, none)), by decide +kernel, by decide +kernel⟩
theorem witness_LaneRuns :
    (∃ (s : State) (l : Fin 12),
     (s.pwr.core = true) ∧
     (laneState s l = 6) ∧
     let b := slB l
     let x := s.lane l
     (x.loss ≠ 0) ∧
     (s.flag b F.SL_CTRL_AUTO_RETRAIN = true) ∧
     (s.flag b F.SL_STATUS_TRIP_PENDING = false) ∧
     (s.portFelt = []) ∧
     (s.flag b F.SL_HUB_STAT_BUSY = false)) ∧
    (∃ (s : State) (l : Fin 12),
     (s.pwr.core = true) ∧
     (laneState s l = 6) ∧
     let b := slB l
     ((driftOf s l).natAbs ≤ s.fld b F.SL_LAT_TRACK_DRIFT_LIMIT) ∧
     ((driftOf s l).natAbs ≤ 320)) :=
  ⟨⟨(la 5 6 [(F.SL_CTRL_AUTO_RETRAIN,1)] (fun x => {x with loss := 2})), 5, by decide +kernel, by decide +kernel,
    by decide +kernel, by decide +kernel, by decide +kernel, by decide +kernel, by decide +kernel⟩,
   ⟨(la 5 6 [(F.SL_CTRL_AUTO_RETRAIN,1)] (fun x => {x with loss := 2})), 5, by decide +kernel, by decide +kernel,
    by decide +kernel, by decide +kernel⟩⟩
theorem witness_SidePackets_1 :
    (∃ (s : State) (l : Fin 12) (p : SidePkt) (rest : List SidePkt),
     (s.pwr.core = true) ∧
     let x := s.lane l
     (x.rx = p :: rest) ∧
     (p.cls = 6) ∧
     (p.arg % 16 ≠ 0)) ∧
    (∃ (s : State) (l : Fin 12) (p : SidePkt) (rest : List SidePkt),
     (s.pwr.core = true) ∧
     let x := s.lane l
     (x.rx = p :: rest) ∧
     (p.cls = 6) ∧
     (p.arg % 16 = 0)) ∧
    (∃ (s : State) (l : Fin 12) (p : SidePkt) (rest : List SidePkt),
     (s.pwr.core = true) ∧
     let x := s.lane l
     (x.rx = p :: rest) ∧
     (p.cls = 3) ∧
     (x.accs = [])) ∧
    (∃ (s : State) (l : Fin 12) (p : SidePkt) (rest : List SidePkt),
     (s.pwr.core = true) ∧
     let b := slB l
     let x := s.lane l
     (x.rx = p :: rest) ∧
     (10 ≤ p.cls ∨ p.cls = 1 ∨ p.cls = 2 ∨ p.cls = 7 ∨ (p.cls = 9 ∧ (p.arg / 4096 = 1 ∨ 4 ≤ p.arg / 4096)) ∨
             (p.cls = 5 ∧ 7 ≤ bits p.arg 11 8) ∨ ((p.cls = 4 ∨ p.cls = 5) ∧ s.fld b F.SL_STATUS_VERSION = 1 ∧ 0 < bits p.arg 15 14))) ∧
    (∃ (s : State) (l : Fin 12),
     (s.pwr.core = true) ∧
     let x := s.lane l
     ∃ a,
     (x.idle = some a)) ∧
    (∃ (s : State) (l : Fin 12) (p : SidePkt) (rest : List SidePkt),
     (s.pwr.core = true) ∧
     let x := s.lane l
     (x.rx = p :: rest) ∧
     (p.cls = 8) ∧
     let kind := bits p.arg 11 8
     (kind ∉ [3, 4, 5, 6, 15])) :=
  ⟨⟨(la 5 6 [(F.SL_CNT_SAMPLE_COUNT,3)] (fun x => id {x with rx := [(pk 6 3 [1,2,3]),(pk 6 3 [1,2,3])], slotErrs := 65530})), 5, (pk 6 3 [1,2,3]), [(pk 6 3 [1,2,3])], by decide +kernel, by decide +kernel, by decide +kernel, by decide +kernel⟩,
   ⟨(la 5 6 [(F.SL_CNT_SAMPLE_COUNT,3)] (fun x => id
    {x with rx := [(pk 6 0 [1,0xffff0000,3,4]),(pk 6 0 [1,0xffff0000,3,4])], slotErrs := 65530})), 5, (pk 6 0 [1,0xffff0000,3,4]), [(pk 6 0 [1,0xffff0000,3,4])], by decide +kernel, by decide +kernel, by decide +kernel, by decide +kernel⟩,
   ⟨(la 5 6 [] (fun x => {x with rx := [(pk 3 0 [5]),(pk 9 0 [])]})), 5, (pk 3 0 [5]), [(pk 9 0 [])], by decide +kernel, by decide +kernel, by decide +kernel, by decide +kernel⟩,
   ⟨(la 5 6 [(F.SL_CNT_SAMPLE_COUNT,3)] (fun x => id {x with rx := [(pk 10 0 [5]),(pk 10 0 [5])], slotErrs := 65530})), 5, (pk 10 0 [5]), [(pk 10 0 [5])], by decide +kernel, by decide +kernel, by decide +kernel⟩,
   ⟨(la 5 6 [(F.SL_CNT_SAMPLE_COUNT,3)] (fun x => (fun x => {x with idle := some 3})
    {x with rx := [(pk 9 9 [5]),(pk 9 9 [5])], slotErrs := 65530})), 5, by decide +kernel, 3, by decide +kernel⟩,
   ⟨(la 5 6 [(F.SL_CNT_SAMPLE_COUNT,3)] (fun x => id {x with rx := [(pk 8 0xF100 [5]),(pk 8 0xF100 [5])], slotErrs := 65530})), 5, (pk 8 0xF100 [5]), [(pk 8 0xF100 [5])], by decide +kernel, by decide +kernel, by decide +kernel, by decide +kernel⟩⟩
theorem witness_SidePackets_2 :
    (∃ (s : State) (l : Fin 12) (p : SidePkt) (rest : List SidePkt),
     (s.pwr.core = true) ∧
     let x := s.lane l
     (x.rx = p :: rest) ∧
     (p.cls = 8) ∧
     let kind := bits p.arg 11 8
     (kind ∈ [4, 5, 6, 15])) ∧
    (∃ (s : State) (l : Fin 12) (p : SidePkt) (rest : List SidePkt),
     (s.pwr.core = true) ∧
     let x := s.lane l
     (x.rx = p :: rest) ∧
     (p.cls = 8) ∧
     let kind := bits p.arg 11 8
     let n := 16 * l.val + bits p.arg 15 12
     (kind = 3) ∧
     (phaseFelt s n = none)) :=
  ⟨⟨(la 5 6 [] (fun x => {x with rx := [(pk 8 0xF400 [5]),(pk 9 0 [])]})), 5, (pk 8 0xF400 [5]), [(pk 9 0 [])], by decide +kernel, by decide +kernel, by decide +kernel, by decide +kernel⟩,
   ⟨(la 5 6 [] (fun x => {x with rx := [(pk 8 0xF300 [5]),(pk 9 0 [])]})), 5, (pk 8 0xF300 [5]), [(pk 9 0 [])], by decide +kernel, by decide +kernel, by decide +kernel, by decide +kernel, by decide +kernel⟩⟩
theorem witness_SideControl_1 :
    (∃ (s : State) (l : Fin 12) (p : SidePkt) (rest : List SidePkt),
     (s.pwr.core = true) ∧
     let b := slB l
     let x := s.lane l
     let unsent := ∀ k, k < 4 → (s.port (4 * l + k)).cur = none
     (x.rx = p :: rest) ∧
     (p.cls = 9) ∧
     (p.arg / 4096 = 2) ∧
     (s.flag b F.SL_HUB_STAT_BUSY = false) ∧
     ((laneState s l = 6 → s.flag b F.SL_STATUS_TRIP_PENDING = false ∧ unsent))) ∧
    (∃ (s : State) (l : Fin 12) (p : SidePkt) (rest : List SidePkt),
     (s.pwr.core = true) ∧
     let x := s.lane l
     let unsent := ∀ k, k < 4 → (s.port (4 * l + k)).cur = none
     (x.rx = p :: rest) ∧
     (p.cls = 9) ∧
     (p.arg / 4096 = 0) ∧
     (unsent)) ∧
    (∃ (s : State) (l : Fin 12),
     (s.pwr.core = true) ∧
     let x := s.lane l
     (x.sent ≠ []) ∧
     (x.timeouts < 7)) ∧
    (∃ (s : State) (l : Fin 12),
     (s.pwr.core = true) ∧
     let b := slB l
     let x := s.lane l
     let unsent := ∀ k, k < 4 → (s.port (4 * l + k)).cur = none
     (x.sent ≠ []) ∧
     (7 ≤ x.timeouts) ∧
     (s.flag b F.SL_HUB_STAT_BUSY = false) ∧
     (unsent)) ∧
    (∃ (s : State) (l : Fin 12) (p : SidePkt) (rest : List SidePkt),
     (s.pwr.core = true) ∧
     let x := s.lane l
     (x.rx = p :: rest) ∧
     (p.cls = 9) ∧
     (p.arg / 4096 = 3) ∧
     ((∀ g, g < 96 → l.val ∉ (s.felt g).clearing))) ∧
    (∃ (s : State) (l : Fin 12) (p : SidePkt) (rest : List SidePkt),
     (s.pwr.core = true) ∧
     let x := s.lane l
     (x.rx = p :: rest) ∧
     (p.cls = 9) ∧
     (p.arg / 4096 = 3) ∧
     ((p.word 0).toNat % 65536 = 0)) :=
  ⟨⟨(la 5 5 [(F.SL_CNT_RETX_RETX,65534)] (fun x => id {x with rx := [(pk 9 0x2000 []),(pk 9 0x2000 [])], slotErrs := 65530})), 5, (pk 9 0x2000 []), [(pk 9 0x2000 [])], by decide +kernel, by decide +kernel, by decide +kernel, by decide +kernel, by decide +kernel, by decide +kernel⟩,
   ⟨(la 5 6 [(F.SL_CNT_RETX_RETX,65534)] (fun x => (fun x =>
    {x with nextSeq := 3, sent := [pk 1 1 []]}) {x with rx := [(pk 9 0x0000 []),(pk 9 0x0000 [])], slotErrs := 65530})), 5, (pk 9 0x0000 []), [(pk 9 0x0000 [])], by decide +kernel, by decide +kernel, by decide +kernel, by decide +kernel, by decide +kernel⟩,
   ⟨(la 5 6 [(F.SL_CNT_RETX_RETX,65534)] (fun x => (fun x =>
    {x with nextSeq := 3, sent := [pk 1 1 []]}) {x with rx := [(pk 9 0x0000 []),(pk 9 0x0000 [])], slotErrs := 65530})), 5, by decide +kernel, by decide +kernel, by decide +kernel⟩,
   ⟨(la 5 6 [(F.SL_CNT_RETX_RETX,65534)] (fun x => {x with nextSeq := 3, sent := [pk 1 1 []], timeouts := 7, rx := [pk 9 0 []]})), 5, by decide +kernel, by decide +kernel, by decide +kernel, by decide +kernel, by decide +kernel⟩,
   ⟨(la 5 6 [] (fun x => {x with rx := [(pk 9 0x3000 [5]),(pk 9 0 [])]})), 5, (pk 9 0x3000 [5]), [(pk 9 0 [])], by decide +kernel, by decide +kernel, by decide +kernel, by decide +kernel, by decide +kernel⟩,
   ⟨(F' (la 5 6 [] (fun x => {x with rx := [(pk 9 0x3000 [0]),(pk 9 0 [])]})) (slB 5) []).setFelt 3 {base.felt 3 with clearing := [5]}, 5, (pk 9 0x3000 [0]), [(pk 9 0 [])], by decide +kernel, by decide +kernel, by decide +kernel, by decide +kernel, by decide +kernel⟩⟩
theorem witness_SideControl_2 :
    (∃ (s : State) (l : Fin 12) (p : SidePkt) (rest : List SidePkt),
     (s.pwr.core = true) ∧
     let b := slB l
     let x := s.lane l
     (x.rx = p :: rest) ∧
     (p.cls = 4) ∧
     let port := bits p.arg 15 14
     let sop := bits p.arg 13 12
     let seg := bits p.arg 11 8
     let part := (p.body.flatMap wordBytes).take (bits p.arg 5 0)
     let joined := if seg = 0 then some part else match x.pdIn.find? (fun e => e.port == port) with
       | none => none
       | some e => if e.seg = seg ∧ e.sop = sop then some (e.bytes ++ part) else none
     (port = 0 ∨ s.fld b F.SL_STATUS_VERSION = 2) ∧
     (joined = none)) ∧
    (∃ (s : State) (l : Fin 12) (p : SidePkt) (rest : List SidePkt),
     (s.pwr.core = true) ∧
     let b := slB l
     let x := s.lane l
     (x.rx = p :: rest) ∧
     (p.cls = 4) ∧
     let port := bits p.arg 15 14
     let sop := bits p.arg 13 12
     let seg := bits p.arg 11 8
     let part := (p.body.flatMap wordBytes).take (bits p.arg 5 0)
     let joined := if seg = 0 then some part else match x.pdIn.find? (fun e => e.port == port) with
       | none => none
       | some e => if e.seg = seg ∧ e.sop = sop then some (e.bytes ++ part) else none
     (port = 0 ∨ s.fld b F.SL_STATUS_VERSION = 2) ∧
     ∃ m,
     (joined = some m) ∧
     (bit p.arg 7 = false)) ∧
    (∃ (s : State) (l : Fin 12) (p : SidePkt) (rest : List SidePkt),
     (s.pwr.core = true) ∧
     let b := slB l
     let x := s.lane l
     (x.rx = p :: rest) ∧
     (p.cls = 4) ∧
     let port := bits p.arg 15 14
     let sop := bits p.arg 13 12
     let seg := bits p.arg 11 8
     let part := (p.body.flatMap wordBytes).take (bits p.arg 5 0)
     let joined := if seg = 0 then some part else match x.pdIn.find? (fun e => e.port == port) with
       | none => none
       | some e => if e.seg = seg ∧ e.sop = sop then some (e.bytes ++ part) else none
     (port = 0 ∨ s.fld b F.SL_STATUS_VERSION = 2) ∧
     ∃ m,
     (joined = some m) ∧
     (bit p.arg 7 = true)) :=
  ⟨⟨(la 5 6 [] (fun x => {x with rx := [(pk 4 0x184 [0x04030201]),(pk 9 0 [])]})), 5, (pk 4 0x184 [0x04030201]), [(pk 9 0 [])], by decide +kernel, by decide +kernel, by decide +kernel, by decide +kernel, by decide +kernel⟩,
   ⟨(la 5 6 [] (fun x => {x with rx := [(pk 4 4 [0x04030201]),(pk 9 0 [])]})), 5, (pk 4 4 [0x04030201]), [(pk 9 0 [])], by decide +kernel, by decide +kernel, by decide +kernel, by decide +kernel, [1,2,3,4], by decide +kernel, by decide +kernel⟩,
   ⟨(la 5 6 [] (fun x => {x with rx := [(pk 4 0x184 [0x04030201]),(pk 9 0 [])], pdIn := [⟨0,0,1,[9]⟩]})), 5, (pk 4 0x184 [0x04030201]), [(pk 9 0 [])], by decide +kernel, by decide +kernel, by decide +kernel, by decide +kernel, [9,1,2,3,4], by decide +kernel, by decide +kernel⟩⟩
theorem witness_LaneControl :
    (∃ (s : State) (m : Master) (l : Fin 12),
     let b := slB l
     ∃ (write : Bool) (count : Fin 8),
     (Accepts s m (b + R.SL_HUB_CMD) (BitVec.ofNat 32 (1 + 2 * b2n write + 16 * count))) ∧
     (s.flag b F.SL_HUB_STAT_BUSY = false) ∧
     (laneState s l ≠ 6)) ∧
    (∃ (s : State) (m : Master) (l : Fin 12),
     let b := slB l
     ∃ (write : Bool) (count : Fin 8),
     (Accepts s m (b + R.SL_HUB_CMD) (BitVec.ofNat 32 (1 + 2 * b2n write + 16 * count))) ∧
     (s.flag b F.SL_HUB_STAT_BUSY = false) ∧
     (laneState s l = 6)) ∧
    (∃ (s : State) (m : Master) (l : Fin 12),
     let b := slB l
     (laneState s l ≠ 6) ∧
     (s.flag b F.SL_HUB_STAT_BUSY = false) ∧
     (Accepts s m b (fset (s.kept b) F.SL_CTRL_EN 0)) ∧
     (s.fld b F.SL_CTRL_EN = 1)) ∧
    (∃ (s : State) (m : Master) (l : Fin 12),
     let b := slB l
     (laneState s l ≠ 6) ∧
     (s.flag b F.SL_HUB_STAT_BUSY = false) ∧
     (Accepts s m b (fset (s.kept b) F.SL_CTRL_EN 1)) ∧
     (s.fld b F.SL_CTRL_EN = 0)) ∧
    (∃ (s : State) (m : Master) (l : Fin 12),
     let b := slB l
     (laneState s l ≠ 6) ∧
     (s.flag b F.SL_HUB_STAT_BUSY = false) ∧
     (Accepts s m b (fset (s.kept b) F.SL_CTRL_RETRAIN 1)) ∧
     (s.fld b F.SL_CTRL_EN = 1)) ∧
    (∃ (s : State) (m : Master) (l : Fin 12),
     let b := slB l
     (laneState s l ≠ 6) ∧
     (s.flag b F.SL_HUB_STAT_BUSY = false) ∧
     (Accepts s m b (fset (s.kept b) F.SL_CTRL_ABORT 1)) ∧
     (s.fld b F.SL_CTRL_EN = 1)) :=
  ⟨⟨(la 5 5 [(F.SL_HUB_ADDR_ADDR,77),(F.SL_CTRL_EN,1)] (fun x => {x with fails := 3})), .spi, 5, true, 0, ⟨⟨by decide +kernel,
    by decide +kernel⟩, by decide +kernel⟩, by decide +kernel, by decide +kernel⟩,
   ⟨(la 5 6 [(F.SL_HUB_ADDR_ADDR,77)] (fun x => {x with accs := [⟨false,false,0,4⟩]})), .spi, 5, true, 0, ⟨⟨by decide +kernel,
    by decide +kernel⟩, by decide +kernel⟩, by decide +kernel, by decide +kernel⟩,
   ⟨(la 5 5 [(F.SL_HUB_ADDR_ADDR,77),(F.SL_CTRL_EN,1)] (fun x => {x with fails := 3})), .spi, 5, by decide +kernel,
    by decide +kernel, ⟨⟨by decide +kernel, by decide +kernel⟩, by decide +kernel⟩, by decide +kernel⟩,
   ⟨(la 5 0 [(F.SL_HUB_ADDR_ADDR,77),(F.SL_CTRL_EN,0)] (fun x => {x with fails := 3})), .spi, 5, by decide +kernel,
    by decide +kernel, ⟨⟨by decide +kernel, by decide +kernel⟩, by decide +kernel⟩, by decide +kernel⟩,
   ⟨(la 5 5 [(F.SL_HUB_ADDR_ADDR,77),(F.SL_CTRL_EN,1)] (fun x => {x with fails := 3})), .spi, 5, by decide +kernel,
    by decide +kernel, ⟨⟨by decide +kernel, by decide +kernel⟩, by decide +kernel⟩, by decide +kernel⟩,
   ⟨(la 5 5 [(F.SL_HUB_ADDR_ADDR,77),(F.SL_CTRL_EN,1)] (fun x => {x with fails := 3})), .spi, 5, by decide +kernel,
    by decide +kernel, ⟨⟨by decide +kernel, by decide +kernel⟩, by decide +kernel⟩, by decide +kernel⟩⟩
end Lanes

namespace Felts
def one : Word := 0x3f800000
def fe (st : Nat) (l : List (Fld × Nat)) (f : FeltX → FeltX := id) : State :=
  let s := F' base (0x20*3) [(F.SYS_CST_W6_DEFINED,1)]
  let s := s.wr (0x20*3 + 0x4000 + 4) 6
  let s := F' (F' s (phsB 33) [(F.PHS_STATUS_FELT,3),(F.PHS_ORDER_POS,1),(F.PHS_PWM_PERIOD,32000),(F.PHS_DUTY_LIM_D_MAX,60000)]) (phsB 34) [(F.PHS_STATUS_FELT,3)]
  let s := F' s (slB 2) [(F.SL_STATUS_STATE,6),(F.SL_HUB_CAPS_POPULATED,0xffff)]
  let s := s.setLane 2 { s.lane 2 with common := true }
  let s := s.wr (feltB 3 + R.FELT_I_RANGE) 0x41200000
  let s := F' s (feltB 3) ([(F.FELT_STATUS_STATE,st)] ++ l)
  s.setFelt 3 (f (s.felt 3))
def vs : SpSet := { ctrl := 1, v := one, i := one, iSrc := one, iSnk := one, x := one, slewV := one, slewI := one }
def hx (x : FeltX) : FeltX := { x with host := some vs, eng := some vs, set := some vs }
def ovs := F' (F' (fe 11 [] hx) (phsB 33) [(⟨R.PHS_V_OV,31,0⟩,one.toNat),(F.PHS_STATUS_LATCHED,1)]) (phsB 34) [(⟨R.PHS_V_OV,31,0⟩,one.toNat),(F.PHS_STATUS_LATCHED,1)]
def ph (s : State) := [33,34].foldl (fun s p => s.setPhase p {s.phase p with iSeq := some 4, i := 0x3f000000, v := one, vSince := true}) s
def spw (s : State) := List.range 7 |>.foldl (fun s k => (s.wr (feltB 3 + R.FELT_SP_HOST + 4 + 4*k) one).wr (feltB 3 + R.FELT_SP_ENG + 4 + 4*k) one) s

/-- Felt 3 of phases 33 and 34 on lane 2, switching in a round that lasts beyond the frame to build, which leaves at 320320 ticks. -/
def drive (fx : FeltX → FeltX) (px : PhaseX → PhaseX) (fs : List (Fld × Nat) := []) : State :=
  let s := fe 6 fs (fun x => fx { hx x with round := 5, roundT := 400000, period := 16000, d := 0x3f000000 })
  let s := s.setLane 2 { s.lane 2 with built := 1000 }
  s.setPhase 33 (px (s.phase 33))
/-- The frame of lane 2 that is built next, in ticks. -/
abbrev window (s : State) : Int := ((320 * nextFrame s 2 + 320 + laneTdn s 2 : Nat) : Int)
/-- The hypotheses of Claims.RunFrames of phase 33, which felt 3 holds. -/
abbrev FrameOf33 (s : State) : Prop :=
  s.pwr.core = true ∧ laneState s 2 = 6 ∧ (s.lane 2).closing = none ∧
    (∀ g ∈ laneFelts s 2, feltSwitching s g = true → window s + 320 ≤ ((nextRound s g).felt g).roundT) ∧
    (∀ i, i < 16 → (s.phase (16 * 2 + i)).gate < 8) ∧
    (s.phase 33).latchTx = false ∧ (s.lane 2).off = false ∧ phaseFelt s 33 = some 3
/-- The phase follows its felt's duty. -/
abbrev Driven (s : State) : Prop := FrameOf33 s ∧ feltSwitching s 3 = true ∧ phsTripped s 33 = false ∧ phsLatched s 33 = false
/-- Neither a surge nor a burst's pause drives it. -/
abbrev Pulsed (s : State) : Prop := Driven s ∧ (s.felt 3).surge = false ∧ (s.felt 3).burst ≠ 1
/-- The trailing edge of the pulse that began at t0. -/
abbrev trail (s : State) (t0 : Int) : Int :=
  min (t0 + (max (tonMin s 33) (tOn (s.felt 3).d (s.felt 3).period) : Nat)) (nextOwnLead s 3 33 - (toffMin s 33 : Int))

theorem witness_RunFrames_felt :
    (∃ s, FrameOf33 s ∧ feltSwitching s 3 = false) ∧
    (∃ s, FrameOf33 s ∧ phsTripped s 33 = true) ∧
    (∃ s, FrameOf33 s ∧ phsLatched s 33 = true) ∧
    (∃ s, Driven s ∧ (s.felt 3).surge = true) ∧
    (∃ s, Driven s ∧ (s.felt 3).surge = false ∧ (s.felt 3).burst = 1) ∧
    (∃ s t0, Pulsed s ∧ (s.felt 3).full = false ∧ (s.phase 33).gate = 1 ∧ (s.phase 33).lead = some t0 ∧ (s.phase 33).cut ≠ 1 ∧
      trail s t0 < window s + 320) ∧
    (∃ s t0, Pulsed s ∧ (s.felt 3).full = false ∧ (s.phase 33).gate = 1 ∧ (s.phase 33).lead = some t0 ∧ (s.phase 33).cut ≠ 1 ∧
      window s + 320 ≤ trail s t0) ∧
    (∃ s, Pulsed s ∧ (s.phase 33).gate = 1 ∧ (s.phase 33).cut = 1) ∧
    (∃ s, Pulsed s ∧ (s.phase 33).gate ≠ 1 ∧ (s.phase 33).cut = 2 ∧ (s.phase 33).gate ≠ 0) :=
  ⟨⟨(drive id id).setFld (feltB 3) F.FELT_STATUS_STATE 1, by decide +kernel⟩,
   ⟨(drive id id).setFld (phsB 33) F.PHS_STATUS_TRIPPED 1, by decide +kernel⟩,
   ⟨(drive id id).setFld (phsB 33) F.PHS_STATUS_LATCHED 1, by decide +kernel⟩,
   ⟨drive (fun x => { x with surge := true }) id, by decide +kernel⟩,
   ⟨drive (fun x => { x with burst := 1 }) id, by decide +kernel⟩,
   ⟨drive id (fun x => { x with gate := 1, lead := some 312639 }), 312639, by decide +kernel⟩,
   ⟨drive id (fun x => { x with gate := 1, lead := some 312640 }), 312640, by decide +kernel⟩,
   ⟨drive id (fun x => { x with gate := 1, lead := some 312000, cut := 1 }), by decide +kernel⟩,
   ⟨drive id (fun x => { x with gate := 2, cut := 2 }), by decide +kernel⟩⟩
theorem witness_RunFrames_leads :
    (∃ s lead rest, Pulsed s ∧ (s.phase 33).gate ≠ 1 ∧ (s.phase 33).cut ≠ 2 ∧ (s.phase 33).leads = lead :: rest ∧ window s + 320 ≤ lead) ∧
    (∃ s lead rest, Pulsed s ∧ (s.phase 33).gate ≠ 1 ∧ (s.phase 33).cut ≠ 2 ∧ (s.phase 33).leads = lead :: rest ∧ lead < window s + 320 ∧
      (s.felt 3).full = false ∧ tonMin s 33 ≤ tOn (s.felt 3).d (s.felt 3).period) ∧
    (∃ s lead rest, Pulsed s ∧ (s.phase 33).gate = 0 ∧ (s.phase 33).cut = 2 ∧ (s.phase 33).leads = lead :: rest ∧ lead < window s + 320 ∧
      (s.felt 3).full = false ∧ tOn (s.felt 3).d (s.felt 3).period < tonMin s 33) ∧
    (∃ s lead rest, Pulsed s ∧ (s.phase 33).gate ≠ 1 ∧ (s.phase 33).cut ≠ 2 ∧ (s.phase 33).leads = lead :: rest ∧ lead < window s + 320 ∧
      (s.felt 3).full = true ∧ 2 ≤ (feltPhases s 3).length ∧ (s.phase 33).limited = false ∧ (s.phase 33).iPer ≠ []) ∧
    (∃ s w0 ws, FrameOf33 s ∧ (s.lane 2).txBody = w0 :: ws) :=
  ⟨⟨drive id (fun x => { x with gate := 2, leads := [320640] }), 320640, [], by decide +kernel⟩,
   ⟨drive id (fun x => { x with gate := 2, leads := [320639] }), 320639, [], by decide +kernel⟩,
   ⟨drive (fun x => { x with d := 0 }) (fun x => { x with gate := 0, cut := 2, leads := [320320] }), 320320, [], by decide +kernel⟩,
   ⟨drive (fun x => { x with full := true }) (fun x => { x with gate := 2, leads := [320320], iPer := [one], sPer := [one], limited := false }), 320320, [],
    by decide +kernel⟩,
   ⟨(let s := drive id id; s.setLane 2 { s.lane 2 with txBody := [7] }), 7, [], by decide +kernel⟩⟩
/-- Felt 3 of phases 33 and 34 on lane 2, whose last frame had this SEQ. -/
def sampled (seq : Nat) (fx : FeltX → FeltX) (px : PhaseX → PhaseX) : State :=
  let s := fe 6 [(F.FELT_STATUS_MODE, 1)] (fun x => fx (hx x))
  let s := s.setLane 2 { s.lane 2 with seq := some seq, iLsb := 0x3c23d70a, vLsb := 0x3c23d70a }
  showPhases (s.setPhase 33 (px (s.phase 33)))
/-- The RUN frame after it in which every slot holds the code 100, slot 1 the code c. -/
def codes (seq c : Nat) : BitVec 280 :=
  frameOf 0 seq ((List.range 16).foldl (fun a j => a * 2 ^ 14 + if j = 1 then c else 100) 0) 0
theorem assigned_felt3 {s : State} (a : ∀ q, q < 192 → phaseFelt s q = if q = 33 ∨ q = 34 then some 3 else none)
    (b : ∀ f, f < 96 → feltDefined s f = decide (f = 3)) (c : feltPhases s 3 = [33, 34]) : Assigned s := by
  intro f q hf hq
  rw [a q hq, b f hf]
  by_cases h : f = 3
  · subst h; simp [c]; omega
  · have h' : ¬ 3 = f := fun e => h e.symm
    split <;> simp [h, h']
/-- Every phase's felt is that of the table: phases 33 and 34 of felt 3 alone. -/
abbrev Felt3 (s : State) : Prop :=
  (∀ q, q < 192 → phaseFelt s q = if q = 33 ∨ q = 34 then some 3 else none) ∧ (∀ f, f < 96 → feltDefined s f = decide (f = 3)) ∧
    feltPhases s 3 = [33, 34]
theorem Felt3.assigned {s : State} (h : Felt3 s) : Assigned s := assigned_felt3 h.1 h.2.1 h.2.2
/-- The hypotheses of Claims.RunSamples of phase 33, which felt 3 holds. -/
def FrameTo33 (s : State) (fr : BitVec 280) : Prop :=
  s.pwr.core = true ∧ laneState s 2 = 6 ∧ Assigned s ∧ judgeFrame (s.lane 2).seq (some fr) = (some (unframe fr), false) ∧
    (unframe fr).typ = 0 ∧ phaseFelt s 33 = some 3
theorem FrameTo33.intro {s : State} {fr : BitVec 280} (h : s.pwr.core = true ∧ laneState s 2 = 6 ∧ Felt3 s ∧
    judgeFrame (s.lane 2).seq (some fr) = (some (unframe fr), false) ∧ (unframe fr).typ = 0) : FrameTo33 s fr :=
  ⟨h.1, h.2.1, h.2.2.1.assigned, h.2.2.2.1, h.2.2.2.2, by simpa using h.2.2.1.1 33 (by decide)⟩
/-- The value of phase q's slot of a current frame. -/
abbrev amps (s : State) (fr : BitVec 280) (q : Nat) : Word := sampleVal ((unframe fr).slot (q % 16)) (s.lane 2).iLsb
/-- The value of phase q's slot of a voltage frame. -/
abbrev volts (s : State) (fr : BitVec 280) (q : Nat) : Word := sampleVal ((unframe fr).slot (q % 16)) (s.lane 2).vLsb
/-- Every phase of felt 3 has a valid sample in the frame. -/
abbrev AllHeard (s : State) (fr : BitVec 280) : Prop := ∀ q ∈ feltPhases s 3, q / 16 = 2 ∧ (unframe fr).slot (q % 16) ≠ 0x2000
/-- A current frame in which a current limit acts on phase 33. -/
abbrev LimitFrame (s : State) (fr : BitVec 280) : Prop :=
  (unframe fr).seq % 2 = 0 ∧ (unframe fr).slot 1 ≠ 0x2000 ∧ feltSwitching s 3 = true ∧ phsLatched s 33 = false ∧
    phsTripped s 33 = false ∧ (s.felt 3).brkFast = false ∧ (s.phase 33).limited = false ∧ (s.phase 33).lim + 1 = max 1 (phsCo s 33 F.PHS_PROT_OC_CYCLES)

theorem witness_RunSamples_currents :
    (∃ s fr, FrameTo33 s fr ∧ (unframe fr).seq % 2 = 0 ∧ (unframe fr).slot 1 = 0x2000 ∧
      (s.phase 33).miss + 1 = max 1 (phsCo s 33 F.PHS_PROT_MISS_LIMIT)) ∧
    (∃ s fr, FrameTo33 s fr ∧ LimitFrame s fr ∧ (s.phase 33).gate = 1 ∧ fLt (phsCoW s 33 R.PHS_I_PK) (amps s fr 33) = true) ∧
    (∃ s fr, FrameTo33 s fr ∧ LimitFrame s fr ∧ (s.phase 33).gate = 2 ∧ fLt (amps s fr 33) (fNeg (phsCoW s 33 R.PHS_I_NEG)) = true) ∧
    (∃ s fr, FrameTo33 s fr ∧ (unframe fr).seq % 2 = 0 ∧ feltSwitching s 3 = true ∧ AllHeard s fr ∧ (s.felt 3).brkFast = true ∧
      fLt (feltW s 3 R.FELT_I_BRK_FAST) (fAbs (fSum ((feltPhases s 3).map (amps s fr)))) = true) ∧
    (∃ s fr, FrameTo33 s fr ∧ (unframe fr).seq % 2 = 0 ∧ feltSwitching s 3 = true ∧ AllHeard s fr ∧ (s.felt 3).brkFast = false) :=
  ⟨⟨sampled 5 id id, codes 6 0x2000, .intro (by decide +kernel), by decide +kernel⟩,
   ⟨sampled 5 id (fun x => { x with gate := 1 }), codes 6 101, .intro (by decide +kernel), by decide +kernel⟩,
   ⟨sampled 5 id (fun x => { x with gate := 2 }), codes 6 0x3FFF, .intro (by decide +kernel), by decide +kernel⟩,
   ⟨sampled 5 (fun x => { x with brkFast := true }) id, codes 6 101, .intro (by decide +kernel), by decide +kernel⟩,
   ⟨sampled 5 id id, codes 6 101, .intro (by decide +kernel), by decide +kernel⟩⟩
theorem witness_RunSamples_voltages :
    (∃ s fr, FrameTo33 s fr ∧ (unframe fr).seq % 2 ≠ 0 ∧ (unframe fr).slot 1 ≠ 0x2000 ∧ feltState s 3 ≠ 11 ∧
      fLe (phsCoW s 33 R.PHS_V_OV) (volts s fr 33) = true ∧ phsCo s 33 F.PHS_PROT_OV_COUNT ≤ (s.phase 33).ov) ∧
    (∃ s fr v0, FrameTo33 s fr ∧ (unframe fr).seq % 2 ≠ 0 ∧ (s.felt 3).vPrev = some v0 ∧ feltSwitching s 3 = true ∧ vMode s 3 = true ∧
      (s.felt 3).sink = false ∧ (s.felt 3).surgeHold = false ∧ (s.felt 3).surge = false ∧ AllHeard s fr ∧
      (∀ q ∈ feltPhases s 3, fLe (phsCoW s q R.PHS_V_OV) (volts s fr q) = false) ∧
      (let m := fMean ((feltPhases s 3).map (volts s fr))
       fLe (fSub m v0) (fNeg (phsCoW s (leadPhase s 3) R.PHS_SURGE_SLOPE)) = true ∧
         fLe m (fSub (s.felt 3).vRef (phsCoW s (leadPhase s 3) R.PHS_SURGE_MIN)) = true) ∧
      phsCo s (leadPhase s 3) F.PHS_SURGE_EN ≠ 0 ∧ phsCo s (leadPhase s 3) F.PHS_SURGE_COUNT ≤ (s.felt 3).slopeN) ∧
    (∃ s fr r, FrameTo33 s fr ∧ (unframe fr).seq % 2 = 0 ∧ capState s 1 = 2 ∧ s.fld (capB 1) F.CAP_SRC_LANE = 2 ∧
      s.fld (capB 1) F.CAP_SRC_QTY % 2 = 1 ∧ (s.cap 1).pair = 0 ∧ (s.cap 1).cur = some r ∧ r.lost = false) :=
  ⟨⟨sampled 4 id (fun x => { x with ov := 2 }), codes 5 101, .intro (by decide +kernel), by decide +kernel⟩,
   ⟨[(phsB 33 + R.PHS_V_OV, 0x447a0000), (phsB 34 + R.PHS_V_OV, 0x447a0000)].foldl (fun (s : State) p => s.wr p.1 p.2)
      ((sampled 4 (fun x => { x with vPrev := some 0x42c80000, vRef := 0x41200000, slopeN := 3 }) id).setFld (phsB 33) F.PHS_SURGE_EN 1),
    codes 5 101, 0x42c80000, .intro (by decide +kernel), by decide +kernel⟩,
   ⟨(let s := F' (sampled 5 id id) (capB 1) [(F.CAP_STATUS_STATE, 2), (F.CAP_SRC_LANE, 2), (F.CAP_SRC_QTY, 1)]
     s.setCap 1 { s.cap 1 with pair := 0, cur := some ⟨0, 2, 2, 0#64, 0, 0, false, false, []⟩ }),
    codes 6 101, ⟨0, 2, 2, 0#64, 0, 0, false, false, []⟩, .intro (by decide +kernel), by decide +kernel⟩⟩
theorem witness_FeltStarts :
    (∃ (s : State) (m : Master) (f : Fin 96) (test bell : Bool),
     let b := feltB f
     let c := startCheck s f
     let word := fset (fset (fset (s.kept b) F.FELT_CTRL_EN 1) F.FELT_CTRL_TEST (b2n test)) F.FELT_CTRL_AT_BELL (b2n bell)
     (Accepts s m b word) ∧
     (feltState s f = 1) ∧
     (s.fld b F.FELT_CTRL_EN = 0) ∧
     (startBarred s = false) ∧
     (c = 0)) ∧
    (∃ (s : State) (m : Master) (f : Fin 96) (test bell : Bool),
     let b := feltB f
     let c := startCheck s f
     let word := fset (fset (fset (s.kept b) F.FELT_CTRL_EN 1) F.FELT_CTRL_TEST (b2n test)) F.FELT_CTRL_AT_BELL (b2n bell)
     (Accepts s m b word) ∧
     (feltState s f = 1) ∧
     (s.fld b F.FELT_CTRL_EN = 0) ∧
     (startBarred s = false) ∧
     (c ≠ 0)) ∧
    (∃ (s : State) (f : Fin 96),
     let c := startCheck s f
     (s.pwr.core = true) ∧
     (feltState s f = 2) ∧
     (feltBlocked s f = false) ∧
     ((s.felt f).restart = true) ∧
     (startBarred s = false) ∧
     (c = 0)) ∧
    (∃ (s : State) (f : Fin 96),
     (s.pwr.core = true) ∧
     (feltState s f = 2) ∧
     (feltBlocked s f = false) ∧
     ((s.felt f).restart = false)) ∧
    (∃ (s : State) (f : Fin 96),
     (s.pwr.core = true) ∧
     (feltState s f = 5) ∧
     ((s.felt f).ramp ≠ 0) ∧
     (rampReached s f = true)) :=
  ⟨⟨(fe 1 [(F.FELT_ADMIT_CHARGE,7)] hx), .spi, 3, true, true, ⟨⟨by decide +kernel, by decide +kernel⟩, by decide +kernel⟩,
    by decide +kernel, by decide +kernel, by decide +kernel, by decide +kernel⟩,
   ⟨(fe 1 [] id), .spi, 3, true, true, ⟨⟨by decide +kernel, by decide +kernel⟩, by decide +kernel⟩, by decide +kernel,
    by decide +kernel, by decide +kernel, by decide +kernel⟩,
   ⟨(fe 2 [(F.FELT_ADMIT_CHARGE,7),(F.FELT_CTRL_EN,1)] fun x => {hx x with restart := true}), 3, by decide +kernel,
    by decide +kernel, by decide +kernel, by decide +kernel, by decide +kernel, by decide +kernel⟩,
   ⟨(fe 2 [(F.FELT_ADMIT_CHARGE,7),(F.FELT_CTRL_EN,1)] hx), 3, by decide +kernel, by decide +kernel, by decide +kernel,
    by decide +kernel⟩,
   ⟨(fe 5 [(F.FELT_CTRL_EN,1),(F.FELT_STATUS_MODE,2)] fun x => {hx x with ramp := 2, rampHit := true}), 3, by decide +kernel, by decide +kernel,
    by decide +kernel, by decide +kernel⟩⟩
theorem witness_FeltStops :
    (∃ (s : State) (m : Master) (f : Fin 96),
     let b := feltB f
     (Accepts s m b (fset (s.kept b) F.FELT_CTRL_EN 0)) ∧
     (s.fld b F.FELT_CTRL_EN = 1) ∧
     (feltState s f = 5 ∨ feltState s f = 6) ∧
     (feltF s f F.FELT_STOP_MODE ≠ 1) ∧
     (s.fld b F.FELT_WF_STAT_STATE = 0)) ∧
    (∃ (s : State) (f : Fin 96),
     let x := s.felt f
     (s.pwr.core = true) ∧
     (feltState s f = 7) ∧
     (x.again = false) ∧
     (stopReached s f = true)) ∧
    (∃ (s : State) (m : Master) (f : Fin 96),
     let b := feltB f
     (Accepts s m b (fset (s.kept b) F.FELT_CTRL_ABORT 1)) ∧
     (feltSwitching s f = true)) ∧
    (∃ (s : State) (m : Master) (f : Fin 96),
     let b := feltB f
     ∃ test : Bool,
     (Accepts s m b (fset (s.kept b) F.FELT_CTRL_TEST (b2n test))) ∧
     (s.fld b F.FELT_CTRL_EN = 1 ∨ feltState s f = 1) ∧
     (feltState s f = 1) ∧
     (s.fld b F.FELT_CTRL_EN = 0)) ∧
    (∃ (s : State) (m : Master) (f : Fin 96),
     let b := feltB f
     ∃ test : Bool,
     (Accepts s m b (fset (s.kept b) F.FELT_CTRL_TEST (b2n test))) ∧
     (s.fld b F.FELT_CTRL_EN = 1 ∨ feltState s f = 1) ∧
     (feltState s f = 6) ∧
     (s.fld b F.FELT_CTRL_EN = 1) ∧
     (s.fld b F.FELT_CTRL_TEST ≠ b2n test)) :=
  ⟨⟨(fe 5 [(F.FELT_CTRL_EN,1),(F.FELT_STATUS_MODE,5),(F.FELT_STOP_MODE,2)] hx), .spi, 3, ⟨⟨by decide +kernel,
    by decide +kernel⟩, by decide +kernel⟩, by decide +kernel, by decide +kernel, by decide +kernel, by decide +kernel⟩,
   ⟨(fe 7 [(F.FELT_STATUS_STOP_CAUSE,5)] hx), 3, by decide +kernel, by decide +kernel, by decide +kernel, by decide +kernel⟩,
   ⟨(fe 13 [(F.FELT_CTRL_EN,1)] hx), .spi, 3, ⟨⟨by decide +kernel, by decide +kernel⟩, by decide +kernel⟩, by decide +kernel⟩,
   ⟨(fe 1 [] hx), .spi, 3, true, ⟨⟨by decide +kernel, by decide +kernel⟩, by decide +kernel⟩, by decide +kernel, by decide +kernel, by decide +kernel⟩,
   ⟨(fe 6 [(F.FELT_CTRL_EN,1),(F.FELT_STOP_MODE,1)] hx), .spi, 3, true, ⟨⟨by decide +kernel, by decide +kernel⟩,
    by decide +kernel⟩, by decide +kernel, by decide +kernel, by decide +kernel, by decide +kernel⟩⟩
theorem witness_FeltBreaker :
    (∃ (s : State) (f : Fin 96),
     let x := s.felt f
     let time := if fLt (feltW s f R.FELT_I_BRK) (fMean x.brkI.reverse) then x.brkT + 8 else x.brkT - 1
     let limit := 8 * max 1 (feltF s f F.FELT_BRK_T_BRK)
     (s.pwr.core = true) ∧
     (feltSwitching s f = true) ∧
     (x.brkI ≠ []) ∧
     (time < limit)) ∧
    (∃ (s : State) (f : Fin 96),
     let b := feltB f
     let x := s.felt f
     let time := if fLt (feltW s f R.FELT_I_BRK) (fMean x.brkI.reverse) then x.brkT + 8 else x.brkT - 1
     let limit := 8 * max 1 (feltF s f F.FELT_BRK_T_BRK)
     (s.pwr.core = true) ∧
     (feltSwitching s f = true) ∧
     (x.brkI ≠ []) ∧
     (limit ≤ time) ∧
     (s.fld b F.FELT_CTRL_EN = 1) ∧
     (s.fld b F.FELT_STATUS_RETRIES < feltF s f F.FELT_BRK2_N_RETRY)) ∧
    (∃ (s : State) (f : Fin 96),
     (s.pwr.core = true) ∧
     (feltState s f = 8) ∧
     (startBarred s = false) ∧
     (startCheck s f = 0)) ∧
    (∃ (s : State) (f : Fin 96),
     let b := feltB f
     (s.pwr.core = true) ∧
     (s.flag b F.FELT_STATUS_IN_REG = true)) ∧
    (∃ (s : State) (m : Master) (f : Fin 96),
     let b := feltB f
     (Accepts s m b (fset (s.kept b) F.FELT_CTRL_BRK_CLEAR 1)) ∧
     (feltState s f = 9) ∧
     (s.fld b F.FELT_CTRL_EN = 0)) ∧
    (∃ (s : State) (m : Master) (f : Fin 96),
     let b := feltB f
     (Accepts s m b (fset (s.kept b) F.FELT_CTRL_BRK_CLEAR 1)) ∧
     (feltState s f ≠ 9) ∧
     (feltState s f ≠ 7)) :=
  ⟨⟨(fe 6 [(F.FELT_CTRL_EN,1),(F.FELT_BRK2_N_RETRY,2),(F.FELT_BRK_T_BRK,9)] fun x => {hx x with brkI := [one,0,one]}), 3, by decide +kernel, by decide +kernel, by decide +kernel, by decide +kernel⟩,
   ⟨(fe 6 [(F.FELT_CTRL_EN,1),(F.FELT_BRK2_N_RETRY,2),(F.FELT_STATUS_IN_REG,1)] fun x => {hx x with brkI := [one,0,one]}), 3, by decide +kernel, by decide +kernel, by decide +kernel, by decide +kernel, by decide +kernel, by decide +kernel⟩,
   ⟨(fe 8 [(F.FELT_CTRL_EN,1),(F.FELT_STATUS_RETRIES,3)] hx), 3, by decide +kernel, by decide +kernel, by decide +kernel, by decide +kernel⟩,
   ⟨(fe 6 [(F.FELT_CTRL_EN,1),(F.FELT_BRK2_N_RETRY,2),(F.FELT_STATUS_IN_REG,1)] fun x => {hx x with brkI := [one,0,one]}), 3, by decide +kernel, by decide +kernel⟩,
   ⟨(fe 9 [(F.FELT_STATUS_RETRIES,3)] fun x => {hx x with brkLat := true}), .spi, 3, ⟨⟨by decide +kernel, by decide +kernel⟩,
    by decide +kernel⟩, by decide +kernel, by decide +kernel⟩,
   ⟨(fe 11 [(F.FELT_STATUS_RETRIES,3)] hx), .spi, 3, ⟨⟨by decide +kernel, by decide +kernel⟩, by decide +kernel⟩, by decide +kernel, by decide +kernel⟩⟩
theorem witness_FeltLatchAndSense :
    (∃ (s : State) (m : Master) (f : Fin 96),
     let b := feltB f
     (Accepts s m b (fset (s.kept b) F.FELT_CTRL_OV_CLEAR 1)) ∧
     (feltState s f = 11) ∧
     (s.fld b F.FELT_CTRL_EN = 0) ∧
     (feltCovered s f = false) ∧
     ((∀ l ∈ feltLanes s f, laneState s l = 6)) ∧
     ((∀ p ∈ feltPhases s f, fLt (s.rd (phsB p + R.PHS_MEAS_V)) (phsCoW s p R.PHS_V_OV) = true))) ∧
    (∃ (s : State) (m : Master) (f : Fin 96),
     let b := feltB f
     (Accepts s m b (fset (s.kept b) F.FELT_CTRL_OV_CLEAR 1)) ∧
     (feltState s f ≠ 11) ∧
     (feltState s f ≠ 7)) ∧
    (∃ (s : State) (f : Fin 96),
     let x := s.felt f
     (s.pwr.core = true) ∧
     (x.clearing ≠ [])) ∧
    (∃ (s : State) (f : Fin 96) (i : Word),
     let x := s.felt f
     (s.pwr.core = true) ∧
     (feltRemote s f = true) ∧
     (feltSwitching s f = true) ∧
     (x.learned = false) ∧
     (x.regSeen = true) ∧
     (senseCurrent s f i = true) ∧
     (fLt 0#32 (feltW s f R.FELT_R_MIN) = false)) ∧
    (∃ (s : State) (f : Fin 96),
     let b := feltB f
     let x := s.felt f
     let drop := fAbs (fSub (s.rd (b + R.FELT_MEAS_VFORCE)) (s.rd (b + R.FELT_MEAS_VFB)))
     (s.pwr.core = true) ∧
     (feltRemote s f = true) ∧
     (x.learned = true) ∧
     (senseCurrent s f x.iAvg = true) ∧
     (fLt drop (fDiv (fAbs (fMul (s.rd (b + R.FELT_R_LEAD)) x.iAvg)) (fOfNat 4)) = true)) :=
  ⟨⟨ovs, .spi, 3, ⟨⟨by decide +kernel, by decide +kernel⟩, by decide +kernel⟩, by decide +kernel, by decide +kernel, by decide +kernel, by decide +kernel, by decide +kernel⟩,
   ⟨(fe 6 [(F.FELT_SENSE_EN,1)] fun x => {hx x with clearing := [2], iAvg := one}), .spi, 3, ⟨⟨by decide +kernel,
    by decide +kernel⟩, by decide +kernel⟩, by decide +kernel, by decide +kernel⟩,
   ⟨(fe 6 [(F.FELT_SENSE_EN,1)] fun x => {hx x with clearing := [2], iAvg := one}), 3, by decide +kernel, by decide +kernel⟩,
   ⟨(fe 6 [(F.FELT_SENSE_EN,1)] fun x => {hx x with clearing := [2], iAvg := one, regSeen := true}), 3, one, by decide +kernel, by decide +kernel, by decide +kernel, by decide +kernel, by decide +kernel, by decide +kernel, by decide +kernel⟩,
   ⟨(F' (fe 6 [(F.FELT_SENSE_EN,1)] fun x =>
    {hx x with learned := true, iAvg := one}) (feltB 3) [(⟨R.FELT_R_LEAD,31,0⟩,one.toNat)]), 3, by decide +kernel, by decide +kernel, by decide +kernel, by decide +kernel, by decide +kernel⟩⟩
theorem witness_CurrentLoop :
    ∃ (s : State) (f : Fin 96) (q : Nat),
    (s.pwr.core = true) ∧
    (feltSwitching s f = true) ∧
    let ps := feltPhases s f
    let lp := leadPhase s f
    ((s.phase lp).iSeq = some q) ∧
    (frameDone s f true q = true) ∧
    ((∀ p ∈ ps, (s.phase p).iBad = false)) :=
  ⟨(ph (fe 6 [] fun x => {hx x with iOut := 0x40000000, x := 0x3d000000, sums := [one,one,one], period := 32000})), 3, 4,
    by decide +kernel, by decide +kernel, by decide +kernel, by decide +kernel, by decide +kernel⟩
theorem witness_FeltTimers :
    (∃ (s : State),
     (s.pwr.core = true) ∧
     ((∀ g, g < 96 → feltSwitching s g = false)) ∧
     (s.sync.last = none)) ∧
    (∃ (s : State) (f : Fin 96),
     (s.pwr.core = true) ∧
     let lp := leadPhase s f
     let st := s.fld (phsB lp) F.PHS_SYNC_STAT_STATE
     (feltSwitching s f = true) ∧
     (st = 3 ∨ st = 4)) ∧
    (∃ (s : State) (m : Master),
     (s.pwr.core = true) ∧
     ∃ p : Fin 192,
     (Accepts s m (phsB p + R.PHS_LF_INFO) 0x80000000#32)) ∧
    (∃ (s : State) (f : Fin 96),
     (s.pwr.core = true) ∧
     let x := s.felt f
     (feltSwitching s f = false) ∧
     (feltDefined s f = true) ∧
     (max 1 (feltF s f F.FELT_LOOP_DEC) ≤ x.vCnt) ∧
     (x.vAcc ≠ []) ∧
     ((∀ n, portFelt? s n ≠ some f.val)) ∧
     (x.next = none)) :=
  ⟨⟨(fe 1 [] fun x => {hx x with vCnt := 1, vAcc := [one,0], iAvg := one}), by decide +kernel, by decide +kernel, by decide +kernel⟩,
   ⟨(F' (fe 6 [] fun x =>
    {hx x with period := 100, glideE := 7, glideP := 64000, surge := true}) (phsB 33) [(F.PHS_SYNC_STAT_STATE,3)]), 3, by decide +kernel, by decide +kernel, by decide +kernel⟩,
   ⟨(fe 1 [] fun x => {hx x with vCnt := 1, vAcc := [one,0], iAvg := one}), .spi, by decide +kernel, 0, ⟨⟨by decide +kernel,
    by decide +kernel⟩, by decide +kernel⟩⟩,
   ⟨(fe 1 [] fun x => {hx x with vCnt := 1, vAcc := [one,0], iAvg := one}), 3, by decide +kernel, by decide +kernel, by decide +kernel, by decide +kernel, by decide +kernel, (fun _ h => nomatch (show (none : Option Nat) = some _ from h)), by decide +kernel⟩⟩
theorem witness_FeltUpdate :
    ∃ (s : State) (f : Fin 96) (t : SpSet),
    (s.pwr.core = true) ∧
    (feltDefined s f = true) ∧
    (feltSwitching s f = true) ∧
    (feltState s f ≠ 13) ∧
    let b := feltB f
    let x := s.felt f
    let dec := max 1 (feltF s f F.FELT_LOOP_DEC)
    (dec ≤ x.vCnt) ∧
    (x.vAcc ≠ []) ∧
    (x.set = some t) ∧
    (x.next = none) ∧
    (s.fld b F.FELT_WF_STAT_STATE = 0) ∧
    (x.portTrack = false) ∧
    (x.stop = 0 ∨ x.ramp = 0) ∧
    ((∀ n, portFelt? s n ≠ some f.val)) :=
  ⟨(fe 6 [(F.FELT_STATUS_MODE,1)] fun x => {hx x with vCnt := 1, vAcc := [one,0], set := some vs}), 3, vs, by decide +kernel, by decide +kernel, by decide +kernel, by decide +kernel, by decide +kernel, by decide +kernel, by decide +kernel, by decide +kernel, by decide +kernel, by decide +kernel, by decide +kernel, (fun _ h => nomatch (show (none : Option Nat) = some _ from h))⟩
theorem witness_SyncFollows :
    (∃ (s : State) (f : Fin 96),
     (s.pwr.core = true) ∧
     (feltSwitching s f = true) ∧
     ((∀ g, g < 96 → g ≠ f.val → feltSwitching s g = true → leadPhase s g ≠ leadPhase s f)) ∧
     let lp := leadPhase s f
     let st := s.fld (phsB lp) F.PHS_SYNC_STAT_STATE
     ∃ (u : Int) (d : BitVec 40),
     (s.sync.last = some u) ∧
     (phsCo s lp F.PHS_PWM_SRC = 1) ∧
     let lost := s.sync.ivals.length = 16 ∧ (syncMean s.sync.ivals + syncMean s.sync.ivals / 20 < d.toNat ∨
       d.toNat + syncMean s.sync.ivals / 20 < syncMean s.sync.ivals)
     (lost) ∧
     (st = 2 ∨ st = 3)) ∧
    (∃ (s : State) (f : Fin 96),
     (s.pwr.core = true) ∧
     (feltSwitching s f = true) ∧
     ((∀ g, g < 96 → g ≠ f.val → feltSwitching s g = true → leadPhase s g ≠ leadPhase s f)) ∧
     let lp := leadPhase s f
     let st := s.fld (phsB lp) F.PHS_SYNC_STAT_STATE
     ∃ (u : Int) (d : BitVec 40),
     (s.sync.last = some u) ∧
     (phsCo s lp F.PHS_PWM_SRC = 1) ∧
     let lost := s.sync.ivals.length = 16 ∧ (syncMean s.sync.ivals + syncMean s.sync.ivals / 20 < d.toNat ∨
       d.toNat + syncMean s.sync.ivals / 20 < syncMean s.sync.ivals)
     (¬ lost) ∧
     (st = 2)) ∧
    (∃ (s : State) (f : Fin 96),
     (s.pwr.core = true) ∧
     (feltSwitching s f = true) ∧
     ((∀ g, g < 96 → g ≠ f.val → feltSwitching s g = true → leadPhase s g ≠ leadPhase s f)) ∧
     let lp := leadPhase s f
     let st := s.fld (phsB lp) F.PHS_SYNC_STAT_STATE
     ∃ (u : Int) (d : BitVec 40),
     (s.sync.last = some u) ∧
     (phsCo s lp F.PHS_PWM_SRC = 1) ∧
     let lost := s.sync.ivals.length = 16 ∧ (syncMean s.sync.ivals + syncMean s.sync.ivals / 20 < d.toNat ∨
       d.toNat + syncMean s.sync.ivals / 20 < syncMean s.sync.ivals)
     let iv := if lost then [d.toNat] else (d.toNat :: s.sync.ivals).take 16
     let v := { s with sync := ⟨some (u + d.toNat), iv⟩ }
     (¬ lost) ∧
     (st = 0 ∨ st = 1 ∨ st = 4) ∧
     (syncQualifies v f = true)) ∧
    (∃ (s : State) (f : Fin 96),
     (s.pwr.core = true) ∧
     (feltSwitching s f = true) ∧
     ((∀ g, g < 96 → g ≠ f.val → feltSwitching s g = true → leadPhase s g ≠ leadPhase s f)) ∧
     let lp := leadPhase s f
     let st := s.fld (phsB lp) F.PHS_SYNC_STAT_STATE
     ∃ (u : Int) (d : BitVec 40),
     (s.sync.last = some u) ∧
     (phsCo s lp F.PHS_PWM_SRC = 1) ∧
     let lost := s.sync.ivals.length = 16 ∧ (syncMean s.sync.ivals + syncMean s.sync.ivals / 20 < d.toNat ∨
       d.toNat + syncMean s.sync.ivals / 20 < syncMean s.sync.ivals)
     let iv := if lost then [d.toNat] else (d.toNat :: s.sync.ivals).take 16
     let v := { s with sync := ⟨some (u + d.toNat), iv⟩ }
     (¬ lost) ∧
     (st = 0 ∨ st = 1) ∧
     (syncQualifies v f = false)) :=
  ⟨⟨{F' (fe 6 [] fun x => {hx x with period := 32000}) (phsB 33) [(F.PHS_PWM_SRC,1),(F.PHS_SYNC_STAT_STATE,2)] with sync := ⟨some 100, List.replicate 16 10000⟩}, 3, by decide +kernel, by decide +kernel, by decide +kernel, 100, 20000, by decide +kernel, by decide +kernel, by decide +kernel, by decide +kernel⟩,
   ⟨{F' (fe 6 [] fun x => {hx x with period := 32000}) (phsB 33) [(F.PHS_PWM_SRC,1),(F.PHS_SYNC_STAT_STATE,2)] with sync := ⟨some 100, List.replicate 16 20000⟩}, 3, by decide +kernel, by decide +kernel, by decide +kernel, 100, 20000, by decide +kernel, by decide +kernel, by decide +kernel, by decide +kernel⟩,
   ⟨{F' (fe 6 [] fun x => {hx x with period := 32000}) (phsB 33) [(F.PHS_PWM_SRC,1),(F.PHS_SYNC_STAT_STATE,1)] with sync := ⟨some 100, List.replicate 16 20000⟩}, 3, by decide +kernel, by decide +kernel, by decide +kernel, 100, 20000, by decide +kernel, by decide +kernel, by decide +kernel, by decide +kernel, by decide +kernel⟩,
   ⟨{F' (fe 6 [] fun x => {hx x with period := 32000}) (phsB 33) [(F.PHS_PWM_SRC,1),(F.PHS_SYNC_STAT_STATE,0)] with sync := ⟨some 100, []⟩}, 3, by decide +kernel, by decide +kernel, by decide +kernel, 100, 20000, by decide +kernel, by decide +kernel, by decide +kernel, by decide +kernel, by decide +kernel⟩⟩
theorem witness_FeltSources :
    (∃ (s : State) (m : Master) (f : Fin 96) (v : Word),
     let b := feltB f
     let new := fun (a : Nat) => { setAt s a with ctrl := v }
     (Accepts s m (b + R.FELT_SP_HOST) v) ∧
     ((new (b + R.FELT_SP_HOST)).valid = true) ∧
     (feltSel s f = 0)) ∧
    (∃ (s : State) (m : Master) (f : Fin 96) (v : Word),
     let b := feltB f
     let new := fun (a : Nat) => { setAt s a with ctrl := v }
     (Accepts s m (b + R.FELT_SP_HOST) v) ∧
     ((new (b + R.FELT_SP_HOST)).valid = false)) ∧
    (∃ (s : State) (m : Master) (f : Fin 96) (v : Word),
     let b := feltB f
     let x := s.felt f
     let new := fun (a : Nat) => { setAt s a with ctrl := v }
     (Accepts s m (b + R.FELT_SP_ENG) v) ∧
     (x.portHold = false) ∧
     ((new (b + R.FELT_SP_ENG)).valid = true)) ∧
    (∃ (s : State) (m : Master) (f : Fin 96) (v : Word),
     let b := feltB f
     let x := s.felt f
     let new := fun (a : Nat) => { setAt s a with ctrl := v }
     (Accepts s m (b + R.FELT_SP_ENG) v) ∧
     (x.portHold = false) ∧
     ((new (b + R.FELT_SP_ENG)).valid = false)) ∧
    (∃ (s : State) (m : Master) (f : Fin 96) (v : Word),
     let b := feltB f
     let x := s.felt f
     ∃ h,
     (x.host = some h) ∧
     (h.valid = true) ∧
     (Accepts s m (b + R.FELT_SRC) v) ∧
     (bits v.toNat 2 0 = 0) ∧
     (bits v.toNat 7 4 = s.fld b F.FELT_SRC_BLK_SEL) ∧
     (feltSel s f = 1)) ∧
    (∃ (s : State) (f : Fin 96),
     let b := feltB f
     ∃ k j : BitVec 4,
     (s.pwr.core = true) ∧
     (s.flag b F.FELT_SRC_PIN_EN = true) ∧
     (feltDefined s f = true)) :=
  ⟨⟨(fe 1 [] hx), .spi, 3, 1#32, ⟨⟨by decide +kernel, by decide +kernel⟩, by decide +kernel⟩, by decide +kernel,
    by decide +kernel⟩,
   ⟨(fe 1 [] hx), .spi, 3, 0#32, ⟨⟨by decide +kernel, by decide +kernel⟩, by decide +kernel⟩, by decide +kernel⟩,
   ⟨(fe 1 [] hx), .spi, 3, 1#32, ⟨⟨by decide +kernel, by decide +kernel⟩, by decide +kernel⟩, by decide +kernel,
    by decide +kernel⟩,
   ⟨(fe 1 [] hx), .spi, 3, 0#32, ⟨⟨by decide +kernel, by decide +kernel⟩, by decide +kernel⟩, by decide +kernel,
    by decide +kernel⟩,
   ⟨(spw (fe 6 [(F.FELT_SRC_SEL,1),(F.FELT_SRC_PIN_EN,1)] hx)), .spi, 3, 0#32,
    ({ ctrl := 0x00000001#32, v := 0x3f800000#32, i := 0x3f800000#32, iSrc := 0x3f800000#32, iSnk := 0x3f800000#32, x := 0x3f800000#32, slewV := 0x3f800000#32, slewI := 0x3f800000#32 }), by decide +kernel, by decide +kernel, ⟨⟨by decide +kernel, by decide +kernel⟩,
    by decide +kernel⟩, by decide +kernel, by decide +kernel, by decide +kernel⟩,
   ⟨(spw (fe 6 [(F.FELT_SRC_SEL,1),(F.FELT_SRC_PIN_EN,1)] hx)), 3, 0xf#4, 0xf#4, by decide +kernel, by decide +kernel,
    by decide +kernel⟩⟩
theorem witness_RegulationEnds :
    (∃ (s : State) (f : Fin 96),
     (s.pwr.core = true) ∧
     let b := feltB f
     (feltRuns s f = true) ∧
     (s.flag b F.FELT_STATUS_IN_REG = false) ∧
     (noSlew s f = true) ∧
     (s.fld b F.FELT_STATUS_ALLOW_LIM = 0) ∧
     (inBand s f = true)) ∧
    (∃ (s : State) (f : Fin 96),
     (s.pwr.core = true) ∧
     let b := feltB f
     (s.flag b F.FELT_STATUS_IN_REG = true) ∧
     (noSlew s f = true) ∧
     (inBand s f = false)) ∧
    (∃ (s : State) (f : Fin 96),
     (s.pwr.core = true) ∧
     (feltRuns s f = true) ∧
     (battTaper s f = false) ∧
     (battEmpty s f = true) ∧
     (feltF s f F.FELT_STOP_MODE ≠ 1)) ∧
    (∃ (s : State) (f : Fin 96),
     (s.pwr.core = true) ∧
     (feltRuns s f = true) ∧
     (leaderLost s f = true) ∧
     (feltF s f F.FELT_STOP_MODE ≠ 1)) :=
  ⟨⟨(fe 6 [(F.FELT_STATUS_MODE,2),(F.FELT_CTRL_EN,1)] fun x => {hx x with iRef := one, iRaw := one, iAvg := one}), 3, by decide +kernel, by decide +kernel, by decide +kernel, by decide +kernel, by decide +kernel, by decide +kernel⟩,
   ⟨(fe 6 [(F.FELT_STATUS_MODE,2),(F.FELT_CTRL_EN,1),(F.FELT_STATUS_IN_REG,1)] fun x =>
    {hx x with iRef := one, iRaw := one, iAvg := 0}), 3, by decide +kernel, by decide +kernel, by decide +kernel, by decide +kernel⟩,
   ⟨(fe 6 [(F.FELT_STATUS_MODE,7),(F.FELT_CTRL_EN,1),(F.FELT_STATUS_IN_REG,1)] fun x =>
    {hx x with iRef := one, iRaw := one, iAvg := 0, vFb := one}), 3, by decide +kernel, by decide +kernel, by decide +kernel, by decide +kernel, by decide +kernel⟩,
   ⟨(F' (fe 6 [(F.FELT_STATUS_MODE,1),(F.FELT_SRC_SEL,4),(F.FELT_CTRL_EN,1),(F.FELT_STATUS_IN_REG,1),(F.FELT_TRACK_LEADER,5),(F.FELT_TRACK_KIND,1)] fun x =>
     {hx x with iRef := one, iRaw := one, iAvg := 0, vFb := one, src := 4}) (feltB 5) [(F.FELT_STATUS_STATE,9)]), 3, by decide +kernel, by decide +kernel, by decide +kernel, by decide +kernel⟩⟩
end Felts

namespace Times
def tb : State := { F' base timeB [(F.TIME_WR_SEC_SEC, 100), (F.TIME_WR_NS_NS, 137), (F.TIME_BELL_SEC_SEC,200),(F.TIME_BELL_NS_NS,7)] with time := { base.time with counting := true, residue := 0 }, lineNs := 5000000123, timeOfs := 30 }
def tr (r st : Nat) (q : List (Fld × Nat)) : State := F' tb timeB ([(F.TIME_STATUS_REF, r), (F.TIME_STATUS_STATE, st), (F.TIME_REF_CFG_XTAL_EN,1),(F.TIME_REF_CFG_REFIN_EN,1),(F.TIME_REF_CFG_CAS_EN,1)] ++ q)
def crown (s : State) : State := F' (F' s casB [(F.CAS_STATUS_ROLE,1)]) 0 [(F.SYS_IMG_VER_CABINET_SIZE, 3)]
def brim (s : State) : State := F' (F' s casB [(F.CAS_STATUS_ROLE,2)]) 0 [(F.SYS_IMG_VER_CABINET_SIZE, 3),(F.SYS_IMG_VER_POSITION,1)]
def pk (cls sub : Nat) (body : List Word) : CasPkt := ⟨cls, 2, 0, false, sub, body⟩
def rx (s : State) (p : CasPkt) : State := { s with casRx := [p, pk 9 9 []] }
/-- A brim that a TIME error has reached, joining or not. -/
def told (l : List (Fld × Nat)) (join : Option Int) : State :=
  let s := rx (F' (brim tb) timeB l) (pk 2 2 [3])
  { s with time := { s.time with joinAt := join } }
def br : State := F' (F' (F' {tb with time := {tb.time with bell := some 5000000153}} (tmrB 3) [(F.TMR_STATUS_STATE,1)]) timeB [(F.TIME_BELL_TMR_LO_MASK, 9),(F.TIME_BELL_CTRL_COUNT,0xffff),(F.TIME_BELL_CTRL_PENDING,1),(F.TIME_BELL_CTRL_ACKED,1)]) (feltB 7) [(F.FELT_WF_STAT_STATE,1)]
def ls (l : List (Fld × Nat)) : State := F' tb (feltB 3) ([(F.FELT_SRC_SEL,3),(F.FELT_STATUS_MODE,1),(F.FELT_STATUS_STATE,6),(F.FELT_WF_LEN_LEN,4),(F.FELT_WF_LEN_LOOP_IDX,1),(F.FELT_WF_BASE_BASE,0x2000010)] ++ l)
def P0 : WfPoint := ⟨100, 0x3f800000⟩
def lr (x : ListX) (l : List (Fld × Nat)) : State := (ls l).setWf 3 x
def x0 : ListX := { (tb.wf 3) with pts := [(0,P0),(1,⟨50,0x40000000⟩),(3,⟨70,0x40400000⟩)], due := true, org := 777 }

theorem witness_CabinetTime :
    (∃ (s : State) (m : Master),
     let b := timeB
     (Readable s m (b + R.TIME_NS))) ∧
    (∃ (s : State) (m : Master),
     let b := timeB
     let sound := s.fld b F.TIME_WR_NS_NS < 1000000000 ∧ s.time.counting = true
     (Accepts s m (b + R.TIME_APPLY) 1#32) ∧
     (sound) ∧
     (s.cabinetSize ≤ 1) ∧
     (s.isBrim = false) ∧
     (s.time.residue = 0)) ∧
    (∃ (s : State) (m : Master),
     let b := timeB
     let sound := s.fld b F.TIME_WR_NS_NS < 1000000000 ∧ s.time.counting = true
     (Accepts s m (b + R.TIME_APPLY) 1#32) ∧
     (¬ sound ∨ 1 < s.cabinetSize)) ∧
    (∃ (s : State) (m : Master),
     let b := timeB
     let sound := s.fld b F.TIME_WR_NS_NS < 1000000000 ∧ s.time.counting = true
     (Accepts s m (b + R.TIME_APPLY) 3#32) ∧
     (sound)) ∧
    (∃ (s : State) (m : Master),
     let b := timeB
     let sound := s.fld b F.TIME_WR_NS_NS < 1000000000 ∧ s.time.counting = true
     (Accepts s m (b + R.TIME_APPLY) 3#32) ∧
     (¬ sound)) ∧
    (∃ (s : State),
     (s.pwr.core = true) ∧
     (s.isBrim = false)) :=
  ⟨⟨tb, .spi, ⟨⟨by decide +kernel, by decide +kernel⟩, by decide +kernel⟩⟩,
   ⟨tb, .spi, ⟨⟨by decide +kernel, by decide +kernel⟩, by decide +kernel⟩, by decide +kernel, by decide +kernel,
    by decide +kernel, by decide +kernel⟩,
   ⟨(F' tb 0 [(F.SYS_IMG_VER_CABINET_SIZE, 3)]), .spi, ⟨⟨by decide +kernel, by decide +kernel⟩, by decide +kernel⟩,
    by decide +kernel⟩,
   ⟨tb, .spi, ⟨⟨by decide +kernel, by decide +kernel⟩, by decide +kernel⟩, by decide +kernel⟩,
   ⟨(F' tb timeB [(F.TIME_WR_NS_NS, 1000000001)]), .spi, ⟨⟨by decide +kernel, by decide +kernel⟩, by decide +kernel⟩,
    by decide +kernel⟩,
   ⟨tb, by decide +kernel, by decide +kernel⟩⟩
theorem witness_TimeReferences :
    (∃ (s : State),
     (s.pwr.core = true) ∧
     ∃ refIn : Bool,
     (s.time.counting = false)) ∧
    (∃ (s : State) (r : Fin 3),
     (s.pwr.core = true) ∧
     let b := timeB
     let enabled : Bool := if r.val = 0 then s.isBrim && s.flag b F.TIME_REF_CFG_CAS_EN else
       if r.val = 1 then s.flag b F.TIME_REF_CFG_REFIN_EN else s.flag b F.TIME_REF_CFG_XTAL_EN
     (s.time.counting = true) ∧
     (enabled = true) ∧
     (s.fld b F.TIME_STATUS_REF ≠ r.val) ∧
     ((∀ k : Fin 3, k < r → refUsable s k.val = false)) ∧
     ((r.val = 0 → casState s (s.fld casB F.CAS_STATUS_UPSTREAM) = 6))) ∧
    (∃ (s : State) (r : Fin 3),
     (s.pwr.core = true) ∧
     let b := timeB
     let qual : Fld := if r.val = 0 then F.TIME_STATUS_QUAL_CAS else if r.val = 1 then F.TIME_STATUS_QUAL_REFIN else F.TIME_STATUS_QUAL_XTAL
     let left := [0, 1, 2].filter (fun k => k != r.val && refUsable s k)
     (s.time.counting = true) ∧
     (s.flag b qual = true) ∧
     (s.fld b F.TIME_STATUS_REF = r.val) ∧
     (s.fld b F.TIME_STATUS_STATE ≠ 3) ∧
     (left.head? = none)) ∧
    (∃ (s : State) (r : Fin 3) (k : Nat),
     (s.pwr.core = true) ∧
     let b := timeB
     let qual : Fld := if r.val = 0 then F.TIME_STATUS_QUAL_CAS else if r.val = 1 then F.TIME_STATUS_QUAL_REFIN else F.TIME_STATUS_QUAL_XTAL
     let left := [0, 1, 2].filter (fun k => k != r.val && refUsable s k)
     (s.time.counting = true) ∧
     (s.flag b qual = true) ∧
     (s.fld b F.TIME_STATUS_REF = r.val) ∧
     (s.fld b F.TIME_STATUS_STATE ≠ 3) ∧
     (left.head? = some k)) ∧
    (∃ (s : State),
     (s.pwr.core = true) ∧
     let b := timeB
     ∃ ppb : BitVec 32,
     (s.fld b F.TIME_STATUS_STATE = 2)) ∧
    (∃ (s : State),
     (s.pwr.core = true) ∧
     let b := timeB
     let limit := max 1 (min 3600 (s.fld b F.TIME_HOLD_LIMIT))
     (s.fld b F.TIME_STATUS_STATE = 3) ∧
     (s.fld b F.TIME_STATUS_HOLD_S < limit)) :=
  ⟨⟨{tb with time := {tb.time with counting := false}}, by decide +kernel, true, by decide +kernel⟩,
   ⟨(tr 2 2 []), (1 : Fin 3), by decide +kernel, by decide +kernel, by decide +kernel, by decide +kernel, by decide +kernel,
    by decide +kernel⟩,
   ⟨(tr 2 1 [(F.TIME_STATUS_QUAL_XTAL,1)]), (2 : Fin 3), by decide +kernel, by decide +kernel, by decide +kernel,
    by decide +kernel, by decide +kernel, by decide +kernel⟩,
   ⟨(tr 2 1 [(F.TIME_STATUS_QUAL_XTAL,1),(F.TIME_STATUS_QUAL_REFIN,1)]), (2 : Fin 3), 1, by decide +kernel, by decide +kernel,
    by decide +kernel, by decide +kernel, by decide +kernel, by decide +kernel⟩,
   ⟨(tr 2 2 []), by decide +kernel, 0x00000000#32, by decide +kernel⟩,
   ⟨(tr 3 3 [(F.TIME_HOLD_LIMIT,20)]), by decide +kernel, by decide +kernel, by decide +kernel⟩⟩
theorem witness_TimeProbes :
    (∃ (s : State),
     (s.pwr.core = true) ∧
     (s.isCrown = true)) ∧
    (∃ (s : State) (p : CasPkt) (q : List CasPkt) (mc : BitVec 32),
     (s.pwr.core = true) ∧
     let w := fun k => p.body.getD k 0#32
     (s.casRx = p :: q) ∧
     (p.cls = 2) ∧
     (p.sub = 1) ∧
     ((w 3).toNat + (w 0).toNat ≤ mc.toNat)) ∧
    (∃ (s : State) (p : CasPkt) (q : List CasPkt),
     (s.pwr.core = true) ∧
     let gliding := s.fld timeB F.TIME_STATUS_STATE = 2 ∧ s.fld timeB F.TIME_STATUS_REF = 0
     (s.casRx = p :: q) ∧
     (p.cls = 2) ∧
     (p.sub = 2) ∧
     (s.time.joinAt = none) ∧
     (gliding)) ∧
    (∃ (s : State) (p : CasPkt) (q : List CasPkt),
     (s.pwr.core = true) ∧
     let gliding := s.fld timeB F.TIME_STATUS_STATE = 2 ∧ s.fld timeB F.TIME_STATUS_REF = 0
     (s.casRx = p :: q) ∧
     (p.cls = 2) ∧
     (p.sub = 2) ∧
     (s.time.joinAt = none) ∧
     (¬ gliding)) ∧
    (∃ (s : State) (p : CasPkt) (q : List CasPkt),
     (s.pwr.core = true) ∧
     let rejoins := s.time.joined = true ∧ ∃ f, f < 96 ∧ feltSwitching s f = true
     (s.casRx = p :: q) ∧
     (p.cls = 2) ∧
     (p.sub = 2) ∧
     ∃ d,
     (s.time.joinAt = some d) ∧
     (¬ rejoins)) ∧
    (∃ (s : State) (p : CasPkt) (q : List CasPkt),
     (s.pwr.core = true) ∧
     let rejoins := s.time.joined = true ∧ ∃ f, f < 96 ∧ feltSwitching s f = true
     (s.casRx = p :: q) ∧
     (p.cls = 2) ∧
     (p.sub = 2) ∧
     ∃ d,
     (s.time.joinAt = some d) ∧
     (rejoins)) :=
  ⟨⟨(crown tb), by decide +kernel, by decide +kernel⟩,
   ⟨(let p := pk 2 1 [100,5,1200,40]; (rx (crown tb) p)), (let p := pk 2 1 [100,5,1200,40]; p), [pk 9 9 []], 5000, by decide +kernel, by decide +kernel, by decide +kernel, by decide +kernel, by decide +kernel⟩,
   ⟨told [(F.TIME_STATUS_STATE,2)] none, pk 2 2 [3], [pk 9 9 []], by decide +kernel, by decide +kernel, by decide +kernel, by decide +kernel, by decide +kernel, by decide +kernel⟩,
   ⟨told [(F.TIME_STATUS_STATE,1)] none, pk 2 2 [3], [pk 9 9 []], by decide +kernel, by decide +kernel, by decide +kernel, by decide +kernel, by decide +kernel, by decide +kernel⟩,
   ⟨told [(F.TIME_STATUS_STATE,1)] (some 7), pk 2 2 [3], [pk 9 9 []], by decide +kernel, by decide +kernel, by decide +kernel, by decide +kernel, 7, by decide +kernel, by decide +kernel⟩,
   ⟨(let s := told [(F.TIME_STATUS_STATE,1)] (some 7); { Felts.fe 6 [] Felts.hx with time := {s.time with joined := true}, casRx := s.casRx }), pk 2 2 [3], [pk 9 9 []], by decide +kernel, by decide +kernel, by decide +kernel, by decide +kernel, 7, by decide +kernel, by decide +kernel⟩⟩
theorem witness_BellArming :
    (∃ (s : State) (m : Master),
     let b := timeB
     let at_ := timeOfWords (s.rd (b + R.TIME_BELL_SEC)) (s.rd (b + R.TIME_BELL_NS))
     let lead := if s.isCrown then bellLead s else 1000
     let sound := s.time.bell = none ∧ s.fld b F.TIME_BELL_NS_NS < 1000000000 ∧ s.time.counting = true ∧ s.cabNs + lead ≤ at_
     (Accepts s m (b + R.TIME_BELL_CTRL) 1#32) ∧
     (sound)) ∧
    (∃ (s : State) (m : Master),
     let b := timeB
     let at_ := timeOfWords (s.rd (b + R.TIME_BELL_SEC)) (s.rd (b + R.TIME_BELL_NS))
     let lead := if s.isCrown then bellLead s else 1000
     let sound := s.time.bell = none ∧ s.fld b F.TIME_BELL_NS_NS < 1000000000 ∧ s.time.counting = true ∧ s.cabNs + lead ≤ at_
     (Accepts s m (b + R.TIME_BELL_CTRL) 1#32) ∧
     (¬ sound)) ∧
    (∃ (s : State) (m : Master),
     let b := timeB
     (Accepts s m (b + R.TIME_BELL_CTRL) 2#32)) ∧
    (∃ (s : State) (p : CasPkt) (q : List CasPkt),
     (s.pwr.core = true) ∧
     (s.casRx = p :: q) ∧
     (p.cls = 3) ∧
     (p.sub = 0) ∧
     (s.cabNs ≤ timeOfWords (p.body.getD 0 0#32) (p.body.getD 1 0#32))) ∧
    (∃ (s : State) (p : CasPkt) (q : List CasPkt),
     (s.pwr.core = true) ∧
     (s.casRx = p :: q) ∧
     (p.cls = 3) ∧
     (p.sub = 1)) ∧
    (∃ (s : State) (p : CasPkt) (q : List CasPkt),
     (s.pwr.core = true) ∧
     (s.casRx = p :: q) ∧
     (p.cls = 3) ∧
     (p.sub = 2) ∧
     (s.isCrown = true) ∧
     (s.time.bell ≠ none)) :=
  ⟨⟨tb, .spi, ⟨⟨by decide +kernel, by decide +kernel⟩, by decide +kernel⟩, by decide +kernel⟩,
   ⟨{crown tb with time := {tb.time with bell := some 7}}, .spi, ⟨⟨by decide +kernel, by decide +kernel⟩, by decide +kernel⟩,
    by decide +kernel⟩,
   ⟨tb, .spi, ⟨⟨by decide +kernel, by decide +kernel⟩, by decide +kernel⟩⟩,
   ⟨(let p := pk 3 0 [200, 5]; (rx (brim tb) p)), (let p := pk 3 0 [200, 5]; p), [pk 9 9 []], by decide +kernel,
    by decide +kernel, by decide +kernel, by decide +kernel, by decide +kernel⟩,
   ⟨(let p := pk 3 1 []; (rx {brim tb with time := {tb.time with bell := some 7}} p)), (let p := pk 3 1 []; p), [pk 9 9 []],
    by decide +kernel, by decide +kernel, by decide +kernel, by decide +kernel⟩,
   ⟨(let p := pk 3 2 []; (rx {crown tb with time := {tb.time with bell := some 7, acked := []}} p)), (let p := pk 3 2 []; p),
    [pk 9 9 []], by decide +kernel, by decide +kernel, by decide +kernel, by decide +kernel, by decide +kernel,
    by decide +kernel⟩⟩
theorem witness_BellRings :
    (∃ (s : State) (at_ : Nat),
     (Awake s) ∧
     (s.time.bell = some at_) ∧
     (s.time.counting = true) ∧
     (s.isCrown = false) ∧
     (s.time.pendApply = none) ∧
     (at_ < s.cabNs)) ∧
    (∃ (s : State) (at_ : Nat),
     (Awake s) ∧
     (s.time.bell = some at_) ∧
     (s.time.counting = true) ∧
     (s.isCrown = false) ∧
     (s.time.pendApply = none) ∧
     (s.cabNs ≤ at_)) :=
  ⟨⟨{br with time := {br.time with bell := some 500}}, 500, ⟨by decide +kernel, by decide +kernel⟩, by decide +kernel,
    by decide +kernel, by decide +kernel, by decide +kernel, by decide +kernel⟩,
   ⟨br, 5000000153, ⟨by decide +kernel, by decide +kernel⟩, by decide +kernel, by decide +kernel, by decide +kernel,
    by decide +kernel, by decide +kernel⟩⟩
theorem witness_ListControl :
    (∃ (s : State) (m : Master) (f : Fin 96) (v : Word),
     let b := feltB f
     let base := s.fld b F.FELT_WF_BASE_BASE
     let len := s.fld b F.FELT_WF_LEN_LEN
     let code := if feltSel s f ≠ 3 then 1 else if feltMode s f ≠ 1 ∧ feltMode s f ≠ 2 ∧ feltMode s f ≠ 5 then 2
       else if feltState s f ≠ 6 then 3 else if s.hold then 4
       else if s.fld b F.FELT_WF_STAT_STATE = 1 ∨ s.fld b F.FELT_WF_STAT_STATE = 2 then 5
       else if len = 0 ∨ 4096 < len ∨ len ≤ s.fld b F.FELT_WF_LEN_LOOP_IDX then 6
       else if base % 8 ≠ 0 ∨ base < 0x2000000 ∨ 0x2400000 < base + 8 * len then 7
       else if v.getLsbD 4 = true ∧ s.cabinetSize ≠ 1 then 8 else 0
     (Accepts s m (b + R.FELT_WF_CTRL) v) ∧
     (v.getLsbD 0 = true) ∧
     (v.getLsbD 1 = false) ∧
     (v.getLsbD 2 = false) ∧
     (code = 0)) ∧
    (∃ (s : State) (m : Master) (f : Fin 96) (v : Word),
     let b := feltB f
     let base := s.fld b F.FELT_WF_BASE_BASE
     let len := s.fld b F.FELT_WF_LEN_LEN
     let code := if feltSel s f ≠ 3 then 1 else if feltMode s f ≠ 1 ∧ feltMode s f ≠ 2 ∧ feltMode s f ≠ 5 then 2
       else if feltState s f ≠ 6 then 3 else if s.hold then 4
       else if s.fld b F.FELT_WF_STAT_STATE = 1 ∨ s.fld b F.FELT_WF_STAT_STATE = 2 then 5
       else if len = 0 ∨ 4096 < len ∨ len ≤ s.fld b F.FELT_WF_LEN_LOOP_IDX then 6
       else if base % 8 ≠ 0 ∨ base < 0x2000000 ∨ 0x2400000 < base + 8 * len then 7
       else if v.getLsbD 4 = true ∧ s.cabinetSize ≠ 1 then 8 else 0
     (Accepts s m (b + R.FELT_WF_CTRL) v) ∧
     (v.getLsbD 0 = true) ∧
     (v.getLsbD 1 = false) ∧
     (v.getLsbD 2 = false) ∧
     (code ≠ 0)) ∧
    (∃ (s : State) (m : Master) (f : Fin 96),
     let b := feltB f
     (Accepts s m (b + R.FELT_WF_CTRL) (fset (s.kept (b + R.FELT_WF_CTRL)) F.FELT_WF_CTRL_STOP 1)) ∧
     (s.fld b F.FELT_WF_STAT_STATE = 2)) ∧
    (∃ (s : State) (m : Master) (f : Fin 96),
     let b := feltB f
     (Accepts s m (b + R.FELT_WF_CTRL) (fset (s.kept (b + R.FELT_WF_CTRL)) F.FELT_WF_CTRL_ABORT 1)) ∧
     (s.fld b F.FELT_WF_STAT_STATE = 1 ∨ s.fld b F.FELT_WF_STAT_STATE = 2)) :=
  ⟨⟨(ls []), .spi, 3, 0x30101, ⟨⟨by decide +kernel, by decide +kernel⟩, by decide +kernel⟩, by decide +kernel,
    by decide +kernel, by decide +kernel, by decide +kernel⟩,
   ⟨(ls []), .spi, 3, 0x30111, ⟨⟨by decide +kernel, by decide +kernel⟩, by decide +kernel⟩, by decide +kernel,
    by decide +kernel, by decide +kernel, by decide +kernel⟩,
   ⟨(ls [(F.FELT_WF_STAT_STATE,2)]), .spi, 3, ⟨⟨by decide +kernel, by decide +kernel⟩, by decide +kernel⟩, by decide +kernel⟩,
   ⟨(ls [(F.FELT_WF_STAT_STATE,2)]), .spi, 3, ⟨⟨by decide +kernel, by decide +kernel⟩, by decide +kernel⟩, by decide +kernel⟩⟩
theorem witness_ListSupplies :
    (∃ (s : State) (f : Fin 96) (t : SpSet),
     (s.pwr.core = true) ∧
     (feltDefined s f = true) ∧
     (feltSwitching s f = true) ∧
     (feltState s f ≠ 13) ∧
     let x := s.felt f
     let u := feltLatch s f
     let base := if t.mode = 2 then t.i else t.v
     let given := wfValue u f (s.lineNs + wfAdv u f) base
     (max 1 (feltF s f F.FELT_LOOP_DEC) ≤ x.vCnt) ∧
     (x.vAcc ≠ []) ∧
     (x.set = some t) ∧
     (x.next = none) ∧
     (x.stop = 0) ∧
     (x.ramp = 0) ∧
     (x.portTrack = false) ∧
     ((∀ n, portFelt? s n ≠ some f.val)) ∧
     (wfDrives u f = true) ∧
     (feltMode s f = t.mode) ∧
     (given = none) ∧
     ((s.wf f).under = false)) ∧
    (∃ (s : State) (f : Fin 96) (t : SpSet),
     (s.pwr.core = true) ∧
     (feltDefined s f = true) ∧
     (feltSwitching s f = true) ∧
     (feltState s f ≠ 13) ∧
     let x := s.felt f
     let u := feltLatch s f
     let base := if t.mode = 2 then t.i else t.v
     let given := wfValue u f (s.lineNs + wfAdv u f) base
     (max 1 (feltF s f F.FELT_LOOP_DEC) ≤ x.vCnt) ∧
     (x.vAcc ≠ []) ∧
     (x.set = some t) ∧
     (x.next = none) ∧
     (x.stop = 0) ∧
     (x.ramp = 0) ∧
     (x.portTrack = false) ∧
     ((∀ n, portFelt? s n ≠ some f.val)) ∧
     (wfDrives u f = true) ∧
     (feltMode s f = t.mode) ∧
     (given = none) ∧
     (t.mode = 2)) ∧
    (∃ (s : State) (f : Fin 96) (t : SpSet),
     (s.pwr.core = true) ∧
     (feltDefined s f = true) ∧
     (feltSwitching s f = true) ∧
     (feltState s f ≠ 13) ∧
     let x := s.felt f
     let u := feltLatch s f
     let base := if t.mode = 2 then t.i else t.v
     let given := wfValue u f (s.lineNs + wfAdv u f) base
     (max 1 (feltF s f F.FELT_LOOP_DEC) ≤ x.vCnt) ∧
     (x.vAcc ≠ []) ∧
     (x.set = some t) ∧
     (x.next = none) ∧
     (x.stop = 0) ∧
     (x.ramp = 0) ∧
     (x.portTrack = false) ∧
     ((∀ n, portFelt? s n ≠ some f.val)) ∧
     (wfDrives u f = true) ∧
     (feltMode s f = t.mode) ∧
     (given = none) ∧
     (t.mode ≠ 2)) :=
  ⟨⟨(Felts.fe 6 [(F.FELT_STATUS_MODE,1),(F.FELT_SRC_SEL,3),(F.FELT_WF_STAT_STATE,2),(F.FELT_WF_LEN_LEN,4)] fun x => {Felts.hx x with vCnt := 1, vAcc := [Felts.one,0], set := some Felts.vs}), 3, Felts.vs, by decide +kernel, by decide +kernel, by decide +kernel, by decide +kernel, by decide +kernel, by decide +kernel, by decide +kernel, by decide +kernel, by decide +kernel, by decide +kernel, by decide +kernel, (fun _ h => nomatch (show (none : Option Nat) = some _ from h)), by decide +kernel, by decide +kernel, by decide +kernel, by decide +kernel⟩,
   ⟨(Felts.fe 6 [(F.FELT_STATUS_MODE,2),(F.FELT_SRC_SEL,3),(F.FELT_WF_STAT_STATE,2),(F.FELT_WF_LEN_LEN,4)] fun x => {Felts.hx x with vCnt := 1, vAcc := [Felts.one,0], set := some {Felts.vs with ctrl := 2}}), 3, {Felts.vs with ctrl := 2}, by decide +kernel, by decide +kernel, by decide +kernel, by decide +kernel, by decide +kernel, by decide +kernel, by decide +kernel, by decide +kernel, by decide +kernel, by decide +kernel, by decide +kernel, (fun _ h => nomatch (show (none : Option Nat) = some _ from h)), by decide +kernel, by decide +kernel, by decide +kernel, by decide +kernel⟩,
   ⟨(Felts.fe 6 [(F.FELT_STATUS_MODE,1),(F.FELT_SRC_SEL,3),(F.FELT_WF_STAT_STATE,2),(F.FELT_WF_LEN_LEN,4)] fun x => {Felts.hx x with vCnt := 1, vAcc := [Felts.one,0], set := some Felts.vs}), 3, Felts.vs, by decide +kernel, by decide +kernel, by decide +kernel, by decide +kernel, by decide +kernel, by decide +kernel, by decide +kernel, by decide +kernel, by decide +kernel, by decide +kernel, by decide +kernel, (fun _ h => nomatch (show (none : Option Nat) = some _ from h)), by decide +kernel, by decide +kernel, by decide +kernel, by decide +kernel⟩⟩
theorem witness_ListRuns :
    (∃ (s : State) (f : Fin 96),
     (s.pwr.core = true) ∧
     let b := feltB f
     let x := s.wf f
     let sound := fun j => ∀ y, wfPoint s f j = some y → y.ok = true
     (s.fld b F.FELT_WF_STAT_STATE = 1) ∧
     (x.due = true) ∧
     (wfCheck s f true = 0) ∧
     (sound 0)) ∧
    (∃ (s : State) (f : Fin 96) (p : WfPoint),
     (s.pwr.core = true) ∧
     let b := feltB f
     let x := s.wf f
     let k := s.fld b F.FELT_WF_STAT_POINT
     let sound := fun j => ∀ y, wfPoint s f j = some y → y.ok = true
     (s.fld b F.FELT_WF_STAT_STATE = 2) ∧
     (wfPoint s f k = some p) ∧
     (x.stopping = false) ∧
     (k + 1 < s.fld b F.FELT_WF_LEN_LEN) ∧
     (sound (k + 1))) ∧
    (∃ (s : State) (f : Fin 96) (p : WfPoint),
     (s.pwr.core = true) ∧
     let b := feltB f
     let x := s.wf f
     let k := s.fld b F.FELT_WF_STAT_POINT
     let left := s.fld b F.FELT_WF_LOOP_LOOPS_LEFT
     let sound := fun j => ∀ y, wfPoint s f j = some y → y.ok = true
     let more := s.fld b F.FELT_WF_CTRL_LOOPS = 0 ∨ left ≠ 0
     (s.fld b F.FELT_WF_STAT_STATE = 2) ∧
     (wfPoint s f k = some p) ∧
     (x.stopping = false) ∧
     (s.fld b F.FELT_WF_LEN_LEN ≤ k + 1) ∧
     (more) ∧
     (s.hold = false) ∧
     (sound (s.fld b F.FELT_WF_LEN_LOOP_IDX))) ∧
    (∃ (s : State) (f : Fin 96) (p : WfPoint),
     (s.pwr.core = true) ∧
     let b := feltB f
     let x := s.wf f
     let k := s.fld b F.FELT_WF_STAT_POINT
     let left := s.fld b F.FELT_WF_LOOP_LOOPS_LEFT
     let more := s.fld b F.FELT_WF_CTRL_LOOPS = 0 ∨ left ≠ 0
     (s.fld b F.FELT_WF_STAT_STATE = 2) ∧
     (wfPoint s f k = some p) ∧
     (x.stopping = false) ∧
     (s.fld b F.FELT_WF_LEN_LEN ≤ k + 1) ∧
     (¬ more) ∧
     (s.fld b F.FELT_WF_CTRL_END ≤ 1) ∧
     (s.fld b F.FELT_WF_CTRL_END = 0)) ∧
    (∃ (s : State) (f : Fin 96) (n : Fin 4096),
     (s.pwr.core = true) ∧
     let b := feltB f
     let k := s.fld b F.FELT_WF_STAT_POINT
     (s.fld b F.FELT_WF_STAT_STATE = 1 ∨ s.fld b F.FELT_WF_STAT_STATE = 2 ∧ k ≠ n) ∧
     (wfReads s f n = true)) ∧
    (∃ (s : State) (f : Fin 96) (n : Fin 4096),
     (s.pwr.core = true) ∧
     (wfReads s f n = false)) :=
  ⟨⟨(lr x0 [(F.FELT_WF_STAT_STATE,1),(F.FELT_WF_CTRL_LOOPS,3)]), 3, by decide +kernel, by decide +kernel, by decide +kernel,
    by decide +kernel, by decide +kernel⟩,
   ⟨(lr x0 [(F.FELT_WF_STAT_STATE,2),(F.FELT_WF_CTRL_LOOPS,3)]), 3, P0, by decide +kernel, by decide +kernel, by decide +kernel,
    by decide +kernel, by decide +kernel, by decide +kernel⟩,
   ⟨(lr x0 [(F.FELT_WF_STAT_STATE,2),(F.FELT_WF_CTRL_LOOPS,3),(F.FELT_WF_STAT_POINT,3),(F.FELT_WF_LOOP_LOOPS_LEFT,2)]), 3,
    ⟨70,0x40400000⟩, by decide +kernel, by decide +kernel, by decide +kernel, by decide +kernel, by decide +kernel,
    by decide +kernel, by decide +kernel, by decide +kernel⟩,
   ⟨(lr x0 [(F.FELT_WF_STAT_STATE,2),(F.FELT_WF_CTRL_LOOPS,3),(F.FELT_WF_STAT_POINT,3)]), 3, ⟨70,0x40400000⟩, by decide +kernel,
    by decide +kernel, by decide +kernel, by decide +kernel, by decide +kernel, by decide +kernel, by decide +kernel,
    by decide +kernel⟩,
   ⟨(lr x0 [(F.FELT_WF_STAT_STATE,1),(F.FELT_WF_CTRL_LOOPS,3)]), 3, 2, by decide +kernel, by decide +kernel, by decide +kernel⟩,
   ⟨(lr x0 [(F.FELT_WF_STAT_STATE,1),(F.FELT_WF_CTRL_LOOPS,3)]), 3, 4000, by decide +kernel, by decide +kernel⟩⟩
/-- A register of a phase has no action of its own (R24). -/
theorem plainPhs {h : Nat} {m : Master} {v old : Word} (a : 0xF0000 ≤ h) (b : h < 0x180000) : ∀ u, regAction u m h v old = u := by
  intro u
  unfold regAction
  simp only [show ¬ h < 0x10000 by omega, show ¬ h < 0x20000 by omega, show ¬ h < 0x30000 by omega, show ¬ h < 0x40000 by omega,
    show ¬ h < 0x50000 by omega, show ¬ h < 0x60000 by omega, show ¬ h < 0x70000 by omega, show ¬ h < 0x70800 by omega,
    show ¬ h < 0x80000 by omega, show ¬ h < 0x90000 by omega, show ¬ h < 0xA0000 by omega, show ¬ h < 0xB0000 by omega,
    show ¬ h < 0xC0000 by omega, show ¬ h < 0xD0000 by omega, show ¬ h < 0xE0000 by omega, show ¬ h < 0xE8000 by omega,
    show ¬ h < 0xF0000 by omega, b, if_false, if_true]
theorem witness_RegisterWrite_1 :
    (∃ (s : State) (m : Master) (a : Word),
     (Awake s) ∧
     (a.toNat < 0x1000000) ∧
     let h := a.toNat
     (h % 4 ≠ 0 ∨ regRow h = none ∨ passOk s m true h = false)) ∧
    (∃ (s : State) (m : Master) (a : Word),
     (Awake s) ∧
     (a.toNat < 0x1000000) ∧
     let h := a.toNat
     ∃ r,
     (regRow h = some r) ∧
     (h % 4 = 0) ∧
     ((r.rwl ≠ 0 ∧ s.fld 0 F.SYS_IMG_STATUS_LOCKED = 1 ∧ m ≠ .loader) ∨
             (r.coh = true ∧ s.isBrim = true ∧ m ≠ .loader ∧ m ≠ .cascade ∧ m ≠ .coherent))) ∧
    (∃ (s : State) (m : Master) (a v : Word),
     (Awake s) ∧
     (a.toNat < 0x1000000) ∧
     let h := a.toNat
     let old := s.rd h
     ∃ r,
     (regRow h = some r) ∧
     (h % 4 = 0) ∧
     let plain := isCst h = false ∧ ¬ (fcB + R.FC_REACT ≤ h ∧ h < fcB + R.FC_REACT + 0x400) ∧ isPulseReg h = false ∧ h ≠ busB + R.BUS_CFG ∧
       ∀ u, regAction u m h v old = u
     (regRefused s m false h v = false) ∧
     (plain) ∧
     (r.coh = false)) ∧
    (∃ (s : State) (m : Master) (a v : Word),
     (Awake s) ∧
     (a.toNat < 0x1000000) ∧
     let h := a.toNat
     let old := s.rd h
     ∃ r,
     (regRow h = some r) ∧
     (h % 4 = 0) ∧
     let plain := isCst h = false ∧ ¬ (fcB + R.FC_REACT ≤ h ∧ h < fcB + R.FC_REACT + 0x400) ∧ isPulseReg h = false ∧ h ≠ busB + R.BUS_CFG ∧
       ∀ u, regAction u m h v old = u
     (regRefused s m false h v = false) ∧
     (plain) ∧
     (r.coh = true) ∧
     ((m = .loader ∨ liveApplies s = false)) ∧
     (s.isCrown = false ∨ m = .loader ∨ m = .coherent)) ∧
    (∃ (s : State) (m : Master) (a v : Word),
     (Awake s) ∧
     (a.toNat < 0x1000000) ∧
     let h := a.toNat
     let old := s.rd h
     ∃ r,
     (regRow h = some r) ∧
     (h % 4 = 0) ∧
     let plain := isCst h = false ∧ ¬ (fcB + R.FC_REACT ≤ h ∧ h < fcB + R.FC_REACT + 0x400) ∧ isPulseReg h = false ∧ h ≠ busB + R.BUS_CFG ∧
       ∀ u, regAction u m h v old = u
     (regRefused s m false h v = false) ∧
     (plain) ∧
     (r.coh = true) ∧
     ((m = .loader ∨ liveApplies s = false)) ∧
     (s.isCrown = true) ∧
     (m ≠ .loader) ∧
     (m ≠ .coherent) ∧
     (r.rw ||| r.rwl ≠ 0)) ∧
    (∃ (s : State) (m : Master) (a v : Word),
     (Awake s) ∧
     (a.toNat < 0x1000000) ∧
     let h := a.toNat
     ∃ r,
     (regRow h = some r) ∧
     (h % 4 = 0) ∧
     (regRefused s m false h v = false) ∧
     (r.coh = true) ∧
     (m ≠ .loader) ∧
     (liveApplies s = true)) :=
  ⟨⟨base, .spi, 0x2#32, ⟨by decide +kernel, by decide +kernel⟩, by decide +kernel, by decide +kernel⟩,
   ⟨(Times.brim base), .spi, 0x181984, ⟨by decide +kernel, by decide +kernel⟩, by decide +kernel, ((regRow 0x181984).getD ⟨0,0,0,0,0,0,0,0,0,0,0,0,false⟩), by decide +kernel, by decide +kernel, by decide +kernel⟩,
   ⟨base, .spi, 0x101200, 5, ⟨by decide +kernel, by decide +kernel⟩, by decide +kernel, ((regRow 0x101200).getD ⟨0,0,0,0,0,0,0,0,0,0,0,0,false⟩), by decide +kernel, by decide +kernel, by decide +kernel, ⟨by decide +kernel, by decide +kernel, by decide +kernel, by decide +kernel, plainPhs (by decide) (by decide)⟩, by decide +kernel⟩,
   ⟨base, .spi, 0x101120, 5, ⟨by decide +kernel, by decide +kernel⟩, by decide +kernel, ((regRow 0x101120).getD ⟨0,0,0,0,0,0,0,0,0,0,0,0,false⟩), by decide +kernel, by decide +kernel, by decide +kernel, ⟨by decide +kernel, by decide +kernel, by decide +kernel, by decide +kernel, plainPhs (by decide) (by decide)⟩, by decide +kernel, by decide +kernel, by decide +kernel⟩,
   ⟨(Times.crown base), .spi, 0x101120, 5, ⟨by decide +kernel, by decide +kernel⟩, by decide +kernel, ((regRow 0x101120).getD ⟨0,0,0,0,0,0,0,0,0,0,0,0,false⟩), by decide +kernel, by decide +kernel, by decide +kernel, ⟨by decide +kernel, by decide +kernel, by decide +kernel, by decide +kernel, plainPhs (by decide) (by decide)⟩, by decide +kernel, by decide +kernel, by decide +kernel, by decide +kernel, by decide +kernel, by decide +kernel⟩,
   ⟨(F' { base with img := { base.img with live := true } } 0 [(F.SYS_IMG_STATUS_STATE,2)]), .spi, 0x181984, 5, ⟨by decide +kernel, by decide +kernel⟩, by decide +kernel, ((regRow 0x181984).getD ⟨0,0,0,0,0,0,0,0,0,0,0,0,false⟩), by decide +kernel, by decide +kernel, by decide +kernel, by decide +kernel, by decide +kernel, by decide +kernel⟩⟩
theorem witness_RegisterWrite_2 :
    ∃ (s : State) (m : Master) (a : Word),
    (Awake s) ∧
    (a.toNat < 0x1000000) ∧
    let h := a.toNat
    ∃ r,
    (regRow h = some r) ∧
    (h % 4 = 0) ∧
    (passOk s m false h = true) ∧
    (readSpecial s m h = none) ∧
    (h ≠ busB + R.BUS_ADM_STAT) ∧
    (h ≠ hostB + R.HOST_TW_STAT) :=
  ⟨base, .spi, 0x181884, ⟨by decide +kernel, by decide +kernel⟩, by decide +kernel, ((regRow 0x181884).getD ⟨0,0,0,0,0,0,0,0,0,0,0,0,false⟩), by decide +kernel, by decide +kernel, by decide +kernel, by decide +kernel, by decide +kernel, by decide +kernel⟩
end Times

namespace Bus
def one : Word := 0x3f800000
def hs (role : Nat) (l : List (Fld × Nat)) : State := F' (base.setHouse 2 {base.house 2 with ocNow := false, ovNow := false}) (hseB 2) ([(F.HSE_STATUS_OV,0),(F.HSE_STATUS_OC,0),(F.HSE_STATUS_ROLE, role),(F.HSE_SCALE_V_VALUE, 0x40000000),(F.HSE_SCALE_I_VALUE,0x40000000),(F.HSE_PWM_DMAX,128),(F.HSE_PWM_PERIOD,2000),(F.HSE_THR_OV,600),(F.HSE_THR_REG,400),(F.HSE_SAMP_TON,33),(F.HSE_PROT_OC_CYCLES,2)] ++ l)
def hx (role : Nat) (l : List (Fld × Nat)) (f : HouseX → HouseX) : State := let s := hs role l; s.setHouse 2 (f (s.house 2))
def bs (l : List (Fld × Nat)) : State := let s := F' (F' (F' base (hseB 1) [(F.HSE_STATUS_ROLE,1),(F.HSE_SCALE_V_VALUE,0x41c80000)]) (hseB 3) [(F.HSE_STATUS_ROLE,3),(F.HSE_SCALE_V_VALUE,0x41c80000),(F.HSE_STATUS_OV,1)]) busB ([(F.BUS_SENSE_TOL_VALUE,one.toNat),(F.BUS_V_UV_VALUE,0x42300000),(F.BUS_V_HOLD_END_VALUE,0x42340000),(F.BUS_V_SHED_VALUE,0x42380000),(F.BUS_V_LO_VALUE,0x423c0000),(F.BUS_V_SET_VALUE,0x42400000),(F.BUS_V_HI_VALUE,0x42440000),(F.BUS_V_OV_VALUE,0x42600000)] ++ l); busLatch {s with bus := {s.bus with loadOv := true}}
def hw (l : List (Fld × Nat)) : State := F' base busB ([(F.BUS_HS_SCALE_VALUE,0x41a00000),(F.BUS_HS_RSNS_VALUE,0x3a83126f),(F.BUS_HS_PG_DROP_VALUE,one.toNat),(F.BUS_HS_FLT_RETRIES,2)] ++ l)
def rq (kind prio left : Nat) : AdmReq := ⟨kind, 0, 4, 30, prio, 5, left, 9⟩
def ad (asked queue : List AdmReq) (lv : Int) : State := let s := F' base busB [(F.BUS_ADM_CAP_VALUE,40),(F.BUS_ADM_RATE_VALUE,100),(F.BUS_HS_STATUS_STATE,3),(F.BUS_ADM_STAT_TIMEOUTS,255)]; {s with adm := {s.adm with asked := asked, queue := queue, level := lv}}

theorem witness_HouseChannels_1 :
    (∃ (s : State) (h : Fin 8),
     let x := s.house h
     let role := houseRole s h
     (s.pwr.core = true) ∧
     (role ≠ 0) ∧
     (x.off = false) ∧
     (x.sampled = false) ∧
     (houseOn s h = false)) ∧
    (∃ (s : State) (h : Fin 8) (v : Word),
     let b := hseB h
     let x := s.house h
     let role := houseRole s h
     let ovBad := x.ovNow = true ∨ fLe (volDacV (dacCode s h 2)) v = true
     let amps := fMax 0#32 (fDiv (s.rd (busB + R.BUS_P_IN)) s.bus.vSrc)
     let code := fToIntRne (fDiv (fDiv amps (s.rd (b + R.HSE_SCALE_I))) (fRatio 15 100))
     (s.pwr.core = true) ∧
     (role ≠ 0) ∧
     (x.off = false) ∧
     (x.sampled = false) ∧
     (houseOn s h = true) ∧
     (role = 1) ∧
     (¬ ovBad) ∧
     (fFinite (fDiv (fDiv amps (s.rd (b + R.HSE_SCALE_I))) (fRatio 15 100)) = true) ∧
     (0 ≤ code) ∧
     (code ≤ 1000)) ∧
    (∃ (s : State) (h : Fin 8),
     let x := s.house h
     let role := houseRole s h
     (s.pwr.core = true) ∧
     (role ≠ 0) ∧
     (houseOn s h = true) ∧
     (x.ocNow = false)) ∧
    (∃ (s : State) (h : Fin 8),
     let x := s.house h
     let role := houseRole s h
     (s.pwr.core = true) ∧
     (role ≠ 0) ∧
     (houseOn s h = true) ∧
     (x.sampled = true)) ∧
    (∃ (s : State) (h : Fin 8),
     let b := hseB h
     let x := s.house h
     let role := houseRole s h
     (s.pwr.core = true) ∧
     (role ≠ 0) ∧
     (houseOn s h = true) ∧
     (x.sampled = false) ∧
     (s.fld b F.HSE_STATUS_OV = 0)) ∧
    (∃ (s : State) (m : Master) (h : Fin 8),
     let b := hseB h
     (Accepts s m b (fset (s.kept b) F.HSE_CTRL_EN 1)) ∧
     (houseLocal s h = true) ∧
     (houseOn s h = false) ∧
     (houseBlocked s h = false) ∧
     (admWaits s 3 h = false) ∧
     (startBarred s = false)) :=
  ⟨⟨(hs 4 []), 2, by decide +kernel, by decide +kernel, by decide +kernel, by decide +kernel, by decide +kernel⟩,
   ⟨(let s := F' (hs 1 [(F.HSE_STATUS_ON,1),(F.HSE_CTRL_EN,1)]) busB [(F.BUS_P_IN_VALUE,0x42c80000)]; ({s with bus := {s.bus with vSrc := 0x40a00000}})), 2, one, by decide +kernel, by decide +kernel, by decide +kernel, by decide +kernel, by decide +kernel, by decide +kernel, by decide +kernel, by decide +kernel, by decide +kernel, by decide +kernel⟩,
   ⟨(hs 5 [(F.HSE_STATUS_ON,1),(F.HSE_CTRL_EN,1),(F.HSE_STATUS_KEEP,1)]), 2, by decide +kernel, by decide +kernel, by decide +kernel, by decide +kernel⟩,
   ⟨(hx 5 [(F.HSE_STATUS_ON,1),(F.HSE_CTRL_EN,1)] fun x => {x with sampled := true}), 2, by decide +kernel, by decide +kernel, by decide +kernel, by decide +kernel⟩,
   ⟨(hs 5 [(F.HSE_STATUS_ON,1),(F.HSE_CTRL_EN,1),(F.HSE_STATUS_KEEP,1)]), 2, by decide +kernel, by decide +kernel, by decide +kernel, by decide +kernel, by decide +kernel⟩,
   ⟨(hs 4 []), .spi, 2, ⟨⟨by decide +kernel, by decide +kernel⟩, by decide +kernel⟩, by decide +kernel, by decide +kernel, by decide +kernel, by decide +kernel, by decide +kernel⟩⟩
theorem witness_HouseChannels_2 :
    (∃ (s : State) (m : Master) (h : Fin 8),
     let b := hseB h
     (Accepts s m b (fset (s.kept b) F.HSE_CTRL_EN 0)) ∧
     (s.fld b F.HSE_CTRL_EN = 1) ∧
     (houseOn s h = true) ∧
     (admWaits s 3 h = false) ∧
     (houseKeep s h = true)) ∧
    (∃ (s : State) (m : Master) (h : Fin 8),
     let b := hseB h
     (Accepts s m b (fset (s.kept b) F.HSE_CTRL_EN 0)) ∧
     (s.fld b F.HSE_CTRL_EN = 1) ∧
     (houseOn s h = true) ∧
     (admWaits s 3 h = false) ∧
     (houseKeep s h = false)) ∧
    (∃ (s : State) (m : Master) (h : Fin 8),
     let b := hseB h
     (Accepts s m b (fset (s.kept b) F.HSE_CTRL_ABORT 1)) ∧
     (houseOn s h = true) ∧
     (admWaits s 3 h = false)) ∧
    (∃ (s : State) (m : Master) (h : Fin 8),
     let b := hseB h
     ∃ on : Bool,
     (Accepts s m b (fset (s.kept b) F.HSE_CTRL_SAMPLED (b2n on))) ∧
     (houseOn s h = true ∨ s.fld b F.HSE_CTRL_EN = 0)) ∧
    (∃ (s : State) (h : Fin 8) (v : Word),
     let b := hseB h
     let x := s.house h
     (s.pwr.core = true) ∧
     (s.flag b F.HSE_CTRL_SAMPLED = true) ∧
     (houseLocal s h = true) ∧
     (houseOn s h = true) ∧
     (x.off = false) ∧
     (x.ovNow = false) ∧
     (fLe (fRatio (s.fld b F.HSE_THR_OV * 25) 10000) v = false)) ∧
    (∃ (s : State) (h : Fin 8),
     let role := houseRole s h
     (role = 3) ∧
     (s.flag busB F.BUS_STATUS_OV_LATCH = true)) :=
  ⟨⟨(hs 5 [(F.HSE_STATUS_ON,1),(F.HSE_CTRL_EN,1),(F.HSE_STATUS_KEEP,1)]), .spi, 2, ⟨⟨by decide +kernel, by decide +kernel⟩,
    by decide +kernel⟩, by decide +kernel, by decide +kernel, by decide +kernel, by decide +kernel⟩,
   ⟨(hs 4 [(F.HSE_STATUS_ON,1),(F.HSE_CTRL_EN,1),(F.HSE_CTRL_SAMPLED,1)]), .spi, 2, ⟨⟨by decide +kernel, by decide +kernel⟩,
    by decide +kernel⟩, by decide +kernel, by decide +kernel, by decide +kernel, by decide +kernel⟩,
   ⟨(hs 4 [(F.HSE_STATUS_ON,1),(F.HSE_CTRL_EN,1),(F.HSE_CTRL_SAMPLED,1)]), .spi, 2, ⟨⟨by decide +kernel, by decide +kernel⟩,
    by decide +kernel⟩, by decide +kernel, by decide +kernel⟩,
   ⟨(hs 4 []), .spi, 2, true, ⟨⟨by decide +kernel, by decide +kernel⟩, by decide +kernel⟩, by decide +kernel⟩,
   ⟨(hs 4 [(F.HSE_STATUS_ON,1),(F.HSE_CTRL_EN,1),(F.HSE_CTRL_SAMPLED,1)]), 2, one, by decide +kernel, by decide +kernel, by decide +kernel, by decide +kernel, by decide +kernel, by decide +kernel, by decide +kernel⟩,
   ⟨F' (hs 3 []) busB [(F.BUS_STATUS_OV_LATCH,1)], 2, by decide +kernel, by decide +kernel⟩⟩
theorem witness_HouseChannels_3 :
    (∃ (s : State) (h : Fin 8),
     let b := hseB h
     let x := s.house h
     let role := houseRole s h
     let per := max 500 (min 10000 (s.fld b F.HSE_PWM_PERIOD))
     let ton := s.fld b F.HSE_PWM_DMAX * per / 256
     (role ≠ 3) ∧
     (houseOn s h = false ∨ x.ton = 0)) ∧
    (∃ (s : State) (h : Fin 8),
     let b := hseB h
     let x := s.house h
     let role := houseRole s h
     let per := max 500 (min 10000 (s.fld b F.HSE_PWM_PERIOD))
     let ton := s.fld b F.HSE_PWM_DMAX * per / 256
     ∃ (sense : Nat → Int) (dt : Nat),
     (role ≠ 3) ∧
     (x.sampled = false) ∧
     (20 ≤ x.ton) ∧
     (s.fld b F.HSE_DEAD_LEB ≤ dt) ∧
     (20 ≤ dt) ∧
     (dt < x.ton) ∧
     (((150000 * x.dac : Nat) : Int) - ((250 * s.fld b F.HSE_RAMP_RAMP * dt : Nat) : Int) ≤ (if role = 2 then ((sense dt).natAbs : Int) else sense dt))) :=
  ⟨⟨(hs 4 []), 2, by decide +kernel, by decide +kernel⟩,
   ⟨hx 4 [(F.HSE_STATUS_ON,1),(F.HSE_RAMP_RAMP,3)] fun x => { x with ton := 400, dac := 100 }, 2, fun _ => 15000000, 100, by decide +kernel, by decide +kernel, by decide +kernel, by decide +kernel, by decide +kernel, by decide +kernel, by decide +kernel⟩⟩
theorem witness_BalancerStages :
    (∃ (s : State) (vIn vDump : Word),
     (s.pwr.core = true) ∧
     (busMode s = 1 ∨ busMode s = 2 ∨ busMode s = 3) ∧
     let b := busB
     let r := fun (o : Nat) => s.rd (b + o)
     let u := busLatch s
     let v := vBusNow (busSample u vIn vDump)
     let src := fSum ((feltsOf s false).map (fun f => s.rd (feltB f + R.FELT_MEAS_P)))
     let snk := fSum ((feltsOf s true).map (fun f => fAbs (s.rd (feltB f + R.FELT_MEAS_P))))
     let hse := fSum (((List.range 8).filter (houseLocal s)).map (fun h => fMul (s.rd (hseB h + R.HSE_MEAS_V)) (s.rd (hseB h + R.HSE_MEAS_I))))
     let vSet := if s.bus.ramp then moveTo s.bus.vSet (r R.BUS_V_SET) (fMul (r R.BUS_START_SLEW) (fRatio 1 1000)) else r R.BUS_V_SET
     let req := fAdd (fAdd (fSub src snk) hse) (fMul (r R.BUS_K) (fSub vSet v))
     let meas := fMul (r R.BUS_HS_MEAS_VIN) (r R.BUS_HS_MEAS_I)
     let eta := if fLt meas fOne = true ∨ fIsNaN meas = true then s.bus.eta else
       fClamp (fAdd s.bus.eta (fMul (fSub (fDiv (r R.BUS_P_IN) meas) s.bus.eta) (fRatio 1 10000))) (fRatio 1 2) fOne
     let cap := fMin (fMin (r R.BUS_IN_PMAX) (fMul eta (r R.BUS_CAP_P))) (fMul (fMul eta (r R.BUS_CAP_I)) (r R.BUS_HS_MEAS_VIN))
     let above := fLt (r R.BUS_CAP_P) meas
     let top := if busMode s = 3 then 0#32
       else if above ∧ s.bus.excess then fMin cap (fSub (r R.BUS_P_IN) (fSub meas (r R.BUS_CAP_P))) else cap
     let gauges := shelfGauges u
     let pref := if gauges ≠ [] ∧ fLt (fMean (gauges.map (fun g => s.rd (gauB g + R.GAU_SOC_REP)))) (r R.BUS_SOC_TGT) = true then r R.BUS_P_PREF else 0#32
     let hold := fun (x : Word) => fMin (fMax x 0#32) top
     let input := hold (moveTo (r R.BUS_P_IN) (hold (fAdd req pref)) (fMul (r R.BUS_IN_SLEW) (fRatio 1 1000)))
     let empty := if busMode s = 3 then shelfShows u F.GAU_STATUS_EDF = true else shelfShows u F.GAU_STATUS_EDW = true
     let dis := if houseHas s 2 = true ∧ ¬ empty then r R.BUS_SHELF_DIS else 0#32
     let gap := fSub req input
     let surplus := fLt gap 0#32 = true
     let p := fMin gap dis
     let p' := fSub gap p
     let i := fMin p' (fSub top input)
     let i' := fSub p' i
     let totalSnk := fSum ((feltsOf s true).map (fun f => feltW s f R.FELT_P_SNK_MAX))
     let run := (List.range 96).filter (fun f => feltSwitching s f && shedPrio u f != 15)
     let sheds := busMode s = 3 ∧ s.bus.shedLeft = 0 ∧ run ≠ [] ∧
       ((¬ surplus ∧ fLe dis p = true ∧ fPos i' = true) ∨ fLt v (r R.BUS_V_SHED) = true)
     (¬ sheds) ∧
     (fIsZero totalSnk = false)) ∧
    (∃ (s : State) (vIn vDump : Word),
     (s.pwr.core = true) ∧
     (busMode s = 1 ∨ busMode s = 2 ∨ busMode s = 3) ∧
     let b := busB
     let r := fun (o : Nat) => s.rd (b + o)
     let u := busLatch s
     let v := vBusNow (busSample u vIn vDump)
     let src := fSum ((feltsOf s false).map (fun f => s.rd (feltB f + R.FELT_MEAS_P)))
     let snk := fSum ((feltsOf s true).map (fun f => fAbs (s.rd (feltB f + R.FELT_MEAS_P))))
     let hse := fSum (((List.range 8).filter (houseLocal s)).map (fun h => fMul (s.rd (hseB h + R.HSE_MEAS_V)) (s.rd (hseB h + R.HSE_MEAS_I))))
     let vSet := if s.bus.ramp then moveTo s.bus.vSet (r R.BUS_V_SET) (fMul (r R.BUS_START_SLEW) (fRatio 1 1000)) else r R.BUS_V_SET
     let req := fAdd (fAdd (fSub src snk) hse) (fMul (r R.BUS_K) (fSub vSet v))
     let meas := fMul (r R.BUS_HS_MEAS_VIN) (r R.BUS_HS_MEAS_I)
     let eta := if fLt meas fOne = true ∨ fIsNaN meas = true then s.bus.eta else
       fClamp (fAdd s.bus.eta (fMul (fSub (fDiv (r R.BUS_P_IN) meas) s.bus.eta) (fRatio 1 10000))) (fRatio 1 2) fOne
     let cap := fMin (fMin (r R.BUS_IN_PMAX) (fMul eta (r R.BUS_CAP_P))) (fMul (fMul eta (r R.BUS_CAP_I)) (r R.BUS_HS_MEAS_VIN))
     let above := fLt (r R.BUS_CAP_P) meas
     let top := if busMode s = 3 then 0#32
       else if above ∧ s.bus.excess then fMin cap (fSub (r R.BUS_P_IN) (fSub meas (r R.BUS_CAP_P))) else cap
     let gauges := shelfGauges u
     let pref := if gauges ≠ [] ∧ fLt (fMean (gauges.map (fun g => s.rd (gauB g + R.GAU_SOC_REP)))) (r R.BUS_SOC_TGT) = true then r R.BUS_P_PREF else 0#32
     let hold := fun (x : Word) => fMin (fMax x 0#32) top
     let input := hold (moveTo (r R.BUS_P_IN) (hold (fAdd req pref)) (fMul (r R.BUS_IN_SLEW) (fRatio 1 1000)))
     let empty := if busMode s = 3 then shelfShows u F.GAU_STATUS_EDF = true else shelfShows u F.GAU_STATUS_EDW = true
     let dis := if houseHas s 2 = true ∧ ¬ empty then r R.BUS_SHELF_DIS else 0#32
     let gap := fSub req input
     let surplus := fLt gap 0#32 = true
     let p := fMin gap dis
     let p' := fSub gap p
     let i := fMin p' (fSub top input)
     let i' := fSub p' i
     let totalSrc := fSum ((feltsOf s false).map (fun f => feltW s f R.FELT_P_SRC_MAX))
     let run := (List.range 96).filter (fun f => feltSwitching s f && shedPrio u f != 15)
     let sheds := busMode s = 3 ∧ s.bus.shedLeft = 0 ∧ run ≠ [] ∧
       ((¬ surplus ∧ fLe dis p = true ∧ fPos i' = true) ∨ fLt v (r R.BUS_V_SHED) = true)
     (¬ sheds) ∧
     (fIsZero totalSrc = false)) ∧
    (∃ (s : State) (vIn vDump : Word),
     (s.pwr.core = true) ∧
     (busMode s = 1 ∨ busMode s = 2 ∨ busMode s = 3) ∧
     let b := busB
     let r := fun (o : Nat) => s.rd (b + o)
     let u := busLatch s
     let v := vBusNow (busSample u vIn vDump)
     let src := fSum ((feltsOf s false).map (fun f => s.rd (feltB f + R.FELT_MEAS_P)))
     let snk := fSum ((feltsOf s true).map (fun f => fAbs (s.rd (feltB f + R.FELT_MEAS_P))))
     let hse := fSum (((List.range 8).filter (houseLocal s)).map (fun h => fMul (s.rd (hseB h + R.HSE_MEAS_V)) (s.rd (hseB h + R.HSE_MEAS_I))))
     let vSet := if s.bus.ramp then moveTo s.bus.vSet (r R.BUS_V_SET) (fMul (r R.BUS_START_SLEW) (fRatio 1 1000)) else r R.BUS_V_SET
     let req := fAdd (fAdd (fSub src snk) hse) (fMul (r R.BUS_K) (fSub vSet v))
     let meas := fMul (r R.BUS_HS_MEAS_VIN) (r R.BUS_HS_MEAS_I)
     let eta := if fLt meas fOne = true ∨ fIsNaN meas = true then s.bus.eta else
       fClamp (fAdd s.bus.eta (fMul (fSub (fDiv (r R.BUS_P_IN) meas) s.bus.eta) (fRatio 1 10000))) (fRatio 1 2) fOne
     let cap := fMin (fMin (r R.BUS_IN_PMAX) (fMul eta (r R.BUS_CAP_P))) (fMul (fMul eta (r R.BUS_CAP_I)) (r R.BUS_HS_MEAS_VIN))
     let above := fLt (r R.BUS_CAP_P) meas
     let top := if busMode s = 3 then 0#32
       else if above ∧ s.bus.excess then fMin cap (fSub (r R.BUS_P_IN) (fSub meas (r R.BUS_CAP_P))) else cap
     let gauges := shelfGauges u
     let pref := if gauges ≠ [] ∧ fLt (fMean (gauges.map (fun g => s.rd (gauB g + R.GAU_SOC_REP)))) (r R.BUS_SOC_TGT) = true then r R.BUS_P_PREF else 0#32
     let hold := fun (x : Word) => fMin (fMax x 0#32) top
     let input := hold (moveTo (r R.BUS_P_IN) (hold (fAdd req pref)) (fMul (r R.BUS_IN_SLEW) (fRatio 1 1000)))
     let empty := if busMode s = 3 then shelfShows u F.GAU_STATUS_EDF = true else shelfShows u F.GAU_STATUS_EDW = true
     let dis := if houseHas s 2 = true ∧ ¬ empty then r R.BUS_SHELF_DIS else 0#32
     let gap := fSub req input
     let surplus := fLt gap 0#32 = true
     let p := fMin gap dis
     let p' := fSub gap p
     let i := fMin p' (fSub top input)
     let i' := fSub p' i
     let run := (List.range 96).filter (fun f => feltSwitching s f && shedPrio u f != 15)
     let sheds := busMode s = 3 ∧ s.bus.shedLeft = 0 ∧ run ≠ [] ∧
       ((¬ surplus ∧ fLe dis p = true ∧ fPos i' = true) ∨ fLt v (r R.BUS_V_SHED) = true)
     (sheds)) :=
  ⟨⟨(let s := (Felts.fe 6 [] fun x => {Felts.hx x with sink := true}).wr (feltB 3 + R.FELT_P_SNK_MAX) 0x42c80000; F' s busB [(F.BUS_STATUS_MODE,1)]), one, one, by decide +kernel, by decide +kernel, by decide +kernel, by decide +kernel⟩,
   ⟨(let s := (Felts.fe 6 [] fun x => {Felts.hx x with sink := false}).wr (feltB 3 + R.FELT_P_SRC_MAX) 0x42c80000; F' s busB [(F.BUS_STATUS_MODE,1)]), one, one, by decide +kernel, by decide +kernel, by decide +kernel, by decide +kernel⟩,
   ⟨(let s := (Felts.fe 6 [] fun x => {Felts.hx x with sink := false}).wr (feltB 3 + R.FELT_P_SRC_MAX) 0x42c80000; F' s busB [(F.BUS_STATUS_MODE,3),(F.BUS_V_SHED_VALUE,0x447a0000)]), one, one, by decide +kernel, by decide +kernel, by decide +kernel⟩⟩
theorem witness_BusControl_1 :
    (∃ (s : State) (vIn vDump : Word) (hi hd : Nat),
     let b := busB
     let a := fMul vIn (s.rd (hseB hi + R.HSE_SCALE_V))
     let d := fMul vDump (s.rd (hseB hd + R.HSE_SCALE_V))
     (s.pwr.core = true) ∧
     (houseWith s 1 = some hi) ∧
     (houseWith s 3 = some hd) ∧
     (busF s F.BUS_CFG_VBUS_SRC ≠ 2) ∧
     (s.fld b F.BUS_STATUS_SENSE_ERR = 0) ∧
     (fLt (busW s R.BUS_SENSE_TOL) (fAbs (fSub a d)) = true)) ∧
    (∃ (s : State) (hi hd : Nat),
     let b := busB
     (s.pwr.core = true) ∧
     (houseWith s 1 = some hi) ∧
     (houseWith s 3 = some hd) ∧
     (busF s F.BUS_CFG_VBUS_SRC ≠ 2) ∧
     (s.fld b F.BUS_STATUS_SENSE_ERR = 0) ∧
     (s.bus.loadOv = true) ∧
     (s.flag (hseB hd) F.HSE_STATUS_OV = true) ∧
     (s.flag b F.BUS_STATUS_OV_LATCH = false) ∧
     (s.bus.dumpGood = true)) ∧
    (∃ (s : State) (hi hd : Nat),
     let b := busB
     (s.pwr.core = true) ∧
     (houseWith s 1 = some hi) ∧
     (houseWith s 3 = some hd) ∧
     (busF s F.BUS_CFG_VBUS_SRC ≠ 2) ∧
     (s.fld b F.BUS_STATUS_SENSE_ERR = 0) ∧
     (s.bus.loadOv = true) ∧
     (s.flag (hseB hd) F.HSE_STATUS_OV = true) ∧
     (s.flag b F.BUS_STATUS_OV_LATCH = false) ∧
     (s.bus.dumpGood = false)) ∧
    (∃ (s : State) (vIn vDump : Word) (hi hd : Nat),
     let b := busB
     let a := fMul vIn (s.rd (hseB hi + R.HSE_SCALE_V))
     let d := fMul vDump (s.rd (hseB hd + R.HSE_SCALE_V))
     let v := if busF s F.BUS_CFG_VBUS_SRC = 1 then d else a
     (s.pwr.core = true) ∧
     (houseWith s 1 = some hi) ∧
     (houseWith s 3 = some hd) ∧
     (busF s F.BUS_CFG_VBUS_SRC ≠ 2) ∧
     (s.fld b F.BUS_STATUS_SENSE_ERR = 0) ∧
     (busMode s = 2 ∨ busMode s = 3) ∧
     (fLt v (busW s R.BUS_V_UV) = true) ∧
     (s.bus.uvTold = false)) ∧
    (∃ (s : State) (m : Master),
     let b := busB
     (Accepts s m b (fset (s.kept b) F.BUS_CTRL_OV_CLEAR 1)) ∧
     (s.fc.running = none)) ∧
    (∃ (s : State) (m : Master),
     let b := busB
     (Accepts s m b (fset (s.kept b) F.BUS_CTRL_EN 1)) ∧
     (s.fld b F.BUS_CTRL_EN = 0) ∧
     (busOrderOk s = false)) ∧
    (∃ (s : State) (m : Master),
     let b := busB
     (Accepts s m b (fset (s.kept b) F.BUS_CTRL_EN 1)) ∧
     (s.fld b F.BUS_CTRL_EN = 0) ∧
     (busOrderOk s = true) ∧
     (vbusAbsent s (s.fld b F.BUS_CFG_VBUS_SRC) = true)) ∧
    (∃ (s : State) (m : Master),
     let b := busB
     (Accepts s m b (fset (s.kept b) F.BUS_CTRL_EN 1)) ∧
     (s.fld b F.BUS_CTRL_EN = 0) ∧
     (busOrderOk s = true) ∧
     (vbusAbsent s (s.fld b F.BUS_CFG_VBUS_SRC) = false) ∧
     (hsState s ≠ 5)) ∧
    (∃ (s : State) (m : Master),
     let b := busB
     (Accepts s m b (fset (s.kept b) F.BUS_CTRL_EN 1)) ∧
     (s.fld b F.BUS_CTRL_EN = 0) ∧
     (busOrderOk s = true) ∧
     (vbusAbsent s (s.fld b F.BUS_CFG_VBUS_SRC) = false) ∧
     (hsState s = 5) ∧
     (busMode s = 0)) :=
  ⟨⟨(bs []), one, 0x40000000, 1, 3, by decide +kernel, by decide +kernel, by decide +kernel, by decide +kernel,
    by decide +kernel, by decide +kernel⟩,
   ⟨(let s := bs []; { s with bus := { s.bus with dumpGood := true } }), 1, 3, by decide +kernel, by decide +kernel,
    by decide +kernel, by decide +kernel, by decide +kernel, by decide +kernel, by decide +kernel, by decide +kernel, by decide +kernel⟩,
   ⟨(let s := bs []; { s with bus := { s.bus with dumpGood := false } }), 1, 3, by decide +kernel, by decide +kernel,
    by decide +kernel, by decide +kernel, by decide +kernel, by decide +kernel, by decide +kernel, by decide +kernel, by decide +kernel⟩,
   ⟨(bs [(F.BUS_STATUS_MODE,2),(F.BUS_CFG_VBUS_SRC,1)]), 0x40000000, one, 1, 3, by decide +kernel, by decide +kernel,
    by decide +kernel, by decide +kernel, by decide +kernel, by decide +kernel, by decide +kernel, by decide +kernel⟩,
   ⟨(bs [(F.BUS_STATUS_MODE,2),(F.BUS_STATUS_OV_LATCH,1),(F.BUS_CTRL_EN,1)]), .spi, ⟨⟨by decide +kernel, by decide +kernel⟩,
    by decide +kernel⟩, by decide +kernel⟩,
   ⟨(F' base busB []), .spi, ⟨⟨by decide +kernel, by decide +kernel⟩, by decide +kernel⟩, by decide +kernel, by decide +kernel⟩,
   ⟨(F' (bs []) (hseB 1) [(F.HSE_STATUS_ROLE,0)]), .spi, ⟨⟨by decide +kernel, by decide +kernel⟩, by decide +kernel⟩,
    by decide +kernel, by decide +kernel, by decide +kernel⟩,
   ⟨(bs []), .spi, ⟨⟨by decide +kernel, by decide +kernel⟩, by decide +kernel⟩, by decide +kernel, by decide +kernel,
    by decide +kernel, by decide +kernel⟩,
   ⟨(bs [(F.BUS_HS_STATUS_STATE,5)]), .spi, ⟨⟨by decide +kernel, by decide +kernel⟩, by decide +kernel⟩, by decide +kernel,
    by decide +kernel, by decide +kernel, by decide +kernel, by decide +kernel⟩⟩
theorem witness_BusControl_2 :
    (∃ (s : State) (m : Master),
     let b := busB
     (Accepts s m b (fset (s.kept b) F.BUS_CTRL_EN 0)) ∧
     (s.fld b F.BUS_CTRL_EN = 1) ∧
     (busMode s = 1 ∨ busMode s = 2 ∨ busMode s = 3)) ∧
    (∃ (s : State),
     let b := busB
     (s.pwr.core = true) ∧
     (busMode s = 1) ∧
     (fLe (busW s R.BUS_V_LO) (s.rd (b + R.BUS_MEAS_V)) = true) ∧
     (fLe (s.rd (b + R.BUS_MEAS_V)) (busW s R.BUS_V_HI) = true)) ∧
    (∃ (s : State),
     let b := busB
     let ofBus := (List.range 8).filter (houseOfBus s)
     (s.pwr.core = true) ∧
     (busMode s = 4) ∧
     (s.fld b F.BUS_CTRL_EN = 0) ∧
     ((∀ h ∈ ofBus, houseOn s h = false))) :=
  ⟨⟨(bs [(F.BUS_STATUS_MODE,2),(F.BUS_STATUS_OV_LATCH,1),(F.BUS_CTRL_EN,1)]), .spi, ⟨⟨by decide +kernel, by decide +kernel⟩,
    by decide +kernel⟩, by decide +kernel, by decide +kernel⟩,
   ⟨(bs [(F.BUS_CFG_VBUS_SRC,1),(F.BUS_STATUS_MODE,1),(F.BUS_MEAS_V_VALUE,0x42400000)]), by decide +kernel, by decide +kernel,
    by decide +kernel, by decide +kernel⟩,
   ⟨(F' (bs [(F.BUS_STATUS_MODE,4)]) (hseB 1) [(F.HSE_CTRL_EN,1)]), by decide +kernel, by decide +kernel, by decide +kernel,
    by decide +kernel⟩⟩
theorem witness_Balancer :
    (∃ (s : State),
     (s.pwr.core = true) ∧
     (busMode s = 0 ∨ busMode s = 4)) ∧
    (∃ (s : State),
     (s.pwr.core = true) ∧
     let b := busB
     (busMode s = 1 ∨ busMode s = 2) ∧
     (s.bus.ramp = false) ∧
     (s.flag b F.BUS_STATUS_OV_LATCH = true)) ∧
    (∃ (s : State),
     (s.pwr.core = true) ∧
     let b := busB
     (busMode s = 3) ∧
     (shelfShows s F.GAU_STATUS_EDF = true ∨ fLt (s.rd (b + R.BUS_MEAS_V)) (busW s R.BUS_V_HOLD_END) = true)) :=
  ⟨⟨(bs []), by decide +kernel, by decide +kernel⟩,
   ⟨(bs [(F.BUS_STATUS_MODE,1),(F.BUS_STATUS_OV_LATCH,1),(F.BUS_K_VALUE,one.toNat)]), by decide +kernel, by decide +kernel,
    by decide +kernel, by decide +kernel⟩,
   ⟨(bs [(F.BUS_STATUS_MODE,3)]), by decide +kernel, by decide +kernel, by decide +kernel⟩⟩
theorem witness_HotSwap_1 :
    (∃ (s : State) (m : Master),
     ((∀ r ∈ s.adm.asked ++ s.adm.queue, r.kind ≠ 2)) ∧
     let b := busB
     let st := hsState s
     (Accepts s m (b + R.BUS_HS_CTRL) (fset (s.kept (b + R.BUS_HS_CTRL)) F.BUS_HS_CTRL_EN 1)) ∧
     (st = 0)) ∧
    (∃ (s : State) (m : Master),
     ((∀ r ∈ s.adm.asked ++ s.adm.queue, r.kind ≠ 2)) ∧
     let b := busB
     let st := hsState s
     (Accepts s m (b + R.BUS_HS_CTRL) (fset (s.kept (b + R.BUS_HS_CTRL)) F.BUS_HS_CTRL_EN 0)) ∧
     (s.fld b F.BUS_HS_CTRL_EN = 1) ∧
     (st ≠ 7)) ∧
    (∃ (s : State) (m : Master),
     ((∀ r ∈ s.adm.asked ++ s.adm.queue, r.kind ≠ 2)) ∧
     let b := busB
     let st := hsState s
     (Accepts s m (b + R.BUS_HS_CTRL) (fset (s.kept (b + R.BUS_HS_CTRL)) F.BUS_HS_CTRL_CLEAR 1)) ∧
     (st = 7)) ∧
    (∃ (s : State),
     ((∀ r ∈ s.adm.asked ++ s.adm.queue, r.kind ≠ 2)) ∧
     let st := hsState s
     (s.pwr.core = true) ∧
     (st = 2)) ∧
    (∃ (s : State),
     ((∀ r ∈ s.adm.asked ++ s.adm.queue, r.kind ≠ 2)) ∧
     let b := busB
     let st := hsState s
     (s.pwr.core = true) ∧
     (st = 4) ∧
     (s.flag b F.BUS_HS_STATUS_LIMIT = false) ∧
     (fLt (fSub (s.rd (b + R.BUS_HS_MEAS_VIN)) s.bus.vSrc) (busW s R.BUS_HS_PG_DROP) = true) ∧
     (busMode s ≠ 3) ∧
     (s.fld b F.BUS_CTRL_EN = 0)) ∧
    (∃ (s : State),
     ((∀ r ∈ s.adm.asked ++ s.adm.queue, r.kind ≠ 2)) ∧
     let b := busB
     let st := hsState s
     (s.pwr.core = true) ∧
     (st = 4) ∧
     (s.flag b F.BUS_HS_STATUS_LIMIT = true)) :=
  ⟨⟨(hw []), .spi, by decide +kernel, ⟨⟨by decide +kernel, by decide +kernel⟩, by decide +kernel⟩, by decide +kernel⟩,
   ⟨(hw [(F.BUS_HS_STATUS_STATE,(0 : Fin 8)),(F.BUS_HS_CTRL_EN,1)]), .spi, by decide +kernel, ⟨⟨by decide +kernel,
    by decide +kernel⟩, by decide +kernel⟩, by decide +kernel, by decide +kernel⟩,
   ⟨(hw [(F.BUS_HS_STATUS_STATE,(7 : Fin 8)),(F.BUS_HS_CTRL_EN,1)]), .spi, by decide +kernel, ⟨⟨by decide +kernel,
    by decide +kernel⟩, by decide +kernel⟩, by decide +kernel⟩,
   ⟨(hw [(F.BUS_HS_STATUS_STATE,(2 : Fin 8)),(F.BUS_HS_CTRL_EN,1)]), by decide +kernel, by decide +kernel, by decide +kernel⟩,
   ⟨(hw [(F.BUS_HS_STATUS_STATE,4)]), by decide +kernel, by decide +kernel, by decide +kernel, by decide +kernel, by decide +kernel, by decide +kernel, by decide +kernel⟩,
   ⟨(hw [(F.BUS_HS_STATUS_STATE,(4 : Fin 8)),(F.BUS_HS_STATUS_LIMIT,1),(F.BUS_HS_STATUS_RETRIES,2),(F.BUS_HS_STATUS_WIN_GOOD,1)]), by decide +kernel, by decide +kernel, by decide +kernel, by decide +kernel⟩⟩
theorem witness_HotSwap_2 :
    (∃ (s : State),
     ((∀ r ∈ s.adm.asked ++ s.adm.queue, r.kind ≠ 2)) ∧
     let st := hsState s
     (s.pwr.core = true) ∧
     (st = 4 ∨ st = 5)) ∧
    (∃ (s : State),
     ((∀ r ∈ s.adm.asked ++ s.adm.queue, r.kind ≠ 2)) ∧
     let st := hsState s
     (s.pwr.core = true) ∧
     (st = 6)) ∧
    (∃ (s : State),
     ((∀ r ∈ s.adm.asked ++ s.adm.queue, r.kind ≠ 2)) ∧
     let b := busB
     let st := hsState s
     (s.pwr.core = true) ∧
     (st = 5) ∧
     (s.fld b F.BUS_HS_STATUS_WIN_GOOD = 0) ∧
     (s.bus.wGood = 0)) ∧
    (∃ (s : State),
     ((∀ r ∈ s.adm.asked ++ s.adm.queue, r.kind ≠ 2)) ∧
     let st := hsState s
     (s.pwr.core = true) ∧
     (st = 0)) :=
  ⟨⟨(hw [(F.BUS_HS_STATUS_STATE,4)]), by decide +kernel, by decide +kernel, by decide +kernel⟩,
   ⟨(hw [(F.BUS_HS_STATUS_STATE,(6 : Fin 8)),(F.BUS_HS_CTRL_EN,1)]), by decide +kernel, by decide +kernel, by decide +kernel⟩,
   ⟨(hw [(F.BUS_HS_STATUS_STATE,(5 : Fin 8)),(F.BUS_HS_CTRL_EN,1)]), by decide +kernel, by decide +kernel, by decide +kernel, by decide +kernel, by decide +kernel⟩,
   ⟨(hw []), by decide +kernel, by decide +kernel, by decide +kernel⟩⟩
theorem witness_Admission :
    (∃ (s : State) (r : AdmReq),
     (s.pwr.core = true) ∧
     ∃ l,
     (s.adm.asked = r :: l) ∧
     (s.adm.queue.length < 160) ∧
     (s.isBrim = false)) ∧
    (∃ (s : State),
     (s.pwr.core = true) ∧
     (s.isBrim = false) ∧
     (s.adm.queue = [])) ∧
    (∃ (s : State) (r : AdmReq),
     (s.pwr.core = true) ∧
     let b := busB
     let cap : Int := (100 * admCap s : Nat)
     let level := min cap (s.adm.level + ((busW s R.BUS_ADM_RATE).toNat : Int))
     (s.isBrim = false) ∧
     (s.adm.queue = [r]) ∧
     (r.left ≠ 0) ∧
     (r.kind = 2) ∧
     (r.pos = s.position) ∧
     (s.adm.asked = []) ∧
     (hsState s = 3) ∧
     ((100 * r.q : Nat) ≤ level)) ∧
    (∃ (s : State) (r : AdmReq),
     (s.pwr.core = true) ∧
     let b := busB
     let cap : Int := (100 * admCap s : Nat)
     let level := min cap (s.adm.level + ((busW s R.BUS_ADM_RATE).toNat : Int))
     (s.isBrim = false) ∧
     (s.adm.queue = [r]) ∧
     (r.left ≠ 0) ∧
     (r.kind = 2) ∧
     (r.pos = s.position) ∧
     (s.adm.asked = []) ∧
     (hsState s = 3) ∧
     (level < (100 * r.q : Nat)) ∧
     (level < cap)) ∧
    (∃ (s : State) (r : AdmReq),
     (s.pwr.core = true) ∧
     ∃ l,
     (s.adm.queue = r :: l) ∧
     (r.left = 0) ∧
     (r.kind = 3) ∧
     (r.inst < 8) ∧
     (s.isBrim = false) ∧
     (l.length < 160)) ∧
    (∃ (s : State) (p : CasPkt) (q : List CasPkt),
     (s.pwr.core = true) ∧
     (s.casRx = p :: q) ∧
     (p.cls = 4) ∧
     (p.sub = 0) ∧
     (s.isCrown = true) ∧
     (s.adm.queue.length < 160)) ∧
    (∃ (s : State) (p : CasPkt) (q : List CasPkt),
     (s.pwr.core = true) ∧
     (s.casRx = p :: q) ∧
     (p.cls = 4) ∧
     (p.sub = 0) ∧
     (s.isCrown = true) ∧
     (160 ≤ s.adm.queue.length)) ∧
    (∃ (s : State) (p : CasPkt) (q : List CasPkt),
     (s.pwr.core = true) ∧
     (s.casRx = p :: q) ∧
     (p.cls = 4) ∧
     (p.sub = 2)) :=
  ⟨⟨(ad [rq 0 3 7, rq 1 1 1] [rq 0 5 6, rq 1 3 3, rq 1 2 2] 50), (rq 0 3 7), by decide +kernel,
   ([{ kind := 1, pos := 0, inst := 4, q := 30, prio := 1, wait := 5, left := 1, id := 9 }]), by decide +kernel, by decide +kernel,
    by decide +kernel⟩,
   ⟨(ad [] [] 50), by decide +kernel, by decide +kernel, by decide +kernel⟩,
   ⟨(ad [] [rq 2 3 7] 2950), (rq 2 3 7), by decide +kernel, by decide +kernel, by decide +kernel, by decide +kernel,
    by decide +kernel, by decide +kernel, by decide +kernel, by decide +kernel, by decide +kernel⟩,
   ⟨(ad [] [rq 2 3 7] 2850), (rq 2 3 7), by decide +kernel, by decide +kernel, by decide +kernel, by decide +kernel,
    by decide +kernel, by decide +kernel, by decide +kernel, by decide +kernel, by decide +kernel, by decide +kernel⟩,
   ⟨(ad [] [rq 3 3 0, rq 2 2 0] 2850), (rq 3 3 0), by decide +kernel,
    ([{ kind := 2, pos := 0, inst := 4, q := 30, prio := 2, wait := 5, left := 0, id := 9 }]), by decide +kernel,
    by decide +kernel, by decide +kernel, by decide +kernel,
    by decide +kernel, by decide +kernel⟩,
   ⟨(let p : CasPkt := ⟨4,2,0,false,0,[7,8,3,10]⟩; let s := ad [] [rq 3 5 0, rq 2 2 0] 2850;
    {F' s casB [(F.CAS_STATUS_ROLE,1)] with casRx := [p]}), (let p : CasPkt := ⟨4,2,0,false,0,[7,8,3,10]⟩; p),
    [], by decide +kernel, by decide +kernel, by decide +kernel, by decide +kernel, by decide +kernel, by decide +kernel⟩,
   ⟨(let p : CasPkt := ⟨4,2,0,false,0,[7,8,3,10]⟩; let s := ad [] (List.replicate 160 (rq 3 5 0)) 2850;
    {F' s casB [(F.CAS_STATUS_ROLE,1)] with casRx := [p]}), ⟨4,2,0,false,0,[7,8,3,10]⟩,
    [], by decide +kernel, by decide +kernel, by decide +kernel, by decide +kernel, by decide +kernel, by decide +kernel⟩,
   ⟨(let p : CasPkt := ⟨4,2,0,false,2,[7,8,3,10]⟩; let s := ad [] [rq 3 5 0, rq 2 2 0] 2850;
    {F' s casB [(F.CAS_STATUS_ROLE,1)] with casRx := [p]}), (let p : CasPkt := ⟨4,2,0,false,2,[7,8,3,10]⟩; p),
    [], by decide +kernel, by decide +kernel, by decide +kernel, by decide +kernel⟩⟩
end Bus

namespace NonVolatile
def nb (l : List (Fld × Nat)) : State := F' base nvB ([(F.NV_STATUS_READY,1)] ++ l)
def st1 (n : Nat) (l : List (Fld × Nat)) : State := let s := (nb l).setMemWord 0x3000010 0x12345678; {s with nv := {s.nv with storing := n, copyA := {s.nv.copyA with seq := 5}, newest := 1}}
def r0 : RecWrite := ⟨0x11ffc, 0x77, [1,2,3,4]⟩
def rr (src len addr : Nat) : State := setHeader ((nb [(F.NV_REC_ADDR_ADDR,addr),(F.NV_REC_LEN_LEN,len),(F.NV_REC_SRC_SRC,src)]).setMemWord 0x2000014 0xabcdef01) 0x12 hdrBlank
def cs (n : Nat) (l : List (Fld × Nat)) : State := let s := nb l; {s with nv := {s.nv with cards := List.replicate n (cardWords s 5 none (fcStatusRead s).1)}}
def okc (c : Shadow) : Shadow := let c := {c with seq := 5, format := 0x03200001, commit := commitValue}; {c with crc := shadowCrc c}
def grant (s : State) : State := (s.wr 0x201c0 0xAAAAAAAA).wr 0x201d8 0xAAAAAAAA
/-- A committed copy of the format in use with the CRC of its content is valid. -/
theorem newestValid {c : Shadow} (a : c.commit = commitValue) (b : c.format = BitVec.ofNat 32 (1 + 800 * 2 ^ 16))
    (j : (shadowCrc c == c.crc) = true) : shadowValid c = true := by
  have i : (c.crc == shadowCrc c) = true := by rw [beq_iff_eq] at j ⊢; exact j.symm
  simp [shadowValid, a, b, i]
/-- A committed copy whose CRC is that of its content is valid, and then there is a newest copy. -/
theorem newestCopy_okc (x : NvX) (c : Shadow) : newestCopy { x with copyA := okc c } ≠ 0 := by
  have h : shadowValid (okc c) = true := by
    have k : ∀ (d : Shadow) (v : Word), shadowCrc { d with crc := v } = shadowCrc d := fun _ _ => rfl
    have j : (shadowCrc (okc c) == (okc c).crc) = true := by rw [beq_iff_eq]; exact k _ _
    exact newestValid rfl (by simp only [okc]; rfl) j
  simp only [newestCopy, h, Bool.true_and, if_true]
  split <;> (try split) <;> decide

theorem witness_SlateStore_1 :
    (∃ (s : State) (m : Master),
     let b := nvB
     let x := s.nv
     (Accepts s m b 1#32) ∧
     (s.flag b F.NV_STATUS_READY = true) ∧
     (x.storing = 0)) ∧
    (∃ (s : State) (m : Master),
     let b := nvB
     let x := s.nv
     (Accepts s m b 1#32) ∧
     (s.flag b F.NV_STATUS_READY = false ∨ x.storing ≠ 0)) ∧
    (∃ (s : State),
     let b := nvB
     let x := s.nv
     (s.pwr.core = true) ∧
     (x.storing = 1 ∨ x.storing = 2) ∧
     (s.flag b F.NV_STATUS_PENDING = false) ∧
     (s.fc.resetWait = false) ∧
     (x.held = [])) ∧
    (∃ (s : State),
     let x := s.nv
     (s.pwr.core = true) ∧
     (x.scanned = false) ∧
     (newestCopy x = 0)) ∧
    (∃ (s : State),
     let x := s.nv
     (s.pwr.core = true) ∧
     (x.scanned = false) ∧
     (newestCopy x ≠ 0)) ∧
    (∃ (s : State),
     let b := nvB
     let x := s.nv
     (s.pwr.core = true) ∧
     (x.scanned = true) ∧
     (s.flag b F.NV_STATUS_READY = false) ∧
     (s.flag b F.NV_STATUS_PENDING = false) ∧
     (x.held = [])) :=
  ⟨⟨(nb []), .spi, ⟨⟨by decide +kernel, by decide +kernel⟩, by decide +kernel⟩, by decide +kernel, by decide +kernel⟩,
   ⟨(F' base nvB []), .spi, ⟨⟨by decide +kernel, by decide +kernel⟩, by decide +kernel⟩, by decide +kernel⟩,
   ⟨(st1 2 [(F.NV_STATUS_STORE_BUSY,1)]), by decide +kernel, by decide +kernel, by decide +kernel, by decide +kernel, by decide +kernel⟩,
   ⟨(nb []), by decide +kernel, by decide +kernel, by decide +kernel⟩,
   ⟨({F' base nvB [] with nv := {base.nv with copyA := okc base.nv.copyA}}), by decide +kernel, by decide +kernel, newestCopy_okc base.nv base.nv.copyA⟩,
   ⟨({st1 0 [(F.NV_STATUS_READY,0)] with nv := {(st1 0 []).nv with scanned := true}}), by decide +kernel, by decide +kernel, by decide +kernel, by decide +kernel, by decide +kernel⟩⟩
theorem witness_SlateStore_2 :
    (∃ (s : State),
     let b := nvB
     let x := s.nv
     ∃ (k : Master) (a : Nat) (v : Word),
     (s.pwr.core = true) ∧
     (x.held = [.word k a v]) ∧
     (inSlate a = true) ∧
     (s.flag b F.NV_STATUS_PENDING = false) ∧
     (x.scanned = true) ∧
     (s.flag b F.NV_STATUS_READY = false)) ∧
    (∃ (s : State),
     let b := nvB
     let x := s.nv
     ∃ (k : Master) (a : Nat) (v : Word),
     (s.pwr.core = true) ∧
     (x.held = [.word k a v]) ∧
     (inSlate a = true) ∧
     (s.flag b F.NV_STATUS_PENDING = false) ∧
     (x.storing = 1 ∨ x.storing = 2) ∧
     (s.fc.resetWait = false)) :=
  ⟨⟨{F' base nvB [] with nv := {base.nv with scanned := true, held := [.word .spi 0x3000020 7]}}, .spi, 0x3000020, 7, by decide +kernel, by decide +kernel, by decide +kernel, by decide +kernel, by decide +kernel, by decide +kernel⟩,
   ⟨(let s := st1 2 [(F.NV_STATUS_STORE_BUSY,1)]; {s with nv := {s.nv with held := [.word .spi 0x3000020 7]}}), .spi, 0x3000020, 7, by decide +kernel, by decide +kernel, by decide +kernel, by decide +kernel, by decide +kernel, by decide +kernel⟩⟩
theorem witness_RecordArray_1 :
    (∃ (s : State) (m : Master) (k : Fin 32),
     let b := nvB
     (s.flag b F.NV_STATUS_READY = false) ∧
     (Accepts s m (b + R.NV_ERASE) (BitVec.ofNat 32 (2 ^ 8 + k)))) ∧
    (∃ (s : State) (m : Master) (tag : BitVec 16),
     let b := nvB
     (s.flag b F.NV_STATUS_READY = false) ∧
     (Accepts s m (b + R.NV_REC_CTRL) (BitVec.ofNat 32 (tag.toNat * 2 ^ 16 + 1)))) ∧
    (∃ (s : State) (m : Master),
     let b := nvB
     (s.flag b F.NV_STATUS_READY = false) ∧
     (Accepts s m b 4#32)) ∧
    (∃ (s : State) (m : Master) (k : Fin 32),
     let b := nvB
     (Accepts s m (b + R.NV_ERASE) (BitVec.ofNat 32 (2 ^ 8 + k))) ∧
     (s.flag b F.NV_STATUS_READY = true) ∧
     (s.nv.erasing = []) ∧
     (secHardware s k = true ∨ secProtected s k = true)) ∧
    (∃ (s : State) (m : Master) (k : Fin 32),
     let b := nvB
     (Accepts s m (b + R.NV_ERASE) (BitVec.ofNat 32 (2 ^ 8 + k))) ∧
     (s.flag b F.NV_STATUS_READY = true) ∧
     (s.nv.erasing = []) ∧
     (secHardware s k = false) ∧
     (secProtected s k = false)) ∧
    (∃ (s : State) (k : Fin 32),
     (s.pwr.core = true) ∧
     (s.nv.erasing = [k.val]) ∧
     (s.nv.clearing = false)) :=
  ⟨⟨(F' base nvB [(F.NV_PROT_REC_WP,0x80)]), .spi, (0 : Fin 32), by decide +kernel, ⟨⟨by decide +kernel, by decide +kernel⟩, by decide +kernel⟩⟩,
   ⟨(F' base nvB []), .spi, 0x1234, by decide +kernel, ⟨⟨by decide +kernel, by decide +kernel⟩, by decide +kernel⟩⟩,
   ⟨(F' base nvB []), .spi, by decide +kernel, ⟨⟨by decide +kernel, by decide +kernel⟩, by decide +kernel⟩⟩,
   ⟨(nb [(F.NV_PROT_REC_WP,0x80)]), .spi, (0 : Fin 32), ⟨⟨by decide +kernel, by decide +kernel⟩, by decide +kernel⟩, by decide +kernel, by decide +kernel, by decide +kernel⟩,
   ⟨(rr 0x2000010 5 0x12008), .spi, 0x12, ⟨⟨by decide +kernel, by decide +kernel⟩, by decide +kernel⟩, by decide +kernel, by decide +kernel, by decide +kernel, by decide +kernel⟩,
   ⟨(let s := (nb []).setMemWord (recB + 0x12004) 0x99; let s := setHeader s 0x12 hdrUsed; {s with nv := {s.nv with erasing := [0x12]}}), 0x12, by decide +kernel, by decide +kernel, by decide +kernel⟩⟩
theorem witness_RecordArray_2 :
    (∃ (s : State) (m : Master) (tag : BitVec 16),
     let b := nvB
     let addr := s.fld b F.NV_REC_ADDR_ADDR
     let len := s.fld b F.NV_REC_LEN_LEN
     let src := s.fld b F.NV_REC_SRC_SRC
     let sound := addr % 4 = 0 ∧ 1 ≤ len ∧ len ≤ 4093 ∧ addr + 4 * (len + 3) ≤ 0x20000 ∧ (∀ j ∈ recSectors addr len, secWritable s j = true)
     let readable := src % 4 = 0 ∧ ∀ i, i < len → 0x2000000 ≤ src + 4 * i ∧ src + 4 * i < 0x2400000 ∧ passOk s (.dma 0) false (src + 4 * i) = true
     (Accepts s m (b + R.NV_REC_CTRL) (BitVec.ofNat 32 (tag.toNat * 2 ^ 16 + 1))) ∧
     (s.flag b F.NV_STATUS_READY = true) ∧
     (s.fld b F.NV_REC_CTRL_RESULT ≠ 1) ∧
     (sound) ∧
     (readable)) ∧
    (∃ (s : State) (m : Master) (tag : BitVec 16),
     let b := nvB
     let addr := s.fld b F.NV_REC_ADDR_ADDR
     let len := s.fld b F.NV_REC_LEN_LEN
     let src := s.fld b F.NV_REC_SRC_SRC
     let sound := addr % 4 = 0 ∧ 1 ≤ len ∧ len ≤ 4093 ∧ addr + 4 * (len + 3) ≤ 0x20000 ∧ (∀ j ∈ recSectors addr len, secWritable s j = true)
     let readable := src % 4 = 0 ∧ ∀ i, i < len → 0x2000000 ≤ src + 4 * i ∧ src + 4 * i < 0x2400000 ∧ passOk s (.dma 0) false (src + 4 * i) = true
     (Accepts s m (b + R.NV_REC_CTRL) (BitVec.ofNat 32 (tag.toNat * 2 ^ 16 + 1))) ∧
     (s.flag b F.NV_STATUS_READY = true) ∧
     (s.fld b F.NV_REC_CTRL_RESULT ≠ 1) ∧
     (sound) ∧
     (¬ readable)) ∧
    (∃ (s : State) (m : Master) (tag : BitVec 16),
     let b := nvB
     let addr := s.fld b F.NV_REC_ADDR_ADDR
     let len := s.fld b F.NV_REC_LEN_LEN
     let sound := addr % 4 = 0 ∧ 1 ≤ len ∧ len ≤ 4093 ∧ addr + 4 * (len + 3) ≤ 0x20000 ∧ (∀ j ∈ recSectors addr len, secWritable s j = true)
     (Accepts s m (b + R.NV_REC_CTRL) (BitVec.ofNat 32 (tag.toNat * 2 ^ 16 + 1))) ∧
     (s.flag b F.NV_STATUS_READY = true) ∧
     (s.fld b F.NV_REC_CTRL_RESULT ≠ 1) ∧
     (¬ sound)) ∧
    (∃ (s : State) (r : RecWrite),
     let b := nvB
     let addr := s.fld b F.NV_REC_ADDR_ADDR
     (s.pwr.core = true) ∧
     (s.nv.recw = some r) ∧
     (r.addr % 4 = 0) ∧
     (r.addr + 4 * (r.data.length + 3) ≤ 0x20000)) ∧
    (∃ (s : State) (m : Master) (off : Fin 131072),
     let b := nvB
     (Awake s) ∧
     (passOk s m true (recB + off) = true) ∧
     (s.flag b F.NV_STATUS_READY = true) ∧
     (off.val % 4 = 0) ∧
     (secWritable s (off / 0x1000) = true)) :=
  ⟨⟨(grant (rr 0x2000010 5 0x12008)), .spi, 0x1234, ⟨⟨by decide +kernel, by decide +kernel⟩, by decide +kernel⟩, by decide +kernel, by decide +kernel, by decide +kernel, by decide +kernel⟩,
   ⟨(rr 0x2000010 5 0x12008), .spi, 0x1234, ⟨⟨by decide +kernel, by decide +kernel⟩, by decide +kernel⟩, by decide +kernel, by decide +kernel, by decide +kernel, by decide +kernel⟩,
   ⟨(rr 0x2000010 0 0x12008), .spi, 0x1234, ⟨⟨by decide +kernel, by decide +kernel⟩, by decide +kernel⟩, by decide +kernel, by decide +kernel, by decide +kernel⟩,
   ⟨({rr 0x2000010 0 0x12008 with nv := {(rr 0x2000010 0 0x12008).nv with recw := some r0}}), r0, by decide +kernel, by decide +kernel, by decide +kernel, by decide +kernel⟩,
   ⟨(rr 0x2000010 5 0x12008), .spi, 0x12004, ⟨by decide +kernel, by decide +kernel⟩, by decide +kernel, by decide +kernel, by decide +kernel, by decide +kernel⟩⟩
theorem witness_CardsAndCounters :
    (∃ (s : State) (m : Master),
     let b := nvB
     let waits := s.nv.cards.length
     (Accepts s m b 2#32) ∧
     (waits < 7)) ∧
    (∃ (s : State) (m : Master),
     let b := nvB
     let waits := s.nv.cards.length
     (Accepts s m b 2#32) ∧
     (8 ≤ waits)) ∧
    (∃ (s : State),
     let b := nvB
     let next := (s.rd (b + R.NV_CARD_SEQ)).toNat
     ∃ c l,
     (s.nv.cards = c :: l) ∧
     (s.pwr.core = true) ∧
     (s.fc.resetWait = false) ∧
     (s.nv.storing = 0) ∧
     (s.flag b F.NV_STATUS_PENDING = false) ∧
     (s.flag b F.NV_STATUS_READY = true) ∧
     (s.nv.ring = 0 ∨ s.nv.ring = 16) ∧
     (s.nv.ring + next % 256 / 16 ∉ s.nv.erasing) ∧
     (c.length = 64)) ∧
    (∃ (s : State) (m : Master),
     let b := nvB
     (Accepts s m b 4#32) ∧
     (s.flag b F.NV_STATUS_READY = true) ∧
     (s.nv.erasing = [])) ∧
    (∃ (s : State) (m : Master),
     let b := nvB
     ∃ mask : BitVec 12,
     (Accepts s m (b + R.NV_CNT_INC) (mask.setWidth 32)) ∧
     ((∀ n : Fin 12, cntValue s.nv.cells n < 0xFFFFFFFF))) ∧
    (∃ (s : State) (m : Master),
     let b := nvB
     ∃ mask : BitVec 16,
     (Accepts s m (b + R.NV_CNT_CLR) (mask.setWidth 32))) :=
  ⟨⟨(nb []), .spi, ⟨⟨by decide +kernel, by decide +kernel⟩, by decide +kernel⟩, by decide +kernel⟩,
   ⟨(cs 8 [(F.NV_CARD_SEQ_NEXT,259)]), .spi, ⟨⟨by decide +kernel, by decide +kernel⟩, by decide +kernel⟩, by decide +kernel⟩,
   ⟨(cs 6 []), ([0x0000ca4d#32,  0x00000501#32] ++ List.replicate 62 0#32), (List.replicate 5 ([0x0000ca4d#32, 0x00000501#32] ++ List.replicate 62 0#32)), by decide +kernel, by decide +kernel, by decide +kernel, by decide +kernel, by decide +kernel, by decide +kernel, by decide +kernel, by decide +kernel, by decide +kernel⟩,
   ⟨(nb []), .spi, ⟨⟨by decide +kernel, by decide +kernel⟩, by decide +kernel⟩, by decide +kernel, by decide +kernel⟩,
   ⟨(nb []), .spi, 0x000#12, ⟨⟨by decide +kernel, by decide +kernel⟩, by decide +kernel⟩, by decide +kernel⟩,
   ⟨(nb []), .spi, 0x0000#16, ⟨⟨by decide +kernel, by decide +kernel⟩, by decide +kernel⟩⟩⟩
end NonVolatile

namespace Gauges
def gg (g : Nat) (l : List (Fld × Nat)) : State := let s := F' base (gauB g) ([(F.GAU_CTRL_EN,1),(F.GAU_DEADBAND_VALUE,0x3f000000),(F.GAU_REST_I_VALUE,0x3dcccccd),(F.GAU_LOW_I_VALUE,0x3dcccccd),(F.GAU_OCV_BASE_VALUE,0x2001000),(F.GAU_CFG_SERIES,1),(F.GAU_Q_MAX_Q_MAX,0x40000000),(F.GAU_Q_DESIGN_VALUE,0x40400000),(F.GAU_T_B_VALUE,0x41c80000),(F.GAU_WARN_PCT_EDW,20),(F.GAU_WARN_PCT_EDF,5),(F.GAU_WARN_PCT_ECW,90),(F.GAU_WARN_PCT_ECF,99),(F.GAU_EDV_W_VALUE,0x40400000),(F.GAU_EDV_F_VALUE,0x40200000),(F.GAU_ECV_W_VALUE,0x40800000),(F.GAU_ECV_F_VALUE,0x40880000),(F.GAU_WARN_T_T,2),(F.GAU_WARN_T_HYST,2),(F.GAU_WARN_T_HYST_MV,50)] ++ l); s.setGauge g {s.gauge g with run := true}
def withI (s : State) (g : Nat) (l : List Word) (vfb : Word) : State := s.setFelt g { s.felt g with gauI := l, vFb := vfb }
/-- A voltage table with a good CRC: eight temperatures 10 K apart, every voltage 0. -/
def tblBytes : List (Nat × Byte) :=
  [(0x2001000, 1), (0x2001001, 0x20), (0x2001002, 8), (0x2001006, 160), (0x2001008, 64), (0x2001009, 1), (0x200100A, 224), (0x200100B, 1),
    (0x200100C, 128), (0x200100D, 2), (0x200100E, 32), (0x200100F, 3), (0x2001010, 192), (0x2001011, 3), (0x2001012, 96), (0x2001013, 4),
    (0x2001214, 209), (0x2001215, 247), (0x2001216, 48), (0x2001217, 121)]
def tbl (s : State) : State := { s with mem := tblBytes }
def mo (k : Nat) (l : List (Fld × Nat)) : State := let s := F' base supB l; {s with sup := {s.sup with pos := k}}
def tw (f : HostX → HostX) : State := {base with host := f base.host}
/-- What a lookup gives, where it gives a value. -/
def soc' (s : State) (g : Nat) (v : Word) : Word := (ocvLookup s g v).getD 0
/-- A lookup in a good table where GAU_OCV_BASE points gives a value. -/
theorem ocvSome {s : State} {g : Nat} {v : Word} (h : (gauW s g R.GAU_OCV_BASE).toNat = 0x2001000) (k : tableOk s 0x2001000 = true) :
    ocvLookup s g v = some (soc' s g v) := by
  have j : ∃ x, ocvLookup s g v = some x := ⟨_, if_pos (h ▸ k)⟩
  obtain ⟨x, j⟩ := j
  simp [soc', j]

theorem witness_GaugeCounts :
    (∃ (s : State) (g : Fin 100) (i : Word),
     (s.pwr.core = true) ∧
     ((s.gauge g).run = true) ∧
     let b := gauB g
     let x := s.gauge g
     let total : Int := x.q * 2 ^ 149 + x.frac + fVal i * 1000
     (gauIb s g = some i) ∧
     (s.flag b F.GAU_CTRL_EN = true) ∧
     (s.flag b F.GAU_STATUS_LOW = false) ∧
     (s.fld b F.GAU_STATUS_LEARN ≠ 1) ∧
     (-(2 : Int) ^ 212 ≤ total) ∧
     (total < 2 ^ 212) ∧
     (x.based = true)) ∧
    (∃ (s : State) (g : Fin 100),
     (s.pwr.core = true) ∧
     ((s.gauge g).run = true) ∧
     let b := gauB g
     (s.flag b F.GAU_STATUS_LOW = false) ∧
     (fLe (fAbs (s.rd (b + R.GAU_I))) (gauW s g R.GAU_LOW_I) = true)) ∧
    (∃ (s : State) (g : Fin 100),
     (s.pwr.core = true) ∧
     ((s.gauge g).run = true) ∧
     let b := gauB g
     (s.flag b F.GAU_STATUS_LOW = true)) ∧
    (∃ (s : State) (g : Fin 100),
     (s.pwr.core = true) ∧
     ((s.gauge g).run = true) ∧
     let b := gauB g
     (gauIb s g = none) ∧
     (s.flag b F.GAU_STATUS_BLIND = false) ∧
     (s.fld b F.GAU_STATUS_LEARN ≠ 1)) :=
  ⟨⟨(let s := withI (gg 3 [(F.GAU_STATUS_VALID,1)]) 3 [0xbf800000] 0x40600000;
   (s.setGauge 3 {s.gauge 3 with started := true, based := true, q := -5, frac := 77})), 3, 0xbf800000, by decide +kernel, by decide +kernel, by decide +kernel, by decide +kernel, by decide +kernel, by decide +kernel, by decide +kernel, by decide +kernel, by decide +kernel⟩,
   ⟨(gg 3 []), 3, by decide +kernel, by decide +kernel, by decide +kernel, by decide +kernel⟩,
   ⟨(gg 3 [(F.GAU_STATUS_LOW,1)]), 3, by decide +kernel, by decide +kernel, by decide +kernel⟩,
   ⟨(gg 3 []), 3, by decide +kernel, by decide +kernel, by decide +kernel, by decide +kernel, by decide +kernel⟩⟩
theorem witness_GaugePoints :
    (∃ (s : State) (g : Fin 100) (v : Word),
     (s.pwr.core = true) ∧
     ((s.gauge g).run = true) ∧
     let b := gauB g
     let x := s.gauge g
     let calm := fLt (fAbs (s.rd (b + R.GAU_I))) (gauW s g R.GAU_REST_I) = true
     (calm) ∧
     (x.started = false) ∧
     ∃ soc,
     (ocvLookup s g v = some soc) ∧
     (g.val < 96)) ∧
    (∃ (s : State) (g : Fin 100),
     (s.pwr.core = true) ∧
     ((s.gauge g).run = true) ∧
     let b := gauB g
     let x := s.gauge g
     let base := (gauW s g R.GAU_OCV_BASE).toNat
     let calm := fLt (fAbs (s.rd (b + R.GAU_I))) (gauW s g R.GAU_REST_I) = true
     (calm) ∧
     (x.started = false) ∧
     (tableOk s base = false) ∧
     (x.tableTold = false) ∧
     (s.fld b F.GAU_STATUS_LEARN ≠ 1)) ∧
    (∃ (s : State) (g : Fin 100) (v dv : Word),
     (s.pwr.core = true) ∧
     ((s.gauge g).run = true) ∧
     let b := gauB g
     let x := s.gauge g
     let steady := fLt (fMul (fAbs dv) (fOfNat 1000)) (fOfNat (gauF s g F.GAU_REST_DV)) = true
     let base := (gauW s g R.GAU_OCV_BASE).toNat
     let t16 := fun k => fMul (fOfInt (ocvT s base k)) (fRatio 1 16)
     let calm := fLt (fAbs (s.rd (b + R.GAU_I))) (gauW s g R.GAU_REST_I) = true
     (calm) ∧
     (steady) ∧
     (x.rested = false) ∧
     (fLe (t16 0) (gauTemp s g) = true) ∧
     (fLe (gauTemp s g) (t16 7) = true) ∧
     (s.fld b F.GAU_STATUS_LEARN ≠ 1) ∧
     ∃ soc,
     (ocvLookup s g v = some soc)) ∧
    (∃ (s : State) (g : Fin 100) (dv : Word),
     (s.pwr.core = true) ∧
     ((s.gauge g).run = true) ∧
     let b := gauB g
     let x := s.gauge g
     let steady := fLt (fMul (fAbs dv) (fOfNat 1000)) (fOfNat (gauF s g F.GAU_REST_DV)) = true
     let calm := fLt (fAbs (s.rd (b + R.GAU_I))) (gauW s g R.GAU_REST_I) = true
     (¬ calm ∨ ¬ steady ∨ x.rested = true)) ∧
    (∃ (s : State) (g : Fin 100),
     (s.pwr.core = true) ∧
     ((s.gauge g).run = true) ∧
     let b := gauB g
     let x := s.gauge g
     let vb := gauVb s g
     let volt := fun k : Nat => gauW s g (R.GAU_EDV_W + 4 * k)
     (s.flag b F.GAU_STATUS_VALID = true) ∧
     ((96 ≤ g.val ∨ feltSwitching s g = false)) ∧
     (fLe vb (volt 1) = false) ∧
     (x.setN.length = 4) ∧
     (x.clrN.length = 4)) :=
  ⟨⟨(tbl (gg 3 [])), 3, 0x40600000, by decide +kernel, by decide +kernel, by decide +kernel, by decide +kernel, (soc' (tbl (gg 3 [])) 3 0x40600000), ocvSome (by decide +kernel) (by decide +kernel), by decide +kernel⟩,
   ⟨(gg 3 []), 3, by decide +kernel, by decide +kernel, by decide +kernel, by decide +kernel, by decide +kernel, by decide +kernel, by decide +kernel⟩,
   ⟨(let s := tbl (gg 97 [(F.GAU_REST_DV,10)]); (s.setGauge 97 {s.gauge 97 with started := true})), 97, 0x40600000, 0, by decide +kernel, by decide +kernel, by decide +kernel, by decide +kernel, by decide +kernel, by decide +kernel, by decide +kernel, by decide +kernel, (soc' (let s := tbl (gg 97 [(F.GAU_REST_DV,10)]); (s.setGauge 97 {s.gauge 97 with started := true})) 97 0x40600000), ocvSome (by decide +kernel) (by decide +kernel)⟩,
   ⟨(gg 3 []), 3, 0, by decide +kernel, by decide +kernel, by decide +kernel⟩,
   ⟨(let s := withI (tbl (gg 3 [(F.GAU_STATUS_VALID,1),(F.GAU_STATUS_EDW,1),(F.GAU_SOC_REP_VALUE,0x41f00000)])) 3 [] 0x40600000;
     (s.setGauge 3 {s.gauge 3 with started := true, setN := [1,1,1,1], clrN := [1,1,1,1]})), 3, by decide +kernel, by decide +kernel, by decide +kernel, by decide +kernel, by decide +kernel, by decide +kernel, by decide +kernel⟩⟩
theorem witness_GaugeControl_1 :
    (∃ (s : State) (m : Master) (g : Fin 100),
     (s.fld (gauB g) F.GAU_STATUS_LEARN ≠ 1) ∧
     let b := gauB g
     let x := s.gauge g
     (Accepts s m b (fset (s.kept b) F.GAU_CTRL_EN 1)) ∧
     (s.fld b F.GAU_CTRL_EN = 0) ∧
     (x.tableTold = false) ∧
     (x.kept = false)) ∧
    (∃ (s : State) (m : Master) (g : Fin 100),
     (s.fld (gauB g) F.GAU_STATUS_LEARN ≠ 1) ∧
     let b := gauB g
     let x := s.gauge g
     (Accepts s m b (fset (s.kept b) F.GAU_CTRL_EN 1)) ∧
     (s.fld b F.GAU_CTRL_EN = 0) ∧
     (x.tableTold = false) ∧
     (x.kept = true)) ∧
    (∃ (s : State) (m : Master) (g : Fin 100),
     (s.fld (gauB g) F.GAU_STATUS_LEARN ≠ 1) ∧
     let b := gauB g
     (Accepts s m b (fset (s.kept b) F.GAU_CTRL_EN 0)) ∧
     (s.fld b F.GAU_CTRL_EN = 1)) ∧
    (∃ (s : State) (m : Master) (g : Fin 100),
     (s.fld (gauB g) F.GAU_STATUS_LEARN ≠ 1) ∧
     let b := gauB g
     let x := s.gauge g
     (s.fld b F.GAU_CTRL_EN = 1) ∧
     (x.run = true) ∧
     (Accepts s m b (fset (s.kept b) F.GAU_CTRL_SWAP 1))) ∧
    (∃ (s : State) (m : Master) (g : Fin 100),
     (s.fld (gauB g) F.GAU_STATUS_LEARN ≠ 1) ∧
     let b := gauB g
     let x := s.gauge g
     (s.fld b F.GAU_CTRL_EN = 1) ∧
     (x.run = true) ∧
     (Accepts s m b (fset (s.kept b) F.GAU_CTRL_RELOAD 1)) ∧
     (x.tableTold = false)) ∧
    (∃ (s : State) (m : Master) (g : Fin 100),
     (s.fld (gauB g) F.GAU_STATUS_LEARN ≠ 1) ∧
     let b := gauB g
     let x := s.gauge g
     (s.fld b F.GAU_CTRL_EN = 1) ∧
     (x.run = true) ∧
     (Accepts s m b (fset (s.kept b) F.GAU_CTRL_LEARN_RESET 1))) :=
  ⟨⟨(gg 3 [(F.GAU_CTRL_EN,0)]), .spi, 3, by decide +kernel, ⟨⟨by decide +kernel, by decide +kernel⟩, by decide +kernel⟩, by decide +kernel, by decide +kernel, by decide +kernel⟩,
   ⟨(let s := gg 3 [(F.GAU_CTRL_EN,0)]; s.setGauge 3 {s.gauge 3 with kept := true}), .spi, 3, by decide +kernel, ⟨⟨by decide +kernel, by decide +kernel⟩, by decide +kernel⟩, by decide +kernel, by decide +kernel, by decide +kernel⟩,
   ⟨(gg 98 [(F.GAU_TAP_STAT_OPEN,0xffff)]), .spi, 98, by decide +kernel, ⟨⟨by decide +kernel, by decide +kernel⟩,
    by decide +kernel⟩, by decide +kernel⟩,
   ⟨(gg 98 [(F.GAU_TAP_STAT_OPEN,0xffff)]), .spi, 98, by decide +kernel, by decide +kernel, by decide +kernel, ⟨⟨by decide +kernel, by decide +kernel⟩, by decide +kernel⟩⟩,
   ⟨(gg 98 [(F.GAU_TAP_STAT_OPEN,0xffff)]), .spi, 98, by decide +kernel, by decide +kernel, by decide +kernel, ⟨⟨by decide +kernel, by decide +kernel⟩, by decide +kernel⟩, by decide +kernel⟩,
   ⟨(gg 98 [(F.GAU_TAP_STAT_OPEN,0xffff)]), .spi, 98, by decide +kernel, by decide +kernel, by decide +kernel, ⟨⟨by decide +kernel, by decide +kernel⟩, by decide +kernel⟩⟩⟩
theorem witness_GaugeControl_2 :
    ∃ (s : State) (m : Master) (g : Fin 100),
    (s.fld (gauB g) F.GAU_STATUS_LEARN ≠ 1) ∧
    let b := gauB g
    ∃ mask : BitVec 17,
    (Accepts s m (b + R.GAU_TAP_STAT) (mask.setWidth 32)) :=
  ⟨(gg 3 [(F.GAU_CTRL_EN,0)]), .spi, 3, by decide +kernel, 0x00000#17, ⟨⟨by decide +kernel, by decide +kernel⟩, by decide +kernel⟩⟩
theorem witness_MonitorScan :
    (∃ (s : State) (k : Fin 32),
     (s.pwr.core = true) ∧
     (s.sup.pos = k) ∧
     (tapsOn s k = [])) ∧
    (∃ (s : State),
     (s.pwr.core = true) ∧
     (s.sup.pos = 39)) ∧
    (∃ (s : State) (m : Master) (k : Fin 32),
     let b := supB
     let a := R.SUP_MON + 4 * k
     (Readable s m (b + a))) :=
  ⟨⟨(mo 5 [(F.SUP_SCAN_STAT_COUNT,65535)]), 5, by decide +kernel, by decide +kernel, by decide +kernel⟩,
   ⟨(mo 39 [(F.SUP_SCAN_STAT_COUNT,65535)]), by decide +kernel, by decide +kernel⟩,
   ⟨(mo 5 [(F.SUP_SCAN_STAT_COUNT,65535)]), .spi, 5, ⟨⟨by decide +kernel, by decide +kernel⟩, by decide +kernel⟩⟩⟩
theorem witness_HostFrames_1 :
    (∃ (s : State) (h : HostItf) (a : Word) (n : BitVec 16),
     (Awake s) ∧
     (s.host.twIn = []) ∧
     (s.host.twOut.length < 4) ∧
     (s.host.stuck = false) ∧
     (s.host.rstLow = false) ∧
     let m : Master := match h with | .spi => .spi | .twoWire => .twoWire
     let most : Nat := match h with | .spi => 1024 | .twoWire => 60
     let addrs := fun (fix : Bool) (k : Nat) => (List.range k).map (fun i => if fix then a.toNat else (a.toNat + 4 * i) % 2 ^ 32)
     let sized := fun (k : Nat) => a.toNat % 4 = 0 ∧ 1 ≤ k ∧ k ≤ most
     let free := fun (write fix : Bool) (k : Nat) => ∀ b ∈ addrs fix k, busWaits s write b = false
     let got := fun (fix : Bool) => Claims.readAll m (addrs fix n.toNat) s
     ∃ fix : Bool,
     (sized n.toNat) ∧
     (free false fix n.toNat) ∧
     ((got fix).2.1.pwr.core = true)) ∧
    (∃ (s : State) (h : HostItf) (a : Word) (n : BitVec 16),
     (Awake s) ∧
     (s.host.twIn = []) ∧
     (s.host.twOut.length < 4) ∧
     (s.host.stuck = false) ∧
     (s.host.rstLow = false) ∧
     let most : Nat := match h with | .spi => 1024 | .twoWire => 60
     let addrs := fun (fix : Bool) (k : Nat) => (List.range k).map (fun i => if fix then a.toNat else (a.toNat + 4 * i) % 2 ^ 32)
     let sized := fun (k : Nat) => a.toNat % 4 = 0 ∧ 1 ≤ k ∧ k ≤ most
     let free := fun (write fix : Bool) (k : Nat) => ∀ b ∈ addrs fix k, busWaits s write b = false
     ∃ fix : Bool,
     (sized n.toNat) ∧
     (¬ free false fix n.toNat)) ∧
    (∃ (s : State) (h : HostItf) (a : Word) (ws : List Word),
     (Awake s) ∧
     (s.host.twIn = []) ∧
     (s.host.twOut.length < 4) ∧
     (s.host.stuck = false) ∧
     (s.host.rstLow = false) ∧
     let m : Master := match h with | .spi => .spi | .twoWire => .twoWire
     let most : Nat := match h with | .spi => 1024 | .twoWire => 60
     let addrs := fun (fix : Bool) (k : Nat) => (List.range k).map (fun i => if fix then a.toNat else (a.toNat + 4 * i) % 2 ^ 32)
     let sized := fun (k : Nat) => a.toNat % 4 = 0 ∧ 1 ≤ k ∧ k ≤ most
     let free := fun (write fix : Bool) (k : Nat) => ∀ b ∈ addrs fix k, busWaits s write b = false
     let put := fun (fix : Bool) => Claims.writeAll m ((addrs fix ws.length).zip ws) s
     ∃ fix : Bool,
     (sized ws.length) ∧
     (free true fix ws.length) ∧
     ((put fix).1.pwr.core = true)) ∧
    (∃ (s : State) (h : HostItf) (a : Word) (ws : List Word),
     (Awake s) ∧
     (s.host.twIn = []) ∧
     (s.host.twOut.length < 4) ∧
     (s.host.stuck = false) ∧
     (s.host.rstLow = false) ∧
     let m : Master := match h with | .spi => .spi | .twoWire => .twoWire
     let most : Nat := match h with | .spi => 1024 | .twoWire => 60
     let addrs := fun (fix : Bool) (k : Nat) => (List.range k).map (fun i => if fix then a.toNat else (a.toNat + 4 * i) % 2 ^ 32)
     let sized := fun (k : Nat) => a.toNat % 4 = 0 ∧ 1 ≤ k ∧ k ≤ most
     let free := fun (write fix : Bool) (k : Nat) => ∀ b ∈ addrs fix k, busWaits s write b = false
     let put := fun (fix : Bool) => Claims.writeAll m ((addrs fix ws.length).zip ws) s
     ∃ fix : Bool,
     (sized ws.length) ∧
     (free true fix ws.length) ∧
     ((put fix).1.pwr.core = false)) ∧
    (∃ (s : State) (h : HostItf) (a : Word) (ws : List Word),
     (Awake s) ∧
     (s.host.twIn = []) ∧
     (s.host.twOut.length < 4) ∧
     (s.host.stuck = false) ∧
     (s.host.rstLow = false) ∧
     let most : Nat := match h with | .spi => 1024 | .twoWire => 60
     let addrs := fun (fix : Bool) (k : Nat) => (List.range k).map (fun i => if fix then a.toNat else (a.toNat + 4 * i) % 2 ^ 32)
     let sized := fun (k : Nat) => a.toNat % 4 = 0 ∧ 1 ≤ k ∧ k ≤ most
     let free := fun (write fix : Bool) (k : Nat) => ∀ b ∈ addrs fix k, busWaits s write b = false
     ∃ fix : Bool,
     (sized ws.length) ∧
     (¬ free true fix ws.length)) ∧
    (∃ (s : State) (h : HostItf) (n : BitVec 16),
     (Awake s) ∧
     (s.host.twIn = []) ∧
     (s.host.twOut.length < 4) ∧
     (s.host.stuck = false) ∧
     (s.host.rstLow = false) ∧
     let most : Nat := match h with | .spi => 1024 | .twoWire => 60
     (n = 0#16 ∨ most < n.toNat)) :=
  ⟨⟨base, .spi, 0x2000100, 2, ⟨by decide +kernel, by decide +kernel⟩, by decide +kernel, by decide +kernel, by decide +kernel, by decide +kernel, false, by decide +kernel, by decide +kernel, by decide +kernel⟩,
   ⟨base, .spi, 0x3000000, 2, ⟨by decide +kernel, by decide +kernel⟩, by decide +kernel, by decide +kernel, by decide +kernel, by decide +kernel, false, by decide +kernel, by decide +kernel⟩,
   ⟨base, .spi, 0x2000100, [7,8], ⟨by decide +kernel, by decide +kernel⟩, by decide +kernel, by decide +kernel, by decide +kernel, by decide +kernel, false, by decide +kernel, by decide +kernel, by decide +kernel⟩,
   ⟨base, .twoWire, 0xC4, [0x71920001], ⟨by decide +kernel, by decide +kernel⟩, by decide +kernel, by decide +kernel, by decide +kernel, by decide +kernel, false, by decide +kernel, by decide +kernel, by decide +kernel⟩,
   ⟨base, .spi, 0x3000000, [7,8], ⟨by decide +kernel, by decide +kernel⟩, by decide +kernel, by decide +kernel, by decide +kernel, by decide +kernel, false, by decide +kernel, by decide +kernel⟩,
   ⟨base, .spi, 0, ⟨by decide +kernel, by decide +kernel⟩, by decide +kernel, by decide +kernel, by decide +kernel, by decide +kernel, by decide +kernel⟩⟩
theorem witness_HostFrames_2 :
    (∃ (s : State) (h : HostItf) (a : Word) (n : BitVec 16),
     (Awake s) ∧
     (s.host.twIn = []) ∧
     (s.host.twOut.length < 4) ∧
     (s.host.stuck = false) ∧
     (s.host.rstLow = false) ∧
     let code := fun (write fix : Bool) => if write then (if fix then 10 else 2) else if fix then 11 else 3
     ∃ fix : Bool,
     let cr := code false fix
     let okR := frameCheck h cr a.toNat n.toNat []
     ∃ c,
     (c ≠ okR)) ∧
    (∃ (s : State) (h : HostItf) (a : Word) (ws : List Word),
     (Awake s) ∧
     (s.host.twIn = []) ∧
     (s.host.twOut.length < 4) ∧
     (s.host.stuck = false) ∧
     (s.host.rstLow = false) ∧
     let code := fun (write fix : Bool) => if write then (if fix then 10 else 2) else if fix then 11 else 3
     ∃ fix : Bool,
     let cw := code true fix
     let okW := frameCheck h cw a.toNat ws.length ws
     ∃ c,
     (c ≠ okW)) ∧
    (∃ (s : State) (h : HostItf) (n : BitVec 16),
     (Awake s) ∧
     (s.host.twIn = []) ∧
     (s.host.twOut.length < 4) ∧
     (s.host.stuck = false) ∧
     (s.host.rstLow = false) ∧
     ∃ cmd : BitVec 8,
     (cmd.toNat ∉ [0x02, 0x03, 0x0A, 0x0B, 0x9F]) ∧
     ∃ c,
     (c ≠ frameCheck h cmd.toNat 0 n.toNat [])) ∧
    (∃ (s : State) (a : Word) (n : BitVec 16),
     (Awake s) ∧
     (s.host.twIn = []) ∧
     (s.host.twOut.length < 4) ∧
     (s.host.stuck = false) ∧
     (s.host.rstLow = false) ∧
     let addrs := fun (fix : Bool) (k : Nat) => (List.range k).map (fun i => if fix then a.toNat else (a.toNat + 4 * i) % 2 ^ 32)
     let free := fun (write fix : Bool) (k : Nat) => ∀ b ∈ addrs fix k, busWaits s write b = false
     ∃ fix : Bool,
     (a.toNat % 4 = 0) ∧
     (n ≠ 0#16) ∧
     (free false fix n.toNat)) :=
  ⟨⟨base, .spi, 0x2000100, 2, ⟨by decide +kernel, by decide +kernel⟩, by decide +kernel, by decide +kernel, by decide +kernel, by decide +kernel, false, 0, by decide +kernel⟩,
   ⟨base, .spi, 0x2000100, [7,8], ⟨by decide +kernel, by decide +kernel⟩, by decide +kernel, by decide +kernel, by decide +kernel, by decide +kernel, false, 0, by decide +kernel⟩,
   ⟨base, .spi, 2, ⟨by decide +kernel, by decide +kernel⟩, by decide +kernel, by decide +kernel, by decide +kernel, by decide +kernel, 0x0C#8, by decide +kernel, 0, by decide +kernel⟩,
   ⟨base, 0x2000100, 2, ⟨by decide +kernel, by decide +kernel⟩, by decide +kernel, by decide +kernel, by decide +kernel, by decide +kernel, false, by decide +kernel, by decide +kernel, by decide +kernel⟩⟩
theorem witness_TwoWire :
    (∃ (s : State),
     (s.pwr.core = true) ∧
     let x := s.host
     ∃ p q,
     (x.twOut = p :: q) ∧
     (s.pwr.asleep = false) ∧
     (x.stuck = false) ∧
     (x.rstLow = false) ∧
     (x.twIn = [])) ∧
    (∃ (s : State),
     (s.pwr.core = true) ∧
     let x := s.host
     (x.notice ≠ 0) ∧
     (x.rstLow = false)) ∧
    (∃ (s : State),
     (s.pwr.core = true) ∧
     let x := s.host
     (x.stuck = true)) ∧
    (∃ (s : State),
     (s.pwr.core = true) ∧
     let x := s.host
     (x.stuck = false)) ∧
    (∃ (s : State) (m : Master),
     (s.pwr.core = true) ∧
     let b := hostB
     let x := s.host
     (Accepts s m (b + R.HOST_TW_CTRL) 1#32) ∧
     (x.stuck = false)) :=
  ⟨⟨(tw fun x => {x with twOut := [[1],[2]], notice := 3}), by decide +kernel, ([0x01#8]), ([[0x02#8]]), by decide +kernel, by decide +kernel, by decide +kernel, by decide +kernel, by decide +kernel⟩,
   ⟨(tw fun x => {x with twOut := [[1],[2]], notice := 3}), by decide +kernel, by decide +kernel, by decide +kernel⟩,
   ⟨(tw fun x => {x with stuck := true}), by decide +kernel, by decide +kernel⟩,
   ⟨(tw fun x => {x with twOut := [[1],[2]], notice := 3}), by decide +kernel, by decide +kernel⟩,
   ⟨(tw fun x => {x with stuck := false, twOut := [[1]], notice := 3}), .spi, by decide +kernel, ⟨⟨by decide +kernel, by decide +kernel⟩, by decide +kernel⟩, by decide +kernel⟩⟩
end Gauges

namespace Supply
def ss (l : List (Fld × Nat)) (f : SupX → SupX) : State := let s := F' base supB l; {s with sup := f s.sup}
def ent (s : State) (r kind idx step react src : Nat) : State := F' s (ttB r) [(F.SUP_TTE_A_VALID,1),(F.SUP_TTE_A_KIND,kind),(F.SUP_TTE_A_INDEX,idx),(F.SUP_TTE_A_STEP,step),(F.SUP_TTE_A_REACT,react),(F.SUP_TTE_C_PG_SRC,src)]
def er (st seq kind react src : Nat) : State := let s := ent (ss [] fun x => {x with seq := seq, pins := [7]}) 3 kind 7 5 react src; s.setRail 3 ⟨st, 2⟩
def il (st raw : Nat) (n : Nat) (l : List (Fld × Nat)) : State := let s := F' (F' base (supB + 0x20*2) l) supB [(F.SUP_ILK_STAT_STATE,st),(F.SUP_ILK_STAT_RAW,raw)]; {s with sup := {s.sup with ilkN := [(0,n),(1,n),(2,n),(3,n)]}}

theorem witness_TimetableRuns :
    (∃ (s : State) (m : Master),
     (s.isCrown = false) ∧
     let b := supB
     let x := s.sup
     let downs := x.seq = 3 ∨ x.seq = 4
     (Accepts s m (b + R.SUP_TT_CTRL) 1#32) ∧
     (downs)) ∧
    (∃ (s : State) (m : Master),
     (s.isCrown = false) ∧
     let b := supB
     let x := s.sup
     let downs := x.seq = 3 ∨ x.seq = 4
     (Accepts s m (b + R.SUP_TT_CTRL) 1#32) ∧
     (¬ downs) ∧
     (s.forcedOff = false) ∧
     (s.flag b F.SUP_TT_CFG_CHAIN_IN = true) ∧
     (x.seq ≠ 2)) ∧
    (∃ (s : State) (m : Master),
     (s.isCrown = false) ∧
     let b := supB
     let x := s.sup
     let downs := x.seq = 3 ∨ x.seq = 4
     (Accepts s m (b + R.SUP_TT_CTRL) 1#32) ∧
     (¬ downs) ∧
     (s.forcedOff = false) ∧
     (s.flag b F.SUP_TT_CFG_CHAIN_IN = false)) ∧
    (∃ (s : State) (m : Master),
     (s.isCrown = false) ∧
     let b := supB
     let x := s.sup
     let downs := x.seq = 3 ∨ x.seq = 4
     let idle := unnamedFelts s = [] ∧ unnamedHouses s = []
     (Accepts s m (b + R.SUP_TT_CTRL) 2#32) ∧
     (¬ downs) ∧
     (idle)) ∧
    (∃ (s : State),
     (s.isCrown = false) ∧
     let x := s.sup
     (s.pwr.core = true) ∧
     (x.seq = 3)) ∧
    (∃ (s : State),
     (s.isCrown = false) ∧
     let x := s.sup
     (s.pwr.core = true) ∧
     (x.flt = []) ∧
     (x.seq ≠ 1)) ∧
    (∃ (s : State),
     (s.isCrown = false) ∧
     let x := s.sup
     (s.pwr.core = true) ∧
     (x.flt = []) ∧
     (x.seq = 1)) ∧
    (∃ (s : State),
     (s.isCrown = false) ∧
     let x := s.sup
     let downs := x.seq = 3 ∨ x.seq = 4
     (s.pwr.core = true) ∧
     (x.chain = true) ∧
     (¬ downs)) :=
  ⟨⟨(ent (ent (ss [] fun x => {x with seq := 3}) 3 3 7 5 0 0) 4 3 8 6 0 0), .spi, by decide +kernel, ⟨⟨by decide +kernel,
    by decide +kernel⟩, by decide +kernel⟩, by decide +kernel⟩,
   ⟨(ss [(F.SUP_TT_CFG_CHAIN_IN,1),(F.SUP_TT_CFG_FLT_IN,1)] id), .spi, by decide +kernel, ⟨⟨by decide +kernel,
    by decide +kernel⟩, by decide +kernel⟩, by decide +kernel, by decide +kernel, by decide +kernel, by decide +kernel⟩,
   ⟨(ss [] id), .spi, by decide +kernel, ⟨⟨by decide +kernel, by decide +kernel⟩, by decide +kernel⟩, by decide +kernel,
    by decide +kernel, by decide +kernel⟩,
   ⟨(ss [] id), .spi, by decide +kernel, ⟨⟨by decide +kernel, by decide +kernel⟩, by decide +kernel⟩, by decide +kernel,
    by decide +kernel⟩,
   ⟨(ent (ent (ss [] fun x => {x with seq := 3}) 3 3 7 5 0 0) 4 3 8 6 0 0), by decide +kernel, by decide +kernel,
    by decide +kernel⟩,
   ⟨(ss [] id), by decide +kernel, by decide +kernel, by decide +kernel, by decide +kernel⟩,
   ⟨(ss [] fun x => {x with seq := 1, chain := true}), by decide +kernel, by decide +kernel, by decide +kernel,
    by decide +kernel⟩,
   ⟨(ss [] fun x => {x with seq := 1, chain := true}), by decide +kernel, by decide +kernel, by decide +kernel,
    by decide +kernel⟩⟩
theorem witness_TimetableEntries_1 :
    (∃ (s : State) (r : Fin 32),
     (s.pwr.core = true) ∧
     let x := s.rail r
     let pin := ttKind s r = 3
     (x.st = 1) ∧
     (s.sup.seq = 2) ∧
     (pin)) ∧
    (∃ (s : State) (r : Fin 32),
     (s.pwr.core = true) ∧
     let x := s.rail r
     let pin := ttKind s r = 3
     (x.st = 5) ∧
     (pin)) ∧
    (∃ (s : State) (r : Fin 32),
     (s.pwr.core = true) ∧
     let x := s.rail r
     let pin := ttKind s r = 3
     (x.st = 7) ∧
     (pin)) ∧
    (∃ (s : State) (r : Fin 32),
     (s.pwr.core = true) ∧
     let x := s.rail r
     (x.st = 2) ∧
     (railGood s r = false) ∧
     (s.fld (ttB r) F.SUP_TTE_A_REACT = 0)) ∧
    (∃ (s : State) (r : Fin 32),
     (s.pwr.core = true) ∧
     let x := s.rail r
     (x.st = 2) ∧
     (railGood s r = false) ∧
     (s.fld (ttB r) F.SUP_TTE_A_REACT = 3)) ∧
    (∃ (s : State) (r : Fin 32),
     (s.pwr.core = true) ∧
     let x := s.rail r
     let pin := ttKind s r = 3
     (x.st = 6) ∧
     (railDone s r (railOwn s r) = false) ∧
     (pin)) :=
  ⟨⟨(er 1 2 3 0 0), 3, by decide +kernel, by decide +kernel, by decide +kernel, by decide +kernel⟩,
   ⟨(er 5 4 3 0 0), 3, by decide +kernel, by decide +kernel, by decide +kernel⟩,
   ⟨(er 7 4 3 0 0), 3, by decide +kernel, by decide +kernel, by decide +kernel⟩,
   ⟨(er 2 2 3 0 1), 3, by decide +kernel, by decide +kernel, by decide +kernel, by decide +kernel⟩,
   ⟨(er 2 2 3 3 1), 3, by decide +kernel, by decide +kernel, by decide +kernel, by decide +kernel⟩,
   ⟨(er 6 4 3 3 1), 3, by decide +kernel, by decide +kernel, by decide +kernel, by decide +kernel⟩⟩
theorem witness_TimetableEntries_2 :
    ∃ (s : State) (r : Fin 32),
    (s.pwr.core = true) ∧
    let x := s.rail r
    (x.st = 3) :=
  ⟨(er 3 0 3 3 1), 3, by decide +kernel, by decide +kernel⟩
theorem witness_Interlocks :
    (∃ (s : State),
     (s.pwr.core = true)) ∧
    (∃ (s : State) (m : Master),
     ∃ mask : BitVec 4,
     (Accepts s m (supB + R.SUP_ILK_CTRL) (mask.setWidth 32))) :=
  ⟨⟨(il 0 0xffff 3 [(F.SUP_ILK_FELT1_FELTS,0x40),(F.SUP_ILK_CFG_RESTART,1)]), by decide +kernel⟩,
   ⟨(il 0 0xffff 3 [(F.SUP_ILK_FELT1_FELTS,0x40),(F.SUP_ILK_CFG_RESTART,1)]), .spi, 0xf#4, ⟨⟨by decide +kernel,
    by decide +kernel⟩, by decide +kernel⟩⟩⟩
theorem witness_PushButton :
    (∃ (s : State),
     let b := supB
     (s.flag b F.SUP_PB_STAT_PRESSED = false) ∧
     (s.pwr.asleep = false)) ∧
    (∃ (s : State),
     let b := supB
     (s.flag b F.SUP_PB_STAT_PRESSED = true)) ∧
    (∃ (s : State),
     let b := supB
     let x := s.sup
     let live := s.flag b F.SUP_PB_STAT_PRESSED = true ∧ x.pbDone = false
     let off := (s.fld b F.SUP_STATUS_CAB = 0 ∨ s.fld b F.SUP_STATUS_CAB = 5) ∧ s.flag b F.SUP_STATUS_PWR_EN = false
     (live) ∧
     (off)) ∧
    (∃ (s : State),
     let b := supB
     let x := s.sup
     let live := s.flag b F.SUP_PB_STAT_PRESSED = true ∧ x.pbDone = false
     let off := (s.fld b F.SUP_STATUS_CAB = 0 ∨ s.fld b F.SUP_STATUS_CAB = 5) ∧ s.flag b F.SUP_STATUS_PWR_EN = false
     (live) ∧
     (¬ off) ∧
     (s.flag b F.SUP_PB_CFG_SHORT_ACT = false)) ∧
    (∃ (s : State),
     (s.forceOff = true)) :=
  ⟨⟨(ss [] id), by decide +kernel, by decide +kernel⟩,
   ⟨(ss [(F.SUP_PB_STAT_PRESSED,1),(F.SUP_STATUS_CAB,2)] fun x => {x with pbDone := false}), by decide +kernel⟩,
   ⟨(ss [(F.SUP_PB_STAT_PRESSED,1),(F.SUP_PB_CFG_AUTO_ON,1)] fun x => {x with pbDone := false}), by decide +kernel, by decide +kernel⟩,
   ⟨(ss [(F.SUP_PB_STAT_PRESSED,1),(F.SUP_STATUS_CAB,2)] fun x => {x with pbDone := false}), by decide +kernel, by decide +kernel, by decide +kernel⟩,
   ⟨({ss [] id with forceOff := true}), by decide +kernel⟩⟩
theorem witness_ResetsAndSleep :
    (∃ (s : State) (m : Master),
     (Accepts s m R.SYS_RST_CTRL 0x71920001#32)) ∧
    (∃ (s : State),
     (s.pwr.main = true) ∧
     (s.pwr.pll = true) ∧
     (s.pwr.core = false)) ∧
    (∃ (s : State) (m : Master),
     (Accepts s m R.SYS_PWR 1#32) ∧
     (maySleep s = true)) ∧
    (∃ (s : State) (m : Master),
     (Accepts s m R.SYS_PWR 1#32) ∧
     (maySleep s = false)) ∧
    (∃ (s : State),
     (s.pwr.core = true) ∧
     (s.pwr.asleep = true) ∧
     ((∀ f : Fin 96, feltState s f ≠ 2))) :=
  ⟨⟨(F' base 0 [(F.SYS_RST_CAUSE_CAUSE,4)]), .spi, ⟨⟨by decide +kernel, by decide +kernel⟩, by decide +kernel⟩⟩,
   ⟨({base with pwr := {base.pwr with core := false, main := true, pll := true}}), by decide +kernel, by decide +kernel, by decide +kernel⟩,
   ⟨(F' base 0 [(F.SYS_RST_CAUSE_CAUSE,4)]), .spi, ⟨⟨by decide +kernel, by decide +kernel⟩, by decide +kernel⟩, by decide +kernel⟩,
   ⟨(F' base (hseB 3) [(F.HSE_STATUS_ON,1)]), .spi, ⟨⟨by decide +kernel, by decide +kernel⟩, by decide +kernel⟩, by decide +kernel⟩,
   ⟨({base with pwr := {base.pwr with asleep := true, main := true}}), by decide +kernel, by decide +kernel, by decide +kernel⟩⟩
end Supply

namespace Cascade
def crown (s : State) : State := F' (F' s casB [(F.CAS_STATUS_ROLE,1)]) 0 [(F.SYS_IMG_VER_CABINET_SIZE, 3)]
def brim (s : State) : State := F' (F' s casB [(F.CAS_STATUS_ROLE,2)]) 0 [(F.SYS_IMG_VER_CABINET_SIZE, 3),(F.SYS_IMG_VER_POSITION,1)]
def pk (cls sub : Nat) (body : List Word) : CasPkt := ⟨cls, 2, 0, false, sub, body⟩
def rx (s : State) (p : CasPkt) : State := { s with casRx := [p, pk 9 9 []] }
def lim (f : LoadX → LoadX) (s : State) : State := { s with img := f s.img }
def cs (f : CasX → CasX) (s : State) : State := { s with cas := f s.cas }
def grant (s : State) : State := s.wr 0x20258 0xAAAAAAAA
def rq (kind prio left : Nat) : AdmReq := ⟨kind, 1, 4, 30, prio, 5, left, 9⟩
def fr (l : Nat) (st : Nat) (f : CasLane → CasLane) : State := let s := F' base (casB + 4*l) [(F.CAS_LANE01_STATE,st),(F.CAS_LANE01_LOSS_LIMIT,20)]; s.setCasLane l (f (s.casLane l))

theorem witness_CascadeOrder_1 :
    (∃ (s : State) (m : Master),
     let b := casB
     (Accepts s m b 1#32) ∧
     (s.img.loaded = true) ∧
     (1 < s.cabinetSize) ∧
     (s.role = 0) ∧
     (s.position = 0)) ∧
    (∃ (s : State) (m : Master),
     let b := casB
     (Accepts s m b 1#32) ∧
     (s.img.loaded = true) ∧
     (1 < s.cabinetSize) ∧
     (s.isCrown = false)) ∧
    (∃ (s : State) (m : Master),
     let b := casB
     (Accepts s m b 2#32) ∧
     (s.isCrown = true)) ∧
    (∃ (s : State) (p : CasPkt) (q : List CasPkt),
     let w := fun k => p.body.getD k 0#32
     let n := (w 0).toNat
     (s.pwr.core = true) ∧
     (s.casRx = p :: q) ∧
     (p.cls = 1) ∧
     (p.sub = 0) ∧
     (s.isCrown = true) ∧
     (p.dst = 0) ∧
     (n = p.src)) ∧
    (∃ (s : State) (p : CasPkt) (q : List CasPkt),
     let w := fun k => p.body.getD k 0#32
     let n := (w 0).toNat
     (s.pwr.core = true) ∧
     (s.casRx = p :: q) ∧
     (p.cls = 1) ∧
     (p.sub = 0) ∧
     (s.isCrown = true) ∧
     (p.dst ≠ 0 ∨ n ≠ p.src)) ∧
    (∃ (s : State) (p : CasPkt) (q : List CasPkt),
     let w := fun k => p.body.getD k 0#32
     let n := (w 0).toNat
     (s.pwr.core = true) ∧
     (s.casRx = p :: q) ∧
     (p.cls = 1) ∧
     (p.sub = 0) ∧
     (s.isCrown = false) ∧
     (n < 16) ∧
     (s.img.loaded = true) ∧
     (s.cas.imgPos = n) ∧
     (loading s = false) ∧
     ((n ≠ s.position → s.adm.queue = []))) :=
  ⟨⟨(lim (fun x => {x with loaded := true}) (F' base 0 [(F.SYS_IMG_VER_CABINET_SIZE, 3)])), .spi, ⟨⟨by decide +kernel,
    by decide +kernel⟩, by decide +kernel⟩, by decide +kernel, by decide +kernel, by decide +kernel, by decide +kernel⟩,
   ⟨(lim (fun x => {x with loaded := true}) (F' base 0 [(F.SYS_IMG_VER_CABINET_SIZE, 3)])), .spi, ⟨⟨by decide +kernel,
    by decide +kernel⟩, by decide +kernel⟩, by decide +kernel, by decide +kernel, by decide +kernel⟩,
   ⟨(crown base), .spi, ⟨⟨by decide +kernel, by decide +kernel⟩, by decide +kernel⟩, by decide +kernel⟩,
   ⟨(rx (cs (fun x => {x with found := [(2,5,6),(1,7,8)]}) (crown base)) (pk 1 0 [2,3,4])), (pk 1 0 [2,3,4]), [pk 9 9 []], by decide +kernel, by decide +kernel, by decide +kernel, by decide +kernel, by decide +kernel, by decide +kernel, by decide +kernel⟩,
   ⟨(rx (cs (fun x => {x with found := [(2,5,6),(1,7,8)]}) (crown base)) (pk 1 0 [1,3,4])), (pk 1 0 [1,3,4]), [pk 9 9 []], by decide +kernel, by decide +kernel, by decide +kernel, by decide +kernel, by decide +kernel, by decide +kernel⟩,
   ⟨(rx (cs (fun x => {x with imgPos := 5}) (lim (fun x => {x with loaded := true}) (base))) (pk 1 0 [5,3,4])), (pk 1 0 [5,3,4]), [pk 9 9 []], by decide +kernel, by decide +kernel, by decide +kernel, by decide +kernel, by decide +kernel, by decide +kernel, by decide +kernel, by decide +kernel, by decide +kernel, by decide +kernel⟩⟩
theorem witness_CascadeOrder_2 :
    (∃ (s : State) (p : CasPkt) (q : List CasPkt),
     (s.pwr.core = true) ∧
     (s.casRx = p :: q) ∧
     (p.cls = 6) ∧
     (p.sub = 0) ∧
     (p.body.length = 1)) ∧
    (∃ (s : State) (p : CasPkt) (q : List CasPkt),
     let w := fun k => p.body.getD k 0#32
     (s.pwr.core = true) ∧
     (s.casRx = p :: q) ∧
     (p.cls = 6) ∧
     (p.sub = 0) ∧
     ∃ a v : Word,
     (p.body = [w 0, a, v]) ∧
     let u := { s with casRx := q }
     (regRefused u .coherent true a.toNat v = true)) ∧
    (∃ (s : State) (p : CasPkt) (q : List CasPkt),
     (s.pwr.core = true) ∧
     (s.casRx = p :: q) ∧
     (p.cls = 6) ∧
     (p.sub = 1)) :=
  ⟨⟨(rx (brim base) (pk 6 0 [77])), (pk 6 0 [77]), [pk 9 9 []], by decide +kernel, by decide +kernel, by decide +kernel, by decide +kernel, by decide +kernel⟩,
   ⟨(rx (brim base) (pk 6 0 [77,0x1801,5])), (pk 6 0 [77,0x1801,5]), [pk 9 9 []], by decide +kernel, by decide +kernel, by decide +kernel, by decide +kernel, 0x1801#32, 5#32, by decide +kernel, by decide +kernel⟩,
   ⟨(rx (cs (fun x => {x with coh := [(5,[2,3]),(77,[2]),(78,[1,2])]}) (crown base)) (pk 6 1 [77])), (pk 6 1 [77]), [pk 9 9 []], by decide +kernel, by decide +kernel, by decide +kernel, by decide +kernel⟩⟩
theorem witness_RollCalls_1 :
    (∃ (s : State) (m : Master),
     let b := casB
     (Accepts s m b 4#32) ∧
     (s.isCrown = true)) ∧
    (∃ (s : State),
     (s.pwr.core = true) ∧
     (s.isBrim = true)) ∧
    (∃ (s : State) (p : CasPkt) (q : List CasPkt),
     (s.pwr.core = true) ∧
     (s.casRx = p :: q) ∧
     (p.cls = 7) ∧
     (p.sub = 0) ∧
     (s.flag 0 F.SYS_DIGEST_STAT_BUSY = true)) ∧
    (∃ (s : State) (p : CasPkt) (q : List CasPkt),
     (s.pwr.core = true) ∧
     (s.casRx = p :: q) ∧
     (p.cls = 7) ∧
     (p.sub = 0) ∧
     (s.flag 0 F.SYS_DIGEST_STAT_BUSY = false)) ∧
    (∃ (s : State) (p : CasPkt) (q : List CasPkt),
     let d := s.img.digest.toNat
     let w := fun k => p.body.getD k 0#32
     let agrees := w 0 = BitVec.ofNat 32 d ∧ w 1 = BitVec.ofNat 32 (d / 2 ^ 32)
     (s.pwr.core = true) ∧
     (s.casRx = p :: q) ∧
     (p.cls = 7) ∧
     (p.sub = 1) ∧
     (s.isCrown = true) ∧
     (s.img.loaded = true) ∧
     (w 3 = s.rd R.SYS_IMG_ID) ∧
     ((w 4).getLsbD 0 = false) ∧
     (s.flag 0 F.SYS_DIGEST_STAT_BUSY = false) ∧
     (p.src < 16) ∧
     (agrees)) ∧
    (∃ (s : State) (p : CasPkt) (q : List CasPkt),
     let d := s.img.digest.toNat
     let w := fun k => p.body.getD k 0#32
     let agrees := w 0 = BitVec.ofNat 32 d ∧ w 1 = BitVec.ofNat 32 (d / 2 ^ 32)
     (s.pwr.core = true) ∧
     (s.casRx = p :: q) ∧
     (p.cls = 7) ∧
     (p.sub = 1) ∧
     (s.isCrown = true) ∧
     (s.img.loaded = true) ∧
     (w 3 = s.rd R.SYS_IMG_ID) ∧
     ((w 4).getLsbD 0 = false) ∧
     (s.flag 0 F.SYS_DIGEST_STAT_BUSY = false) ∧
     (p.src < 16) ∧
     (¬ agrees) ∧
     (s.cas.epochAt = none)) :=
  ⟨⟨(rx (cs (fun x => {x with found := [(2,5,6),(1,7,8)]}) (crown base)) pk0), .spi, ⟨⟨by decide +kernel, by decide +kernel⟩,
    by decide +kernel⟩, by decide +kernel⟩,
   ⟨(rx (brim base) (pk 7 0 [])), by decide +kernel, by decide +kernel⟩,
   ⟨(rx (F' (brim base) 0 [(F.SYS_DIGEST_STAT_BUSY,1)]) (pk 7 0 [])), (pk 7 0 []), [pk 9 9 []], by decide +kernel, by decide +kernel, by decide +kernel, by decide +kernel, by decide +kernel⟩,
   ⟨(rx (brim base) (pk 7 0 [])), (pk 7 0 []), [pk 9 9 []], by decide +kernel, by decide +kernel, by decide +kernel, by decide +kernel, by decide +kernel⟩,
   ⟨(rx (F' (lim (fun x =>
    {x with loaded := true, digest := 0x500000007}) (cs (fun x => {x with asked := [1,2]}) (crown base))) casB [(F.CAS_ROLL_STAT_MISS,6)]) (pk 7 1 [7,5,0,0,0])), (pk 7 1 [7,5,0,0,0]), [pk 9 9 []], by decide +kernel, by decide +kernel, by decide +kernel, by decide +kernel, by decide +kernel, by decide +kernel, by decide +kernel, by decide +kernel, by decide +kernel, by decide +kernel, by decide +kernel⟩,
   ⟨(rx (F' (lim (fun x =>
    {x with loaded := true, digest := 0x500000007}) (cs (fun x => {x with asked := [1,2]}) (crown base))) casB [(F.CAS_ROLL_STAT_MISS,6),(F.CAS_ROLL_STAT_MATCH,6)]) (pk 7 1 [8,5,0,0,0])), (pk 7 1 [8,5,0,0,0]), [pk 9 9 []], by decide +kernel, by decide +kernel, by decide +kernel, by decide +kernel, by decide +kernel, by decide +kernel, by decide +kernel, by decide +kernel, by decide +kernel, by decide +kernel, by decide +kernel, by decide +kernel⟩⟩
theorem witness_RollCalls_2 :
    (∃ (s : State) (p : CasPkt) (q : List CasPkt),
     let w := fun k => p.body.getD k 0#32
     (s.pwr.core = true) ∧
     (s.casRx = p :: q) ∧
     (p.cls = 7) ∧
     (p.sub = 2) ∧
     ((w 0).getLsbD 0 = true)) ∧
    (∃ (s : State) (p : CasPkt) (q : List CasPkt),
     let w := fun k => p.body.getD k 0#32
     (s.pwr.core = true) ∧
     (s.casRx = p :: q) ∧
     (p.cls = 7) ∧
     (p.sub = 2) ∧
     ((w 0).getLsbD 0 = false) ∧
     ((w 0).getLsbD 1 = true)) ∧
    (∃ (s : State) (p : CasPkt) (q : List CasPkt),
     let w := fun k => p.body.getD k 0#32
     (s.pwr.core = true) ∧
     (s.casRx = p :: q) ∧
     (p.cls = 7) ∧
     (p.sub = 2) ∧
     ((w 0).getLsbD 0 = false) ∧
     ((w 0).getLsbD 1 = false)) :=
  ⟨⟨(rx (F' (cs (fun x => {x with agreed := 2}) (brim base)) casB [(F.CAS_CFG_ROLL_CLR,3)]) (pk 7 2 [1])), (pk 7 2 [1]), [pk 9 9 []], by decide +kernel, by decide +kernel, by decide +kernel, by decide +kernel, by decide +kernel⟩,
   ⟨(rx (F' (cs (fun x => {x with agreed := 2}) (brim base)) casB [(F.CAS_CFG_ROLL_CLR,3)]) (pk 7 2 [2])), (pk 7 2 [2]), [pk 9 9 []], by decide +kernel, by decide +kernel, by decide +kernel, by decide +kernel, by decide +kernel, by decide +kernel⟩,
   ⟨(rx (F' (cs (fun x => {x with agreed := 2}) (brim base)) casB [(F.CAS_CFG_ROLL_CLR,3)]) (pk 7 2 [0])), (pk 7 2 [0]), [pk 9 9 []], by decide +kernel, by decide +kernel, by decide +kernel, by decide +kernel, by decide +kernel, by decide +kernel⟩⟩
theorem witness_RemoteAccess_1 :
    (∃ (s : State) (m : Master) (write : Bool) (pos : Fin 16),
     let b := casB
     (Accepts s m (b + R.CAS_RMT_POS) (BitVec.ofNat 32 (2 ^ 8 + 2 ^ 4 * b2n write + pos))) ∧
     (s.flag b F.CAS_RMT_STAT_BUSY = false) ∧
     (s.isCrown = true) ∧
     (pos.val ∈ foundBrims s) ∧
     (s.fld b F.CAS_STATUS_RING ≠ 2)) ∧
    (∃ (s : State) (m : Master) (write : Bool) (pos : Fin 16),
     let b := casB
     (Accepts s m (b + R.CAS_RMT_POS) (BitVec.ofNat 32 (2 ^ 8 + 2 ^ 4 * b2n write + pos))) ∧
     (s.flag b F.CAS_RMT_STAT_BUSY = false) ∧
     (s.isCrown = false ∨ pos.val ∉ foundBrims s ∨ s.fld b F.CAS_STATUS_RING = 2)) ∧
    (∃ (s : State) (p : CasPkt) (q : List CasPkt),
     let w := fun k => p.body.getD k 0#32
     (s.pwr.core = true) ∧
     (s.casRx = p :: q) ∧
     (p.cls = 8) ∧
     (p.sub = 0) ∧
     (busWaits s false (w 0).toNat = true)) ∧
    (∃ (s : State) (p : CasPkt) (q : List CasPkt),
     let w := fun k => p.body.getD k 0#32
     (s.pwr.core = true) ∧
     (s.casRx = p :: q) ∧
     (p.cls = 8) ∧
     (p.sub = 1) ∧
     (busWaits s true (w 0).toNat = true)) ∧
    (∃ (s : State) (p : CasPkt) (q : List CasPkt),
     let w := fun k => p.body.getD k 0#32
     (s.pwr.core = true) ∧
     (s.casRx = p :: q) ∧
     (p.cls = 8) ∧
     (p.sub = 0) ∧
     (busWaits s false (w 0).toNat = false)) ∧
    (∃ (s : State) (p : CasPkt) (q : List CasPkt),
     let w := fun k => p.body.getD k 0#32
     (s.pwr.core = true) ∧
     (s.casRx = p :: q) ∧
     (p.cls = 8) ∧
     (p.sub = 1) ∧
     (busWaits s true (w 0).toNat = false) ∧
     (passOk s .cascade true (w 0).toNat = false)) :=
  ⟨⟨(rx (F' (cs (fun x => {x with found := [(2,5,6),(1,7,8)]}) (crown base)) casB [(F.CAS_RMT_ADDR_VALUE,0x1234),(F.CAS_RMT_DATA_VALUE,9)]) pk0), .spi, true, ((1 : Fin 3).castLE (by decide)), ⟨⟨by decide +kernel, by decide +kernel⟩, by decide +kernel⟩, by decide +kernel, by decide +kernel, by decide +kernel, by decide +kernel⟩,
   ⟨(rx (brim base) (pk 8 1 [0x4c,6])), .spi, true, ((0 : Fin 3).castLE (by decide)), ⟨⟨by decide +kernel, by decide +kernel⟩,
    by decide +kernel⟩, by decide +kernel, by decide +kernel⟩,
   ⟨(rx (brim base) (pk 8 0 [0x3000004])), (pk 8 0 [0x3000004]), [pk 9 9 []], by decide +kernel, by decide +kernel, by decide +kernel, by decide +kernel, by decide +kernel⟩,
   ⟨(rx (brim base) (pk 8 1 [0x3000004,6])), (pk 8 1 [0x3000004,6]), [pk 9 9 []], by decide +kernel, by decide +kernel, by decide +kernel, by decide +kernel, by decide +kernel⟩,
   ⟨(rx (brim base) (pk 8 0 [0x2000004])), (pk 8 0 [0x2000004]), [pk 9 9 []], by decide +kernel, by decide +kernel, by decide +kernel, by decide +kernel, by decide +kernel⟩,
   ⟨(rx (brim base) (pk 8 1 [0x4c,6])), (pk 8 1 [0x4c,6]), [pk 9 9 []], by decide +kernel, by decide +kernel, by decide +kernel, by decide +kernel, by decide +kernel, by decide +kernel⟩⟩
theorem witness_RemoteAccess_2 :
    (∃ (s : State) (p : CasPkt) (q : List CasPkt),
     let w := fun k => p.body.getD k 0#32
     (s.pwr.core = true) ∧
     (s.casRx = p :: q) ∧
     (p.cls = 8) ∧
     (p.sub = 1) ∧
     (passOk s .cascade true (w 0).toNat = true) ∧
     ((w 0).toNat % 4 = 0) ∧
     (inRam (w 0).toNat = true)) ∧
    (∃ (s : State) (p : CasPkt) (q : List CasPkt),
     let w := fun k => p.body.getD k 0#32
     let u := { s with casRx := q }
     (s.pwr.core = true) ∧
     (s.casRx = p :: q) ∧
     (p.cls = 8) ∧
     (p.sub = 1) ∧
     (busWaits s true (w 0).toNat = false) ∧
     ((busPut .cascade (w 0).toNat (w 1) u).2 = true) ∧
     let r := (busPut .cascade (w 0).toNat (w 1) u).1
     (r.pwr.core = true)) ∧
    (∃ (s : State) (p : CasPkt) (q : List CasPkt),
     let w := fun k => p.body.getD k 0#32
     let u := { s with casRx := q }
     (s.pwr.core = true) ∧
     (s.casRx = p :: q) ∧
     (p.cls = 8) ∧
     (p.sub = 1) ∧
     (busWaits s true (w 0).toNat = false) ∧
     ((busPut .cascade (w 0).toNat (w 1) u).2 = true) ∧
     let r := (busPut .cascade (w 0).toNat (w 1) u).1
     (r.pwr.core = false)) ∧
    (∃ (s : State) (p : CasPkt) (q : List CasPkt),
     (s.pwr.core = true) ∧
     (s.casRx = p :: q) ∧
     (p.cls = 8) ∧
     (p.sub = 2) ∧
     ∃ wr,
     (s.cas.rmt = some wr)) ∧
    (∃ (s : State),
     (s.pwr.core = true) ∧
     (s.cas.rmt ≠ none)) :=
  ⟨⟨(rx (grant (brim base)) (pk 8 1 [0x2000004,6])), (pk 8 1 [0x2000004,6]), [pk 9 9 []], by decide +kernel, by decide +kernel, by decide +kernel, by decide +kernel, by decide +kernel, by decide +kernel, by decide +kernel⟩,
   ⟨(rx (grant (brim base)) (pk 8 1 [0x2000004,6])), (pk 8 1 [0x2000004,6]), [pk 9 9 []], by decide +kernel, by decide +kernel, by decide +kernel, by decide +kernel, by decide +kernel, by decide +kernel, by decide +kernel⟩,
   ⟨(rx ((brim base).wr 0x20200 0xAAAAAAAA |>.wr 0x20204 0xAAAAAAAA) (pk 8 1 [0xC4,0x71920001])), (pk 8 1 [0xC4,0x71920001]), [pk 9 9 []], by decide +kernel, by decide +kernel, by decide +kernel, by decide +kernel, by decide +kernel, by decide +kernel, by decide +kernel⟩,
   ⟨(rx (cs (fun x => {x with rmt := some true}) (crown base)) (pk 8 2 [1,6])), (pk 8 2 [1,6]), [pk 9 9 []], by decide +kernel, by decide +kernel, by decide +kernel, by decide +kernel, true, by decide +kernel⟩,
   ⟨(rx (cs (fun x => {x with rmt := some true}) (crown base)) (pk 8 2 [1,6])), by decide +kernel, by decide +kernel⟩⟩
theorem witness_CascadePackets_1 :
    (∃ (s : State) (p : CasPkt) (q : List CasPkt),
     (s.pwr.core = true) ∧
     (s.casRx = p :: q) ∧
     (p.cls = 2) ∧
     (p.sub = 0) ∧
     ∃ came l,
     (s.cas.probeAt = came :: l)) ∧
    (∃ (s : State) (p : CasPkt) (q : List CasPkt),
     (s.pwr.core = true) ∧
     (s.casRx = p :: q) ∧
     let w := fun k => p.body.getD k 0#32
     let n := (w 0).toNat % 65536
     (p.cls = 4) ∧
     (p.sub = 1) ∧
     ∃ r,
     (s.adm.queue = [r]) ∧
     (r.id = n) ∧
     (r.pos = s.position) ∧
     (r.kind = 2) ∧
     (s.adm.asked = []) ∧
     (hsState s = 3)) ∧
    (∃ (s : State) (p : CasPkt) (q : List CasPkt),
     (s.pwr.core = true) ∧
     (s.casRx = p :: q) ∧
     let w := fun k => p.body.getD k 0#32
     let n := (w 0).toNat % 65536
     (p.cls = 4) ∧
     (p.sub = 1) ∧
     (s.adm.queue = []) ∧
     ∃ g l,
     (s.adm.gone = g :: l) ∧
     (g.1 = n)) ∧
    (∃ (s : State) (p : CasPkt) (q : List CasPkt),
     (s.pwr.core = true) ∧
     (s.casRx = p :: q) ∧
     let w := fun k => p.body.getD k 0#32
     let n := (w 0).toNat % 65536
     let kept := s.adm.queue.filter (fun r => !(r.pos == p.src && r.id == n && r.pos != s.position))
     (p.cls = 4) ∧
     (p.sub = 3) ∧
     (kept.length < 256)) ∧
    (∃ (s : State) (p : CasPkt) (q : List CasPkt),
     (s.pwr.core = true) ∧
     (s.casRx = p :: q) ∧
     (p.cls = 9) ∧
     (p.sub = 0) ∧
     (s.isCrown = false) ∧
     (s.forcedOff = false) ∧
     (s.sup.seq = 0) ∧
     (s.flag supB F.SUP_TT_CFG_CHAIN_IN = true)) ∧
    (∃ (s : State) (p : CasPkt) (q : List CasPkt),
     (s.pwr.core = true) ∧
     (s.casRx = p :: q) ∧
     (p.cls = 9) ∧
     (p.sub = 1) ∧
     (s.sup.seq ≠ 3) ∧
     (s.sup.seq ≠ 4)) :=
  ⟨⟨(rx (cs (fun x => {x with probeAt := [5]}) (brim base)) (pk 2 0 [1,2,3])), (pk 2 0 [1,2,3]), [pk 9 9 []], by decide +kernel, by decide +kernel, by decide +kernel, by decide +kernel, 5, [], by decide +kernel⟩,
   ⟨(rx (F' {brim base with adm := {base.adm with queue := [rq 2 3 4]}} busB [(F.BUS_HS_STATUS_STATE,3)]) (pk 4 1 [9])), (pk 4 1 [9]), [pk 9 9 []], by decide +kernel, by decide +kernel, by decide +kernel, by decide +kernel, ({ kind := 2, pos := 1, inst := 4, q := 30, prio := 3, wait := 5, left := 4, id := 9 }), by decide +kernel, by decide +kernel, by decide +kernel, by decide +kernel, by decide +kernel, by decide +kernel⟩,
   ⟨(rx {brim base with adm := {base.adm with gone := [(9,33),(7,6)]}} (pk 4 1 [9])), (pk 4 1 [9]), [pk 9 9 []], by decide +kernel, by decide +kernel, by decide +kernel, by decide +kernel, by decide +kernel, ((9, 33)), ([(7, 6)]), by decide +kernel, by decide +kernel⟩,
   ⟨(rx {crown base with adm := {base.adm with queue := [rq 2 3 4, {rq 2 3 4 with pos := 2}]}} (pk 4 3 [9])), (pk 4 3 [9]), [pk 9 9 []], by decide +kernel, by decide +kernel, by decide +kernel, by decide +kernel, by decide +kernel⟩,
   ⟨(rx (F' (brim base) supB [(F.SUP_TT_CFG_CHAIN_IN,1)]) (pk 9 0 [])), (pk 9 0 []), [pk 9 9 []], by decide +kernel, by decide +kernel, by decide +kernel, by decide +kernel, by decide +kernel, by decide +kernel, by decide +kernel, by decide +kernel⟩,
   ⟨(rx (F' (brim base) supB [(F.SUP_TT_CFG_CHAIN_IN,1)]) (pk 9 1 [])), (pk 9 1 []), [pk 9 9 []], by decide +kernel, by decide +kernel, by decide +kernel, by decide +kernel, by decide +kernel, by decide +kernel⟩⟩
theorem witness_CascadePackets_2 :
    (∃ (s : State) (p : CasPkt) (q : List CasPkt),
     (s.pwr.core = true) ∧
     (s.casRx = p :: q) ∧
     (p.cls = 10) ∧
     (p.sub = 0) ∧
     (s.img.loaded = true)) ∧
    (∃ (s : State) (p : CasPkt) (q : List CasPkt),
     (s.pwr.core = true) ∧
     (s.casRx = p :: q) ∧
     let w := fun k => p.body.getD k 0#32
     (p.cls = 10) ∧
     (p.sub = 1) ∧
     (s.img.src = 4) ∧
     (s.fld 0 F.SYS_IMG_STATUS_STATE = 1) ∧
     ((w 0).toNat = s.img.rxEnd)) ∧
    (∃ (s : State) (p : CasPkt) (q : List CasPkt),
     (s.pwr.core = true) ∧
     (s.casRx = p :: q) ∧
     let w := fun k => p.body.getD k 0#32
     (p.cls = 10) ∧
     (p.sub = 2) ∧
     (loading s = false) ∧
     let live := (w 0).getLsbD 0
     (live = true ∨ s.img.loaded = false ∨ outputsActive s = false)) ∧
    (∃ (s : State) (p : CasPkt) (q : List CasPkt),
     (s.pwr.core = true) ∧
     (s.casRx = p :: q) ∧
     let w := fun k => p.body.getD k 0#32
     (p.cls = 10) ∧
     (p.sub = 2) ∧
     (loading s = false) ∧
     let live := (w 0).getLsbD 0
     (live = false) ∧
     (s.img.loaded = true) ∧
     (outputsActive s = true)) ∧
    (∃ (s : State) (p : CasPkt) (q : List CasPkt),
     (s.pwr.core = true) ∧
     (s.casRx = p :: q) ∧
     (p.cls = 11) ∧
     (p.sub = 0) ∧
     (p.dst < 4)) :=
  ⟨⟨(rx (lim (fun x => {x with loaded := true}) (crown base)) (pk 10 0 [16,3])), (pk 10 0 [16,3]), [pk 9 9 []], by decide +kernel, by decide +kernel, by decide +kernel, by decide +kernel, by decide +kernel⟩,
   ⟨(rx (F' (lim (fun x => {x with src := 4, rxEnd := 8}) (brim base)) 0 [(F.SYS_IMG_STATUS_STATE,1)]) (pk 10 1 [8,3,4])), (pk 10 1 [8,3,4]), [pk 9 9 []], by decide +kernel, by decide +kernel, by decide +kernel, by decide +kernel, by decide +kernel, by decide +kernel, by decide +kernel⟩,
   ⟨(rx (lim (fun x => {x with loaded := true}) (brim base)) (pk 10 2 [0])), (pk 10 2 [0]), [pk 9 9 []], by decide +kernel, by decide +kernel, by decide +kernel, by decide +kernel, by decide +kernel, by decide +kernel⟩,
   ⟨(rx (lim (fun x => {x with loaded := true}) (brim (Felts.fe 6 [] Felts.hx))) (pk 10 2 [0])), (pk 10 2 [0]), [pk 9 9 []], by decide +kernel, by decide +kernel, by decide +kernel, by decide +kernel, by decide +kernel, by decide +kernel, by decide +kernel, by decide +kernel⟩,
   ⟨(rx ((brim base)) {pk 11 0 [] with dst := 3}), {pk 11 0 [] with dst := 3}, [pk 9 9 []], by decide +kernel, by decide +kernel, by decide +kernel, by decide +kernel, by decide +kernel⟩⟩
/-- Lane 2 as an export lane in RUN with three bytes waiting. -/
def exp : State :=
  let s := F' base (casB + 8) [(F.CAS_LANE01_STATE,6),(F.CAS_LANE01_MODE,2),(F.CAS_LANE01_EN,1)]
  { s with expQ := [(2, [1#8, 2#8, 3#8])] }

theorem witness_CascadeFrames_1 :
    (∃ (s : State) (l : Fin 4),
     (s.pwr.core = true) ∧
     (exportLane s l = true)) ∧
    (∃ (s : State) (l : Fin 4) (seq : Fin 16),
     (s.pwr.core = true) ∧
     let x := s.casLane l
     let st := casState s l
     let inSeq := ∀ k, x.seq = some k → seq.val = (k + 1) % 16
     let ring := exportLane s l = false
     let mute := s.casOut = [] ∧ x.tx.sent = []
     (st = 6) ∧
     (ring) ∧
     (mute) ∧
     (inSeq) ∧
     (x.part = none)) ∧
    (∃ (s : State) (l : Fin 4),
     (s.pwr.core = true) ∧
     let x := s.casLane l
     let st := casState s l
     let ring := exportLane s l = false
     let clear := x.tx.sent = [] ∧ x.tx.again = [] ∧ x.tx.body = [] ∧ x.tx.resync = false ∧ x.tx.heads = []
     (st = 6) ∧
     (ring) ∧
     (clear) ∧
     (s.casOut = []) ∧
     (x.tx.wait = [])) ∧
    (∃ (s : State) (l : Fin 4),
     (s.pwr.core = true) ∧
     let x := s.casLane l
     let st := casState s l
     let ring := exportLane s l = false
     let clear := x.tx.sent = [] ∧ x.tx.again = [] ∧ x.tx.body = [] ∧ x.tx.resync = false ∧ x.tx.heads = []
     (st = 6) ∧
     (ring) ∧
     (clear) ∧
     ∃ p : CasPkt,
     (1 ≤ p.cls) ∧
     (p.cls ≤ 11) ∧
     (p.body.length ≤ 7) ∧
     ((s.casOut = [] ∧ x.tx.wait = [p]) ∨
               (s.casOut = [p] ∧ x.tx.wait = [] ∧ s.isCrown = true ∧ l = 1 ∧ p.bcast = false ∧ p.cls ≠ 1 ∧ s.cas.sides = [])) ∧
     (s.isCrown = false ∨ p.cls ≠ 2 ∨ p.sub ≠ 0)) ∧
    (∃ (s : State) (l : Fin 4),
     (s.pwr.core = true) ∧
     let x := s.casLane l
     let st := casState s l
     let ring := exportLane s l = false
     let clear := x.tx.sent = [] ∧ x.tx.again = [] ∧ x.tx.body = [] ∧ x.tx.resync = false ∧ x.tx.heads = []
     (st = 6) ∧
     (ring) ∧
     (clear) ∧
     ∃ (p : CasPkt) (a0 a1 corr : Word),
     (p.cls = 2) ∧
     (p.sub = 0) ∧
     (p.body = [a0, a1, corr]) ∧
     (s.isCrown = true) ∧
     (s.casOut = []) ∧
     (x.tx.wait = [p])) ∧
    (∃ (s : State) (l : Fin 4) (seq : Fin 16),
     (s.pwr.core = true) ∧
     let x := s.casLane l
     let st := casState s l
     let inSeq := ∀ k, x.seq = some k → seq.val = (k + 1) % 16
     let ring := exportLane s l = false
     (st = 2) ∧
     (ring) ∧
     (inSeq) ∧
     (s.casOut = []) ∧
     (x.good < 31)) :=
  ⟨⟨exp, 2, by decide +kernel, by decide +kernel⟩,
   ⟨fr (0 : Fin 4) 6 fun x => {x with seq := some 15}, 0, 0, by decide +kernel, by decide +kernel, by decide +kernel, by decide +kernel, by decide +kernel, by decide +kernel⟩,
   ⟨fr (0 : Fin 4) 6 fun x => {x with ackIn := 4}, 0, by decide +kernel, by decide +kernel, by decide +kernel, by decide +kernel, by decide +kernel, by decide +kernel⟩,
   ⟨fr (0 : Fin 4) 6 fun x => {x with tx := {x.tx with wait := [pk 8 1 [5,6]], nextSeq := 15}}, 0, by decide +kernel, by decide +kernel, by decide +kernel, by decide +kernel, pk 8 1 [5,6], by decide +kernel, by decide +kernel, by decide +kernel, by decide +kernel, by decide +kernel⟩,
   ⟨crown (fr (0 : Fin 4) 6 fun x => {x with tx := {x.tx with wait := [pk 2 0 [1,2,3]]}}), 0, by decide +kernel, by decide +kernel, by decide +kernel, by decide +kernel, pk 2 0 [1,2,3], 1, 2, 3, by decide +kernel, by decide +kernel, by decide +kernel, by decide +kernel, by decide +kernel, by decide +kernel⟩,
   ⟨fr (0 : Fin 4) 2 fun x => {x with seq := none, good := 3}, 0, 9, by decide +kernel, by decide +kernel, by decide +kernel, by decide +kernel, by decide +kernel, by decide +kernel⟩⟩
theorem witness_CascadeFrames_2 :
    (∃ (s : State) (l : Fin 4) (seq : Fin 16),
     (s.pwr.core = true) ∧
     let x := s.casLane l
     let st := casState s l
     let inSeq := ∀ k, x.seq = some k → seq.val = (k + 1) % 16
     let ring := exportLane s l = false
     (st = 2) ∧
     (ring) ∧
     (inSeq) ∧
     (s.casOut = []) ∧
     (x.good = 31)) ∧
    (∃ (s : State) (l : Fin 4),
     (s.pwr.core = true) ∧
     let b := casB
     let x := s.casLane l
     let st := casState s l
     (st = 6) ∧
     (max 16 (min 399 (s.fld (b + 4 * l) F.CAS_LANE01_LOSS_LIMIT)) ≤ x.bad) ∧
     (s.role = 0)) :=
  ⟨⟨fr (0 : Fin 4) 2 fun x => {x with seq := some 8, good := 31}, 0, 9, by decide +kernel, by decide +kernel, by decide +kernel, by decide +kernel, by decide +kernel, by decide +kernel⟩,
   ⟨fr (0 : Fin 4) 6 fun x => {x with seq := some 8, bad := 20}, 0, by decide +kernel, by decide +kernel, by decide +kernel, by decide +kernel⟩⟩
end Cascade

namespace Pd
def pd (n : Nat) (l : List (Fld × Nat)) : State :=
  let s := F' base (pdB n) l
  let s := F' s (slB (n/4)) [(F.SL_STATUS_STATE,6),(F.SL_STATUS_VERSION,2),(F.SL_HUB_CAPS_PD_PORTS,4)]
  let s := F' s (feltB 5) [(F.FELT_STATUS_STATE,6),(F.FELT_SRC_SEL,1)]
  let s := s.wr (feltB 5 + R.FELT_V_MAX) 0x42700000
  let s := s.wr (feltB 5 + R.FELT_I_SRC_MAX) 0x42700000
  let s := s.wr (feltB 5 + R.FELT_I_SNK_MAX) 0x42700000
  { s with portFelt := [(n,5)] }
def px (n : Nat) (f : PortX → PortX) (s : State) : State := s.setPort n (f (s.port n))
def evp (n code par : Nat) : SidePkt := ⟨5,0,n%4*2^14+code*256+par,[]⟩
def rxp (n : Nat) (p : SidePkt) (s : State) : State := s.setLane (n/4) { s.lane (n/4) with rx := [p, evp 0 9 9] }
def tail1 : List SidePkt := [evp 0 9 9]
def tx (s : State) (m : List Byte) : State := ((List.range 66).foldl (fun s k => s.wr (pdB 6 + R.PD_TX_BUF + 4*k) ((bytesWords 66 m).getD k 0)) s)
def w1 : PdTx := ⟨0,dataMsg 2 [5],true⟩
def w2 : PdTx := ⟨0,dataMsg 1 [5],true⟩
/-- Port 6 as a sink whose source, Rp showing SinkTxNG, speaks Revision 3. -/
def ng : State := px 6 (fun x => {x with waited := true, explicit := true, lastReq := some w1})
  (pd 6 [(F.PD_STATUS_TC_STATE,3),(F.PD_STATUS_PD,2),(F.PD_CONTRACT_V,9000),(F.PD_CONTRACT_KIND,1),(F.PD_STATUS_SPEC,2),(F.PD_STATUS_PARTNER_RP,1),
    (F.PD_STATUS_EPR,1),(F.PD_STATUS_UNCHUNKED,1)])

theorem witness_PdAttach_1 :
    (∃ (s : State) (l : Fin 12) (p : SidePkt) (rest : List SidePkt),
     (s.pwr.core = true) ∧
     let n := 4 * l.val + bits p.arg 15 14
     (Claims.PdEvent s l p rest 0) ∧
     (portWhy s n ≠ 0)) ∧
    (∃ (s : State) (l : Fin 12) (cc : PartnerCc) (p : SidePkt) (rest : List SidePkt),
     (s.pwr.core = true) ∧
     let n := 4 * l.val + bits p.arg 15 14
     (Claims.PdEvent s l p rest 0) ∧
     (cc = .accessory) ∧
     (portWhy s n = 0)) ∧
    (∃ (s : State) (l : Fin 12) (cc : PartnerCc) (p : SidePkt) (rest : List SidePkt),
     (s.pwr.core = true) ∧
     let n := 4 * l.val + bits p.arg 15 14
     let b := pdB n
     let x := s.port n
     let amps := if s.fld b F.PD_CFG_RP_DEF = 0 then 90 else if s.fld b F.PD_CFG_RP_DEF = 1 then 150 else 300
     let q := s.fld b F.PD_ADMIT_Q_PER_W * (5000 * amps) / 100000
     (Claims.PdEvent s l p rest 0) ∧
     (tcState s n = 1) ∧
     (portWhy s n = 0) ∧
     (x.admFor = 0) ∧
     (cc = .rd) ∧
     (s.fld b F.PD_CFG_ROLE ≠ 1) ∧
     (q = 0) ∧
     (vbusOf s n ≠ 0) ∧
     (x.wantSnk = false)) ∧
    (∃ (s : State) (l : Fin 12) (cc : PartnerCc) (p : SidePkt) (rest : List SidePkt),
     (s.pwr.core = true) ∧
     let n := 4 * l.val + bits p.arg 15 14
     let b := pdB n
     let x := s.port n
     let amps := if s.fld b F.PD_CFG_RP_DEF = 0 then 90 else if s.fld b F.PD_CFG_RP_DEF = 1 then 150 else 300
     let q := s.fld b F.PD_ADMIT_Q_PER_W * (5000 * amps) / 100000
     (Claims.PdEvent s l p rest 0) ∧
     (tcState s n = 1) ∧
     (portWhy s n = 0) ∧
     (x.admFor = 0) ∧
     (cc = .rd) ∧
     (s.fld b F.PD_CFG_ROLE ≠ 1) ∧
     (q ≠ 0)) ∧
    (∃ (s : State) (l : Fin 12) (cc : PartnerCc) (p : SidePkt) (rest : List SidePkt),
     (s.pwr.core = true) ∧
     let n := 4 * l.val + bits p.arg 15 14
     let b := pdB n
     let x := s.port n
     (Claims.PdEvent s l p rest 0) ∧
     (tcState s n = 1) ∧
     (portWhy s n = 0) ∧
     (x.admFor = 0) ∧
     (cc = .rpDefault ∨ cc = .rp1A5 ∨ cc = .rp3A0) ∧
     (s.fld b F.PD_CFG_ROLE ≠ 0) ∧
     (vbusOf s n ≠ 2) ∧
     ((x.wantSrc = false ∨ vbusOf s n ≠ 0))) ∧
    (∃ (s : State) (l : Fin 12) (p : SidePkt) (rest : List SidePkt),
     (s.pwr.core = true) ∧
     let n := 4 * l.val + bits p.arg 15 14
     (Claims.PdEvent s l p rest 5) ∧
     (portWhy s n ≠ 0)) :=
  ⟨⟨{rxp 6 (evp 6 0 4) (pd 6 [(F.PD_STATUS_TC_STATE,1)]) with portFelt := []}, (1 : Fin 12), evp 6 0 4, tail1, by decide +kernel, ⟨by decide +kernel, by decide +kernel, by decide +kernel, by decide +kernel⟩, by decide +kernel⟩,
   ⟨(rxp 6 (evp 6 0 4) (pd 6 [(F.PD_STATUS_TC_STATE,1),(F.PD_CFG_ROLE,0),(F.PD_STATUS_VBUS,1)])), (1 : Fin 12), .accessory, (evp 6 0 4), tail1, by decide +kernel, ⟨by decide +kernel, by decide +kernel, by decide +kernel, by decide +kernel⟩, by decide +kernel, by decide +kernel⟩,
   ⟨(rxp 6 (evp 6 0 4) (pd 6 [(F.PD_STATUS_TC_STATE,1),(F.PD_CFG_ROLE,0),(F.PD_STATUS_VBUS,1)])), (1 : Fin 12), PartnerCc.rd, (evp 6 0 4), tail1, by decide +kernel, ⟨by decide +kernel, by decide +kernel, by decide +kernel, by decide +kernel⟩, by decide +kernel, by decide +kernel, by decide +kernel, by decide +kernel, by decide +kernel, by decide +kernel, by decide +kernel, by decide +kernel⟩,
   ⟨(rxp 6 (evp 6 0 4) (pd 6 [(F.PD_STATUS_TC_STATE,1),(F.PD_CFG_ROLE,2),(F.PD_STATUS_VBUS,1),(F.PD_ADMIT_Q_PER_W,500),(F.PD_ADMIT_PRIO,3),(F.PD_CFG_RP_DEF,1)])), (1 : Fin 12), PartnerCc.rd, (evp 6 0 4), tail1, by decide +kernel, ⟨by decide +kernel, by decide +kernel, by decide +kernel, by decide +kernel⟩, by decide +kernel, by decide +kernel, by decide +kernel, by decide +kernel, by decide +kernel, by decide +kernel⟩,
   ⟨(rxp 6 (evp 6 0 4) (pd 6 [(F.PD_STATUS_TC_STATE,1),(F.PD_CFG_ROLE,2),(F.PD_STATUS_VBUS,1),(F.PD_ADMIT_Q_PER_W,500),(F.PD_ADMIT_PRIO,3),(F.PD_CFG_RP_DEF,1)])), (1 : Fin 12), .rp1A5, (evp 6 0 4), tail1, by decide +kernel, ⟨by decide +kernel, by decide +kernel, by decide +kernel, by decide +kernel⟩, by decide +kernel, by decide +kernel, by decide +kernel, by decide +kernel, by decide +kernel, by decide +kernel, by decide +kernel⟩,
   ⟨{rxp 6 (evp 6 5 2) (pd 6 [(F.PD_STATUS_VBUS,1)]) with portFelt := []}, (1 : Fin 12), evp 6 5 2, tail1, by decide +kernel, ⟨by decide +kernel, by decide +kernel, by decide +kernel, by decide +kernel⟩, by decide +kernel⟩⟩
theorem witness_PdAttach_2 :
    (∃ (s : State) (l : Fin 12) (p : SidePkt) (rest : List SidePkt),
     (s.pwr.core = true) ∧
     let n := 4 * l.val + bits p.arg 15 14
     let b := pdB n
     let x := s.port n
     (Claims.PdEvent s l p rest 5) ∧
     (portWhy s n = 0) ∧
     (x.detaching = false) ∧
     (x.hr = 0) ∧
     (x.swap = 0) ∧
     (s.flag b F.PD_STATUS_GATE_SNK = false) ∧
     (x.wantSrc = false) ∧
     (x.wantSnk = false)) ∧
    (∃ (s : State) (l : Fin 12) (p : SidePkt) (rest : List SidePkt),
     (s.pwr.core = true) ∧
     let n := 4 * l.val + bits p.arg 15 14
     let b := pdB n
     let x := s.port n
     (Claims.PdEvent s l p rest 5) ∧
     (portWhy s n = 0) ∧
     (x.detaching = false) ∧
     (x.hr = 0) ∧
     (x.swap = 0) ∧
     (s.flag b F.PD_STATUS_GATE_SNK = false) ∧
     ∃ f,
     (portFelt? s n = some f) ∧
     (f < 96) ∧
     (x.wantSrc = true) ∧
     (p.arg % 4 = 0)) ∧
    (∃ (s : State) (l : Fin 12) (p : SidePkt) (rest : List SidePkt),
     (s.pwr.core = true) ∧
     let n := 4 * l.val + bits p.arg 15 14
     let b := pdB n
     let x := s.port n
     (Claims.PdEvent s l p rest 5) ∧
     (portWhy s n = 0) ∧
     (x.detaching = false) ∧
     (x.hr = 0) ∧
     (x.swap = 0) ∧
     (s.flag b F.PD_STATUS_GATE_SNK = false) ∧
     ∃ f,
     (portFelt? s n = some f) ∧
     (f < 96) ∧
     (x.wantSrc = false) ∧
     (x.wantSnk = true) ∧
     (p.arg % 4 = 2) ∧
     (x.snkSet = true)) ∧
    (∃ (s : State) (l : Fin 12) (p : SidePkt) (rest : List SidePkt),
     (s.pwr.core = true) ∧
     let n := 4 * l.val + bits p.arg 15 14
     let b := pdB n
     let x := s.port n
     (Claims.PdEvent s l p rest 5) ∧
     (portWhy s n = 0) ∧
     (x.detaching = false) ∧
     (x.hr = 0) ∧
     (x.swap = 0) ∧
     (s.flag b F.PD_STATUS_GATE_SNK = false) ∧
     ∃ f,
     (portFelt? s n = some f) ∧
     (f < 96) ∧
     (x.wantSrc = false) ∧
     (x.wantSnk = true) ∧
     (p.arg % 4 = 2) ∧
     (x.snkSet = false)) ∧
    (∃ (s : State) (l : Fin 12) (p : SidePkt) (rest : List SidePkt),
     (s.pwr.core = true) ∧
     let n := 4 * l.val + bits p.arg 15 14
     (Claims.PdEvent s l p rest 1) ∧
     (portWhy s n ≠ 0)) ∧
    (∃ (s : State) (l : Fin 12) (p : SidePkt) (rest : List SidePkt),
     (s.pwr.core = true) ∧
     let n := 4 * l.val + bits p.arg 15 14
     let x := s.port n
     (Claims.PdEvent s l p rest 1) ∧
     (portWhy s n = 0) ∧
     (x.admFor = 0) ∧
     (isSnk s n = true)) :=
  ⟨⟨(rxp 6 (evp 6 5 2) (pd 6 [(F.PD_STATUS_TC_STATE,2),(F.PD_STATUS_VBUS,1)])), (1 : Fin 12), (evp 6 5 2), tail1, by decide +kernel, ⟨by decide +kernel, by decide +kernel, by decide +kernel, by decide +kernel⟩, by decide +kernel, by decide +kernel, by decide +kernel, by decide +kernel, by decide +kernel, by decide +kernel, by decide +kernel⟩,
   ⟨(rxp 6 (evp 6 5 0) (px 6 (fun x => {x with wantSrc := true}) (pd 6 [(F.PD_STATUS_TC_STATE,2),(F.PD_STATUS_VBUS,1)]))), (1 : Fin 12), (evp 6 5 0), tail1, by decide +kernel, ⟨by decide +kernel, by decide +kernel, by decide +kernel, by decide +kernel⟩, by decide +kernel, by decide +kernel, by decide +kernel, by decide +kernel, by decide +kernel, 5, by decide +kernel, by decide +kernel, by decide +kernel, by decide +kernel⟩,
   ⟨(rxp 6 (evp 6 5 2) (px 6 (fun x => {x with wantSnk := true, snkSet := true}) (pd 6 [(F.PD_STATUS_TC_STATE,3),(F.PD_STATUS_VBUS,1)]))), (1 : Fin 12), (evp 6 5 2), tail1, by decide +kernel, ⟨by decide +kernel, by decide +kernel, by decide +kernel, by decide +kernel⟩, by decide +kernel, by decide +kernel, by decide +kernel, by decide +kernel, by decide +kernel, 5, by decide +kernel, by decide +kernel, by decide +kernel, by decide +kernel, by decide +kernel, by decide +kernel⟩,
   ⟨(rxp 6 (evp 6 5 2) (px 6 (fun x => {x with wantSnk := true, snkSet := false}) (pd 6 [(F.PD_STATUS_TC_STATE,3),(F.PD_STATUS_VBUS,1)]))), (1 : Fin 12), (evp 6 5 2), tail1, by decide +kernel, ⟨by decide +kernel, by decide +kernel, by decide +kernel, by decide +kernel⟩, by decide +kernel, by decide +kernel, by decide +kernel, by decide +kernel, by decide +kernel, 5, by decide +kernel, by decide +kernel, by decide +kernel, by decide +kernel, by decide +kernel, by decide +kernel⟩,
   ⟨{rxp 6 (evp 6 1 2) (pd 6 [(F.PD_STATUS_TC_STATE,3)]) with portFelt := []}, (1 : Fin 12), evp 6 1 2, tail1, by decide +kernel, ⟨by decide +kernel, by decide +kernel, by decide +kernel, by decide +kernel⟩, by decide +kernel⟩,
   ⟨(rxp 6 (evp 6 1 2) (pd 6 [(F.PD_STATUS_TC_STATE,3)])), (1 : Fin 12), evp 6 1 2, tail1, by decide +kernel, ⟨by decide +kernel, by decide +kernel, by decide +kernel, by decide +kernel⟩, by decide +kernel, by decide +kernel, by decide +kernel⟩⟩
theorem witness_PdAttach_3 :
    ∃ (s : State) (l : Fin 12) (p : SidePkt) (rest : List SidePkt),
    (s.pwr.core = true) ∧
    let n := 4 * l.val + bits p.arg 15 14
    let x := s.port n
    (Claims.PdEvent s l p rest 1) ∧
    (portWhy s n = 0) ∧
    (x.admFor = 0) ∧
    (isSrc s n = true) ∧
    (vbusOf s n ≠ 0) :=
  ⟨(rxp 6 (evp 6 1 2) (pd 6 [(F.PD_STATUS_TC_STATE,2),(F.PD_STATUS_VBUS,2)])), (1 : Fin 12), evp 6 1 2, tail1, by decide +kernel, ⟨by decide +kernel, by decide +kernel, by decide +kernel, by decide +kernel⟩, by decide +kernel, by decide +kernel, by decide +kernel, by decide +kernel⟩
theorem witness_PdRecovery_1 :
    (∃ (s : State) (l : Fin 12) (p : SidePkt) (rest : List SidePkt),
     let k := 4 * l.val + bits p.arg 15 14
     (s.pwr.core = true) ∧
     (Claims.PdEvent s l p rest 2) ∧
     (portWhy s k = 0) ∧
     (attached s k = true) ∧
     ((s.port k).admFor = 0)) ∧
    (∃ (s : State) (l : Fin 12) (p : SidePkt) (rest : List SidePkt),
     let k := 4 * l.val + bits p.arg 15 14
     (s.pwr.core = true) ∧
     (portWhy s k ≠ 0) ∧
     (Claims.PdEvent s l p rest 2)) ∧
    (∃ (s : State) (l : Fin 12) (p : SidePkt) (rest : List SidePkt),
     let k := 4 * l.val + bits p.arg 15 14
     (s.pwr.core = true) ∧
     (portWhy s k ≠ 0) ∧
     (Claims.PdEvent s l p rest 3)) ∧
    (∃ (s : State) (l : Fin 12) (p : SidePkt) (rest : List SidePkt),
     let k := 4 * l.val + bits p.arg 15 14
     (s.pwr.core = true) ∧
     (portWhy s k ≠ 0) ∧
     (Claims.PdEvent s l p rest 6)) ∧
    (∃ (s : State) (l : Fin 12) (p : SidePkt) (rest : List SidePkt),
     let k := 4 * l.val + bits p.arg 15 14
     (s.pwr.core = true) ∧
     (Claims.PdEvent s l p rest 3) ∧
     (portWhy s k = 0)) ∧
    (∃ (s : State) (l : Fin 12) (p : SidePkt) (rest : List SidePkt),
     let k := 4 * l.val + bits p.arg 15 14
     (s.pwr.core = true) ∧
     (Claims.PdEvent s l p rest 6) ∧
     (portWhy s k = 0) ∧
     (explicitNow s k = false)) :=
  ⟨⟨(rxp 6 (evp 6 2 0) (pd 6 [(F.PD_STATUS_TC_STATE,2),(F.PD_CTRL_EN,1),(F.PD_STATUS_VBUS,2),(F.PD_STATUS_GATE_SRC,1),(F.PD_STATUS_PD,2),(F.PD_CONTRACT_V,9000)])), (1 : Fin 12), (evp 6 2 0), tail1, by decide +kernel, ⟨by decide +kernel, by decide +kernel, by decide +kernel, by decide +kernel⟩, by decide +kernel, by decide +kernel, by decide +kernel⟩,
   ⟨{rxp 6 (evp 6 2 0) (pd 6 [(F.PD_STATUS_TC_STATE,2)]) with portFelt := []}, (1 : Fin 12), (evp 6 2 0), tail1, by decide +kernel, by decide +kernel, ⟨by decide +kernel, by decide +kernel, by decide +kernel, by decide +kernel⟩⟩,
   ⟨{rxp 6 (evp 6 3 0) (pd 6 [(F.PD_STATUS_TC_STATE,2)]) with portFelt := []}, (1 : Fin 12), (evp 6 3 0), tail1, by decide +kernel, by decide +kernel, ⟨by decide +kernel, by decide +kernel, by decide +kernel, by decide +kernel⟩⟩,
   ⟨{rxp 6 (evp 6 6 0) (pd 6 [(F.PD_STATUS_TC_STATE,2)]) with portFelt := []}, (1 : Fin 12), (evp 6 6 0), tail1, by decide +kernel, by decide +kernel, ⟨by decide +kernel, by decide +kernel, by decide +kernel, by decide +kernel⟩⟩,
   ⟨(rxp 6 (evp 6 3 0) (px 6 (fun x => {x with txId := [(0,3),(1,2)], rxId := [(1,2)]}) (pd 6 [(F.PD_STATUS_TC_STATE,3)]))), (1 : Fin 12), (evp 6 3 0), tail1, by decide +kernel, ⟨by decide +kernel, by decide +kernel, by decide +kernel, by decide +kernel⟩, by decide +kernel⟩,
   ⟨(rxp 6 (evp 6 6 0) (pd 6 [(F.PD_STATUS_TC_STATE,2),(F.PD_STATUS_VCONN_SRC,1),(F.PD_CABLE_CABLE_5A,1)])), (1 : Fin 12), (evp 6 6 0), tail1, by decide +kernel, ⟨by decide +kernel, by decide +kernel, by decide +kernel, by decide +kernel⟩, by decide +kernel, by decide +kernel⟩⟩
theorem witness_PdRecovery_2 :
    (∃ (s : State) (m : Master) (n : Fin 48),
     let b := pdB n
     let x := s.port n
     let ctl := fun (F : Fld) (v : Nat) => fset (s.kept b) F v
     (Accepts s m b (ctl F.PD_CTRL_HARD_RESET 1)) ∧
     (attached s n = true) ∧
     (s.flag b F.PD_CTRL_EN = true) ∧
     (portWhy s n = 0) ∧
     (x.admFor = 0)) ∧
    (∃ (s : State) (m : Master) (n : Fin 48),
     let b := pdB n
     let ctl := fun (F : Fld) (v : Nat) => fset (s.kept b) F v
     (Accepts s m b (ctl F.PD_CTRL_HARD_RESET 1)) ∧
     (attached s n = true) ∧
     (s.flag b F.PD_CTRL_EN = true) ∧
     (portWhy s n ≠ 0)) ∧
    (∃ (s : State) (m : Master) (n : Fin 48),
     let b := pdB n
     let ctl := fun (F : Fld) (v : Nat) => fset (s.kept b) F v
     (Accepts s m b (ctl F.PD_CTRL_EN 1)) ∧
     (tcState s n = 0) ∧
     (portWhy s n ≠ 0)) ∧
    (∃ (s : State) (m : Master) (n : Fin 48),
     let b := pdB n
     let ctl := fun (F : Fld) (v : Nat) => fset (s.kept b) F v
     (Accepts s m b (ctl F.PD_CTRL_EN 1)) ∧
     (tcState s n = 0) ∧
     (portWhy s n = 0)) ∧
    (∃ (s : State) (m : Master) (n : Fin 48),
     let b := pdB n
     let x := s.port n
     let ctl := fun (F : Fld) (v : Nat) => fset (s.kept b) F v
     (Accepts s m b (ctl F.PD_CTRL_EN 0)) ∧
     (s.flag b F.PD_CTRL_EN = true) ∧
     (tcState s n ≠ 4) ∧
     (x.admFor = 0)) ∧
    (∃ (s : State) (m : Master) (n : Fin 48),
     let b := pdB n
     let ctl := fun (F : Fld) (v : Nat) => fset (s.kept b) F v
     (Accepts s m b (ctl F.PD_CTRL_ABORT 1)) ∧
     (tcState s n = 0)) :=
  ⟨⟨(rxp 6 (evp 6 9 0) (px 6 (fun x => {x with hr := 3}) (pd 6 [(F.PD_STATUS_TC_STATE,2),(F.PD_CTRL_EN,1),(F.PD_STATUS_VBUS,1)]))), .spi, (6 : Fin 48), ⟨⟨by decide +kernel, by decide +kernel⟩, by decide +kernel⟩, by decide +kernel, by decide +kernel, by decide +kernel, by decide +kernel⟩,
   ⟨{pd 6 [(F.PD_STATUS_TC_STATE,2),(F.PD_CTRL_EN,1)] with portFelt := []}, .spi, (6 : Fin 48), ⟨⟨by decide +kernel, by decide +kernel⟩, by decide +kernel⟩, by decide +kernel, by decide +kernel, by decide +kernel⟩,
   ⟨(rxp 7 (evp 7 9 0) {pd 7 [(F.PD_STATUS_TC_STATE,0)] with portFelt := []}), .spi, (7 : Fin 48), ⟨⟨by decide +kernel,
    by decide +kernel⟩, by decide +kernel⟩, by decide +kernel, by decide +kernel⟩,
   ⟨(rxp 6 (evp 6 9 0) (pd 6 [(F.PD_STATUS_TC_STATE,0)])), .spi, (6 : Fin 48), ⟨⟨by decide +kernel, by decide +kernel⟩,
    by decide +kernel⟩, by decide +kernel, by decide +kernel⟩,
   ⟨(rxp 6 (evp 6 9 0) (px 6 (fun x => {x with hr := 3}) (pd 6 [(F.PD_STATUS_TC_STATE,2),(F.PD_CTRL_EN,1),(F.PD_STATUS_VBUS,1)]))), .spi, (6 : Fin 48), ⟨⟨by decide +kernel, by decide +kernel⟩, by decide +kernel⟩, by decide +kernel, by decide +kernel, by decide +kernel⟩,
   ⟨(rxp 6 (evp 6 9 0) (pd 6 [(F.PD_STATUS_TC_STATE,0)])), .spi, (6 : Fin 48), ⟨⟨by decide +kernel, by decide +kernel⟩,
    by decide +kernel⟩, by decide +kernel⟩⟩
theorem witness_PdRecovery_3 :
    (∃ (s : State) (m : Master) (n : Fin 48),
     let b := pdB n
     let x := s.port n
     let ctl := fun (F : Fld) (v : Nat) => fset (s.kept b) F v
     (Accepts s m b (ctl F.PD_CTRL_ABORT 1)) ∧
     (tcState s n ≠ 0) ∧
     (x.admFor = 0)) ∧
    (∃ (s : State) (n : Fin 48),
     let b := pdB n
     let x := s.port n
     (s.pwr.core = true) ∧
     (tcState s n = 4) ∧
     (x.er = 2 ∨ (x.er = 1 ∧ vbusOf s n = 0)) ∧
     (s.flag b F.PD_CTRL_EN = false)) ∧
    (∃ (s : State) (n : Fin 48),
     let b := pdB n
     let x := s.port n
     (s.pwr.core = true) ∧
     (tcState s n = 4) ∧
     (x.er = 2 ∨ (x.er = 1 ∧ vbusOf s n = 0)) ∧
     (s.flag b F.PD_CTRL_EN = true)) ∧
    (∃ (s : State) (n : Fin 48),
     let x := s.port n
     (s.pwr.core = true) ∧
     (x.hr = 1)) ∧
    (∃ (s : State) (n : Fin 48),
     let x := s.port n
     (s.pwr.core = true) ∧
     (x.hr = 3) ∧
     (x.admFor = 0) ∧
     (portCo s n F.PD_ADMIT_Q_PER_W = 0) ∧
     (vbusOf s n = 1)) ∧
    (∃ (s : State) (n : Fin 48),
     let x := s.port n
     (s.pwr.core = true) ∧
     (isSnk s n = true) ∧
     (x.hr = 5 ∨ x.hr = 6) ∧
     (x.admFor = 0)) :=
  ⟨⟨(rxp 6 (evp 6 6 0) (pd 6 [(F.PD_STATUS_TC_STATE,2),(F.PD_STATUS_VCONN_SRC,1),(F.PD_CABLE_CABLE_5A,1)])), .spi, (6 : Fin 48), ⟨⟨by decide +kernel, by decide +kernel⟩, by decide +kernel⟩, by decide +kernel, by decide +kernel⟩,
   ⟨(rxp 6 (evp 6 9 0) (px 6 (fun x => {x with er := 1}) (pd 6 [(F.PD_STATUS_TC_STATE,4),(F.PD_STATUS_VBUS,0)]))), (6 : Fin 48), by decide +kernel, by decide +kernel, by decide +kernel, by decide +kernel⟩,
   ⟨(rxp 6 (evp 6 9 0) (px 6 (fun x => {x with er := 2}) (pd 6 [(F.PD_STATUS_TC_STATE,4),(F.PD_CTRL_EN,1)]))), (6 : Fin 48), by decide +kernel, by decide +kernel, by decide +kernel, by decide +kernel⟩,
   ⟨(rxp 6 (evp 6 9 0) (px 6 (fun x => {x with hr := 1}) (pd 6 [(F.PD_STATUS_TC_STATE,2),(F.PD_CTRL_EN,1),(F.PD_STATUS_VBUS,2),(F.PD_STATUS_GATE_SRC,1)]))), (6 : Fin 48), by decide +kernel, by decide +kernel⟩,
   ⟨(rxp 6 (evp 6 9 0) (px 6 (fun x => {x with hr := 3}) (pd 6 [(F.PD_STATUS_TC_STATE,2),(F.PD_CTRL_EN,1),(F.PD_STATUS_VBUS,1)]))), (6 : Fin 48), by decide +kernel, by decide +kernel, by decide +kernel, by decide +kernel, by decide +kernel⟩,
   ⟨(rxp 6 (evp 6 9 0) (px 6 (fun x => {x with hr := 5}) (pd 6 [(F.PD_STATUS_TC_STATE,3),(F.PD_CTRL_EN,1),(F.PD_STATUS_VBUS,1)]))), (6 : Fin 48), by decide +kernel, by decide +kernel, by decide +kernel, by decide +kernel⟩⟩
theorem witness_PdRecovery_4 :
    ∃ (s : State) (n : Fin 48) (g : PdGuard),
    let x := s.port n
    (s.pwr.core = true) ∧
    ∃ f,
    (portFelt? s n = some f) ∧
    (guardHolds s n g = true) ∧
    (x.admFor = 0) :=
  ⟨(px 6 (fun x => {x with ocN := 100000}) (pd 6 [(F.PD_STATUS_TC_STATE,2),(F.PD_CTRL_EN,1),(F.PD_STATUS_VBUS,2),(F.PD_STATUS_GATE_SRC,1),(F.PD_STATUS_PD,2),(F.PD_CONTRACT_V,9000)])), (6 : Fin 48), .oc, by decide +kernel, 5, by decide +kernel, by decide +kernel, by decide +kernel⟩
theorem witness_PdMessages_1 :
    (∃ (s : State) (n : Fin 48) (m : List Byte) (q : List (Nat × List Byte)),
     (s.pwr.core = true) ∧
     let x := s.port n
     (x.inbox = (0, m) :: q) ∧
     (x.expect = 0) ∧
     (x.cur = none) ∧
     (x.outq = []) ∧
     (pdKey m = 24)) ∧
    (∃ (s : State) (n : Fin 48) (m : List Byte) (q : List (Nat × List Byte)),
     (s.pwr.core = true) ∧
     let x := s.port n
     (x.inbox = (0, m) :: q) ∧
     (x.expect = 0) ∧
     (x.cur = none) ∧
     (x.outq = []) ∧
     (pdKey m = 9)) ∧
    (∃ (s : State) (n : Fin 48) (m : List Byte) (q : List (Nat × List Byte)),
     (s.pwr.core = true) ∧
     let x := s.port n
     (x.inbox = (0, m) :: q) ∧
     (x.expect = 0) ∧
     (x.cur = none) ∧
     (x.outq = []) ∧
     (pdKey m = 11) ∧
     (portOn s n F.PD_CFG_VCONN_EN = false)) ∧
    (∃ (s : State) (n : Fin 48) (m : List Byte) (q : List (Nat × List Byte)),
     (s.pwr.core = true) ∧
     let b := pdB n
     let x := s.port n
     (x.inbox = (0, m) :: q) ∧
     (x.expect = 0) ∧
     (x.cur = none) ∧
     (x.outq = []) ∧
     (pdKey m = 11) ∧
     (portOn s n F.PD_CFG_VCONN_EN = true) ∧
     (s.flag b F.PD_STATUS_VCONN_SRC = true)) ∧
    (∃ (s : State) (n : Fin 48) (m : List Byte) (q : List (Nat × List Byte)),
     (s.pwr.core = true) ∧
     let x := s.port n
     (x.inbox = (0, m) :: q) ∧
     (x.expect = 0) ∧
     (x.cur = none) ∧
     (x.outq = []) ∧
     (pdKey m = 13) ∧
     (isSrc s n = false) ∧
     (x.chunkTx = none) ∧
     (x.vswap ≠ 2)) ∧
    (∃ (s : State) (n : Fin 48) (m : List Byte) (q : List (Nat × List Byte)),
     (s.pwr.core = true) ∧
     let b := pdB n
     let x := s.port n
     (x.inbox = (0, m) :: q) ∧
     (x.expect = 0) ∧
     (x.cur = none) ∧
     (x.outq = []) ∧
     (pdKey m = 80) ∧
     (leNat ((m.drop 4).take 1) = 3) ∧
     (isSrc s n = true) ∧
     (s.flag b F.PD_STATUS_EPR = true) ∧
     (s.flag b F.PD_STATUS_UNCHUNKED = true)) :=
  ⟨⟨(px 6 (fun x => {x with inbox := [(0,(ctlMsg 24)),(1,[])]}) (pd 6 [(F.PD_STATUS_TC_STATE,2)])), (6 : Fin 48), (ctlMsg 24), [(1,[])], by decide +kernel, by decide +kernel, by decide +kernel, by decide +kernel, by decide +kernel, by decide +kernel⟩,
   ⟨(px 6 (fun x => {x with inbox := [(0,(ctlMsg 9)),(1,[])]}) (pd 6 [(F.PD_STATUS_TC_STATE,2)])), (6 : Fin 48), (ctlMsg 9), [(1,[])], by decide +kernel, by decide +kernel, by decide +kernel, by decide +kernel, by decide +kernel, by decide +kernel⟩,
   ⟨(px 6 (fun x => {x with inbox := [(0,(ctlMsg 11)),(1,[])]}) (pd 6 [(F.PD_STATUS_TC_STATE,2)])), (6 : Fin 48), (ctlMsg 11), [(1,[])], by decide +kernel, by decide +kernel, by decide +kernel, by decide +kernel, by decide +kernel, by decide +kernel, by decide +kernel⟩,
   ⟨(px 6 (fun x => {x with inbox := [(0,(ctlMsg 11)),(1,[])]}) (pd 6 [(F.PD_STATUS_TC_STATE,2),(F.PD_CFG_VCONN_EN,1),(F.PD_STATUS_VCONN_SRC,1)])), (6 : Fin 48), (ctlMsg 11), [(1,[])], by decide +kernel, by decide +kernel, by decide +kernel, by decide +kernel, by decide +kernel, by decide +kernel, by decide +kernel, by decide +kernel⟩,
   ⟨(px 6 (fun x => {x with inbox := [(0,(ctlMsg 13)),(1,[])]}) (px 6 (fun x =>
    {x with rxq := [(0,[1])], txId := [(0,5)]}) (pd 6 [(F.PD_STATUS_TC_STATE,3)]))), (6 : Fin 48), (ctlMsg 13), [(1,[])], by decide +kernel, by decide +kernel, by decide +kernel, by decide +kernel, by decide +kernel, by decide +kernel, by decide +kernel, by decide +kernel, by decide +kernel⟩,
   ⟨(px 6 (fun x => {x with inbox := [(0,(extMsg 16 [3,0])),(1,[])]}) (pd 6 [(F.PD_STATUS_TC_STATE,2),(F.PD_STATUS_EPR,1),(F.PD_STATUS_UNCHUNKED,1)])), (6 : Fin 48), (extMsg 16 [3,0]), [(1,[])], by decide +kernel, by decide +kernel, by decide +kernel, by decide +kernel, by decide +kernel, by decide +kernel, by decide +kernel, by decide +kernel, by decide +kernel, by decide +kernel⟩⟩
theorem witness_PdMessages_2 :
    (∃ (s : State) (n : Fin 48) (m : List Byte) (q : List (Nat × List Byte)),
     (s.pwr.core = true) ∧
     let b := pdB n
     let x := s.port n
     (x.inbox = (0, m) :: q) ∧
     (x.expect = 0) ∧
     (x.cur = none) ∧
     (x.outq = []) ∧
     (pdKey m = 80) ∧
     (leNat ((m.drop 4).take 1) = 3) ∧
     (isSrc s n = false ∨ s.flag b F.PD_STATUS_EPR = false)) ∧
    (∃ (s : State) (n : Fin 48) (m : List Byte) (q : List (Nat × List Byte)),
     (s.pwr.core = true) ∧
     let x := s.port n
     (x.inbox = (0, m) :: q) ∧
     (x.expect = 0) ∧
     (x.cur = none) ∧
     (x.outq = []) ∧
     (pdKey m = 34) ∧
     (isSrc s n = true) ∧
     let rdo := (pdObjs m).getD 0 0#32
     (dealOf x.caps rdo = none)) ∧
    (∃ (s : State) (n : Fin 48) (m : List Byte) (q : List (Nat × List Byte)),
     (s.pwr.core = true) ∧
     let x := s.port n
     (x.inbox = (0, m) :: q) ∧
     (x.expect = 0) ∧
     (x.cur = none) ∧
     (x.outq = []) ∧
     (pdKey m = 34) ∧
     (isSrc s n = true) ∧
     let rdo := (pdObjs m).getD 0 0#32
     ∃ d,
     (dealOf x.caps rdo = some d) ∧
     (s.hold = false) ∧
     (x.lateW = 0) ∧
     (x.rxq.length < 4)) ∧
    (∃ (s : State) (n : Fin 48) (m : List Byte) (q : List (Nat × List Byte)),
     (s.pwr.core = true) ∧
     let x := s.port n
     (x.inbox = (0, m) :: q) ∧
     (x.expect = 0) ∧
     (x.cur = none) ∧
     (x.outq = []) ∧
     (pdKey m = 1 ∨ pdKey m = 5 ∨ pdKey m = 35)) ∧
    (∃ (s : State) (n : Fin 48) (m : List Byte) (q : List (Nat × List Byte)),
     (s.pwr.core = true) ∧
     let x := s.port n
     (x.inbox = (0, m) :: q) ∧
     (x.expect = 0) ∧
     (x.cur = none) ∧
     (x.outq = []) ∧
     (pdKey m = 15 ∨ pdKey m = 21 ∨ pdKey m = 37)) ∧
    (∃ (s : State) (n : Fin 48) (m : List Byte) (q : List (Nat × List Byte)),
     (s.pwr.core = true) ∧
     let x := s.port n
     (x.inbox = (0, m) :: q) ∧
     (x.expect = 0) ∧
     (x.cur = none) ∧
     (x.outq = []) ∧
     (pdKey m = 7 ∨ pdKey m = 8 ∨ (pdKey m = 16 ∧ x.swap ≠ 11 ∧ x.vswap ≠ 2)) ∧
     (x.rxq.length < 4)) :=
  ⟨⟨(px 6 (fun x => {x with inbox := [(0,(extMsg 16 [3,0])),(1,[])]}) (pd 6 [(F.PD_STATUS_TC_STATE,3),(F.PD_STATUS_EPR,1),(F.PD_STATUS_UNCHUNKED,1)])), (6 : Fin 48), (extMsg 16 [3,0]), [(1,[])], by decide +kernel, by decide +kernel, by decide +kernel, by decide +kernel, by decide +kernel, by decide +kernel, by decide +kernel, by decide +kernel⟩,
   ⟨(px 6 (fun x => {x with inbox := [(0,(dataMsg 2 [0x1000012c])),(1,[])]}) (pd 6 [(F.PD_STATUS_TC_STATE,2)])), (6 : Fin 48), (dataMsg 2 [0x1000012c]), [(1,[])], by decide +kernel, by decide +kernel, by decide +kernel, by decide +kernel, by decide +kernel, by decide +kernel, by decide +kernel, by decide +kernel⟩,
   ⟨(px 6 (fun x => {x with inbox := [(0,(dataMsg 2 [0x1080012c])),(1,[])]}) (px 6 (fun x =>
   {x with caps := [0x0001912c], rxq := [(0,[1])]}) (pd 6 [(F.PD_STATUS_TC_STATE,2)]))), (6 : Fin 48), (dataMsg 2 [0x1080012c]), [(1,[])], by decide +kernel, by decide +kernel, by decide +kernel, by decide +kernel, by decide +kernel, by decide +kernel, by decide +kernel, ({ v := 5000, i := 0, kind := 0, pos := 1 }), by decide +kernel, by decide +kernel, by decide +kernel, by decide +kernel⟩,
   ⟨(px 6 (fun x => {x with inbox := [(0,(ctlMsg 1)),(1,[])]}) (pd 6 [(F.PD_STATUS_TC_STATE,2)])), (6 : Fin 48), (ctlMsg 1), [(1,[])], by decide +kernel, by decide +kernel, by decide +kernel, by decide +kernel, by decide +kernel, by decide +kernel⟩,
   ⟨(px 6 (fun x => {x with inbox := [(0,(ctlMsg 15)),(1,[])]}) (pd 6 [(F.PD_STATUS_TC_STATE,2)])), (6 : Fin 48), (ctlMsg 15), [(1,[])], by decide +kernel, by decide +kernel, by decide +kernel, by decide +kernel, by decide +kernel, by decide +kernel⟩,
   ⟨(px 6 (fun x => {x with inbox := [(0,(ctlMsg 7)),(1,[])]}) (px 6 (fun x => {x with rxq := [(0,[1])]}) (pd 6 [(F.PD_STATUS_TC_STATE,2)]))), (6 : Fin 48), (ctlMsg 7), [(1,[])], by decide +kernel, by decide +kernel, by decide +kernel, by decide +kernel, by decide +kernel, by decide +kernel, by decide +kernel⟩⟩
theorem witness_PdTransmitted_1 :
    (∃ (s : State) (l : Fin 12) (p : SidePkt) (rest : List SidePkt),
     (s.pwr.core = true) ∧
     (Claims.PdEvent s l p rest 4) ∧
     let n := 4 * l.val + bits p.arg 15 14
     (portWhy s n ≠ 0)) ∧
    (∃ (s : State) (l : Fin 12) (p : SidePkt) (rest : List SidePkt) (w : PdTx),
     (s.pwr.core = true) ∧
     (Claims.PdEvent s l p rest 4) ∧
     let n := 4 * l.val + bits p.arg 15 14
     let x := s.port n
     (portWhy s n = 0) ∧
     (x.cur = some w) ∧
     (x.outq = []) ∧
     (x.chunkTx = none) ∧
     (w.sop = 1) ∧
     (p.arg % 4 = 0)) ∧
    (∃ (s : State) (l : Fin 12) (p : SidePkt) (rest : List SidePkt) (w : PdTx),
     (s.pwr.core = true) ∧
     (Claims.PdEvent s l p rest 4) ∧
     let n := 4 * l.val + bits p.arg 15 14
     let x := s.port n
     (portWhy s n = 0) ∧
     (x.cur = some w) ∧
     (x.outq = []) ∧
     (x.chunkTx = none) ∧
     (w.sop = 1) ∧
     (p.arg % 4 = 1)) ∧
    (∃ (s : State) (l : Fin 12) (p : SidePkt) (rest : List SidePkt) (w : PdTx),
     (s.pwr.core = true) ∧
     (Claims.PdEvent s l p rest 4) ∧
     let n := 4 * l.val + bits p.arg 15 14
     let x := s.port n
     (portWhy s n = 0) ∧
     (x.cur = some w) ∧
     (x.outq = []) ∧
     (x.chunkTx = none) ∧
     (w.sop = 1) ∧
     (p.arg % 4 = 2)) ∧
    (∃ (s : State) (l : Fin 12) (p : SidePkt) (rest : List SidePkt) (w : PdTx),
     (s.pwr.core = true) ∧
     (Claims.PdEvent s l p rest 4) ∧
     let n := 4 * l.val + bits p.arg 15 14
     let x := s.port n
     (portWhy s n = 0) ∧
     (x.cur = some w) ∧
     (x.outq = []) ∧
     (x.chunkTx = none) ∧
     (w.sop = 0) ∧
     let key := pdKey w.bytes
     (p.arg % 4 = 0) ∧
     (key ∉ [3, 4, 6, 10, 11, 12, 33, 34, 41, 42, 81])) ∧
    (∃ (s : State) (l : Fin 12) (p : SidePkt) (rest : List SidePkt) (w : PdTx),
     (s.pwr.core = true) ∧
     (Claims.PdEvent s l p rest 4) ∧
     let n := 4 * l.val + bits p.arg 15 14
     let x := s.port n
     (portWhy s n = 0) ∧
     (x.cur = some w) ∧
     (x.outq = []) ∧
     (x.chunkTx = none) ∧
     (w.sop = 0) ∧
     let key := pdKey w.bytes
     (p.arg % 4 = 0) ∧
     (key = 33 ∨ key = 81)) :=
  ⟨⟨{rxp 6 (evp 6 4 0) (pd 6 [(F.PD_STATUS_TC_STATE,2)]) with portFelt := []}, 1, evp 6 4 0, tail1, by decide +kernel, ⟨by decide +kernel, by decide +kernel, by decide +kernel, by decide +kernel⟩, by decide +kernel⟩,
   ⟨(rxp 6 (evp 6 4 0) (px 6 (fun x => {x with cur := some ⟨1,[1,2],true⟩, txId := [(0,7)]}) (pd 6 [(F.PD_STATUS_TC_STATE,2),(F.PD_TX_STAT_BUSY,1)]))), 1, evp 6 4 0, tail1, ⟨1,[1,2],true⟩, by decide +kernel, ⟨by decide +kernel, by decide +kernel, by decide +kernel, by decide +kernel⟩, by decide +kernel, by decide +kernel, by decide +kernel, by decide +kernel, by decide +kernel, by decide +kernel⟩,
   ⟨(rxp 6 (evp 6 4 1) (px 6 (fun x => {x with cur := some ⟨1,[1,2],true⟩, txId := [(0,7)]}) (pd 6 [(F.PD_STATUS_TC_STATE,2),(F.PD_TX_STAT_BUSY,1)]))), 1, evp 6 4 1, tail1, ⟨1,[1,2],true⟩, by decide +kernel, ⟨by decide +kernel, by decide +kernel, by decide +kernel, by decide +kernel⟩, by decide +kernel, by decide +kernel, by decide +kernel, by decide +kernel, by decide +kernel, by decide +kernel⟩,
   ⟨(rxp 6 (evp 6 4 2) (px 6 (fun x => {x with cur := some ⟨1,[1,2],true⟩, txId := [(0,7)]}) (pd 6 [(F.PD_STATUS_TC_STATE,2),(F.PD_TX_STAT_BUSY,1)]))), 1, evp 6 4 2, tail1, ⟨1,[1,2],true⟩, by decide +kernel, ⟨by decide +kernel, by decide +kernel, by decide +kernel, by decide +kernel⟩, by decide +kernel, by decide +kernel, by decide +kernel, by decide +kernel, by decide +kernel, by decide +kernel⟩,
   ⟨(rxp 6 (evp 6 4 0) (px 6 (fun x => {x with cur := some ⟨0,ctlMsg 8,true⟩, txId := [(0,7)]}) (pd 6 [(F.PD_STATUS_TC_STATE,2),(F.PD_TX_STAT_BUSY,1)]))), 1, evp 6 4 0, tail1, ⟨0,ctlMsg 8,true⟩, by decide +kernel, ⟨by decide +kernel, by decide +kernel, by decide +kernel, by decide +kernel⟩, by decide +kernel, by decide +kernel, by decide +kernel, by decide +kernel, by decide +kernel, by decide +kernel, by decide +kernel⟩,
   ⟨(rxp 6 (evp 6 4 0) (px 6 (fun x => {x with cur := some ⟨0,dataMsg 1 [5],true⟩, txId := [(0,7)]}) (pd 6 [(F.PD_STATUS_TC_STATE,2),(F.PD_TX_STAT_BUSY,1)]))), 1, evp 6 4 0, tail1, ⟨0,dataMsg 1 [5],true⟩, by decide +kernel, ⟨by decide +kernel, by decide +kernel, by decide +kernel, by decide +kernel⟩, by decide +kernel, by decide +kernel, by decide +kernel, by decide +kernel, by decide +kernel, by decide +kernel, by decide +kernel⟩⟩
theorem witness_PdTransmitted_2 :
    (∃ (s : State) (l : Fin 12) (p : SidePkt) (rest : List SidePkt) (w : PdTx),
     (s.pwr.core = true) ∧
     (Claims.PdEvent s l p rest 4) ∧
     let n := 4 * l.val + bits p.arg 15 14
     let x := s.port n
     (portWhy s n = 0) ∧
     (x.cur = some w) ∧
     (x.outq = []) ∧
     (x.chunkTx = none) ∧
     (w.sop = 0) ∧
     let key := pdKey w.bytes
     (p.arg % 4 = 0) ∧
     (key = 34 ∨ key = 41)) ∧
    (∃ (s : State) (l : Fin 12) (p : SidePkt) (rest : List SidePkt) (w : PdTx),
     (s.pwr.core = true) ∧
     (Claims.PdEvent s l p rest 4) ∧
     let n := 4 * l.val + bits p.arg 15 14
     let x := s.port n
     (portWhy s n = 0) ∧
     (x.cur = some w) ∧
     (x.outq = []) ∧
     (x.chunkTx = none) ∧
     (w.sop = 0) ∧
     let key := pdKey w.bytes
     (p.arg % 4 = 0) ∧
     (key = 4 ∨ key = 12) ∧
     (w.policy = true)) ∧
    (∃ (s : State) (l : Fin 12) (p : SidePkt) (rest : List SidePkt) (w : PdTx),
     (s.pwr.core = true) ∧
     (Claims.PdEvent s l p rest 4) ∧
     let n := 4 * l.val + bits p.arg 15 14
     let x := s.port n
     (portWhy s n = 0) ∧
     (x.cur = some w) ∧
     (x.outq = []) ∧
     (x.chunkTx = none) ∧
     (w.sop = 0) ∧
     let key := pdKey w.bytes
     (p.arg % 4 = 0) ∧
     (key = 3) ∧
     (w.policy = true) ∧
     (x.swap = 10) ∧
     (isSrc s n = true)) ∧
    (∃ (s : State) (l : Fin 12) (p : SidePkt) (rest : List SidePkt) (w : PdTx),
     (s.pwr.core = true) ∧
     (Claims.PdEvent s l p rest 4) ∧
     let n := 4 * l.val + bits p.arg 15 14
     let x := s.port n
     (portWhy s n = 0) ∧
     (x.cur = some w) ∧
     (x.outq = []) ∧
     (x.chunkTx = none) ∧
     (w.sop = 0) ∧
     let key := pdKey w.bytes
     (p.arg % 4 = 0) ∧
     (key = 10)) ∧
    (∃ (s : State) (l : Fin 12) (p : SidePkt) (rest : List SidePkt) (w : PdTx),
     (s.pwr.core = true) ∧
     (Claims.PdEvent s l p rest 4) ∧
     let n := 4 * l.val + bits p.arg 15 14
     let x := s.port n
     (portWhy s n = 0) ∧
     (x.cur = some w) ∧
     (x.outq = []) ∧
     (x.chunkTx = none) ∧
     (w.sop = 0) ∧
     let key := pdKey w.bytes
     (p.arg % 4 = 0) ∧
     (key = 11)) ∧
    (∃ (s : State) (l : Fin 12) (p : SidePkt) (rest : List SidePkt) (w : PdTx),
     (s.pwr.core = true) ∧
     (Claims.PdEvent s l p rest 4) ∧
     let n := 4 * l.val + bits p.arg 15 14
     let x := s.port n
     (portWhy s n = 0) ∧
     (x.cur = some w) ∧
     (x.outq = []) ∧
     (x.chunkTx = none) ∧
     (w.sop = 0) ∧
     let key := pdKey w.bytes
     let act := bits ((pdObjs w.bytes).getD 0 0#32).toNat 31 24
     (p.arg % 4 = 0) ∧
     (key = 42) ∧
     (act = 1 ∨ act = 2)) :=
  ⟨⟨(rxp 6 (evp 6 4 0) (px 6 (fun x => {x with cur := some w1, txId := [(0,7)]}) (pd 6 [(F.PD_STATUS_TC_STATE,2),(F.PD_TX_STAT_BUSY,1)]))), 1, evp 6 4 0, tail1, w1, by decide +kernel, ⟨by decide +kernel, by decide +kernel, by decide +kernel, by decide +kernel⟩, by decide +kernel, by decide +kernel, by decide +kernel, by decide +kernel, by decide +kernel, by decide +kernel, by decide +kernel⟩,
   ⟨(rxp 6 (evp 6 4 0) (px 6 (fun x => {x with cur := some ⟨0,ctlMsg 4,true⟩, txId := [(0,7)]}) (pd 6 [(F.PD_STATUS_TC_STATE,2),(F.PD_TX_STAT_BUSY,1)]))), 1, evp 6 4 0, tail1, ⟨0,ctlMsg 4,true⟩, by decide +kernel, ⟨by decide +kernel, by decide +kernel, by decide +kernel, by decide +kernel⟩, by decide +kernel, by decide +kernel, by decide +kernel, by decide +kernel, by decide +kernel, by decide +kernel, by decide +kernel, by decide +kernel⟩,
   ⟨(rxp 6 (evp 6 4 0) (px 6 (fun x => {x with cur := some ⟨0,ctlMsg 3,true⟩, txId := [(0,7)], swap := 10}) (pd 6 [(F.PD_STATUS_TC_STATE,2),(F.PD_TX_STAT_BUSY,1)]))), 1, evp 6 4 0, tail1, ⟨0,ctlMsg 3,true⟩, by decide +kernel, ⟨by decide +kernel, by decide +kernel, by decide +kernel, by decide +kernel⟩, by decide +kernel, by decide +kernel, by decide +kernel, by decide +kernel, by decide +kernel, by decide +kernel, by decide +kernel, by decide +kernel, by decide +kernel, by decide +kernel⟩,
   ⟨(rxp 6 (evp 6 4 0) (px 6 (fun x => {x with cur := some ⟨0,ctlMsg 10,true⟩, txId := [(0,7)]}) (pd 6 [(F.PD_STATUS_TC_STATE,2),(F.PD_TX_STAT_BUSY,1)]))), 1, evp 6 4 0, tail1, ⟨0,ctlMsg 10,true⟩, by decide +kernel, ⟨by decide +kernel, by decide +kernel, by decide +kernel, by decide +kernel⟩, by decide +kernel, by decide +kernel, by decide +kernel, by decide +kernel, by decide +kernel, by decide +kernel, by decide +kernel⟩,
   ⟨(rxp 6 (evp 6 4 0) (px 6 (fun x => {x with cur := some ⟨0,ctlMsg 11,true⟩, txId := [(0,7)]}) (pd 6 [(F.PD_STATUS_TC_STATE,2),(F.PD_TX_STAT_BUSY,1)]))), 1, evp 6 4 0, tail1, ⟨0,ctlMsg 11,true⟩, by decide +kernel, ⟨by decide +kernel, by decide +kernel, by decide +kernel, by decide +kernel⟩, by decide +kernel, by decide +kernel, by decide +kernel, by decide +kernel, by decide +kernel, by decide +kernel, by decide +kernel⟩,
   ⟨(rxp 6 (evp 6 4 0) (px 6 (fun x => {x with cur := some ⟨0,dataMsg 10 [0x01000000],true⟩, txId := [(0,7)]}) (pd 6 [(F.PD_STATUS_TC_STATE,2),(F.PD_TX_STAT_BUSY,1)]))), 1, evp 6 4 0, tail1, ⟨0,dataMsg 10 [0x01000000],true⟩, by decide +kernel, ⟨by decide +kernel, by decide +kernel, by decide +kernel, by decide +kernel⟩, by decide +kernel, by decide +kernel, by decide +kernel, by decide +kernel, by decide +kernel, by decide +kernel, by decide +kernel, by decide +kernel⟩⟩
theorem witness_PdTransmitted_3 :
    (∃ (s : State) (l : Fin 12) (p : SidePkt) (rest : List SidePkt) (w : PdTx),
     (s.pwr.core = true) ∧
     (Claims.PdEvent s l p rest 4) ∧
     let n := 4 * l.val + bits p.arg 15 14
     let x := s.port n
     (portWhy s n = 0) ∧
     (x.cur = some w) ∧
     (x.outq = []) ∧
     (x.chunkTx = none) ∧
     (w.sop = 0) ∧
     let key := pdKey w.bytes
     let act := bits ((pdObjs w.bytes).getD 0 0#32).toNat 31 24
     (p.arg % 4 = 0) ∧
     (key = 42) ∧
     (act = 5)) ∧
    (∃ (s : State) (l : Fin 12) (p : SidePkt) (rest : List SidePkt) (w : PdTx),
     (s.pwr.core = true) ∧
     (Claims.PdEvent s l p rest 4) ∧
     let n := 4 * l.val + bits p.arg 15 14
     let x := s.port n
     (portWhy s n = 0) ∧
     (x.cur = some w) ∧
     (x.outq = []) ∧
     (x.chunkTx = none) ∧
     (w.sop = 0) ∧
     (p.arg % 4 = 1)) ∧
    (∃ (s : State) (l : Fin 12) (p : SidePkt) (rest : List SidePkt) (w : PdTx),
     (s.pwr.core = true) ∧
     (Claims.PdEvent s l p rest 4) ∧
     let n := 4 * l.val + bits p.arg 15 14
     let x := s.port n
     (portWhy s n = 0) ∧
     (x.cur = some w) ∧
     (x.outq = []) ∧
     (x.chunkTx = none) ∧
     (w.sop = 0) ∧
     let key := pdKey w.bytes
     (p.arg % 4 = 2) ∧
     (attached s n = true) ∧
     (x.admFor = 0) ∧
     (key = 6 ∨ key = 13)) ∧
    (∃ (s : State) (l : Fin 12) (p : SidePkt) (rest : List SidePkt) (w : PdTx),
     (s.pwr.core = true) ∧
     (Claims.PdEvent s l p rest 4) ∧
     let n := 4 * l.val + bits p.arg 15 14
     let x := s.port n
     (portWhy s n = 0) ∧
     (x.cur = some w) ∧
     (x.outq = []) ∧
     (x.chunkTx = none) ∧
     (w.sop = 0) ∧
     let key := pdKey w.bytes
     (p.arg % 4 = 2) ∧
     (key ≠ 6) ∧
     (key ≠ 13) ∧
     (key ≠ 11) ∧
     (x.vswap = 0) ∧
     (betweenAccept s n = false) ∧
     (x.explicit = false)) :=
  ⟨⟨(rxp 6 (evp 6 4 0) (px 6 (fun x => {x with cur := some ⟨0,dataMsg 10 [0x05000000],true⟩, txId := [(0,7)]}) (pd 6 [(F.PD_STATUS_TC_STATE,2),(F.PD_TX_STAT_BUSY,1)]))), 1, evp 6 4 0, tail1, ⟨0,dataMsg 10 [0x05000000],true⟩, by decide +kernel, ⟨by decide +kernel, by decide +kernel, by decide +kernel, by decide +kernel⟩, by decide +kernel, by decide +kernel, by decide +kernel, by decide +kernel, by decide +kernel, by decide +kernel, by decide +kernel, by decide +kernel⟩,
   ⟨(rxp 6 (evp 6 4 1) (px 6 (fun x => {x with cur := some w1, txId := [(0,7)]}) (pd 6 [(F.PD_STATUS_TC_STATE,2),(F.PD_TX_STAT_BUSY,1)]))), 1, evp 6 4 1, tail1, w1, by decide +kernel, ⟨by decide +kernel, by decide +kernel, by decide +kernel, by decide +kernel⟩, by decide +kernel, by decide +kernel, by decide +kernel, by decide +kernel, by decide +kernel, by decide +kernel⟩,
   ⟨(rxp 6 (evp 6 4 2) (px 6 (fun x => {x with cur := some ⟨0,ctlMsg 6,true⟩, txId := [(0,7)]}) (pd 6 [(F.PD_STATUS_TC_STATE,2),(F.PD_TX_STAT_BUSY,1)]))), 1, evp 6 4 2, tail1, ⟨0,ctlMsg 6,true⟩, by decide +kernel, ⟨by decide +kernel, by decide +kernel, by decide +kernel, by decide +kernel⟩, by decide +kernel, by decide +kernel, by decide +kernel, by decide +kernel, by decide +kernel, by decide +kernel, by decide +kernel, by decide +kernel, by decide +kernel⟩,
   ⟨(rxp 6 (evp 6 4 2) (px 6 (fun x => {x with cur := some w1, txId := [(0,7)]}) (pd 6 [(F.PD_STATUS_TC_STATE,2),(F.PD_TX_STAT_BUSY,1)]))), 1, evp 6 4 2, tail1, w1, by decide +kernel, ⟨by decide +kernel, by decide +kernel, by decide +kernel, by decide +kernel⟩, by decide +kernel, by decide +kernel, by decide +kernel, by decide +kernel, by decide +kernel, by decide +kernel, by decide +kernel, by decide +kernel, by decide +kernel, by decide +kernel, by decide +kernel, by decide +kernel⟩⟩
theorem witness_PdPolicy_1 :
    (∃ (s : State) (m : Master) (n : Fin 48) (sop : BitVec 2) (len : BitVec 9),
     let b := pdB n
     (Accepts s m (b + R.PD_TX_CTRL) (BitVec.ofNat 32 (2 ^ 31 + sop.toNat * 2 ^ 12 + len.toNat))) ∧
     (s.flag b F.PD_TX_STAT_BUSY = true)) ∧
    (∃ (s : State) (m : Master) (n : Fin 48) (sop : BitVec 2) (len : BitVec 9),
     let b := pdB n
     let msg := txBytes s n (min 264 len.toNat)
     let r := txCheck s n sop.toNat msg
     (Accepts s m (b + R.PD_TX_CTRL) (BitVec.ofNat 32 (2 ^ 31 + sop.toNat * 2 ^ 12 + len.toNat))) ∧
     (s.flag b F.PD_TX_STAT_BUSY = false) ∧
     (r = 3 ∨ r = 5 ∨ (r = 6 ∧ pdKey msg ≠ 42))) ∧
    (∃ (s : State) (m : Master) (n : Fin 48) (sop : BitVec 2) (len : BitVec 9),
     let b := pdB n
     let x := s.port n
     let msg := txBytes s n (min 264 len.toNat)
     let r := txCheck s n sop.toNat msg
     (Accepts s m (b + R.PD_TX_CTRL) (BitVec.ofNat 32 (2 ^ 31 + sop.toNat * 2 ^ 12 + len.toNat))) ∧
     (s.flag b F.PD_TX_STAT_BUSY = false) ∧
     (r = 0) ∧
     (pdKey msg < 64) ∧
     (sop ≠ 0#2 ∨ pdKey msg ≠ 6) ∧
     (isSrc s n = false ∨ x.explicit = false) ∧
     (x.cur = none) ∧
     (x.outq = []) ∧
     (msg.length ≤ 32)) ∧
    (∃ (s : State) (m : Master) (n : Fin 48) (watts : BitVec 12),
     let b := pdB n
     let x := s.port n
     (Accepts s m (b + R.PD_ADM_REQ) (BitVec.ofNat 32 (2 ^ 31 + watts.toNat))) ∧
     (x.admFor = 0) ∧
     (portCo s n F.PD_ADMIT_Q_PER_W * (100000 * watts.toNat - powerNow s n) / 100000 = 0)) ∧
    (∃ (s : State) (m : Master) (n : Fin 48) (watts : BitVec 12),
     let b := pdB n
     let x := s.port n
     (Accepts s m (b + R.PD_ADM_REQ) (BitVec.ofNat 32 (2 ^ 31 + watts.toNat))) ∧
     (x.admFor = 0) ∧
     (portCo s n F.PD_ADMIT_Q_PER_W * (100000 * watts.toNat - powerNow s n) / 100000 ≠ 0)) ∧
    (∃ (s : State) (m : Master) (n : Fin 48),
     let b := pdB n
     let x := s.port n
     (Accepts s m (b + R.PD_RX_STAT) 0x80000000#32) ∧
     (s.flag b F.PD_RX_STAT_FULL = true) ∧
     (x.rxq.length ≤ 1)) :=
  ⟨⟨(pd 6 [(F.PD_STATUS_TC_STATE,2),(F.PD_TX_STAT_BUSY,1)]), .spi, (6 : Fin 48), 0, 2, ⟨⟨by decide +kernel, by decide +kernel⟩,
    by decide +kernel⟩, by decide +kernel⟩,
   ⟨(tx (pd 6 [(F.PD_STATUS_TC_STATE,2)]) (ctlMsg 13)), .spi, (6 : Fin 48), 0, 2, ⟨⟨by decide +kernel, by decide +kernel⟩, by decide +kernel⟩, by decide +kernel, by decide +kernel⟩,
   ⟨(tx (pd 6 [(F.PD_STATUS_TC_STATE,3)]) (dataMsg 15 [7])), .spi, (6 : Fin 48), 1, 6, ⟨⟨by decide +kernel, by decide +kernel⟩,
    by decide +kernel⟩, by decide +kernel, by decide +kernel, by decide +kernel, by decide +kernel, by decide +kernel, by decide +kernel, by decide +kernel, by decide +kernel⟩,
   ⟨(pd 6 [(F.PD_STATUS_TC_STATE,2),(F.PD_TX_STAT_BUSY,1)]), .spi, (6 : Fin 48), 9, ⟨⟨by decide +kernel, by decide +kernel⟩,
    by decide +kernel⟩, by decide +kernel, by decide +kernel⟩,
   ⟨(pd 6 [(F.PD_STATUS_TC_STATE,2),(F.PD_ADMIT_Q_PER_W,1000)]), .spi, (6 : Fin 48), 100, ⟨⟨by decide +kernel,
    by decide +kernel⟩, by decide +kernel⟩, by decide +kernel, by decide +kernel⟩,
   ⟨(px 6 (fun x => {x with rxq := [(0,[1,2])]}) (pd 6 [(F.PD_STATUS_TC_STATE,2),(F.PD_RX_STAT_FULL,1),(F.PD_RX_STAT_QUEUED,0)])), .spi, (6 : Fin 48), ⟨⟨by decide +kernel, by decide +kernel⟩, by decide +kernel⟩, by decide +kernel, by decide +kernel⟩⟩
theorem witness_PdPolicy_2 :
    (∃ (s : State) (n : Fin 48),
     let x := s.port n
     (s.pwr.core = true) ∧
     (x.req = 1) ∧
     (x.cur = none) ∧
     (x.outq = []) ∧
     (explicitNow s n = true)) ∧
    (∃ (s : State) (n : Fin 48),
     let x := s.port n
     (s.pwr.core = true) ∧
     (x.req = 1) ∧
     (x.cur = none) ∧
     (x.outq = []) ∧
     (explicitNow s n = false)) ∧
    (∃ (s : State) (n : Fin 48),
     let x := s.port n
     (s.pwr.core = true) ∧
     (x.swap = 1)) ∧
    (∃ (s : State) (n : Fin 48),
     let x := s.port n
     (s.pwr.core = true) ∧
     ∃ f,
     (portFelt? s n = some f) ∧
     (x.swap = 0) ∧
     (x.moving = true) ∧
     (isSrc s n = true) ∧
     (feltSel s f ≠ 1)) ∧
    (∃ (s : State) (n : Fin 48),
     let x := s.port n
     (s.pwr.core = true) ∧
     (x.moving = true) ∧
     (x.admFor = 0) ∧
     (portWhy s n = 0) ∧
     (isSrc s n = true)) ∧
    (∃ (s : State) (n : Fin 48),
     let x := s.port n
     (s.pwr.core = true) ∧
     (x.moving = true) ∧
     (x.admFor = 0) ∧
     (portWhy s n = 0) ∧
     (isSnk s n = true)) :=
  ⟨⟨(px 6 (fun x => {x with req := 1, reqType := 2, admFor := 1}) (pd 6 [(F.PD_STATUS_TC_STATE,2),(F.PD_STATUS_PD,2),(F.PD_CONTRACT_V,5000)])), (6 : Fin 48), by decide +kernel, by decide +kernel, by decide +kernel, by decide +kernel, by decide +kernel⟩,
   ⟨(px 6 (fun x => {x with req := 1, reqType := 2}) (pd 6 [(F.PD_STATUS_TC_STATE,2),(F.PD_STATUS_PD,1)])), (6 : Fin 48), by decide +kernel, by decide +kernel, by decide +kernel, by decide +kernel, by decide +kernel⟩,
   ⟨(px 6 (fun x => {x with swap := 1}) (pd 6 [(F.PD_STATUS_TC_STATE,2),(F.PD_STATUS_GATE_SRC,1)])), (6 : Fin 48), by decide +kernel, by decide +kernel⟩,
   ⟨(px 6 (fun x => {x with moving := true}) (let s := F' (pd 6 [(F.PD_STATUS_TC_STATE,2),(F.PD_STATUS_GATE_SRC,1)]) (feltB 5) [(F.FELT_SRC_SEL,0)]; s.setFelt 5
     {s.felt 5 with portHold := true, portSet := some (setAt s (feltB 5 + R.FELT_SP_ENG))})), (6 : Fin 48), by decide +kernel, 5, by decide +kernel, by decide +kernel, by decide +kernel, by decide +kernel, by decide +kernel⟩,
   ⟨(px 6 (fun x => {x with moving := true}) (let s := F' (pd 6 [(F.PD_STATUS_TC_STATE,2),(F.PD_STATUS_GATE_SRC,1)]) (feltB 5) [(F.FELT_SRC_SEL,1)]; s.setFelt 5 {s.felt 5 with portHold := true, portSet := some (setAt s (feltB 5 + R.FELT_SP_ENG))})), (6 : Fin 48), by decide +kernel, by decide +kernel, by decide +kernel, by decide +kernel, by decide +kernel⟩,
   ⟨(px 6 (fun x => {x with moving := true}) (pd 6 [(F.PD_STATUS_TC_STATE,3),(F.PD_STATUS_GATE_SNK,1)])), (6 : Fin 48), by decide +kernel, by decide +kernel, by decide +kernel, by decide +kernel, by decide +kernel⟩⟩
theorem witness_PdTimers_1 :
    (∃ (s : State) (n : Fin 48) (w : PdTx),
     (s.pwr.core = true) ∧
     let x := s.port n
     let free := portWhy s n = 0 ∧ x.cur = none ∧ x.outq = []
     (isSnk s n = true) ∧
     (free) ∧
     (w.sop = 0) ∧
     (x.lastReq = some w) ∧
     (pdKey w.bytes = 34) ∧
     (x.waited = true) ∧
     (sinkMay s n = true)) ∧
    (∃ (s : State) (n : Fin 48) (w : PdTx),
     (s.pwr.core = true) ∧
     let x := s.port n
     let free := portWhy s n = 0 ∧ x.cur = none ∧ x.outq = []
     (isSnk s n = true) ∧
     (free) ∧
     (w.sop = 0) ∧
     (x.lastReq = some w) ∧
     (pdKey w.bytes = 34) ∧
     (x.waited = true) ∧
     (sinkMay s n = false)) ∧
    (∃ (s : State) (n : Fin 48) (w : PdTx),
     (s.pwr.core = true) ∧
     let x := s.port n
     let free := portWhy s n = 0 ∧ x.cur = none ∧ x.outq = []
     let pps := dealPps s n = true
     (isSnk s n = true) ∧
     (free) ∧
     (w.sop = 0) ∧
     (x.lastReq = some w) ∧
     (pdKey w.bytes = 34) ∧
     (pps) ∧
     (sinkMay s n = true)) ∧
    (∃ (s : State) (n : Fin 48) (w : PdTx),
     (s.pwr.core = true) ∧
     let x := s.port n
     let free := portWhy s n = 0 ∧ x.cur = none ∧ x.outq = []
     let pps := dealPps s n = true
     (isSnk s n = true) ∧
     (free) ∧
     (w.sop = 0) ∧
     (x.lastReq = some w) ∧
     (pdKey w.bytes = 34) ∧
     (pps) ∧
     (sinkMay s n = false)) ∧
    (∃ (s : State) (n : Fin 48),
     (s.pwr.core = true) ∧
     let x := s.port n
     let pps := dealPps s n = true
     (isSrc s n = true) ∧
     (pps) ∧
     (portWhy s n = 0) ∧
     (x.admFor = 0)) ∧
    (∃ (s : State) (n : Fin 48),
     (s.pwr.core = true) ∧
     let b := pdB n
     let x := s.port n
     let free := portWhy s n = 0 ∧ x.cur = none ∧ x.outq = []
     (isSnk s n = true) ∧
     (s.flag b F.PD_STATUS_EPR = true) ∧
     (free) ∧
     (s.flag b F.PD_STATUS_UNCHUNKED = true) ∧
     (sinkMay s n = true)) :=
  ⟨⟨(px 6 (fun x =>
   {x with waited := true, lastReq := some w1}) (pd 6 [(F.PD_STATUS_TC_STATE,3),(F.PD_STATUS_PD,2),(F.PD_CONTRACT_V,9000),(F.PD_CONTRACT_KIND,1)])), (6 : Fin 48), w1, by decide +kernel, by decide +kernel, by decide +kernel, by decide +kernel, by decide +kernel, by decide +kernel, by decide +kernel, by decide +kernel⟩,
   ⟨ng, (6 : Fin 48), w1, by decide +kernel, by decide +kernel, by decide +kernel, by decide +kernel, by decide +kernel, by decide +kernel, by decide +kernel, by decide +kernel⟩,
   ⟨(px 6 (fun x =>
    {x with waited := true, lastReq := some w1}) (pd 6 [(F.PD_STATUS_TC_STATE,3),(F.PD_STATUS_PD,2),(F.PD_CONTRACT_V,9000),(F.PD_CONTRACT_KIND,1)])), (6 : Fin 48), w1, by decide +kernel, by decide +kernel, by decide +kernel, by decide +kernel, by decide +kernel, by decide +kernel, by decide +kernel, by decide +kernel⟩,
   ⟨ng, (6 : Fin 48), w1, by decide +kernel, by decide +kernel, by decide +kernel, by decide +kernel, by decide +kernel, by decide +kernel, by decide +kernel, by decide +kernel⟩,
   ⟨(px 6 (fun x =>
    {x with waited := true, lastReq := some w1}) (pd 6 [(F.PD_STATUS_TC_STATE,2),(F.PD_STATUS_PD,2),(F.PD_CONTRACT_V,9000),(F.PD_CONTRACT_KIND,1),(F.PD_STATUS_EPR,1)])), (6 : Fin 48), by decide +kernel, by decide +kernel, by decide +kernel, by decide +kernel, by decide +kernel⟩,
   ⟨(pd 6 [(F.PD_STATUS_TC_STATE,3),(F.PD_STATUS_PD,2),(F.PD_STATUS_EPR,1),(F.PD_STATUS_UNCHUNKED,1)]), (6 : Fin 48), by decide +kernel, by decide +kernel, by decide +kernel, by decide +kernel, by decide +kernel, by decide +kernel⟩⟩
theorem witness_PdTimers_2 :
    (∃ (s : State) (n : Fin 48),
     (s.pwr.core = true) ∧
     let b := pdB n
     let x := s.port n
     let free := portWhy s n = 0 ∧ x.cur = none ∧ x.outq = []
     (isSnk s n = true) ∧
     (s.flag b F.PD_STATUS_EPR = true) ∧
     (free) ∧
     (s.flag b F.PD_STATUS_UNCHUNKED = true) ∧
     (sinkMay s n = false)) ∧
    (∃ (s : State) (n : Fin 48),
     (s.pwr.core = true) ∧
     let b := pdB n
     let x := s.port n
     (isSrc s n = true) ∧
     (s.flag b F.PD_STATUS_EPR = true) ∧
     (portWhy s n = 0) ∧
     (x.admFor = 0)) ∧
    (∃ (s : State) (n : Fin 48),
     (s.pwr.core = true) ∧
     let b := pdB n
     let x := s.port n
     let free := portWhy s n = 0 ∧ x.cur = none ∧ x.outq = []
     (isSrc s n = true) ∧
     (s.flag b F.PD_CABLE_VALID = false) ∧
     (x.disc = false) ∧
     (x.explicit = false) ∧
     (portOn s n F.PD_CFG_EPR_EN = true) ∧
     (s.flag b F.PD_STATUS_VCONN_SRC = true) ∧
     (free) ∧
     (s.fld b F.PD_CABLE_TRIES < 31)) ∧
    (∃ (s : State) (n : Fin 48),
     (s.pwr.core = true) ∧
     let b := pdB n
     let x := s.port n
     let free := portWhy s n = 0 ∧ x.cur = none ∧ x.outq = []
     (isSrc s n = true) ∧
     (s.flag b F.PD_CABLE_VALID = false) ∧
     (x.disc = false) ∧
     (x.explicit = false) ∧
     (portOn s n F.PD_CFG_EPR_EN = true) ∧
     (s.flag b F.PD_STATUS_VCONN_SRC = false) ∧
     (portOn s n F.PD_CFG_VCONN_EN = true) ∧
     (free)) ∧
    (∃ (s : State) (n : Fin 48),
     (s.pwr.core = true) ∧
     let b := pdB n
     let x := s.port n
     (isSrc s n = true) ∧
     (s.flag b F.PD_CABLE_VALID = false) ∧
     (x.disc = false) ∧
     (x.explicit = false) ∧
     (portOn s n F.PD_CFG_EPR_EN = true) ∧
     (s.flag b F.PD_STATUS_VCONN_SRC = false) ∧
     (portOn s n F.PD_CFG_VCONN_EN = false)) ∧
    (∃ (s : State) (n : Fin 48),
     (s.pwr.core = true) ∧
     let b := pdB n
     let x := s.port n
     let free := portWhy s n = 0 ∧ x.cur = none ∧ x.outq = []
     (x.disc = true) ∧
     (x.explicit = false) ∧
     (free) ∧
     (s.fld b F.PD_CABLE_TRIES < 20)) :=
  ⟨⟨ng, (6 : Fin 48), by decide +kernel, by decide +kernel, by decide +kernel, by decide +kernel, by decide +kernel, by decide +kernel⟩,
   ⟨(px 6 (fun x =>
    {x with waited := true, lastReq := some w1}) (pd 6 [(F.PD_STATUS_TC_STATE,2),(F.PD_STATUS_PD,2),(F.PD_CONTRACT_V,9000),(F.PD_CONTRACT_KIND,1),(F.PD_STATUS_EPR,1)])), (6 : Fin 48), by decide +kernel, by decide +kernel, by decide +kernel, by decide +kernel, by decide +kernel⟩,
   ⟨(pd 6 [(F.PD_STATUS_TC_STATE,2),(F.PD_CFG_EPR_EN,1),(F.PD_STATUS_VCONN_SRC,1),(F.PD_CABLE_TRIES,3)]), (6 : Fin 48), by decide +kernel, by decide +kernel, by decide +kernel, by decide +kernel, by decide +kernel, by decide +kernel, by decide +kernel, by decide +kernel, by decide +kernel⟩,
   ⟨(pd 6 [(F.PD_STATUS_TC_STATE,2),(F.PD_CFG_EPR_EN,1),(F.PD_CFG_VCONN_EN,1)]), (6 : Fin 48), by decide +kernel, by decide +kernel, by decide +kernel, by decide +kernel, by decide +kernel, by decide +kernel, by decide +kernel, by decide +kernel, by decide +kernel⟩,
   ⟨(pd 6 [(F.PD_STATUS_TC_STATE,2),(F.PD_CFG_EPR_EN,1)]), (6 : Fin 48), by decide +kernel, by decide +kernel, by decide +kernel, by decide +kernel, by decide +kernel, by decide +kernel, by decide +kernel, by decide +kernel⟩,
   ⟨(px 6 (fun x => {x with disc := true}) (pd 6 [(F.PD_STATUS_TC_STATE,2),(F.PD_CABLE_TRIES,3)])), (6 : Fin 48), by decide +kernel, by decide +kernel, by decide +kernel, by decide +kernel, by decide +kernel⟩⟩
theorem witness_PdTimers_3 :
    (∃ (s : State) (n : Fin 48),
     (s.pwr.core = true) ∧
     let b := pdB n
     let x := s.port n
     let free := portWhy s n = 0 ∧ x.cur = none ∧ x.outq = []
     (x.disc = true) ∧
     (x.explicit = false) ∧
     (free) ∧
     (20 ≤ s.fld b F.PD_CABLE_TRIES)) ∧
    (∃ (s : State) (n : Fin 48),
     (s.pwr.core = true) ∧
     let x := s.port n
     (x.expect = 13) ∧
     (attached s n = true) ∧
     (portWhy s n = 0) ∧
     (x.admFor = 0)) ∧
    (∃ (s : State) (n : Fin 48),
     (s.pwr.core = true) ∧
     let x := s.port n
     let free := portWhy s n = 0 ∧ x.cur = none ∧ x.outq = []
     (x.expect = 7) ∧
     (betweenAccept s n = false) ∧
     (free) ∧
     (x.chunkTx = none) ∧
     (x.explicit = false) ∧
     (x.swap = 0) ∧
     (x.vswap = 0)) ∧
    (∃ (s : State) (n : Fin 48),
     (s.pwr.core = true) ∧
     let x := s.port n
     (2 ≤ x.swap) ∧
     (x.swap ≤ 5) ∧
     (x.admFor = 0)) ∧
    (∃ (s : State) (n : Fin 48) (w : PdTx),
     (s.pwr.core = true) ∧
     let x := s.port n
     let free := portWhy s n = 0 ∧ x.cur = none ∧ x.outq = []
     (x.capsMsg = some w) ∧
     (w.sop = 0) ∧
     (pdKey w.bytes = 33) ∧
     (x.explicit = false) ∧
     (free) ∧
     (x.swap = 6)) ∧
    (∃ (s : State) (n : Fin 48) (w : PdTx),
     (s.pwr.core = true) ∧
     let x := s.port n
     let free := portWhy s n = 0 ∧ x.cur = none ∧ x.outq = []
     (x.capsMsg = some w) ∧
     (w.sop = 0) ∧
     (pdKey w.bytes = 33) ∧
     (x.explicit = false) ∧
     (free) ∧
     (isSrc s n = true) ∧
     (explicitNow s n = false) ∧
     (x.capsN < 50)) :=
  ⟨⟨(px 6 (fun x => {x with disc := true}) (pd 6 [(F.PD_STATUS_TC_STATE,2),(F.PD_CABLE_TRIES,20)])), (6 : Fin 48), by decide +kernel, by decide +kernel, by decide +kernel, by decide +kernel, by decide +kernel⟩,
   ⟨(px 6 (fun x => {x with expect := 13}) (pd 6 [(F.PD_STATUS_TC_STATE,2),(F.PD_CABLE_TRIES,20)])), (6 : Fin 48), by decide +kernel, by decide +kernel, by decide +kernel, by decide +kernel, by decide +kernel⟩,
   ⟨(px 6 (fun x =>
    {x with expect := 7, rxq := [(0,[1])], txId := [(0,3)]}) (pd 6 [(F.PD_STATUS_TC_STATE,2),(F.PD_RX_STAT_FULL,1)])), (6 : Fin 48), by decide +kernel, by decide +kernel, by decide +kernel, by decide +kernel, by decide +kernel, by decide +kernel, by decide +kernel, by decide +kernel⟩,
   ⟨(px 6 (fun x => {x with swap := 5}) (pd 6 [(F.PD_STATUS_TC_STATE,2)])), (6 : Fin 48), by decide +kernel, by decide +kernel, by decide +kernel, by decide +kernel⟩,
   ⟨(px 6 (fun x => {x with swap := 6, capsMsg := some w2, capsN := 3}) (pd 6 [(F.PD_STATUS_TC_STATE,2)])), (6 : Fin 48), w2, by decide +kernel, by decide +kernel, by decide +kernel, by decide +kernel, by decide +kernel, by decide +kernel, by decide +kernel⟩,
   ⟨(px 6 (fun x => {x with swap := 6, capsMsg := some w2, capsN := 3}) (pd 6 [(F.PD_STATUS_TC_STATE,2)])), (6 : Fin 48), w2, by decide +kernel, by decide +kernel, by decide +kernel, by decide +kernel, by decide +kernel, by decide +kernel, by decide +kernel, by decide +kernel, by decide +kernel⟩⟩
theorem witness_PdTimers_4 :
    (∃ (s : State) (n : Fin 48),
     (s.pwr.core = true) ∧
     let x := s.port n
     let free := portWhy s n = 0 ∧ x.cur = none ∧ x.outq = []
     (x.capsMsg = none) ∧
     (x.swap = 6) ∧
     (x.explicit = false) ∧
     (free)) ∧
    (∃ (s : State) (n : Fin 48) (w : PdTx),
     (s.pwr.core = true) ∧
     let x := s.port n
     ∃ k,
     (x.chunkTx = some (w, k)) ∧
     (w.policy = true) ∧
     (x.cur = none) ∧
     (x.outq = [])) ∧
    (∃ (s : State) (n : Fin 48),
     (s.pwr.core = true) ∧
     let x := s.port n
     let free := portWhy s n = 0 ∧ x.cur = none ∧ x.outq = []
     (x.entering = true) ∧
     (isSrc s n = true) ∧
     (free)) ∧
    (∃ (s : State) (n : Fin 48),
     (s.pwr.core = true) ∧
     let x := s.port n
     (x.entering = true) ∧
     (isSrc s n = false)) :=
  ⟨⟨px 6 (fun x => {x with swap := 6}) (pd 6 [(F.PD_STATUS_TC_STATE,2)]), (6 : Fin 48), by decide +kernel, by decide +kernel, by decide +kernel, by decide +kernel, by decide +kernel⟩,
   ⟨(px 6 (fun x => {x with chunkTx := some (w1,1)}) (pd 6 [(F.PD_STATUS_TC_STATE,2),(F.PD_TX_STAT_BUSY,1)])), (6 : Fin 48), w1, by decide +kernel, 1, by decide +kernel, by decide +kernel, by decide +kernel, by decide +kernel⟩,
   ⟨(px 6 (fun x => {x with entering := true}) (pd 6 [(F.PD_STATUS_TC_STATE,2)])), (6 : Fin 48), by decide +kernel, by decide +kernel, by decide +kernel, by decide +kernel⟩,
   ⟨(px 6 (fun x => {x with entering := true}) (pd 6 [(F.PD_STATUS_TC_STATE,3)])), (6 : Fin 48), by decide +kernel, by decide +kernel, by decide +kernel⟩⟩
end Pd

namespace Service
def sv (p : Nat) (st : Nat) (s : State) : State := F' s svcB [(if p = 0 then F.SVC_STATUS_S0_STATE else F.SVC_STATUS_S1_STATE, st)]
def sx (f : SvcX → SvcX) (s : State) : State := { s with svc := f s.svc }
def vo (s : State) : State := {s with pwr := {s.pwr with vaon := true, main := true}}
def u0 : SvcUpd := ⟨1,100,8,some 4,0⟩
def rq (c : Nat) (o : List Word) : SvcReq := ⟨0,5,c,o⟩
def up (u : SvcUpd) (s : State) := sx (fun x => {x with upd := some u}) s
/-- UPD_END of image A, written whole into slot 0. -/
def uA : SvcUpd := ⟨0, 224, 224, none, 0⟩
def updA : State :=
  let s := up uA (vo (Images.reloadA))
  sx (fun x => { x with req := some (rq 18 [crc32 (updBytes s uA)]) }) s
theorem updA_good : imgCheck updA 1 = 0 :=
  Images.imgCheckOk (cs := [⟨1, 20, 32, 0x08399b2e⟩, ⟨2, 64, 16, 0x745d2fb2⟩, ⟨15, 92, 132, 0x58674b5b⟩]) (a := ⟨2, 64, 16, 0x745d2fb2⟩)
    (b := ⟨15, 92, 132, 0x58674b5b⟩)
    (by decide +kernel) (by decide +kernel) (by decide +kernel) (by decide +kernel) (by decide +kernel) (by decide +kernel)
    (by decide +kernel) (by decide +kernel)
    (Images.sigOk (by decide +kernel) (by decide +kernel) (by decide +kernel) (by decide +kernel) (by decide +kernel) (by decide +kernel) Images.verifyA)
def off (s : State) : State := {s with pwr := {s.pwr with vaon := true, main := false}}

theorem witness_ServicePorts_1 :
    (∃ (s : State),
     (s.pwr.asleep = false)) ∧
    (∃ (s : State) (p : Fin 2),
     let other := pathClosed s (1 - p)
     (s.pwr.vaon = false) ∧
     (other = false)) ∧
    (∃ (s : State) (p : Fin 2),
     let other := pathClosed s (1 - p)
     (pathClosed s p = true) ∧
     (other = false) ∧
     (s.pwr.aux = true)) ∧
    (∃ (s : State) (p : Fin 2),
     let other := pathClosed s (1 - p)
     (pathClosed s p = true) ∧
     (other = false) ∧
     (s.pwr.aux = false)) ∧
    (∃ (s : State) (p : Fin 2),
     let x := s.svc
     (s.pwr.vaon = true) ∧
     (p.val ∈ x.retry)) ∧
    (∃ (s : State) (p : Fin 2) (bytes : List Byte),
     let x := s.svc
     let fresh := svcState s p ≠ 0 ∧ 2 ≤ bytes.length ∧ (pdKey bytes = 13 ∨ idOf x.rxId p ≠ some (pdId bytes))
     (fresh) ∧
     (pdKey bytes = 33)) :=
  ⟨⟨(sv (0 : Fin 2) 2 (vo base)), by decide +kernel⟩,
   ⟨(sv (0 : Fin 2) 2 (sx (fun x =>
    {x with retry := [0,1], req := some ⟨1,2,3,[]⟩, upd := some ⟨1,2,3,none,0⟩}) {base with pwr := {base.pwr with vaon := false}})), (0 : Fin 2), by decide +kernel, by decide +kernel⟩,
   ⟨(let s := F' (sv 1 2 (vo base)) svcB [(F.SVC_STATUS_S1_PATH,1)]; { s with pwr := { s.pwr with aux := true } }), 1, by decide +kernel, by decide +kernel, by decide +kernel⟩,
   ⟨(let s := F' (sv 1 2 (vo base)) svcB [(F.SVC_STATUS_S1_PATH,1)]; { s with pwr := { s.pwr with aux := false } }), 1, by decide +kernel, by decide +kernel, by decide +kernel⟩,
   ⟨(sv (0 : Fin 2) 2 (sx (fun x => {x with retry := [0,1], rxId := [(0,3)]}) (vo base))), (0 : Fin 2), by decide +kernel, by decide +kernel⟩,
   ⟨(sv (0 : Fin 2) 2 (sx (fun x =>
    {x with retry := [0,1], req := some ⟨1,2,3,[]⟩, upd := some ⟨1,2,3,none,0⟩}) {base with pwr := {base.pwr with vaon := false}})), (0 : Fin 2), (dataMsg 1 [6]), by decide +kernel, by decide +kernel⟩⟩
theorem witness_ServicePorts_2 :
    (∃ (s : State) (p : Fin 2) (bytes : List Byte),
     let x := s.svc
     let fresh := svcState s p ≠ 0 ∧ 2 ≤ bytes.length ∧ (pdKey bytes = 13 ∨ idOf x.rxId p ≠ some (pdId bytes))
     (fresh) ∧
     (pdKey bytes = 9 ∨ pdKey bytes = 10 ∨ pdKey bytes = 11)) ∧
    (∃ (s : State) (p : Fin 2) (bytes : List Byte),
     let x := s.svc
     let fresh := svcState s p ≠ 0 ∧ 2 ≤ bytes.length ∧ (pdKey bytes = 13 ∨ idOf x.rxId p ≠ some (pdId bytes))
     (fresh) ∧
     (pdKey bytes = 13 ∨ pdKey bytes = 7 ∨ pdKey bytes = 8 ∨ pdKey bytes = 24)) ∧
    (∃ (s : State) (p : Fin 2) (bytes : List Byte),
     let x := s.svc
     let fresh := svcState s p ≠ 0 ∧ 2 ≤ bytes.length ∧ (pdKey bytes = 13 ∨ idOf x.rxId p ≠ some (pdId bytes))
     (fresh) ∧
     (pdKey bytes = 6) ∧
     (p.val ∈ x.asked) ∧
     (svcState s p = 1) ∧
     (s.pwr.main = true)) ∧
    (∃ (s : State) (p : Fin 2) (bytes : List Byte),
     let x := s.svc
     let fresh := svcState s p ≠ 0 ∧ 2 ≤ bytes.length ∧ (pdKey bytes = 13 ∨ idOf x.rxId p ≠ some (pdId bytes))
     (fresh) ∧
     let hdr := ((pdObjs bytes).getD 0 0#32).toNat
     (pdKey bytes = 47) ∧
     (hdr / 2 ^ 16 = fget (svcVdm s) F.SVC_VDM_SVID) ∧
     (bit hdr 15 = false) ∧
     (bit hdr 14 = false) ∧
     (2 ≤ svcState s p) ∧
     (x.req = none) ∧
     (svcGroup (bits hdr 9 4) = some 0) ∧
     (bit (svcVdm s).toNat 0 = true)) :=
  ⟨⟨(F' (sv 1 2 (vo base)) svcB [(F.SVC_STATUS_S1_PATH,1)]), 1, (ctlMsg 11), by decide +kernel, by decide +kernel⟩,
   ⟨(sv (0 : Fin 2) 2 (vo base)), (0 : Fin 2), (ctlMsg 7), by decide +kernel, by decide +kernel⟩,
   ⟨(sx (fun x => {x with asked := [1]}) (sv 1 1 (vo base))), 1, (ctlMsg 6), by decide +kernel, by decide +kernel, by decide +kernel, by decide +kernel, by decide +kernel⟩,
   ⟨(sv (0 : Fin 2) 2 (off base)), (0 : Fin 2), (dataMsg 15 [BitVec.ofNat 32 (0x2E7B*65536 + 3*1024 + 2*16),5]), by decide +kernel, by decide +kernel, by decide +kernel, by decide +kernel, by decide +kernel, by decide +kernel, by decide +kernel, by decide +kernel, by decide +kernel⟩⟩
theorem witness_Maintenance_1 :
    (∃ (s : State) (r : SvcReq),
     (s.svc.req = some r) ∧
     (r.port < 2) ∧
     (r.cmd < 64) ∧
     let o := fun k => (r.objs.getD k 0#32).toNat
     (r.cmd = 1) ∧
     (o 0 = 0) ∧
     (r.objs ≠ [])) ∧
    (∃ (s : State) (r : SvcReq),
     (s.svc.req = some r) ∧
     (r.port < 2) ∧
     (r.cmd < 64) ∧
     let o := fun k => (r.objs.getD k 0#32).toNat
     (r.cmd = 1) ∧
     (o 0 = 1)) ∧
    (∃ (s : State) (r : SvcReq),
     (s.svc.req = some r) ∧
     (r.port < 2) ∧
     (r.cmd < 64) ∧
     let o := fun k => (r.objs.getD k 0#32).toNat
     (r.cmd = 1) ∧
     (2 < o 0 ∨ r.objs = [])) ∧
    (∃ (s : State) (r : SvcReq),
     (s.svc.req = some r) ∧
     (r.port < 2) ∧
     (r.cmd < 64) ∧
     (r.cmd = 2)) ∧
    (∃ (s : State) (r : SvcReq),
     (s.svc.req = some r) ∧
     (r.port < 2) ∧
     (r.cmd < 64) ∧
     (r.cmd = 3) ∧
     (s.pwr.main = true) ∧
     (s.flag nvB F.NV_STATUS_READY = false)) ∧
    (∃ (s : State) (r : SvcReq),
     (s.svc.req = some r) ∧
     (r.port < 2) ∧
     (r.cmd < 64) ∧
     let o := fun k => (r.objs.getD k 0#32).toNat
     (r.cmd = 3) ∧
     (s.pwr.main = false ∨ s.flag nvB F.NV_STATUS_READY = true) ∧
     (r.objs.length = 2) ∧
     (o 0 % 4 = 0) ∧
     (1 ≤ o 1) ∧
     (o 1 ≤ 6) ∧
     (o 0 + 4 * o 1 ≤ 0x10000) ∧
     (s.pwr.main = true)) :=
  ⟨⟨(sx (fun x => {x with req := some {(rq 1 [0]) with port := 0}}) (vo base)), {(rq 1 [0]) with port := 0}, by decide +kernel, by decide +kernel, by decide +kernel, by decide +kernel, by decide +kernel, by decide +kernel⟩,
   ⟨(sx (fun x => {x with req := some {(rq 1 [1]) with port := 0}}) (vo base)), {(rq 1 [1]) with port := 0}, by decide +kernel, by decide +kernel, by decide +kernel, by decide +kernel, by decide +kernel⟩,
   ⟨(sx (fun x => {x with req := some {(rq 1 [9]) with port := 0}}) (vo base)), {(rq 1 [9]) with port := 0}, by decide +kernel, by decide +kernel, by decide +kernel, by decide +kernel, by decide +kernel⟩,
   ⟨(sx (fun x => {x with req := some {(rq 2 []) with port := 0}}) base), {(rq 2 []) with port := 0}, by decide +kernel, by decide +kernel, by decide +kernel, by decide +kernel⟩,
   ⟨(sx (fun x => {x with req := some (rq 3 [16,3])}) (vo base)), (rq 3 [16,3]), by decide +kernel, by decide +kernel, by decide +kernel, by decide +kernel, by decide +kernel, by decide +kernel⟩,
   ⟨(sx (fun x => {x with req := some (rq 3 [16,3])}) (F' (vo base) nvB [(F.NV_STATUS_READY,1)])), (rq 3 [16,3]), by decide +kernel, by decide +kernel, by decide +kernel, by decide +kernel, by decide +kernel, by decide +kernel, by decide +kernel, by decide +kernel, by decide +kernel, by decide +kernel, by decide +kernel⟩⟩
theorem witness_Maintenance_2 :
    (∃ (s : State) (r : SvcReq),
     (s.svc.req = some r) ∧
     (r.port < 2) ∧
     (r.cmd < 64) ∧
     let o := fun k => (r.objs.getD k 0#32).toNat
     (r.cmd = 3) ∧
     (s.pwr.main = false ∨ s.flag nvB F.NV_STATUS_READY = true) ∧
     (r.objs.length = 2) ∧
     (o 0 % 4 = 0) ∧
     (1 ≤ o 1) ∧
     (o 1 ≤ 6) ∧
     (o 0 + 4 * o 1 ≤ 0x10000) ∧
     (s.pwr.main = false)) ∧
    (∃ (s : State) (r : SvcReq),
     (s.svc.req = some r) ∧
     (r.port < 2) ∧
     (r.cmd < 64) ∧
     let o := fun k => (r.objs.getD k 0#32).toNat
     (r.cmd = 3) ∧
     (s.pwr.main = false ∨ s.flag nvB F.NV_STATUS_READY = true) ∧
     (r.objs.length < 2 ∨ o 0 % 4 ≠ 0 ∨ o 1 < 1 ∨ 6 < o 1 ∨ 0x10000 < o 0 + 4 * o 1)) ∧
    (∃ (s : State) (r : SvcReq),
     (s.svc.req = some r) ∧
     (r.port < 2) ∧
     (r.cmd < 64) ∧
     let o := fun k => (r.objs.getD k 0#32).toNat
     (r.cmd = 4) ∧
     (r.objs.length < 3 ∨ 255 < o 0 ∨ 63 < o 1 ∨ o 2 < 1 ∨ 6 < o 2 ∨ 64 < o 1 + o 2)) ∧
    (∃ (s : State) (r : SvcReq),
     (s.svc.req = some r) ∧
     (r.port < 2) ∧
     (r.cmd < 64) ∧
     let o := fun k => (r.objs.getD k 0#32).toNat
     (r.cmd = 4) ∧
     (r.objs.length = 3) ∧
     (o 0 ≤ 255) ∧
     (1 ≤ o 2) ∧
     (o 2 ≤ 6) ∧
     (o 1 + o 2 ≤ 64) ∧
     (o 1 ≤ 63) ∧
     ((scanCards s).length ≤ o 0)) ∧
    (∃ (s : State) (r : SvcReq),
     (s.svc.req = some r) ∧
     (r.port < 2) ∧
     (r.cmd < 64) ∧
     (s.pwr.main = false) ∧
     (r.cmd = 0x10)) ∧
    (∃ (s : State) (r : SvcReq),
     (s.svc.req = some r) ∧
     (r.port < 2) ∧
     (r.cmd < 64) ∧
     (s.pwr.main = false) ∧
     (r.cmd = 0x13)) :=
  ⟨⟨(sx (fun x => {x with req := some (rq 3 [16,3])}) (off base)), (rq 3 [16,3]), by decide +kernel, by decide +kernel, by decide +kernel, by decide +kernel, by decide +kernel, by decide +kernel, by decide +kernel, by decide +kernel, by decide +kernel, by decide +kernel, by decide +kernel⟩,
   ⟨(sx (fun x => {x with req := some (rq 3 [0xfffc,2])}) (off base)), (rq 3 [0xfffc,2]), by decide +kernel, by decide +kernel, by decide +kernel, by decide +kernel, by decide +kernel, by decide +kernel⟩,
   ⟨(sx (fun x => {x with req := some {(rq 4 [0,63,2]) with port := 0}}) (vo base)), {(rq 4 [0,63,2]) with port := 0}, by decide +kernel, by decide +kernel, by decide +kernel, by decide +kernel, by decide +kernel⟩,
   ⟨(sx (fun x => {x with req := some {(rq 4 [0,63,1]) with port := 0}}) (vo base)), {(rq 4 [0,63,1]) with port := 0}, by decide +kernel, by decide +kernel, by decide +kernel, by decide +kernel, by decide +kernel, by decide +kernel, by decide +kernel, by decide +kernel, by decide +kernel, by decide +kernel, by decide +kernel⟩,
   ⟨(sx (fun x => {x with req := some {(rq 16 [0,63,1]) with port := 0}}) (off base)), {(rq 16 [0,63,1]) with port := 0}, by decide +kernel, by decide +kernel, by decide +kernel, by decide +kernel, by decide +kernel⟩,
   ⟨(sx (fun x => {x with req := some {(rq 19 [0,63,2]) with port := 0}}) (off base)), {(rq 19 [0,63,2]) with port := 0}, by decide +kernel, by decide +kernel, by decide +kernel, by decide +kernel, by decide +kernel⟩⟩
theorem witness_Maintenance_3 :
    (∃ (s : State) (r : SvcReq),
     (s.svc.req = some r) ∧
     (r.port < 2) ∧
     (r.cmd < 64) ∧
     let x := s.svc
     let o := fun k => (r.objs.getD k 0#32).toNat
     (s.pwr.main = true) ∧
     (x.upd = none) ∧
     (x.erasing = false) ∧
     (r.cmd = 0x10) ∧
     (r.objs.length < 2 ∨ 1 < o 0)) ∧
    (∃ (s : State) (r : SvcReq),
     (s.svc.req = some r) ∧
     (r.port < 2) ∧
     (r.cmd < 64) ∧
     let x := s.svc
     let o := fun k => (r.objs.getD k 0#32).toNat
     (s.pwr.main = true) ∧
     (x.upd = none) ∧
     (x.erasing = false) ∧
     (r.cmd = 0x10) ∧
     (2 ≤ r.objs.length) ∧
     (o 0 ≤ 1) ∧
     (o 1 = 0 ∨ 0x400000 < o 1 ∨ s.fld 0 F.SYS_IMG_STATUS_SRC_USED = o 0 + 1)) ∧
    (∃ (s : State) (r : SvcReq) (u : SvcUpd),
     (s.svc.req = some r) ∧
     (r.port < 2) ∧
     (r.cmd < 64) ∧
     let x := s.svc
     let o := fun k => (r.objs.getD k 0#32).toNat
     let slot := fun a : Nat => 0x400000 * u.slot ≤ a ∧ a < 0x400000 * (u.slot + 1)
     (s.pwr.main = true) ∧
     (x.upd = none) ∧
     (x.erasing = false) ∧
     (r.cmd = 0x10) ∧
     (2 ≤ r.objs.length) ∧
     (o 0 = u.slot) ∧
     (u.slot ≤ 1) ∧
     (1 ≤ o 1) ∧
     (o 1 ≤ 0x400000) ∧
     (s.fld 0 F.SYS_IMG_STATUS_SRC_USED ≠ u.slot + 1)) ∧
    (∃ (s : State) (r : SvcReq),
     (s.svc.req = some r) ∧
     (r.port < 2) ∧
     (r.cmd < 64) ∧
     let x := s.svc
     (s.pwr.main = true) ∧
     (x.upd = none) ∧
     (x.erasing = false) ∧
     (r.cmd = 0x11)) ∧
    (∃ (s : State) (r : SvcReq),
     (s.svc.req = some r) ∧
     (r.port < 2) ∧
     (r.cmd < 64) ∧
     let x := s.svc
     (s.pwr.main = true) ∧
     (x.upd = none) ∧
     (x.erasing = false) ∧
     (r.cmd = 0x12)) ∧
    (∃ (s : State) (r : SvcReq),
     (s.svc.req = some r) ∧
     (r.port < 2) ∧
     (r.cmd < 64) ∧
     let x := s.svc
     (s.pwr.main = true) ∧
     (x.upd = none) ∧
     (x.erasing = false) ∧
     (r.cmd = 0x13)) :=
  ⟨⟨(sx (fun x => {x with req := some {(rq 16 [2,63]) with port := 0}}) (vo base)), {(rq 16 [2,63]) with port := 0}, by decide +kernel, by decide +kernel, by decide +kernel, by decide +kernel, by decide +kernel, by decide +kernel, by decide +kernel, by decide +kernel⟩,
   ⟨(sx (fun x => {x with req := some {(rq 16 [1,0]) with port := 0}}) (vo base)), {(rq 16 [1,0]) with port := 0}, by decide +kernel, by decide +kernel, by decide +kernel, by decide +kernel, by decide +kernel, by decide +kernel, by decide +kernel, by decide +kernel, by decide +kernel, by decide +kernel⟩,
   ⟨(sx (fun x => {x with req := some {(rq 16 [1,0x400000]) with port := 0}}) (vo base)), {(rq 16 [1,0x400000]) with port := 0}, u0, by decide +kernel, by decide +kernel, by decide +kernel, by decide +kernel, by decide +kernel, by decide +kernel, by decide +kernel, by decide +kernel, by decide +kernel, by decide +kernel, by decide +kernel, by decide +kernel, by decide +kernel⟩,
   ⟨(sx (fun x => {x with req := some {(rq 17 [1,0x400000]) with port := 0}}) (vo base)), {(rq 17 [1,0x400000]) with port := 0}, by decide +kernel, by decide +kernel, by decide +kernel, by decide +kernel, by decide +kernel, by decide +kernel, by decide +kernel⟩,
   ⟨(sx (fun x => {x with req := some {(rq 18 [1,0x400000]) with port := 0}}) (vo base)), {(rq 18 [1,0x400000]) with port := 0}, by decide +kernel, by decide +kernel, by decide +kernel, by decide +kernel, by decide +kernel, by decide +kernel, by decide +kernel⟩,
   ⟨(sx (fun x => {x with req := some {(rq 19 [0,63,2]) with port := 0}}) base), {(rq 19 [0,63,2]) with port := 0}, by decide +kernel, by decide +kernel, by decide +kernel, by decide +kernel, by decide +kernel, by decide +kernel, by decide +kernel⟩⟩
theorem witness_Maintenance_4 :
    (∃ (s : State) (r : SvcReq) (u : SvcUpd),
     (s.svc.req = some r) ∧
     (r.port < 2) ∧
     (r.cmd < 64) ∧
     let x := s.svc
     let o := fun k => (r.objs.getD k 0#32).toNat
     (s.pwr.main = true) ∧
     (x.upd = some u) ∧
     (x.erasing = false) ∧
     (r.cmd = 0x11) ∧
     (2 ≤ r.objs.length) ∧
     (u.last = some (o 0))) ∧
    (∃ (s : State) (r : SvcReq) (u : SvcUpd),
     (s.svc.req = some r) ∧
     (r.port < 2) ∧
     (r.cmd < 64) ∧
     let x := s.svc
     let o := fun k => (r.objs.getD k 0#32).toNat
     (s.pwr.main = true) ∧
     (x.upd = some u) ∧
     (x.erasing = false) ∧
     (r.cmd = 0x11) ∧
     (2 ≤ r.objs.length) ∧
     (u.last ≠ some (o 0)) ∧
     (o 0 ≠ u.next)) ∧
    (∃ (s : State) (r : SvcReq) (u : SvcUpd),
     (s.svc.req = some r) ∧
     (r.port < 2) ∧
     (r.cmd < 64) ∧
     let x := s.svc
     (s.pwr.main = true) ∧
     (x.upd = some u) ∧
     (x.erasing = false) ∧
     (r.cmd = 0x12) ∧
     (r.objs = [])) ∧
    (∃ (s : State) (r : SvcReq) (u : SvcUpd),
     (s.svc.req = some r) ∧
     (r.port < 2) ∧
     (r.cmd < 64) ∧
     let x := s.svc
     let slot := fun a : Nat => 0x400000 * u.slot ≤ a ∧ a < 0x400000 * (u.slot + 1)
     (s.pwr.main = true) ∧
     (x.upd = some u) ∧
     (x.erasing = false) ∧
     (r.cmd = 0x12) ∧
     (r.objs ≠ []) ∧
     (u.len ≤ u.next) ∧
     (crc32 (updBytes s u) = r.objs.getD 0 0#32) ∧
     (imgCheck s (u.slot + 1) = 0)) ∧
    (∃ (s : State) (r : SvcReq) (u : SvcUpd),
     (s.svc.req = some r) ∧
     (r.port < 2) ∧
     (r.cmd < 64) ∧
     let x := s.svc
     let slot := fun a : Nat => 0x400000 * u.slot ≤ a ∧ a < 0x400000 * (u.slot + 1)
     (s.pwr.main = true) ∧
     (x.upd = some u) ∧
     (x.erasing = false) ∧
     (r.cmd = 0x12) ∧
     (r.objs ≠ []) ∧
     (u.len ≤ u.next) ∧
     (crc32 (updBytes s u) = r.objs.getD 0 0#32) ∧
     (imgCheck s (u.slot + 1) ≠ 0)) ∧
    (∃ (s : State) (r : SvcReq) (u : SvcUpd),
     (s.svc.req = some r) ∧
     (r.port < 2) ∧
     (r.cmd < 64) ∧
     let x := s.svc
     (s.pwr.main = true) ∧
     (x.upd = some u) ∧
     (x.erasing = false) ∧
     (r.cmd = 0x12) ∧
     (r.objs ≠ []) ∧
     (u.next < u.len ∨ crc32 (updBytes s u) ≠ r.objs.getD 0 0#32)) :=
  ⟨⟨(sx (fun x => {x with req := some {(rq 17 [4,0x400000]) with port := 0}}) (up u0 (vo base))), {(rq 17 [4,0x400000]) with port := 0}, u0, by decide +kernel, by decide +kernel, by decide +kernel, by decide +kernel, by decide +kernel, by decide +kernel, by decide +kernel, by decide +kernel, by decide +kernel⟩,
   ⟨(sx (fun x => {x with req := some {(rq 17 [12,0x400000]) with port := 0}}) (up u0 (vo base))), {(rq 17 [12,0x400000]) with port := 0}, u0, by decide +kernel, by decide +kernel, by decide +kernel, by decide +kernel, by decide +kernel, by decide +kernel, by decide +kernel, by decide +kernel, by decide +kernel, by decide +kernel⟩,
   ⟨(sx (fun x => {x with req := some {(rq 18 []) with port := 0}}) (up u0 (vo base))), {(rq 18 []) with port := 0}, u0, by decide +kernel, by decide +kernel, by decide +kernel, by decide +kernel, by decide +kernel, by decide +kernel, by decide +kernel, by decide +kernel⟩,
   ⟨updA, (rq 18 [crc32 (updBytes (up uA (vo (Images.reloadA))) uA)]), uA, by decide +kernel, by decide +kernel, by decide +kernel, by decide +kernel, by decide +kernel, by decide +kernel, by decide +kernel, by decide +kernel, by decide +kernel, by decide +kernel, updA_good⟩,
   ⟨(sx (fun x => {x with req := some (rq 18 [crc32 (updBytes (up ⟨1,8,8,none,0⟩ base) ⟨1,8,8,none,0⟩)])}) (up ⟨1,8,8,none,0⟩ (vo base))), (rq 18 [crc32 (updBytes (up ⟨1,8,8,none,0⟩ base) ⟨1,8,8,none,0⟩)]), ⟨1,8,8,none,0⟩, by decide +kernel, by decide +kernel, by decide +kernel, by decide +kernel, by decide +kernel, by decide +kernel, by decide +kernel, by decide +kernel, by decide +kernel, by decide +kernel, by decide +kernel⟩,
   ⟨(sx (fun x => {x with req := some {(rq 18 [8,0x400000]) with port := 0}}) (up u0 (vo base))), {(rq 18 [8,0x400000]) with port := 0}, u0, by decide +kernel, by decide +kernel, by decide +kernel, by decide +kernel, by decide +kernel, by decide +kernel, by decide +kernel, by decide +kernel, by decide +kernel⟩⟩
theorem witness_Maintenance_5 :
    (∃ (s : State) (r : SvcReq) (u : SvcUpd),
     (s.svc.req = some r) ∧
     (r.port < 2) ∧
     (r.cmd < 64) ∧
     let x := s.svc
     (s.pwr.main = true) ∧
     (x.upd = some u) ∧
     (x.erasing = false) ∧
     (r.cmd = 0x13)) ∧
    (∃ (s : State) (r : SvcReq),
     (s.svc.req = some r) ∧
     (r.port < 2) ∧
     (r.cmd < 64) ∧
     let x := s.svc
     (s.pwr.main = true) ∧
     (x.erasing = true) ∧
     (r.cmd = 0x11)) :=
  ⟨⟨(sx (fun x => {x with req := some {(rq 19 [12,0x400000]) with port := 0}}) (up u0 (vo base))), {(rq 19 [12,0x400000]) with port := 0}, u0, by decide +kernel, by decide +kernel, by decide +kernel, by decide +kernel, by decide +kernel, by decide +kernel, by decide +kernel⟩,
   ⟨(sx (fun x => {x with req := some {(rq 17 []) with port := 0}, erasing := true}) (vo base)), {(rq 17 []) with port := 0}, by decide +kernel, by decide +kernel, by decide +kernel, by decide +kernel, by decide +kernel, by decide +kernel⟩⟩
end Service


/-! The general statements. -/

/-- Engine 1 runs its context 2 in the nanosecond that follows, with a word at its PC of 9. -/
def fetching (w : Word) : State :=
  let s := (Engine.en 1 2 []).setMemWord (0x1000000 + 0x8000 + 36) w
  { s.setCtx 1 2 { s.ctx 1 2 with pc := 9 } with lineNs := 96, time := { s.time with counting := true } }

theorem witness_StepRunsFront :
    (∃ s : State, s.pending = [] ∧ (s.time.counting = false ∨ engRuns s 0 = none)) ∧
    (∃ (s : State) (c : Nat) (i : Instr), s.pending = [] ∧ s.time.counting = true ∧
      let u := { s with lineNs := s.lineNs + (if s.time.counting then 1 else 0) }
      let e : Fin 96 := ⟨u.lineNs % 96, Nat.mod_lt _ (by decide)⟩
      engRuns s e = some c ∧ achalDecode e (s.memWord (0x1000000 + 0x8000 * e.val + 4 * ((s.ctx e c).pc % 4096))) = some i) ∧
    (∃ (s : State) (c : Nat), s.pending = [] ∧ s.time.counting = true ∧
      let u := { s with lineNs := s.lineNs + (if s.time.counting then 1 else 0) }
      let e : Fin 96 := ⟨u.lineNs % 96, Nat.mod_lt _ (by decide)⟩
      engRuns s e = some c ∧ achalDecode e (s.memWord (0x1000000 + 0x8000 * e.val + 4 * ((s.ctx e c).pc % 4096))) = none) :=
  ⟨⟨State.reset, rfl, Or.inl rfl⟩,
   ⟨fetching 0xA80053A0, 2, .call 1 5#14 0x3A0#12, by decide +kernel, by decide +kernel, by decide +kernel, by decide +kernel⟩,
   ⟨fetching 0, 2, by decide +kernel, by decide +kernel, by decide +kernel, by decide +kernel⟩⟩
theorem witness_QueueKept : ∃ (c : Instr) (s t : State), exec c s = .next t := ⟨.nop 0, base, _, rfl⟩
theorem witness_StepKeepsSound : ∃ s t : State, Claims.Sound s ∧ step s = .next t :=
  ⟨base, _, ⟨⟨by decide +kernel, by decide +kernel⟩, fun _ _ => ⟨Nat.zero_lt_succ _, rfl⟩⟩, rfl⟩
theorem witness_ResetState : ∃ a, regRow a = none ∧ (a < 0x10400 ∨ 0x10800 ≤ a) := ⟨0x10C00, by decide +kernel⟩
theorem witness_AchalDecodeEncode : ∃ (i : Instr) (e : Fin 96) (w : Word), i.wellFormed = true ∧ achalEncode i = some (e, w) :=
  ⟨.call 18 5#14 0x3A0#12, 18, 0xA80053A0#32, by decide, by decide⟩
theorem witness_AchalEncodeDecode : ∃ (i : Instr) (e : Fin 96) (w : Word), achalDecode e w = some i :=
  ⟨.call 18 5#14 0x3A0#12, 18, 0xA80053A0#32, by decide⟩

end Slice0
end

section
/-! PROOFS. Achal instructions that write one register (R316, R317). -/
namespace Sys2Proof.Machine

/-! Words: the operations of R316 and R317 as the statements spell them. -/

/-- The shift count rb[4:0]. -/
theorem toNat_and_31 (b : Word) : (b &&& 31#32).toNat = b.toNat % 32 := by
  rw [BitVec.toNat_and]
  exact Nat.and_two_pow_sub_one_eq_mod _ 5

theorem ofNat_toNat_add_toNat (a b : Word) : BitVec.ofNat 32 (a.toNat + b.toNat) = a + b := by
  rw [BitVec.ofNat_add, BitVec.ofNat_toNat, BitVec.ofNat_toNat, BitVec.setWidth_eq, BitVec.setWidth_eq]

theorem ofInt_toInt_add_toInt {w : Nat} (a : Word) (v : BitVec w) : BitVec.ofInt 32 (a.toInt + v.toInt) = a + sx v := by
  rw [BitVec.ofInt_add, BitVec.ofInt_toInt]
  rfl

theorem ofInt_toInt_sub_toInt (a b : Word) : BitVec.ofInt 32 (a.toInt - b.toInt) = a - b := by
  rw [sub_eq_add_neg, BitVec.ofInt_add, BitVec.ofInt_neg, BitVec.ofInt_toInt, BitVec.ofInt_toInt, BitVec.sub_eq_add_neg]

theorem rorWord_eq_or (a : Word) (n : Nat) (h : n < 32) : rorWord a n = (a >>> n ||| a <<< (32 - n)) := by
  rw [rorWord, BitVec.rotateRight_def, Nat.mod_eq_of_lt h]

theorem boolWord_slt (a b : Word) : boolWord (a.slt b) = if a.toInt < b.toInt then 1#32 else 0#32 := by
  simp only [boolWord, BitVec.slt_eq_decide, decide_eq_true_eq]

theorem boolWord_ult (a b : Word) : boolWord (a.ult b) = if a.toNat < b.toNat then 1#32 else 0#32 := by
  simp only [boolWord, BitVec.ult_eq_decide, decide_eq_true_eq]

theorem ite_slt_eq_min (a b : Word) : (if a.slt b then a else b) = BitVec.ofInt 32 (min a.toInt b.toInt) := by
  simp only [BitVec.slt_iff_toInt_lt]
  split <;> rename_i h
  · rw [min_eq_left_of_lt h, BitVec.ofInt_toInt]
  · rw [min_eq_right (not_lt.mp h), BitVec.ofInt_toInt]

theorem ite_slt_eq_max (a b : Word) : (if a.slt b then b else a) = BitVec.ofInt 32 (max a.toInt b.toInt) := by
  simp only [BitVec.slt_iff_toInt_lt]
  split <;> rename_i h
  · rw [max_eq_right_of_lt h, BitVec.ofInt_toInt]
  · rw [max_eq_left (not_lt.mp h), BitVec.ofInt_toInt]

theorem ite_ult_eq_min (a b : Word) : (if a.ult b then a else b) = BitVec.ofNat 32 (min a.toNat b.toNat) := by
  simp only [BitVec.ult_iff_lt, BitVec.lt_def]
  split <;> rename_i h
  · rw [min_eq_left_of_lt h, BitVec.ofNat_toNat, BitVec.setWidth_eq]
  · rw [min_eq_right (not_lt.mp h), BitVec.ofNat_toNat, BitVec.setWidth_eq]

theorem ite_ult_eq_max (a b : Word) : (if a.ult b then b else a) = BitVec.ofNat 32 (max a.toNat b.toNat) := by
  simp only [BitVec.ult_iff_lt, BitVec.lt_def]
  split <;> rename_i h
  · rw [max_eq_right_of_lt h, BitVec.ofNat_toNat, BitVec.setWidth_eq]
  · rw [max_eq_left (not_lt.mp h), BitVec.ofNat_toNat, BitVec.setWidth_eq]

/-- CLZ counts the zero bits above the leading bit: a non-zero word lies in [2^(31 − k), 2^(32 − k)). -/
theorem clzWord_eq (a : Word) (k : Nat) (hk : k ≤ 32) (hlt : a.toNat < 2 ^ (32 - k))
    (hle : a = 0#32 ∨ 2 ^ (32 - k) ≤ 2 * a.toNat) (hz : a = 0#32 → k = 32) : clzWord a = BitVec.ofNat 32 k := by
  by_cases ha : a = 0#32
  · rw [clzWord, if_pos ha, hz ha]
  · have hpos : a.toNat ≠ 0 := fun h => ha (BitVec.eq_of_toNat_eq h)
    have hk31 : k ≤ 31 := by
      by_contra hc
      have : k = 32 := by omega
      subst this
      omega
    have hexp : 32 - k = 31 - k + 1 := by omega
    rw [hexp] at hlt hle
    have hlow : 2 ^ (31 - k) ≤ a.toNat := by
      have := hle.resolve_left ha
      rw [pow_succ] at this
      omega
    have hlog : Nat.log2 a.toNat = 31 - k := (Nat.log2_eq_iff hpos).mpr ⟨hlow, hlt⟩
    rw [clzWord, if_neg ha, hlog, Nat.sub_sub_self hk31]

theorem zx_shiftLeft_16 (imm : BitVec 16) : zx imm <<< 16 = BitVec.ofNat 32 (imm.toNat * 65536) := by
  apply BitVec.eq_of_toNat_eq
  have := imm.isLt
  simp only [zx, BitVec.toNat_shiftLeft, BitVec.zeroExtend_eq_setWidth, BitVec.toNat_setWidth, BitVec.toNat_ofNat,
    Nat.shiftLeft_eq]
  omega

/-- Two neighbouring bits as a number. -/
theorem bits_pair (w k : Nat) : bits w (k + 1) k = 2 * (w.testBit (k + 1)).toNat + (w.testBit k).toNat := by
  have hdiv : w / 2 ^ (k + 1) = w / 2 ^ k / 2 := by rw [pow_succ, Nat.div_div_eq_div_mul]
  rw [bits, Nat.toNat_testBit, Nat.toNat_testBit, hdiv, Nat.shiftRight_eq_div_pow, Nat.add_sub_cancel_left]
  omega

/-- PERM builds the word whose bytes are the ones that sel names. -/
theorem permWord_eq (a r : Word) (sel : BitVec 8)
    (h : ∀ i, i < 4 → byteOf r i = byteOf a (2 * (sel.getLsbD (2 * i + 1)).toNat + (sel.getLsbD (2 * i)).toNat)) :
    permWord a sel = r := by
  have hbyte : ∀ i, i < 4 → byteOf a (bits sel.toNat (2 * i + 1) (2 * i)) = byteOf r i := fun i hi => by
    rw [bits_pair, h i hi]
    rfl
  simp only [permWord]
  rw [hbyte 0 (by omega), hbyte 1 (by omega), hbyte 2 (by omega), hbyte 3 (by omega), leWord_byteOf]

theorem fieldU_eq_extractLsb' (a : Word) (pos w : Nat) : fieldU a pos w = (a.extractLsb' pos w).setWidth 32 := by
  apply BitVec.eq_of_toNat_eq
  rw [fieldU, BitVec.toNat_setWidth, BitVec.extractLsb'_toNat, BitVec.toNat_ofNat, Nat.shiftRight_eq_div_pow]

theorem sint_eq_toInt_extractLsb' (a : Word) (pos n : Nat) :
    sint (n + 1) (a.toNat / 2 ^ pos) = (a.extractLsb' pos (n + 1)).toInt := by
  rw [BitVec.toInt_eq_toNat_cond, BitVec.extractLsb'_toNat, Nat.shiftRight_eq_div_pow, sint, Nat.add_sub_cancel]
  have : 2 ^ (n + 1) = 2 * 2 ^ n := by rw [pow_succ, mul_comm]
  refine if_congr ?_ rfl rfl
  omega

theorem fieldS_eq_extractLsb' (a : Word) (pos n : Nat) :
    fieldS a pos (n + 1) = (a.extractLsb' pos (n + 1)).signExtend 32 := by
  rw [fieldS, sint_eq_toInt_extractLsb']
  rfl

/-- BFI builds the word whose bits are those of the field's source inside the field and of d outside it. -/
theorem fieldIns_eq (d a r : Word) (pos n : Nat)
    (h : ∀ k, k < 32 → r.getLsbD k = if pos ≤ k ∧ k ≤ pos + n then a.getLsbD (k - pos) else d.getLsbD k) :
    fieldIns d a pos (n + 1) = r := by
  apply BitVec.eq_of_getLsbD_eq
  intro k hk
  rw [h k hk, fieldIns, BitVec.getLsbD_ofNat, decide_eq_true hk, Bool.true_and, show pos + (n + 1) - 1 = pos + n by omega,
    setBits_testBit _ _ _ _ _ (by omega)]
  rfl

/-! Instructions that write one register. -/

/-- An instruction that writes one register with a value of the register file. -/
theorem sets_setReg {s : State} {e : Fin 96} {c : Nat} {i : Instr} (h : Issues s e c) (rd : BitVec 5)
    (g : (BitVec 5 → Word) → Word)
    (hi : exec i s = .next (s.engDo (fun s => engReg s e.val (fun x => x.setReg rd (g x.reg)))))
    {v : Word} (hv : g (s.ctx e c).reg = v) : Sets s e c i rd v 0 :=
  ⟨_, hi, hv ▸ State.engDo_setReg h rd (fun x => g x.reg) (fun _ _ => rfl)⟩

/-- An instruction that writes one register with a value of the register file and raises flags. -/
theorem sets_setF {s : State} {e : Fin 96} {c : Nat} {i : Instr} (h : Issues s e c) (rd : BitVec 5)
    (g : (BitVec 5 → Word) → Word × Nat)
    (hi : exec i s = .next (s.engDo (fun s => engReg s e.val (fun x => x.setF rd (g x.reg)))))
    {v : Word} {fl : Nat} (hv : g (s.ctx e c).reg = (v, fl)) : Sets s e c i rd v fl := by
  have := State.engDo_setF h rd (fun x => g x.reg) (fun _ _ => rfl)
  rw [hv] at this
  exact ⟨_, hi, this⟩

/-- A bit field that lies in the word is no reserved encoding (R313). -/
theorem engField_eq_engReg {pos wm1 : BitVec 5} (hp : pos.toNat + wm1.toNat < 32) (s : State) (e w : Nat)
    (f : EngCtx → EngCtx) : engField s e w pos wm1 f = engReg s e f := if_pos hp

/-- An instruction on a bit field of the word that writes one register with a value of the register file. -/
theorem sets_field {s : State} {e : Fin 96} {c : Nat} {i : Instr} (h : Issues s e c) (rd : BitVec 5) {pos wm1 : BitVec 5}
    (hp : pos.toNat + wm1.toNat < 32) {w : Nat} (g : (BitVec 5 → Word) → Word)
    (hi : exec i s = .next (s.engDo (fun s => engField s e.val w pos wm1 (fun x => x.setReg rd (g x.reg)))))
    {v : Word} (hv : g (s.ctx e c).reg = v) : Sets s e c i rd v 0 :=
  sets_setReg h rd g (by simpa only [engField_eq_engReg hp] using hi) hv

end Sys2Proof.Machine
end

section
open Sys2Proof Sys2Proof.Machine

/-- Settles O1: each instruction of the group writes one value of the register file, which the lemma on its operation
spells as R316 does. -/
theorem integerAluResults : Obligations.IntegerAluResults := by
  intro s e c rd ra rb h a b n
  have hn : n = b.toNat % 32 := toNat_and_31 b
  have hn32 : b.toNat % 32 < 32 := Nat.mod_lt _ (by decide)
  refine ⟨sets_setReg h rd (fun r => r ra + r rb) rfl (ofNat_toNat_add_toNat a b).symm,
    sets_setReg h rd (fun r => r ra - r rb) rfl (ofInt_toInt_sub_toInt a b).symm,
    sets_setReg h rd (fun r => r ra &&& r rb) rfl rfl,
    sets_setReg h rd (fun r => r ra ||| r rb) rfl rfl,
    sets_setReg h rd (fun r => r ra ^^^ r rb) rfl rfl,
    sets_setReg h rd (fun r => r ra &&& ~~~(r rb)) rfl rfl,
    sets_setReg h rd (fun r => r ra <<< ((r rb).toNat % 32)) rfl (by rw [hn]),
    sets_setReg h rd (fun r => r ra >>> ((r rb).toNat % 32)) rfl (by rw [hn]),
    sets_setReg h rd (fun r => (r ra).sshiftRight ((r rb).toNat % 32)) rfl (by rw [hn]),
    sets_setReg h rd (fun r => rorWord (r ra) ((r rb).toNat % 32)) rfl (by rw [hn]; exact rorWord_eq_or a _ hn32),
    sets_setReg h rd (fun r => boolWord ((r ra).slt (r rb))) rfl (boolWord_slt a b),
    sets_setReg h rd (fun r => boolWord ((r ra).ult (r rb))) rfl (boolWord_ult a b),
    sets_setReg h rd (fun r => if (r ra).slt (r rb) then r ra else r rb) rfl (ite_slt_eq_min a b),
    sets_setReg h rd (fun r => if (r ra).slt (r rb) then r rb else r ra) rfl (ite_slt_eq_max a b),
    sets_setReg h rd (fun r => if (r ra).ult (r rb) then r ra else r rb) rfl (ite_ult_eq_min a b),
    sets_setReg h rd (fun r => if (r ra).ult (r rb) then r rb else r ra) rfl (ite_ult_eq_max a b), ?_⟩
  intro k hk hlt hle hz
  exact sets_setReg h rd (fun r => clzWord (r ra)) rfl (clzWord_eq a k hk hlt hle hz)

/-- Settles O2: as O1, by the lemmas on the operations of R317; a field in the word is no reserved encoding. -/
theorem immediateResults : Obligations.ImmediateResults := by
  intro s e c rd ra sh imm h a
  refine ⟨sets_setReg h rd (fun r => r ra + sx imm) rfl (ofInt_toInt_add_toInt a imm).symm,
    sets_setReg h rd (fun r => r ra &&& zx imm) rfl rfl,
    sets_setReg h rd (fun r => r ra ||| zx imm) rfl rfl,
    sets_setReg h rd (fun r => r ra ^^^ zx imm) rfl rfl,
    sets_setReg h rd (fun _ => zx imm <<< 16) rfl (zx_shiftLeft_16 imm),
    sets_setReg h rd (fun r => r ra <<< sh.toNat) rfl rfl,
    sets_setReg h rd (fun r => r ra >>> sh.toNat) rfl rfl,
    sets_setReg h rd (fun r => (r ra).sshiftRight sh.toNat) rfl rfl,
    sets_setReg h rd (fun r => rorWord (r ra) sh.toNat) rfl (rorWord_eq_or a _ sh.isLt),
    sets_setReg h rd (fun r => boolWord ((r ra).slt (sx imm))) rfl ?slti,
    sets_setReg h rd (fun r => boolWord ((r ra).ult (sx imm))) rfl (boolWord_ult a _),
    fun sel r hr => sets_setReg h rd (fun g => permWord (g ra) sel) rfl (permWord_eq a r sel hr),
    fun pos wm1 hp => ⟨
      sets_field h rd hp (fun r => fieldU (r ra) pos.toNat (wm1.toNat + 1)) rfl (fieldU_eq_extractLsb' a _ _),
      sets_field h rd hp (fun r => fieldS (r ra) pos.toNat (wm1.toNat + 1)) rfl (fieldS_eq_extractLsb' a _ _),
      fun r hr => sets_field h rd hp (fun g => fieldIns (g rd) (g ra) pos.toNat (wm1.toNat + 1)) rfl
        (fieldIns_eq _ a r _ _ hr)⟩⟩
  case slti =>
    rw [boolWord_slt, sx, BitVec.toInt_signExtend_of_le (by decide)]
end

section
/-! PROOFS. Achal compare-and-branch instructions (R320). -/
namespace Sys2Proof.Machine

/-! Instructions that branch. -/

/-- A branch decided by the register file. -/
theorem goes_branch {s : State} {e : Fin 96} {c : Nat} {i : Instr} (h : Issues s e c) {off : BitVec 13} {w : Nat}
    (cond : (BitVec 5 → Word) → Option (Bool × Nat))
    (hi : exec i s = .next (s.engDo (fun s => engBranch s e.val w off (fun x => cond x.reg))))
    {t : Bool} {fl : Nat} (ht : cond (s.ctx e c).reg = some (t, fl)) :
    Goes s e c i (if t then (((s.ctx e c).pc + off.toInt) % 4096).toNat else nextPc s e c) fl :=
  ⟨_, hi, State.engDo_branch h w off (fun x => cond x.reg) (fun _ _ => rfl) t fl ht⟩

/-- BRB is a branch whose condition always has an answer. -/
theorem engReg_ite_branch (s : State) (e w : Nat) (off : BitVec 13) (p : EngCtx → Bool) (sense : Bool) :
    engReg s e (fun x => if p x = sense then x.branch off else x) = engBranch s e w off (fun x => some (p x == sense, 0)) := by
  simp only [engReg, engBranch, EngCtx.flags_zero, beq_iff_eq]

/-- A bit of the bit space does not depend on the contexts of any engine. -/
theorem bitRead_setCtx (s : State) (e c b : Nat) (x : EngCtx) : bitRead (s.setCtx e c x) e b = bitRead s e b := by
  have hbits : ((s.setCtx e c x).engine e).bits = (s.engine e).bits := by rw [State.engine_setCtx_same]
  have hsw : ((s.setCtx e c x).engine e).sw = (s.engine e).sw := by rw [State.engine_setCtx_same]
  have hmbx : ∀ k, mbxFifo (s.setCtx e c x) e k = mbxFifo s e k := fun k => by
    simp only [mbxFifo, State.engine_setCtx_same]
  have htrig : trigBit (s.setCtx e c x) e b = trigBit s e b := by
    simp only [trigBit, hsw, hmbx]
    rfl
  simp only [bitRead, hbits, htrig]
  rfl

/-- BB on a bit that may be read is a branch whose condition is that bit. -/
theorem engBb_eq_engBranch {s : State} {e : Fin 96} {c : Nat} (h : Issues s e c) (w : Nat) {n : BitVec 12} {v : Bool}
    (hv : bitRead s e n.toNat = some v) (sense : Bool) (off : BitVec 13) :
    engBb s e n sense off = engBranch s e w off (fun _ => some (v == sense, 0)) := by
  simp only [engBb, engBranch, engIssue_eq h.runs, bitRead_setCtx, hv, EngCtx.flags_zero, beq_iff_eq]

/-- What an instruction does depends on its action at the state that it meets. -/
theorem engDo_congr {s : State} {act act' : State → State} (h : act s = act' s) : s.engDo act = s.engDo act' := by
  simp only [State.engDo, h]

/-- The conditions of BR and BRI by their codes (R320). -/
theorem brCond_eq (a b : Word) : ∀ p ∈ [(0#3, a == b), (1#3, a != b), (2#3, decide (a.toInt < b.toInt)),
    (3#3, decide (b.toInt ≤ a.toInt)), (4#3, decide (a.toNat < b.toNat)), (5#3, decide (b.toNat ≤ a.toNat))],
    brCond p.1.toNat a b = some p.2 := by
  have hsge : (!a.slt b) = decide (b.toInt ≤ a.toInt) := by rw [BitVec.slt_eq_decide, ← decide_not, decide_eq_decide, not_lt]
  have huge : (!a.ult b) = decide (b.toNat ≤ a.toNat) := by rw [BitVec.ult_eq_decide, ← decide_not, decide_eq_decide, not_lt]
  simp only [List.forall_mem_cons, List.not_mem_nil, false_imp_iff, implies_true, and_true]
  exact ⟨rfl, rfl, rfl, congrArg some hsge, rfl, congrArg some huge⟩

/-- The order that the comparisons of R320 see: the magnitude bits under their sign, the zeros equal. -/
def fSigned (w : Word) : Int := if w.getLsbD 31 then -((w.toNat % 2 ^ 31 : Nat) : Int) else ((w.toNat % 2 ^ 31 : Nat) : Int)

theorem fIsZero_iff (a : Word) : fIsZero a = true ↔ fSigned a = 0 := by
  simp only [fIsZero, fMag, fSigned, beq_iff_eq]
  split <;> omega

/-- The model's order key is `fSigned`, but for a step that sets the negative values below 0 apart from +0. -/
theorem fKey_cases (a : Word) : (fKey a = fSigned a ∧ 0 ≤ fSigned a) ∨ (fKey a = fSigned a - 1 ∧ fSigned a ≤ 0) := by
  have hsign : fSign a = a.getLsbD 31 := rfl
  rw [fKey, fSigned, hsign, fMag]
  cases a.getLsbD 31
  · exact .inl ⟨rfl, Int.natCast_nonneg _⟩
  · exact .inr ⟨rfl, Int.neg_nonpos_of_nonneg (Int.natCast_nonneg _)⟩

theorem fEq_eq (a b : Word) : fEq a b = (!(fIsNaN a || fIsNaN b) && fSigned a == fSigned b) := by
  have hval : (fIsZero a && fIsZero b || decide (fKey a = fKey b)) = (fSigned a == fSigned b) := by
    have ha := fKey_cases a
    have hb := fKey_cases b
    rw [Bool.eq_iff_iff, Bool.or_eq_true, Bool.and_eq_true, fIsZero_iff, fIsZero_iff, decide_eq_true_eq, beq_iff_eq]
    omega
  rw [fEq, hval, Bool.not_or]

theorem fLt_eq (a b : Word) : fLt a b = (!(fIsNaN a || fIsNaN b) && decide (fSigned a < fSigned b)) := by
  have hval : (!(fIsZero a && fIsZero b) && decide (fKey a < fKey b)) = decide (fSigned a < fSigned b) := by
    have ha := fKey_cases a
    have hb := fKey_cases b
    rw [Bool.eq_iff_iff, Bool.and_eq_true, Bool.not_eq_true', ← Bool.not_eq_true, Bool.and_eq_true, fIsZero_iff, fIsZero_iff,
      decide_eq_true_eq, decide_eq_true_eq]
    omega
  rw [fLt, Bool.and_assoc, hval, Bool.not_or]

theorem fLe_eq (a b : Word) : fLe a b = (!(fIsNaN a || fIsNaN b) && decide (fSigned a ≤ fSigned b)) := by
  have hval : (decide (fSigned a < fSigned b) || fSigned a == fSigned b) = decide (fSigned a ≤ fSigned b) := by
    rw [Bool.eq_iff_iff, Bool.or_eq_true, beq_iff_eq, decide_eq_true_eq, decide_eq_true_eq, le_iff_lt_or_eq]
  rw [fLe, fLt_eq, fEq_eq, ← Bool.and_or_distrib_left, hval]

end Sys2Proof.Machine
end

section
open Sys2Proof Sys2Proof.Machine

/-- Settles O4: every instruction of the group is a branch by a condition; the conditions are those of R320. -/
theorem branchResults : Obligations.BranchResults := by
  intro s e c ra rb imm off h a b i dest conds
  refine ⟨fun p hp => ?br, fun p hp => ?bri, ?fbr, fun k sense => ?brb, fun n sense v hv => ?bb⟩
  case br =>
    exact goes_branch h (fun r => (brCond p.1.toNat (r ra) (r rb)).map (fun t => (t, 0))) rfl
      (congrArg (Option.map _) (brCond_eq a b p hp))
  case bri =>
    exact goes_branch h (fun r => (brCond p.1.toNat (r ra) (sx imm)).map (fun t => (t, 0))) rfl
      (congrArg (Option.map _) (brCond_eq a i p hp))
  case fbr =>
    intro val isNaN nan invalid sn
    refine ⟨goes_branch h (fun r => fbrCond 0 (r ra) (r rb)) rfl ?_, goes_branch h (fun r => fbrCond 1 (r ra) (r rb)) rfl ?_,
      goes_branch h (fun r => fbrCond 2 (r ra) (r rb)) rfl ?_, goes_branch h (fun r => fbrCond 3 (r ra) (r rb)) rfl ?_,
      goes_branch h (fun r => fbrCond 4 (r ra) (r rb)) rfl rfl⟩
    · exact congrArg (fun t => some (t, sn)) (fEq_eq a b)
    · have : (!fEq a b) = (nan || val a != val b) := by
        rw [fEq_eq, Bool.not_and, Bool.not_not]
        rfl
      exact congrArg (fun t => some (t, sn)) this
    · exact congrArg (fun t => some (t, invalid)) (fLt_eq a b)
    · exact congrArg (fun t => some (t, invalid)) (fLe_eq a b)
  case brb =>
    refine goes_branch h (w := 0) (fun r => some ((r ra).getLsbD k.toNat == sense, 0)) ?_ rfl
    exact congrArg Host.Outcome.next
      (engDo_congr (engReg_ite_branch s e 0 off (fun x => (x.reg ra).getLsbD k.toNat) sense))
  case bb =>
    refine goes_branch h (w := 0) (fun _ => some (v == sense, 0)) ?_ rfl
    exact congrArg Host.Outcome.next (engDo_congr (engBb_eq_engBranch h 0 hv sense off))
end

section
/-! PROOFS. Achal floating point at the ends of its range (R335). -/
namespace Sys2Proof.Machine

/-! Products. -/

/-- An issue leaves the contexts; the product in flight is the youngest one. -/
theorem prodIssue_started (s : State) (e c : Nat) (p : EngProd) :
    Started s (prodIssue (s.setCtx e c ((s.ctx e c).goto ((s.ctx e c).pc + 1))) e p) e c p := by
  have hctx : ∀ k, (prodIssue (s.setCtx e c ((s.ctx e c).goto ((s.ctx e c).pc + 1))) e p).ctx e k =
      (s.setCtx e c ((s.ctx e c).goto ((s.ctx e c).pc + 1))).ctx e k := fun k => by
    simp only [State.ctx, prodIssue, State.engine_setEngine_same]
  constructor
  case prods => simp only [prodIssue, State.engine_setEngine_same, State.engine_setCtx_same]
  case now =>
    rw [hctx, State.ctx_setCtx_same]
    have := EngCtx.wrote_goto (s.ctx e c) ((s.ctx e c).pc + 1) 0
    rwa [EngCtx.flags_zero] at this
  case ctxs => exact fun k hk => (hctx k).trans (State.ctx_setCtx_ne s e c k _ hk)
  case own => simp only [prodIssue, State.engine_setEngine_same, State.engine_setCtx_same]
  case engines =>
    intro k hk
    rw [prodIssue, State.engine_setEngine, if_neg hk, State.engine_setCtx_ne s e c k _ hk]
  case rest => exact (State.setEngine_rest _ e _).trans (State.setCtx_frame s e c _).rest

theorem Started.reports {s t : State} {e c : Nat} {p : EngProd} (h : Started s t e c p) : t.reports = s.reports :=
  (congrArg State.reports h.rest : _)

theorem Started.pulses {s t : State} {e c : Nat} {p : EngProd} (h : Started s t e c p) : t.pulses = s.pulses :=
  (congrArg State.pulses h.rest : _)

/-- The input of a product is that of the state before the PC has gone on. -/
theorem prodInput_goto (s : State) (e c n : Nat) : prodInput (s.setCtx e c ((s.ctx e c).goto n)) e c = prodInput s e c := by
  simp only [prodInput, State.engine_setCtx_same, State.ctx_setCtx_same]
  rfl

theorem prodInput_of_nil {s : State} {e c : Nat} (h : (s.engine e).prods = []) :
    prodInput s e c = ((s.ctx e c).pl, (s.ctx e c).ph) := by
  simp only [prodInput, h, List.getLast?_nil]

/-- FMUL and FMAC start a product of PL alone, from the PL and PH that the product before it leaves (R328). -/
theorem engFProduct_started {s : State} {e c : Nat} (h : Issues s e c) (ra rb : BitVec 5) (add : Bool) {pl ph r : Word} {fl : Nat}
    (hin : prodInput s e c = (pl, ph))
    (hr : (if add then fMacF ((s.ctx e c).reg ra) ((s.ctx e c).reg rb) pl
      else fMulF ((s.ctx e c).reg ra) ((s.ctx e c).reg rb)) = (r, fl)) :
    Started s (s.engDo (fun s => engFProduct s e ra rb add)) e c ⟨false, r, ph, fl⟩ := by
  have k : Started s (engFProduct s e ra rb add) e c ⟨false, r, ph, fl⟩ := by
    simp only [engFProduct, engIssue_eq h.runs, prodInput_goto, hin, State.ctx_setCtx_same, EngCtx.reg_goto, hr]
    exact prodIssue_started s e c _
  rwa [State.engDo_eq h _ k.reports k.pulses]

/-! Rows of the table of R335: what an operation gives at the operands of each row, at every engine. -/

section Rows
variable {s : State} {e : Fin 96} {c : Nat} (h : Issues s e c) {ra rb : BitVec 5}
include h

/-- An instruction of two operands at the operands of a row. -/
theorem sets_of_rows {i : Instr} (rd : BitVec 5) (f : Word → Word → Word × Nat)
    (hi : exec i s = .next (s.engDo (fun s => engReg s e.val (fun x => x.setF rd (f (x.reg ra) (x.reg rb))))))
    (rows : List (Word × Word × Word × Nat)) (hrows : ∀ p ∈ rows, f p.1 p.2.1 = p.2.2) :
    ∀ p ∈ rows, (s.ctx e c).reg ra = p.1 → (s.ctx e c).reg rb = p.2.1 → Sets s e c i rd p.2.2.1 p.2.2.2 :=
  fun p hp ha hb => sets_setF h rd (fun r => f (r ra) (r rb)) hi ((congrArg₂ f ha hb).trans (hrows p hp))

/-- An instruction of one operand at a given value of it. -/
theorem sets_at {i : Instr} (rd : BitVec 5) (f : Word → Word × Nat)
    (hi : exec i s = .next (s.engDo (fun s => engReg s e.val (fun x => x.setF rd (f (x.reg ra))))))
    {a v : Word} {fl : Nat} (ha : (s.ctx e c).reg ra = a) (hv : f a = (v, fl)) : Sets s e c i rd v fl :=
  sets_setF h rd (fun r => f (r ra)) hi ((congrArg f ha).trans hv)

/-- A conversion to an integer at a given value of its operand (R334). -/
theorem sets_convert_at {i : Instr} (rd : BitVec 5) {lo up : Int} {nearest : Bool}
    (hi : exec i s = .next (s.engDo (fun s => engReg s e.val (fun x => x.setI rd (fToIntF lo up nearest (x.reg ra))))))
    {a v : Word} {fl : Nat} (ha : (s.ctx e c).reg ra = a)
    (hv : (BitVec.ofInt 32 (fToIntF lo up nearest a).1, (fToIntF lo up nearest a).2) = (v, fl)) : Sets s e c i rd v fl :=
  sets_at h rd (fun a => (BitVec.ofInt 32 (fToIntF lo up nearest a).1, (fToIntF lo up nearest a).2)) hi ha hv

/-- FMUL at the operands of a row, with no product in flight before it. -/
theorem fmul_started_of_rows (hprods : (s.engine e).prods = []) (rows : List (Word × Word × Word × Nat))
    (hrows : ∀ p ∈ rows, fMulF p.1 p.2.1 = p.2.2) :
    ∀ p ∈ rows, (s.ctx e c).reg ra = p.1 → (s.ctx e c).reg rb = p.2.1 →
      ∃ t, exec (.fmul e ra rb) s = .next t ∧ Started s t e c ⟨false, p.2.2.1, (s.ctx e c).ph, p.2.2.2⟩ :=
  fun p hp ha hb => ⟨_, rfl, engFProduct_started h ra rb false (prodInput_of_nil hprods)
    ((if_neg Bool.false_ne_true).trans ((congrArg₂ fMulF ha hb).trans (hrows p hp)))⟩

/-- FMAC at the operands and the PL of a row, with no product in flight before it. -/
theorem fmac_started_of_rows (hprods : (s.engine e).prods = []) (rows : List (Word × Word × Word × Word × Nat))
    (hrows : ∀ p ∈ rows, fMacF p.1 p.2.1 p.2.2.1 = p.2.2.2) :
    ∀ p ∈ rows, (s.ctx e c).reg ra = p.1 → (s.ctx e c).reg rb = p.2.1 → (s.ctx e c).pl = p.2.2.1 →
      ∃ t, exec (.fmac e ra rb) s = .next t ∧ Started s t e c ⟨false, p.2.2.2.1, (s.ctx e c).ph, p.2.2.2.2⟩ := by
  intro p hp ha hb hpl
  refine ⟨_, rfl, engFProduct_started h ra rb true (prodInput_of_nil hprods) ?_⟩
  rw [ha, hb, hpl, if_pos rfl]
  exact hrows p hp

end Rows

end Sys2Proof.Machine
end

section
open Sys2Proof Sys2Proof.Machine

/-- Settles O9: every row of R335 is one evaluation of its operation, and the instruction delivers what that gives. -/
theorem floatTable : Obligations.FloatTable := by
  intro s e c rd ra rb off h hprods a b
  refine ⟨?fadd, ?fsub, ?fmul, ?fmac, ?fmin, ?fmax, ?ofS, ?ofM, ?ofNegM, ?ofNegS, ?fbrEq, ?fbrLt⟩
  case fadd => exact sets_of_rows h rd fAddF rfl _ (by decide +kernel)
  case fsub => exact sets_of_rows h rd fSubF rfl _ (by decide +kernel)
  case fmul => exact fmul_started_of_rows h hprods _ (by decide +kernel)
  case fmac => exact fmac_started_of_rows h hprods _ (by decide +kernel)
  case fmin => exact sets_of_rows h rd fMinF rfl _ (by decide +kernel)
  case fmax => exact sets_of_rows h rd fMaxF rfl _ (by decide +kernel)
  case ofS =>
    intro ha
    exact ⟨sets_at h rd (fDivF 0x3F800000#32) rfl ha (by decide +kernel),
      sets_convert_at h rd rfl ha (by decide +kernel),
      sets_convert_at h rd rfl ha (by decide +kernel)⟩
  case ofM =>
    intro ha
    exact ⟨sets_at h rd (fDivF 0x3F800000#32) rfl ha (by decide +kernel),
      sets_convert_at h rd rfl ha (by decide +kernel),
      sets_convert_at h rd rfl ha (by decide +kernel),
      sets_setReg h rd (fun r => fNeg (r ra)) rfl ((congrArg fNeg ha).trans (by decide))⟩
  case ofNegM => exact fun ha => sets_convert_at h rd rfl ha (by decide +kernel)
  case ofNegS =>
    intro ha
    exact ⟨sets_convert_at h rd rfl ha (by decide +kernel),
      sets_setReg h rd (fun r => fAbs (r ra)) rfl ((congrArg fAbs ha).trans (by decide))⟩
  case fbrEq =>
    intro ha hb
    exact goes_branch h (t := false) (fun r => fbrCond 0 (r ra) (r rb)) rfl
      ((congrArg₂ (fbrCond 0) ha hb).trans (by decide +kernel))
  case fbrLt =>
    intro ha hb
    exact goes_branch h (t := true) (fun r => fbrCond 2 (r ra) (r rb)) rfl
      ((congrArg₂ (fbrCond 2) ha hb).trans (by decide +kernel))
end
